-- ==== Sys2Proof/Word.lean ====
section
/-! DEFINITION. The word types of the block: widths of dictionary fields and of air fields (R8, R12). -/

namespace Sys2Proof

/-- One byte. Multi-byte fields are little-endian lists of bytes (R8). -/
abbrev Byte := BitVec 8

/-- A 16-bit field. -/
abbrev U16 := BitVec 16

/-- A 32-bit field; counters that wrap are kept in this type. -/
abbrev U32 := BitVec 32

/-- A 64-bit field. -/
abbrev U64 := BitVec 64

/-- Byte strings. -/
abbrev Bytes := List Byte

end Sys2Proof
end

