-- ==== Sys2Proof/Syntax.lean ====
section
/-! DEFINITION. The commands of the block: one constructor for each row of spec/opcode_table.json, and the data a
command carries. The table gives no operand fields: what each event carries is read from the rule its row cites
(log entry 1). Stamps are nanoseconds from the boundary that opened the present tick (R36). -/

namespace Sys2Proof

/-! ## Data that commands carry -/

/-- Where a dictionary request comes from (R373). -/
inductive Origin where
  | vap (session : Nat)
  | can (node : Nat)
  | service
  deriving DecidableEq, Repr

/-- A dictionary request: its origin, its request ID (R384) and its arrival stamp (R36); over VAP also the sequence
count of its datagram and the outcome of its tag (R379, R380; log entry 5). -/
structure Req where
  origin : Origin
  id     : Nat
  stamp  : Nat
  sequence : Nat
  tagOk  : Bool
  deriving DecidableEq, Repr

/-- A pose in the site frame (R12): millimetres, and 1/65536 turn clockwise from grid north. -/
structure Pose where
  east    : Int
  north   : Int
  heading : Nat
  deriving DecidableEq, Repr

/-- One leg of a route (R184). Length in micrometres, curvature in 1e-9 per millimetre. -/
structure Leg where
  kind   : Nat
  flags  : Nat
  speed  : Nat
  length : Nat
  k0     : Int
  k1     : Int
  final  : Pose
  deriving DecidableEq, Repr

/-- One constant-jerk stretch (R189, R206): full start tick, offset and duration in microseconds, arc length in
micrometres, speed, acceleration and jerk in micrometre units. -/
structure Stretch where
  tick     : U32
  offset   : Nat
  duration : Nat
  s0       : Nat
  v0       : Int
  a0       : Int
  jerk     : Int
  deriving DecidableEq, Repr

/-- What a profile engine hands over for one plan (R188, R189): the stretches, and those of the cut version (R177), no
stretches where there is none. Checked by the model before use (log entry 6). -/
structure ProfileOut where
  stretches : List Stretch
  cut       : List Stretch
  deriving DecidableEq, Repr

/-- A 16-byte envelope (R144): kind 0 none, 1 tail ahead, 2 tail behind, 3 stationary. -/
structure Envelope where
  east    : Int
  north   : Int
  heading : Nat
  halfLen : Nat
  halfWid : Nat
  kind    : Nat
  tail    : Nat
  deriving DecidableEq, Repr

/-- The ledger result record (R170), field by field. -/
structure ResultRecord where
  planId   : U32
  lane     : Nat
  result   : Nat
  epoch    : U16
  window   : U32
  conflictTick : U32
  conflictKind : Nat
  other    : Nat
  object   : Nat
  east     : Int
  north    : Int
  detail   : Nat
  deriving DecidableEq, Repr

/-- One element of an uplink body (R312). -/
structure Element where
  typ   : Nat
  ack   : Bool
  msn   : Nat
  value : Bytes
  deriving DecidableEq, Repr

/-- An uplink frame as its receiver reads it (R310, R312): header, whether its MIC holds, and the elements of its body. -/
structure AirFrame where
  frameType  : Nat
  generation : Nat
  sender     : Nat
  dest       : Nat
  pairEpoch  : U16
  pairComp   : U16
  laneEpoch  : U16
  laneComp   : U16
  counter    : U32
  bodyLength : Nat
  authentic  : Bool
  elements   : List Element
  deriving DecidableEq, Repr

/-- The PPDU around a received frame (R247, R248): the 24 bits of its header symbol, tick-relative start and arrival stamp. -/
structure Ppdu where
  header : BitVec 24
  start  : Nat
  stamp  : Nat
  deriving DecidableEq, Repr

/-- The outcome of the numeric steps 6 to 12 of a checkpoint solve (R121), as the DSP found it (log entry 4). -/
structure SolveOut where
  baseline : Nat      -- float baseline, m
  ratio    : Nat      -- 0.01
  residual : Nat      -- largest double-difference phase residual, mm
  east     : Int      -- fixed antenna position in the site frame, mm
  north    : Int
  up       : Int
  deriving DecidableEq, Repr

/-- One write item: index, subindex, value bytes (R385). -/
structure WriteItem where
  index : Nat
  sub   : Nat
  data  : Bytes
  deriving DecidableEq, Repr

/-- A satellite the orbit data predicts (R52, R57, R64): system, PRN, elevation in 0.1 degree where it is known, whether it
broadcasts the L5-band signal, and the L1-band Doppler rate in mHz/s that R61 extrapolates with. -/
structure SatView where
  system : Nat
  prn    : Nat
  elev   : Option Int
  l5     : Bool
  rate   : Int := 0
  deriving DecidableEq, Repr

/-- Broadcast ephemeris of a satellite: issue of data, reference time and curve-fit interval in GPS time, ns, and whether the message
marks the satellite or signal unhealthy (R78, R96, R107). -/
structure Eph where
  system : Nat
  prn    : Nat
  issue  : Nat
  toe    : Int
  fit    : Int
  unhealthy : Bool
  deriving DecidableEq, Repr

/-- What one survey solve yields at a milestone (R94): its position in 0.1 mm, its weight in the mean, and the 3D 1-sigma of the
mean in mm. -/
structure SurveyOut where
  sigma  : Nat
  x : Int
  y : Int
  z : Int
  weight : Nat := 1
  deriving DecidableEq, Repr

/-- What a tick boundary brings with it: the satellites in view, the survey solve of a milestone, and the measured
oscillator and RTC offsets that R579 stores. -/
structure TickEnv where
  sats   : List SatView
  survey : Option SurveyOut
  osc    : Int
  rtc    : Int
  deriving DecidableEq, Repr

/-- What a slice boundary samples: the four contact channels (R548), bias currents in 0.1 mA (R48), the RMS of each
chain on I and on Q in 0.1 level (R45), feed senses in mV (R580), the WAKE level (R560), and whether the lamp frame is ready (R566). -/
structure SliceEnv where
  c1a : Bool
  c1b : Bool
  c2a : Bool
  c2b : Bool
  currentA : Nat
  currentB : Nat
  rms      : List (Nat × Nat)
  feedA    : Nat
  feedB    : Nat
  wake     : Bool
  lampReady : Bool
  deriving DecidableEq, Repr

/-- What one loop update writes (R60, R68, R71, R72): the integration it belongs to, new rates in 2^-48 cycle per sample, the lock
indicator in 0.001, C/N0 in 0.01 dB-Hz, the frequency error in 0.1 Hz, the time since the tracker's last update in ms; what the
navigation message gave: transmit time of the tracker's code epoch 0 in ns, ephemeris, almanac; and the half-cycle, resolved as
inverted or not. -/
structure LoopOut where
  integration : Nat
  codeRate    : Int
  carrierRate : Int
  indicator   : Int
  cn0         : Nat
  freqError   : Nat
  elapsed     : Nat
  tow         : Option Int
  eph         : Option Eph
  almanac     : Bool
  leap        : Option Int
  polarity    : Option Bool
  deriving DecidableEq, Repr

/-- The sums of the five taps around the code phase over one integration, I and Q (R65). -/
structure TapSums where
  ve : Int × Int
  e  : Int × Int
  p  : Int × Int
  l  : Int × Int
  vl : Int × Int
  deriving DecidableEq, Repr

/-- The sums of the roving or data tap PD and of the noise tap N (R65). -/
structure SideSums where
  pd : Int × Int
  n  : Int × Int
  deriving DecidableEq, Repr

/-- What a search found (R55, R60): carrier rate, code phase in 2^-48 chip, and the transmit time of the code epoch it counts from, ns, where
geometry resolves it. -/
structure Detection where
  carrierRate : Int
  codePhase   : Nat
  epoch       : Int
  deriving DecidableEq, Repr

/-- What the DSPs measured of one tracker at a latch beside its NCOs (R66, R80, R95, R99, R108). -/
structure RawObs where
  channel : Nat
  l5      : Bool
  predicted : Option Int   -- change of phase that the Doppler integrates to, 2^-48 cycle
  asymmetry : Nat          -- tick mean of |VE - VL| / P in 0.001
  codeRes   : Nat          -- code residual of R95, mm
  range     : Int          -- geometric range to the phase centre less c times the satellite clock, 0.1 mm
  single    : Option Int   -- carrier residual between ports A and B, 0.1 mm
  deriving DecidableEq, Repr

/-- The tick's observables as the tracking DSPs give them: measurements, c times the receiver clock of each system solved in 0.1 mm (0 GPS),
RMS of R95 in mm, TB0, and the ratio of a fixed monitor baseline in 0.1 (R99). -/
structure ObsOut where
  records : List RawObs
  clocks  : List (Nat × Int)
  rms     : Nat
  tb0     : Int          -- GPS time minus tick time, ns
  ratio   : Option Nat
  deriving DecidableEq, Repr

/-- A PTP message (R349): type, domain, sequence, sender, and what the servo needs. -/
structure PtpMsg where
  transport : Nat      -- 0 UDP over IPv4, 1 IEEE 802.3
  sequence : Nat
  requester : Nat      -- port a Delay_Resp answers
  kind     : Nat       -- 0 Sync, 1 Follow_Up, 2 Delay_Req, 3 Delay_Resp, 4 Announce, 5 other
  domain   : Nat
  source   : Nat
  priority1 : Nat
  clockClass : Nat
  accuracy : Nat
  priority2 : Nat
  steps    : Nat
  ptpScale : Bool
  utcValid : Bool
  twoStep  : Bool
  origin   : Int       -- ns, with the corrections the message carries
  stamp    : Int       -- ns, uncorrected ingress stamp
  deriving DecidableEq, Repr

/-- A halt decision that a HALT message announces (R421): halt ID, tick and offset of the decision. -/
structure RemoteDecision where
  haltId : U16
  tick   : U32
  offset : Nat
  deriving DecidableEq, Repr

/-- The header of a pair-link frame as received: outcomes of tag and complement, sequence, epoch, tick (R420, R421), and its stamp at the
receive deserialiser (R36). -/
structure LinkHead where
  tagOk  : Bool
  compOk : Bool
  seq    : Nat
  epoch  : U16
  tick   : U32
  stamp  : Nat
  deriving DecidableEq, Repr

/-- A beacon of the own pair as heard (R424, R425): a verge frame as its bytes after the sync word, none on a carriageway; pair epoch, and
whether its tag holds. -/
structure OwnBeacon where
  verge     : Option Bytes
  epoch     : U16
  authentic : Bool
  deriving DecidableEq, Repr

/-- The end of a search (R55, R56): its FFT unit, and what it found. -/
structure SearchResult where
  unit  : Nat
  found : Option Detection
  deriving DecidableEq, Repr

/-- What a HEARTBEAT says its sender runs: firmware and mirror protocol version (R421). -/
structure PartnerBuild where
  firmware : U32
  version  : Nat
  deriving DecidableEq, Repr

/-- Stamps in a HEARTBEAT, ns of the sender's source: of its sending, and of what it answers or of the previous reply (R421, R423). -/
structure BeatStamps where
  sent : Int
  echo : Int
  deriving DecidableEq, Repr

/-- A pulse of the partner (R419): high time, and its rising edge from the own boundary, µs. -/
structure Pulse where
  widthUs  : Nat
  offsetUs : Int
  deriving DecidableEq, Repr

/-- Which part of a DELTA a frame is (R420, R421): its index, and whether it is the last. -/
structure DeltaPart where
  index : Nat
  last  : Bool
  deriving DecidableEq, Repr

/-- What a cell-link message names: the neighbour that sends it, and the plan. -/
structure CellHead where
  pair : Nat
  plan : U32
  deriving DecidableEq, Repr

/-- A lane of the neighbour's, with its epoch. -/
structure LaneName where
  lane  : Nat
  epoch : U16
  deriving DecidableEq, Repr

/-- An entry of the dictionary by its index and sub-index. -/
structure EntryName where
  index : Nat
  sub   : Nat
  deriving DecidableEq, Repr

/-- Who sends a datagram of the recovery transfer: IPv4 address and UDP port (R502). -/
structure TftpPeer where
  address : Nat
  port    : Nat
  deriving DecidableEq, Repr

/-- What a TFTP write request asks for: file name and mode (R502). -/
structure TftpFile where
  name : Bytes
  mode : Bytes
  deriving DecidableEq, Repr

/-- What a client brings to the key agreement: its ephemeral key and nonce (R379). -/
structure HelloShare where
  key   : Bytes
  nonce : Bytes
  deriving DecidableEq, Repr

/-- A cell-link envelope run: envelopes from one tick on. -/
structure EnvelopeRun where
  first : U32
  list  : List Envelope
  deriving DecidableEq, Repr

namespace Machine

/-- A commit record (R168): the fields of bytes 0 to 19, and bytes 20 to 39 as they are held or received. -/
structure CommitRecord where
  lane   : Nat
  kind   : Nat
  epoch  : U16
  planId : U32
  first  : U32
  last   : U32
  crc    : U32
  comp   : Bytes
  deriving DecidableEq, Repr

end Machine

/-! ## Records of a lane

They travel whole in the snapshot of R435, so they stand here, before the messages. -/

namespace Machine

/-- The lane record (0x4000 + n) of R408, and what the controller keeps of a lane beside it. -/
structure Lane where
  /-- :01, code and complement (R18). -/
  state : U16 := 0xFF00
  /-- :02, low half: the lane epoch (R16). -/
  epoch : U16 := 0
  /-- :03, lane halt record (R214). -/
  haltRecord : U16 := 0xFF00
  /-- :04, state at halt (R22). -/
  atHalt : U16 := 0xFF00
  /-- :05. -/
  lastTransition : U32 := 0
  /-- :06, bit 0 approved, 1 key acknowledged, 2 AGREE committed. -/
  progress : BitVec 8 := 0
  /-- :07. -/
  identity : U64 := 0
  /-- :08. -/
  integrityFault : Bool := false
  /-- :09. -/
  reserved : Bool := false
  /-- :0A, :0B, :0C. -/
  result : Option ResultRecord := none
  resultCode : Nat := 0xFF
  resultPlan : U32 := 0
  /-- Ticks of the admission or release timeout that have run (R20, R22). -/
  timer : Nat := 0
  /-- Host lane halt source active (R211). -/
  hostHalt : Bool := false
  /-- A self-stop reported while the lane was HALTED: its tick, applied at the clearing boundary (R22). -/
  selfStop : Option U32 := none
  /-- The machine has reported standstill since its last commit (R20 transitions 5 and 8): 0 no, 1 yes, 2 and a DELTA
  carried it. -/
  standstill : Nat := 0
  /-- Last reported pose, and the last telemetry item (R317, R445). -/
  pose : Option Pose := none
  telemetry : Bytes := []
  /-- The pose of the last telemetry item, where that item reports standstill (R20 transition 10). -/
  standPose : Option Pose := none
  /-- The release is acknowledged (R20 transition 18). -/
  releaseAcked : Bool := false
  /-- State before handover (R20 transition 15). -/
  beforeHandover : U16 := 0xFF00
  deriving DecidableEq, Repr

/-- The limits a plan is profiled with (R180, R182). -/
structure Limits where
  top : Nat := 1000
  acc : Nat := 500
  dec : Nat := 1000
  jerk : Nat := 1000
  reversal : Bool := false
  dwell : Nat := 500
  deriving DecidableEq, Repr

/-- Envelopes of consecutive ticks; the last one stands for every later tick (R143). -/
structure EnvRun where
  first : U32 := 0
  list : List Envelope := []
  deriving DecidableEq, Repr

/-- The border crossing of a plan (R172, R173): neighbour pair, border tick b, handover tick h, lane reserved there. -/
structure Crossing where
  pair : Nat
  border : U32
  handover : U32
  commit : U32
  guestLane : Nat := 0
  keySet : Bytes := []
  granted : Bool := false
  /-- The key-set message: delivered and acknowledged by the machine (R445). -/
  keyAcked : Bool := false
  deriving DecidableEq, Repr

/-- What the lane route record holds (R210), and the committed plan behind it. -/
structure Route where
  planId : U32 := 0
  first : U32 := 0
  standstill : U32 := 0
  east : Int := 0
  north : Int := 0
  heading : Nat := 0
  refused : U32 := 0
  lastAccepted : U32 := 0
  /-- Host tag and earliest start tick of the route's header (R184). -/
  tag : Nat := 0
  earliest : Nat := 0
  /-- Committed released route and profile. -/
  start : Pose := ⟨0, 0, 0⟩
  legs : List Leg := []
  stretches : List Stretch := []
  /-- Limits of the committed plan, (0x4100 + n):11 to :16, and :17. -/
  effective : Limits := {}
  deferred : Bool := false
  /-- Committed envelopes (R159). -/
  envelopes : EnvRun := {}
  /-- The border permit of the committed plan (R173). -/
  crossing : Option Crossing := none
  /-- Highest stretch and leg already put on air (R207). -/
  sentStretches : Nat := 0
  sentLegs : Nat := 0
  deriving DecidableEq, Repr

/-- A guest held in a reserved lane (R174). -/
structure Guest where
  pair : Nat
  planId : U32
  border : U32
  handover : U32
  /-- Tick opened by the stated commit boundary (R175). -/
  commit : U32
  final : Bool
  start : Pose
  legs : List Leg
  stretches : List Stretch
  /-- A WITHDRAWAL has come: the guest ends at the next boundary (R175). -/
  withdrawn : Bool := false
  deriving DecidableEq, Repr

/-- Checkpoint results of a lane (R139). -/
structure CkLane where
  /-- :01 to :0B. -/
  verdict : Nat := 3
  reason : Nat := 19
  epochTick : U32 := 0
  horizontal : Nat := 0
  vertical : Int := 0
  ratio : Nat := 0
  used : Nat := 0
  disagree : Nat := 0
  east : Int := 0
  north : Int := 0
  up : Int := 0
  /-- :0C to :0E, :14. -/
  complete : U32 := 0
  incomplete : U32 := 0
  dropped : U32 := 0
  refuses : Bool := false
  /-- Record under assembly: epoch tick, lane epoch, next segment, body so far. -/
  assembly : Option (U32 × U16 × Nat × Bytes) := none
  /-- Arrival of the last record that produced a verdict of the solve itself, ns of the tick source (R125). -/
  arrival : Int := 0
  /-- Some verdict of a solve has committed (R139). -/
  solved : Bool := false
  /-- Tick in which the lane left VACANT, and the epoch of the last record counted as complete or incomplete (R118). -/
  since : U32 := 0
  counted : Option U32 := none
  deriving DecidableEq, Repr

/-- Why a lane change waits for its boundary (R23, R427). -/
inductive DueWhat where
  | selfStop (tick : U32) (cause : Nat)
  | handoverConfirmed
  | handoverRefused
  | keyAck
  | releaseAck
  | admission (identity : U64)
  | command (code : Nat) (req : Option Req)
  | cancel (req : Option Req)
  /-- An admission or release timeout (R20, R23 step 7). -/
  | timeout
  deriving DecidableEq, Repr

/-- The replay window of R325, R380: highest count seen and the 64 counts below it, bit 0 the highest. -/
structure Window where
  high : Int := -1
  mask : U64 := 0
  deriving DecidableEq, Repr

/-- A downlink message that waits for its acknowledgement (R329, R331): times sent, owned slots received since, and
whether it is to go in the next downlink. -/
structure DownMsg where
  msn : Nat
  typ : Nat
  value : Bytes
  sent : Nat := 0
  slots : Nat := 0
  queued : Bool := true
  deriving DecidableEq, Repr

/-- Air statistics and message state of a lane (R306, R329, R330, R339). -/
structure AirLane where
  /-- :01 to :08. -/
  received : U32 := 0
  missed : U32 := 0
  barred : U32 := 0
  consecutive : Nat := 0
  selfStops : U32 := 0
  contention : U32 := 0
  otherEpoch : U32 := 0
  earlierPair : U32 := 0
  /-- :10 to :1A. -/
  authenticated : U32 := 0
  micFailures : U32 := 0
  tooOld : U32 := 0
  repeated : U32 := 0
  complement : U32 := 0
  executed : U32 := 0
  duplicates : U32 := 0
  outOfWindow : U32 := 0
  sent : U32 := 0
  retransmitted : U32 := 0
  undelivered : U32 := 0
  /-- :1B to :1F. -/
  expected : Nat := 0
  next : Nat := 0
  keyGeneration : Nat := 0
  relay : Bool := false
  lastCounter : U32 := 0
  /-- The stage's owned slot: a frame was heard; its downlink was skipped (R281). -/
  heard : Bool := false
  slotBarred : Bool := false
  /-- The silent-lane event is raised (R281). -/
  silent : Bool := false
  /-- Acknowledgements of the last 8 executed uplink messages: MSN and result (R330). -/
  stored : List (Nat × Nat) := []
  held : List Element := []
  unacked : List DownMsg := []
  /-- Messages that wait for a number: type and value. -/
  waiting : List (Nat × Bytes) := []
  /-- Acknowledgements to send in the next downlink (R331). -/
  acks : List (Nat × Nat) := []
  /-- Admission responses to send, in order of arrival, each with the stage (10 per milestone) from which it goes (R290, R291). -/
  responses : List (Nat × Int) := []
  /-- Replay windows under the lane key in force and under the other generation (R325, R333). -/
  window : Window := {}
  otherWindow : Window := {}
  /-- Replay window under the admission key; its highest count outlives VACANT (R325, R326). -/
  admissionWindow : Window := {}
  /-- Rollover count × 2^32 + counter of frames sent under the lane key and under the admission key (R324). -/
  counter : U64 := 0
  admissionCounter : U64 := 0
  /-- Counter under the lane key of the generation that a roll-over withdraws (R324, R333). -/
  oldCounter : U64 := 0
  /-- Lane state the last telemetry reports held (R310). -/
  stateHeld : U16 := 0
  /-- Lane configuration last queued for delivery (R318). -/
  configured : Bytes := []
  deriving DecidableEq, Repr

end Machine

/-- A state fact of the mirror (R427, R435): a lane change that falls due, a machine's report of standstill, what a verdict, a
halt record, a setting, a sequence number or the pending key now is; in a snapshot also lanes, routes and guests whole.
The mirror protocol version defines their bytes (R422), so they travel here as data. -/
inductive Fact where
  | due (lane : Nat) (what : Machine.DueWhat)
  | report (n : Nat) (pose stand : Option Pose) (telemetry : Bytes)
  | lane (n : Nat) (record : Machine.Lane)
  | verdict (n : Nat) (record : Machine.CkLane) (heading : Nat)
  | checkpoint (n : Nat) (record : Machine.CkLane)
  | haltRecord (which : Nat) (record : U16) (id : U16)
  | setting (index sub : Nat) (value : Int)
  | item (item : WriteItem)
  | msn (n : Nat) (record : Machine.AirLane)
  | pendingKey (generation : Nat) (key : Bytes) (state : Nat) (switch : U32)
  | planned (boundary : U32)
  | plan (n : Nat) (record : Machine.Route)
  | guest (n : Nat) (record : Machine.Guest)
  deriving DecidableEq, Repr

/-- The content of HANDOVER (R445). -/
structure HandoverMsg where
  planId   : U32
  state    : U16
  epoch    : U16
  identity : U64
  setAcked : Bool
  verdict  : Nat
  reason   : Nat
  disagree : Nat
  top      : Nat
  acc      : Nat
  dec      : Nat
  jerk     : Nat
  reversal : Bool
  dwell    : Nat
  halfLen  : Nat
  halfWid  : Nat
  margin   : Nat
  policy   : Nat
  policyCount : Nat
  horizontal  : Nat
  vertical    : Nat
  telemetry   : Bytes
  deriving DecidableEq, Repr

namespace Machine

/-- A message of the cell link (R442). -/
inductive CellMsg where
  | region (vertices : List (Int × Int)) (horizon numbering : Nat)
  | permitRequest (plan border handover commit : U32) (lane : Nat) (epoch : U16) (run : EnvelopeRun)
  | grant (plan : U32) (lane : Nat) (keySet : Bytes)
  | refusal (plan : U32) (record : ResultRecord)
  | commitNotice (plan : U32) (start : Pose) (legs : List Leg) (stretches : List Stretch)
  | withdrawal (plan : U32)
  | handover (msg : HandoverMsg)
  | confirm (plan : U32) (lane : Nat)
  | released (plan : U32)
  deriving DecidableEq, Repr

end Machine

/-- What a frame of the service port carries beside command and payload (R498): sequence and CRC-16. -/
structure ServiceHead where
  seq : Nat
  crc : U16
  deriving DecidableEq, Repr

/-- A record of an image container (R473): kind, index, image ID, data length, outcome of its tag or signature, and
for a manifest its fields (R476). -/
structure ImageRecord where
  magicOk   : Bool
  kind      : Nat
  index     : Nat
  imageId   : Nat
  dataLen   : Nat
  tagOk     : Bool          -- GCM tag of a body record
  sigOk     : Bool          -- manifest signature
  manifestOk : Bool         -- manifest magic and version
  variants  : Nat
  stepping  : Nat
  version   : U32
  length    : Nat
  count     : Nat
  schema    : Nat
  lowSchema : Nat
  highSchema : Nat
  digest    : Bytes := []   -- of a manifest
  data      : Bytes := []   -- of a body record: ciphertext and tag
  reserved : Bool := false  -- a reserved bit or byte of the record is set
  deriving DecidableEq, Repr

/-- The status a lamp driver appends (R564). -/
structure DriverStatus where
  temperature : Int
  openBits    : Nat
  shortBits   : Nat
  measured    : Nat
  shareFailed : Bool
  shutdown    : Bool
  deriving DecidableEq, Repr

/-- An item the active accepted, as INPUT carries it (R421, R426): a route, a route command, a limit write, a closure
change, settings, or anything else as bytes. -/
inductive InputItem where
  | route (lane : Nat) (route : Bytes) (plan : U32)
  | command (lane code : Nat) (plan : U32)
  | limit (lane : Nat) (writes : List WriteItem) (plan : U32)
  | closure (area : Nat) (writes : List (Nat × Bytes)) (plan : U32)
  | settings (items : List WriteItem)
  /-- A cell-link message of a pair (R442); for a permit request, the plan ID the active gave it. -/
  | cell (pair : Nat) (msg : Machine.CellMsg) (plan : U32)
  | other (item : Bytes)
  deriving DecidableEq, Repr

/-- Why a task stops running (R512). -/
inductive YieldKind where
  | waitFlags
  | delayed (slices : Nat)
  | periodOver
  deriving DecidableEq, Repr

/-- An instruction of the debug port (R608). -/
inductive TapInstr where
  | bypass
  | idcode
  | samplePreload
  | extest (pins : List Bool)
  | debugFunction (code : Nat)
  deriving DecidableEq, Repr

/-! ## The commands -/

/-- The commands of the block, in the order of the table. -/
inductive Instr where
  | tickBoundary (env : TickEnv)
  | sliceBoundary (env : SliceEnv)
  | admissionTimeout (lane : Nat)
  | releaseTimeout (lane : Nat)
  | handoverConfirmationTimeout (lane : Nat)
  | permitWaitExpire (plan : U32)
  | guestPlanExpire (lane : Nat)
  | profileCutoff
  | ledgerCutoff
  | planProfiled (plan : U32) (profile : ProfileOut)
  | planChecked (plan : U32)
  | mirrorDeltaStart
  | pairAckReceive (head : LinkHead) (tick : U32) (result : Nat) (checked : Nat)
  | routeSubmit (r : Req) (lane : Nat) (route : Bytes)
  | hold (r : Req) (lane : Nat)
  | resumeRoute (r : Req) (lane : Nat)
  | cancelRoute (r : Req) (lane : Nat)
  | limitChange (r : Req) (lane : Nat) (sub : Nat) (value : Bytes)
  | approveAdmission (r : Req) (lane : Nat)
  | refuseAdmission (r : Req) (lane : Nat)
  | resumeStoppedLane (r : Req) (lane : Nat)
  | release (r : Req) (lane : Nat)
  | evict (r : Req) (lane : Nat)
  | closureChange (r : Req) (area : Nat) (writes : List (Nat × Bytes))
  | haltAssert (r : Req) (word : U32)
  | haltRestore (r : Req) (word : U32)
  | haltResume (r : Req) (word : U32)
  | haltRepetition (haltId : U16) (index : Nat)
  | contactTestPulse (channel : Nat) (low : List Bool)
  | siteHaltSample (low : Bool) (stamp : Nat)
  | siteLineReadback (high : Bool)
  | siteLineStuck
  | siteLine (address : Nat) (driving : Bool)
  | siteLinePeriodic
  | siteLineDriverTimeout (address : Nat)
  | localResumePress (holdMs : Nat) (stamp : Nat)
  | twoPartyWindowExpire
  | lockstepMismatch
  | ccaObservationDone (cw : Nat) (energy : Int)
  | vergeStageBeacon
  | uplinkFrameReceive (cw : Nat) (ppdu : Ppdu) (psdu : Bytes)
  | downlinkRetransmit (lane : Nat) (msn : Nat)
  | ownPairBeaconReceive (beacon : OwnBeacon) (stamp : Nat)
  | checkpointSolveStart (dsp : Nat) (stamp : Nat)
  | checkpointSolveDone (dsp : Nat) (out : SolveOut) (stamp : Nat)
  | checkpointSolveLate (dsp : Nat)
  | verdictStaleTimeout (lane : Nat)
  | trackerIntegrationBoundary (channel : Nat) (l5 : Bool) (taps : TapSums) (sides : SideSums)
  | trackerLoopUpdate (channel : Nat) (l5 : Bool) (out : LoopOut)
  | reacquisitionGiveUp (channel : Nat) (l5 : Bool)
  | l5HandoverTimeout (channel : Nat)
  | acquisitionSearchStart
  | acquisitionSearchDone (result : SearchResult)
  | observablesReady (out : ObsOut)
  | observablesLate
  | surveyCommandStart (r : Req)
  | surveyCommandAbort (r : Req)
  | ptpMessageReceive (port : Nat) (msg : PtpMsg)
  | returnToTb1 (r : Req) (value : Nat)
  | ppsOutEdge (instant : Int)
  | ppsInEdge (instant : Int)
  | ppsOutEnable (r : Req) (value : Nat)
  | ref10mLost (cause : Nat)
  | ref10mLocked
  | heartbeat (head : LinkHead) (role : Nat) (build : PartnerBuild) (stamps : BeatStamps) (resync : Bool)
  | pairPulseEdge (pulse : Pulse) (stamp : Nat)
  | takeover
  | pairStartupTimeout
  | linkStart
  | start (nonce : Bytes) (address : Nat) (serial : U64) (low : Nat) (high : Nat)
  | input (head : LinkHead) (source : Nat) (stamp : Nat) (item : InputItem)
  | delta (head : LinkHead) (part : DeltaPart) (facts : List Fact) (commits : List Machine.CommitRecord)
  | halt (head : LinkHead) (site : U16) (cell : U16) (lanes : List (Nat × U16)) (haltId : U16) (ids : List (Nat × U16)) (sources : U16) (decisions : List RemoteDecision)
  | transfer (head : LinkHead) (facts : List Fact) (generation : U32) (last : Bool)
  | planned (head : LinkHead) (boundary : U32)
  | plannedHandover (r : Req) (value : Nat)
  | region (pair : Nat) (vertices : List (Int × Int)) (horizon : Nat) (numbering : Nat)
  | permitRequest (head : CellHead) (asker : LaneName) (border : U32) (handover : U32) (commit : U32) (run : EnvelopeRun) (stamp : Nat)
  | grant (pair : Nat) (plan : U32) (lane : Nat) (keySet : Bytes) (stamp : Nat)
  | refusal (head : CellHead) (record : ResultRecord) (stamp : Nat)
  | commitNotice (pair : Nat) (plan : U32) (start : Pose) (legs : List Leg) (stretches : List Stretch) (stamp : Nat)
  | withdrawal (head : CellHead) (stamp : Nat)
  | handover (pair : Nat) (msg : HandoverMsg) (stamp : Nat)
  | confirm (head : CellHead) (lane : Nat) (stamp : Nat)
  | released (pair : Nat) (plan : U32)
  | addressClaimStart
  | query (serial : U64)
  | announce (address : Nat) (stored : Bool) (claiming : Bool) (role : Nat) (serial : U64) (site : U32)
  | addressClaimTimeout
  | addressClaimConfirm
  | addressClaimRetry
  | addressCommand (r : Req) (value : Nat)
  | pendingKeyWrite (r : Req) (generation : Nat) (reserved wrapped : Bytes) (check : U32)
  | keyVerify (r : Req)
  | keyAnnounce (r : Req)
  | keyDiscard (r : Req)
  | rolloverWindowEnd
  | debugCertificateOpen (r : Req) (version : Nat) (serial : U64) (count : U32) (sigOk : Bool)
  | debugCertificateClose (r : Req) (version : Nat) (serial : U64) (count : U32) (sigOk : Bool)
  | tamperDetected
  | vbatLost
  | vbatRestored (unobserved : Nat)
  | imageChunk (r : Req) (rec : ImageRecord)
  | downloadVerified (stamp : Nat)
  | downloadExpire
  | activate (r : Req)
  | confirmTrial (r : Req)
  | discardDownload (r : Req)
  | trialLimitExpire
  | startTimerExpire
  | watchdogReset
  | romBoot (verified : Bool) (migrates : Bool)
  | resetRelease (recoverHigh : Bool) (refSel : Bool) (svcAlt : Bool)
  | rstNAssert (lowUs : Nat)
  | resetCommand (r : Req) (value : Nat)
  | identify (f : ServiceHead)
  | imageBegin (f : ServiceHead) (length : Nat)
  | imageBlock (seq : Nat) (crc : U16) (offset : Nat) (data : Bytes)
  | imageEnd (f : ServiceHead) (flags : Nat)
  | status (f : ServiceHead)
  | serviceReset (f : ServiceHead) (word : Nat)
  | leaveRecovery (f : ServiceHead) (word : Nat)
  | dictionaryRequest (f : ServiceHead) (id : Nat) (op : Nat) (flags : Nat) (entry : EntryName) (data : Bytes)
  | serviceFrameGap
  | servicePlugChange (present : Bool) (run : Nat)
  | tftpWriteRequest (peer : TftpPeer) (file : TftpFile)
  | tftpDataBlock (address : Nat) (port : Nat) (number : Nat) (data : Bytes)
  | dictionaryWrite (r : Req) (item : WriteItem)
  | batch (r : Req) (items : List WriteItem)
  | domainDownloadSegment (r : Req) (index : Nat) (sub : Nat) (first : Bool) (last : Bool) (offset : Nat) (total : Nat) (data : Bytes)
  | domainUploadSegment (r : Req) (index : Nat) (sub : Nat) (first : Bool)
  | transferSegmentTimeout (index : Nat) (sub : Nat)
  | hello (port : Nat) (version : Nat) (slot : Nat) (roles : Nat) (share : HelloShare)
  | clientProof (session : Nat) (signature : Bytes)
  | sessionEstablishTimeout (session : Nat)
  | sessionIdleTimeout (session : Nat)
  | streamPull (r : Req) (stream : Nat) (room : Nat)
  | streamClaim (r : Req) (stream : Nat)
  | streamRelease (r : Req) (stream : Nat)
  | streamKey (r : Req) (stream : Nat)
  | keepalive (r : Req)
  | close (r : Req)
  | streamMulticastEnable (r : Req) (stream : Nat) (value : Nat)
  | canReaderTimeout (stream : Nat)
  | canHeartbeatProduce
  | acknowledgeEvents (r : Req) (value : Nat)
  | clearErrorList (r : Req) (value : Nat)
  | snapshotNow (r : Req)
  | snapshotAtNextBoundary (r : Req)
  | snapshotAtTime (r : Req)
  | snapshotInstant (instant : Int) (atStep : Bool)
  | snapshot (number : U32) (time : Int) (sender : Nat)
  | counterConfigure (r : Req) (counter : Nat) (field : Nat) (value : Nat)
  | taskWakeOnFlags (task : Nat) (flags : U32)
  | taskDelayExpiry (engine : Nat)
  | taskDeadlineDrop (task : Nat) (lateUs : Nat)
  | taskYield (engine : Nat) (kind : YieldKind) (any : U32) (all : U32)
  | captureUnitEnable (r : Req) (unit : Nat) (value : Nat)
  | forceTrigger (r : Req) (mask : Nat)
  | autoTriggerTimeout (unit : Nat)
  | captureComplete (unit : Nat)
  | captureDrained (unit : Nat)
  | triggerOutputEnable (r : Req) (value : Nat)
  | lampReturn (start : Nat) (count : Nat) (shares : Bytes) (statuses : Bytes)
  | channelHealthTimeout (channel : Nat)
  | touchScan (levels : List Nat)
  | lampTestEnd
  | keysWetEnd
  | keyStuck (key : Nat)
  | wakeRisingEdge
  | feedQualifyRunEnd (feed : Nat) (stayed : Bool) (lowest : Nat)
  | feedTest (r : Req) (value : Nat)
  | feedTestDue
  | feedTestRunEnd (feed : Nat) (stayed : Bool) (lowest : Nat)
  | feedComparatorRelease (feed : Nat)
  | powerCommandRun (r : Req)
  | powerCommandQuiet (r : Req)
  | powerCommandStandby (r : Req)
  | standbyContactStrobe (open1 : Bool) (open2 : Bool)
  | standbyWake (source : Nat)
  | powerOn
  | vbatLow (mv : Nat) (elapsedMs : Nat)
  | temperatureHigh (die : Nat) (temp : Int)
  | railOutOfTolerance (rail : Nat)
  | vergeTransmissionEnd (durationUs : Nat)
  | ptpMessageInterval (port : Nat) (kind : Nat)
  | announceReceiptTimeout (port : Nat)
  | nmtCommand (code : Nat)
  | debugTapInstruction (instr : TapInstr)
  deriving DecidableEq, Repr

end Sys2Proof
end

