-- ==== Sys2Proof/Config.lean ====
section
/-! DEFINITION. What one part fixes at manufacture, and the free values of the model. The opaque constants have no body: nothing can evaluate them and no proof can lean on a value. -/

namespace Sys2Proof.Config

/-- Device serial number, 0x2000:01: unique per part, no value given (R406). -/
opaque serial : U64

/-- Stepping, 0x2000:02: the first production stepping, the letter B (R3, R406). -/
def stepping : Nat := 0x42

/-- The device root and the ROM test root (R450), as a function of "test root in use". -/
opaque deviceRoot : Bool → Bytes

/-- What else the fuses hold (R450): the public keys of the image authority and of the debug authority, points of P-384 as 97
bytes, and the image class key. -/
opaque imageAuthority : Bytes
opaque debugAuthority : Bytes
opaque classKey : Bytes

/-- Lowest and highest supported mirror protocol versions of the firmware (R422). -/
opaque mirrorLow : Nat
opaque mirrorHigh : Nat

/-- Version and settings schema of the image a part leaves manufacture with (R406, R410). -/
opaque firmware : U32
opaque schema : Nat

/-- Capacity of the octal-SPI archive in bytes, from its JESD216 parameter table (R544). -/
opaque archiveCapacity : Nat

/-- The fixed priority of a task, of which R510 gives the range 0 to 7 and no table gives the value (log entry 17). -/
opaque taskPriority : Nat → Nat

/-- A random draw or an unstated value: the free value of the given number (R225, R282; log entry 8). -/
opaque free : Nat → Nat

end Sys2Proof.Config
end

