-- ==== Sys2Proof/Machine/State.lean ====
section
/-! DEFINITION. The state of the block, unit by unit. The value after `:=` in a field is its value at State.reset:
the one the spec gives, or the one log entry 9 names where the spec gives none. Complemented values are kept in their
stored form (R10). -/

namespace Sys2Proof.Machine

/-- A sparse array: pairs of number and value, numbers rising, no value equal to the default. -/
abbrev Table (α : Type) := List (Nat × α)

/-- Why a step stops with a fault. No meaning of the block does: the spec describes its faults as events, register
bits and silence, which are next states. -/
inductive Fault where
  /-- Raised by nothing: kept so that the type is closed and inhabited. Safe. -/
  | none
  deriving DecidableEq, Repr

/-- Why a command has no meaning. -/
inductive Refusal where
  /-- Raised by Dispatch for a command that has no meaning yet. Safe. -/
  | notModelled (mnemonic : String)
  /-- Raised by DEBUG_TAP_INSTRUCTION for a debug function of an open debug port: R608 opens such functions and the
  spec gives them no effect. Safe. -/
  | debugFunctionOpen (code : Nat)
  deriving DecidableEq, Repr

/-- Where the part stands between power-off and operation (R587, R593, R595, R486). -/
inductive Phase where
  | off | inReset | rom | recovery | running | standby
  deriving DecidableEq, Repr

/-- The answer to a request (R371, R383): done with data, refused with abort code and failing item, or pending. -/
inductive Answer where
  | done (data : Bytes)
  | refused (code : Nat) (item : Nat)
  | pending
  deriving DecidableEq, Repr

/-! ## Clock -/

/-- Where the tick schedule stands (R24, R27). -/
structure Clock where
  /-- Current tick, 0x2000:06. -/
  tick : U32 := 0
  /-- Time of the selected source at the boundary that opened the tick, ns (R24). -/
  source : Int := 0
  /-- Number of the present slice (R27), and whether its boundary has passed. -/
  slice : Nat := 0
  sampled : Bool := false
  /-- Latest instant of the tick at which something was handled, ns from its boundary (R36). -/
  offset : Nat := 0
  /-- TB3, ns since the release of RST_N (R340). -/
  tb3 : Nat := 0
  /-- Tick provisional, 0x2000:07 (R26). -/
  provisional : Bool := true
  /-- By how much the present tick is lengthened, ns (R358). -/
  extension : Nat := 0
  deriving DecidableEq, Repr

/-! ## Settings -/

/-- The rw entries of the dictionary. A number in a table is index × 256 + subindex; an unlisted number reads as the
default of its entry table. -/
structure Settings where
  /-- What a read of an rw entry returns (R369). -/
  accepted : Table Int := []
  /-- What is in force, after each entry's own boundary (R404). -/
  inForce : Table Int := []
  /-- Antenna descriptor and serial number, 0x2402:0A and :0B. -/
  antenna : Bytes := []
  antennaSerial : Bytes := []
  /-- A reference position has been written (R87). -/
  positionSet : Bool := false
  /-- VAP credential slots 1 to 8, 0x2701: 68 bytes each. -/
  credentials : Table Bytes := []
  deriving DecidableEq, Repr

/-! ## Access: sessions, streams, events -/

/-- One VAP session (R379 to R384). -/
structure Session where
  id    : Nat
  port  : Nat
  /-- Roles granted: bit 0 O, 1 P, 2 L, 3 W (R374, R381). -/
  roles : Nat
  /-- Credential slot, 0 for the handshake of R470. -/
  slot  : Nat
  /-- Ticks since the last record. -/
  idle  : Nat
  /-- Replay window of the direction to the controller. -/
  window : Window
  /-- Datagrams sent (sequence of the other direction). -/
  sent  : Nat
  /-- Keys of the two directions and key transport key (R456). -/
  up    : Bytes
  down  : Bytes
  transport : Bytes
  /-- The last request IDs with their present answers, newest first (R384). -/
  answers : List (Nat × Answer)
  deriving DecidableEq, Repr

/-- A handshake under way (R381). -/
structure Handshake where
  id     : Nat
  port   : Nat
  slot   : Nat
  roles  : Nat
  /-- The client's ephemeral key and nonce, the controller's ephemeral scalar and nonce, and the digest of both payloads (R381). -/
  key    : Bytes
  nonce  : Bytes
  scalar : Nat
  ownNonce : Bytes
  digest : Bytes
  /-- Ticks since the hello. -/
  age    : Nat
  deriving DecidableEq, Repr

/-- One item of a stream (R395). -/
structure Item where
  seq   : U32
  typ   : Nat
  flags : Nat
  body  : Bytes
  deriving DecidableEq, Repr

/-- A queue pointer held twice (R523): the copy and the complement of the second copy. -/
structure Pointer where
  value : U32 := 0
  other : U32 := 0xFFFFFFFF
  deriving DecidableEq, Repr

/-- One stream (R392 to R395, R523, R525). -/
structure Stream where
  items : List Item := []
  /-- Lost items, (0x5000 + s):03. -/
  lost : U32 := 0
  /-- Queue resets, (0x5000 + s):04. -/
  resets : U32 := 0
  /-- Reader, (0x5000 + s):05. -/
  reader : U32 := 0
  /-- Sequence of the next item. -/
  next : U32 := 0
  /-- Sequence after the last item read. -/
  read : U32 := 0
  write : Pointer := {}
  readPtr : Pointer := {}
  /-- The next item is the first after a queue reset (flag bit 1). -/
  afterReset : Bool := false
  /-- Ticks since the last upload of a CAN reader (R393). -/
  idle : Nat := 0
  /-- Multicast datagrams sent (R379). -/
  datagrams : Nat := 0
  deriving DecidableEq, Repr

/-- A segmented transfer under way (R389 to R391). -/
structure Transfer where
  index : Nat
  sub   : Nat
  origin : Origin
  upload : Bool
  /-- Total length announced. -/
  total : Nat
  /-- Bytes received, or bytes of the snapshot still to send. -/
  data : Bytes
  /-- Ticks since the last segment. -/
  idle : Nat
  /-- Sequence after the last stream item of the snapshot, in an upload of a stream (R394). -/
  upTo : Option U32 := none
  deriving DecidableEq, Repr

/-- A raised condition (R615): raising event code, key, register bit, and whether the sounder is silenced for it. -/
structure Condition where
  code : Nat
  key  : Nat
  bit  : Nat
  silenced : Bool
  deriving DecidableEq, Repr

/-- CANopen NMT states (R377, R399). -/
inductive Nmt where
  | initialising | preOperational | operational | stopped
  deriving DecidableEq, Repr

/-- Sessions, transfers, streams, events. -/
structure Access where
  sessions : Table Session := []
  handshakes : Table Handshake := []
  /-- Next session ID to give (R379): above the reader numbers of R392 (log entry 42). -/
  nextSession : Nat := 0x10000
  transfers : List Transfer := []
  /-- Streams 0x5000 to 0x5005 (R392). -/
  streams : Table Stream := []
  /-- 0x2022:05 to :08. -/
  discarded : U32 := 0
  failed : U32 := 0
  duplicates : U32 := 0
  suppressed : U32 := 0
  /-- Register bits held by momentary faults (R398). -/
  momentary : BitVec 8 := 0
  conditions : List Condition := []
  /-- Pre-defined error field 0x1003, newest first, at most 8. -/
  errors : List U32 := []
  nmt : Nmt := .initialising
  /-- Instant of the last EMCY message (R399). -/
  lastEmcy : Option Int := none
  deriving DecidableEq, Repr

/-! ## Lanes -/

/-! ## Ledger -/

/-- What a plan asks for. -/
inductive PlanWhat where
  | route (bytes : Bytes)
  /-- Limits written, with the subindices and values before the write (R196). -/
  | limit (previous : List (Nat × Int))
  | hold (policy : Bool)
  | resume
  | closure (area : Nat) (items : List (Nat × Int))
  /-- The writes of a batch that need no check, held with those that do (R387): setting numbers and values; entries of
  another type as they were before. -/
  | settings (items : List (Nat × Int)) (before : List WriteItem)
  | permit (pair : Nat) (remote : U32) (remoteLane : Nat) (border handover commit : U32)
  deriving DecidableEq, Repr

/-- A plan or closure change between acceptance and resolution (R29, R160, R173). -/
structure Plan where
  id : U32
  lane : Nat
  what : PlanWhat
  /-- The request to answer, if a host asked, and whether it is a batch of several plans (R387). -/
  req : Option Req
  batch : Bool := false
  /-- Tick in which it counts as submitted (R28). -/
  submit : U32
  epoch : U16
  /-- First tick f. -/
  first : U32
  profiled : Bool := false
  /-- Result code found so far, none while unchecked (R170); 0 is PASS. -/
  result : Option Nat := none
  conflictTick : U32 := 0
  conflictKind : Nat := 0
  other : Nat := 0
  object : Nat := 0
  own : Int × Int := (0, 0)
  detail : Nat := 0
  start : Pose := ⟨0, 0, 0⟩
  legs : List Leg := []
  stretches : List Stretch := []
  limits : Limits := {}
  envelopes : List Envelope := []
  /-- Cut version: its envelopes, stretches and whether it passed (R177). -/
  cutList : List Envelope := []
  cutStretches : List Stretch := []
  cutPassed : Bool := false
  crossing : Option Crossing := none
  /-- The plan waits for its permit, and no grant came in time (R173, R178). -/
  awaiting : Bool := false
  expired : Bool := false
  /-- Limit deferred (R198) or reverse not permitted (R194) to report at commit. -/
  deferred : Bool := false
  stopOnly : Bool := false
  /-- The commit record that joined the DELTA, with its complement (R168). -/
  mirrored : Option CommitRecord := none
  deriving DecidableEq, Repr

/-- A region received from a neighbour (R171). -/
structure Neighbour where
  vertices : List (Int × Int) := []
  known : Bool := false
  mismatch : Bool := false
  deriving DecidableEq, Repr

/-- The ledger's own state. -/
structure Ledger where
  /-- Next plan ID to assign. -/
  nextPlan : U32 := 1
  /-- Plans in acceptance order. -/
  plans : List Plan := []
  /-- Areas: holder and conflicts reported, (0x3000 + i):06 and :07. -/
  conflictsOf : Table U32 := []
  /-- 0x2011:10 to :17. -/
  checked : U32 := 0
  committed : U32 := 0
  conflicts : U32 := 0
  late : U32 := 0
  /-- Box tests of the present tick and of the last one (R165). -/
  tests : Nat := 0
  testsLast : Nat := 0
  testsPeak : Nat := 0
  excursions : U32 := 0
  stopping : U32 := 0
  /-- Lanes whose stopping envelopes wait for their check (R153). -/
  stopChecks : List Nat := []
  /-- Regions of neighbours, by pair. -/
  neighbours : Table Neighbour := []
  /-- 0x2013:10 to :13. -/
  requested : U32 := 0
  granted : U32 := 0
  refused : U32 := 0
  expired : U32 := 0
  /-- The cutoffs of the present tick have passed (R33). -/
  profileClosed : Bool := false
  ledgerClosed : Bool := false
  deriving DecidableEq, Repr

/-! ## Halt -/

/-- One burst (R224): halt ID, records it announces, instant of the first transmission, next repetition. -/
structure Burst where
  haltId : U16
  site : Bool
  cell : Bool
  lanes : List Nat
  next : Nat
  /-- Drawn delays of the repetitions, one each, 0 to 40 tenths of a millisecond (R225). -/
  delay : Nat
  /-- Instant of the first transmission, ns of the tick source. -/
  began : Int := 0
  deriving DecidableEq, Repr

/-- A resume that waits for the boundary (R232): scope 1 lane, 2 cell, 3 site; the lane; the request, none for a local
press; its stamp. -/
structure Resume where
  scope : Nat
  lane : Nat
  req : Option Req
  /-- Arrival, ns of the tick source. -/
  instant : Int
  deriving DecidableEq, Repr

/-- The first party of a two-party resume (R231). -/
structure HalfResume where
  host : Bool
  /-- End of the window, ns of the tick source. -/
  until_ : Int
  deriving DecidableEq, Repr

/-- The halt chain. Records of lanes stand in their lanes. -/
structure Halt where
  /-- 0x2210:01 and :02. -/
  site : U16 := 0xFF00
  cell : U16 := 0xFF00
  /-- Host cell, host site, partner cell, partner site sources (bits 2 to 5 of 0x2210:03). -/
  hostCell : Bool := false
  hostSite : Bool := false
  partnerCell : Bool := false
  partnerSite : Bool := false
  /-- Contact sources 1 and 2 (bits 0 and 1). -/
  contact1 : Bool := false
  contact2 : Bool := false
  haltId : U16 := 0
  latency : Nat := 0
  decided : U32 := 0
  lateWork : U32 := 0
  lineFaults : U32 := 0
  /-- 0x2210:0A. -/
  silent : Bool := false
  /-- SITE_HALT_N: line state low as filtered, agreeing samples, last sample. -/
  lineLow : Bool := false
  lineRun : Nat := 0
  lastSample : Bool := false
  /-- This unit drives the line (bit 7). -/
  driving : Bool := false
  stuck : Bool := false
  /-- Slices the line has read low with no unit reporting that it drives it. -/
  lowFor : Nat := 0
  /-- Other units that report they drive: address to slices since their last SITE_LINE (R235). -/
  drivers : Table Nat := []
  bursts : List Burst := []
  resumes : List Resume := []
  /-- Half-resumed records: 0 site, 1 cell, 2 + n lane n. -/
  half : Table HalfResume := []
  /-- Halt IDs of the records in force: 0 site, 1 cell, 2 + n lane n (R217). -/
  ids : Table U16 := []
  /-- Tick in which each record's present decision fell (R151). -/
  decidedAt : Table U32 := []
  deriving DecidableEq, Repr

/-! ## Air (08, 09, 10) -/

/-- One carriageway (R275, R282 to R284, R305). -/
structure Carriageway where
  headerErrors : U32 := 0
  sent : U32 := 0
  deferred : U32 := 0
  skipped : U32 := 0
  carried : U32 := 0
  contention : U32 := 0
  late : U32 := 0
  /-- Retries made in this tick; the assessment of this tick is over. -/
  tries : Nat := 0
  closed : Bool := true
  /-- Microseconds from the end of the first observation of this tick to that of the next one due (R282). -/
  wait : Nat := 0
  /-- The payload of this tick was not assembled in time (R33). -/
  beaconOnly : Bool := false
  /-- This tick's downlink was skipped. -/
  skippedNow : Bool := false
  /-- Downlinks skipped since the last one sent. -/
  skipRun : U32 := 0
  /-- Lanes newly covered since the last downlink, and whether a halt was decided since (R315). -/
  covered : List Nat := []
  haltOwed : Bool := false
  /-- Notices still to go in a broadcast frame (R316). -/
  notices : List Bytes := []
  deriving DecidableEq, Repr

/-- A verge frame: code 8 stage beacon, 9 halt, 10 notice; its payload, repetition index, and instant it began. -/
structure VergeFrame where
  code : Nat
  payload : Bytes
  began : Int
  deriving DecidableEq, Repr

/-- The air interface of the cell. -/
structure Air where
  cws : Table Carriageway := []
  /-- Verge channel: frame in progress, frames that wait (R295). -/
  verge : Option VergeFrame := none
  vergeWaiting : List VergeFrame := []
  /-- Duty bins: second of the tick source to microseconds on air (R301). -/
  duty : Table Nat := []
  dutyRaised : Bool := false
  /-- 0x2504:04 to :07 and 0x2502:04. -/
  withheldHalts : U32 := 0
  withheldNotices : U32 := 0
  gaps : U32 := 0
  exceeded : U32 := 0
  crcFailures : U32 := 0
  /-- Hop index S mod 64 the channel is tuned to (R267, R268). -/
  hop : Nat := 0
  /-- Body of this stage's beacon (R293), and whether it went out on some path (R300). -/
  stageBody : Bytes := []
  delivered : Bool := false
  /-- The verge beacon of this stage has fallen due (R294). -/
  beaconDone : Bool := false
  /-- Rollover count × 2^32 + broadcast frame counter (R324). -/
  broadcast : U64 := 0
  /-- 0x2507:05, :07. -/
  unknown : U32 := 0
  incomplete : U32 := 0
  /-- Front-end lines high (R272): CW_TXRX_SEL, CW_PA_EN, CW_LNA0_EN, CW_LNA1_EN, VG_TXRX_SEL, VG_PA_EN, VG_LNA_EN. -/
  txrx : Bool := false
  pa : Bool := false
  lna0 : Bool := false
  lna1 : Bool := false
  vgTxrx : Bool := false
  vgPa : Bool := false
  vgLna : Bool := false
  /-- Latest end of the downlinks of the tick, ns of the tick source (R273). -/
  downEnd : Int := 0
  deriving DecidableEq, Repr

/-! ## Checkpoint (04) -/

/-- Limits of a solve (R121, R139): 0x230B:01 to :04 and the thresholds of the lane, :12 and :13. -/
structure CkLimits where
  ratio : Nat := 300
  common : Nat := 6
  baseline : Nat := 15000
  residual : Nat := 15
  horizontal : Int := 100
  vertical : Int := 250
  deriving DecidableEq, Repr

/-- A request of the checkpoint queue (R131, R135). -/
structure CkRequest where
  lane : Nat
  laneEpoch : U16
  /-- Epoch of the record as a full tick, arrival tick and arrival instant. -/
  epoch : U32
  tick : U32
  arrival : Int
  record : Bytes
  /-- Positioning was valid when the solve started (R121 step 1), and the limits in force then (R139). -/
  startValid : Bool := true
  limits : CkLimits := {}
  /-- Positioning became invalid while the solve ran: a verdict that passed step 1 is discarded (R126). -/
  void : Bool := false
  deriving DecidableEq, Repr

/-- A verdict found and not yet committed (R124, R127). -/
structure CkVerdict where
  request : CkRequest
  verdict : Nat
  reason : Nat
  horizontal : Nat
  vertical : Int
  ratio : Nat
  used : Nat
  east : Int
  north : Int
  up : Int
  /-- Found after 16.0 ms: it joins the next DELTA. -/
  after16 : Bool
  deriving DecidableEq, Repr

/-- A satellite of port A's observable block at a record epoch: system, PRN, state USE and usable (R79, R96), and
whether each band is usable, with its observable records (R77, R122). -/
structure HeldSat where
  system : Nat
  prn : Nat
  l1 : Bool
  l5 : Bool
  record1 : Bytes := []
  record5 : Bytes := []
  deriving DecidableEq, Repr

/-- A record epoch of the last 2 s (R122): its tick, whether its observable block is held, whether positioning was valid,
the reference issue in force. -/
structure HeldBlock where
  tick : U32
  held : Bool
  valid : Bool
  issue : Nat
  sats : List HeldSat
  deriving DecidableEq, Repr

/-- Checkpoint fixes. -/
structure Checkpoint where
  lanes : Table CkLane := []
  queue : List CkRequest := []
  /-- Request each DSP works on, 0 to 3. -/
  running : Table CkRequest := []
  found : List CkVerdict := []
  blocks : List HeldBlock := []
  /-- 0x230B:06, :07; items the request queue has lost (R131). -/
  completed : U32 := 0
  dropped : U32 := 0
  lost : U32 := 0
  /-- Lanes marked STALE without a solve, not yet in a DELTA, and those in a DELTA not yet acknowledged (R136, R427). -/
  marked : List Nat := []
  sent : List Nat := []
  deriving DecidableEq, Repr

/-! ## Links and outputs -/

/-- A message of the pair link (R421). -/
inductive LinkMsg where
  | start (nonce : Bytes) (address : Nat) (serial : U64) (low high : Nat)
  | heartbeat (role : Nat) (firmware : U32) (version : Nat) (sent echo : Int) (resync : Bool)
  | input (source : Nat) (stamp : Nat) (item : InputItem)
  | delta (tick : U32) (part : Nat) (facts : List Fact) (commits : List CommitRecord) (last : Bool)
  | ack (tick : U32) (result checked : Nat)
  | halt (site cell : U16) (lanes : List (Nat × U16)) (haltId : U16) (ids : List (Nat × U16)) (sources : U16)
    (decisions : List RemoteDecision)
  | transfer (facts : List Fact) (generation : U32) (last : Bool)
  | planned (boundary : U32)
  deriving DecidableEq, Repr

/-- An OFDM symbol (R252 to R254): one over the square of K_MOD, the point on each data subcarrier before that scaling, and the pilots. -/
structure OfdmSymbol where
  power : Nat
  data : List (Int × (Int × Int))
  pilots : List (Int × Int)
  deriving DecidableEq, Repr

/-- A carriageway PPDU as its subcarriers (R245 to R255): signs of the short and long training fields, header symbol and data symbols. -/
structure Wave where
  shortField : List (Int × Int)
  longField : List (Int × Int)
  symbols : List OfdmSymbol
  deriving DecidableEq, Repr

/-- Output pins of the block (R597). -/
inductive Pin where
  | siteHaltN | sounderEn | pwrEn | feedAGate | feedBGate | ppsOut | trigger | pairPulse | selOut
  | antBiasA | antBiasB | cwTxRxSel | cwPaEn | cwLna0En | cwLna1En | vgTxRxSel | vgPaEn | vgLnaEn
  | haltPulse (channel : Nat)
  deriving DecidableEq, Repr

/-- A PTP message as a port sends it: time is the origin or receive stamp, requester the port a Delay_Resp answers, the rest the fields
of Announce (R349, R350). -/
structure PtpSent where
  kind : Nat
  sequence : Nat
  domain : Nat
  transport : Nat
  twoStep : Bool := false
  time : Int := 0
  requester : Nat := 0
  priority1 : Nat
  priority2 : Nat
  clockClass : Nat
  accuracy : Nat
  timeSource : Nat
  ptpScale : Bool := true
  utcOffset : Option Int
  deriving DecidableEq, Repr

/-- What the block puts on its links and pins in one step (log entry 2). -/
inductive Output where
  /-- A response to a dictionary request (R383) or to the service port (R499). -/
  | response (origin : Origin) (id : Nat) (answer : Answer)
  /-- A VAP datagram outside a session's records: kind and payload (R379, R381, R382). -/
  | vap (port kind : Nat) (payload : Bytes)
  /-- A CAN FD frame: identifier and data. -/
  | can (id : Nat) (data : Bytes)
  /-- An EMCY message (R399): error code, error register, event code, low half of the tick. -/
  | emcy (code register event tick : Nat)
  /-- An output pin driven to a level. -/
  | pin (name : Pin) (high : Bool)
  /-- A pulse on a pin, ns. -/
  | pulse (name : Pin) (ns : Nat)
  /-- A front-end line driven at an instant of the tick source, ns (R273). -/
  | line (name : Pin) (high : Bool) (instant : Int)
  /-- A carriageway PPDU: carriageway, MCS, start offset in µs, PSDU, and what is sent (R245, R283). -/
  | downlink (cw mcs offset : Nat) (psdu : Bytes) (wave : Wave)
  /-- A verge frame: channel (64 for the fixed one), payload, and the frame as it is sent (R263, R264). -/
  | verge (channel : Nat) (payload air : Bytes)
  /-- All transmission is cut off (R237, R425). -/
  | cutOff
  /-- A lamp chain frame: its 90 bytes (R563). -/
  | lampFrame (data : Bytes)
  /-- A pair-link frame: sequence and message; epoch and tick are those of the state (R420). -/
  | link (sequence : Nat) (msg : LinkMsg)
  /-- A cell-link message to a pair (R442). -/
  | cell (pair : Nat) (msg : CellMsg)
  /-- A PTP message on a port (R349, R350). -/
  | ptp (port : Nat) (msg : PtpSent)
  /-- A reply frame of the service port (R498). -/
  | service (frame : Bytes)
  /-- A TFTP answer of recovery from an IPv4 address (R502): opcode, block or error number, error text. -/
  | tftp (address opcode number : Nat) (text : Bytes)
  /-- An item appended to the octal-SPI archive at an address (R544). -/
  | archive (address : Nat) (item : Bytes)
  deriving DecidableEq, Repr

/-! ## Pair, chain, cells -/
/-- The pair of a unit (R417 to R437). -/
structure Pair where
  /-- 0x2601:02 and :03. -/
  role : Nat := 0
  epoch : U16 := 0
  /-- Pair link: aligned and keyed, own START sent, the nonces, next sequences out and in (R420, R421). -/
  linkUp : Bool := false
  startSent : Bool := false
  ownNonce : Bytes := []
  partnerNonce : Bytes := []
  partnerStarted : Bool := false
  sendSeq : Nat := 0
  receiveSeq : Nat := 0
  /-- The partner: address, serial, firmware, role last heard, highest epoch heard. -/
  partner : Nat := 0
  partnerSerial : U64 := 0
  partnerFirmware : U32 := 0
  partnerRole : Nat := 0
  partnerEpoch : U16 := 0
  /-- Mirror protocol version in use; none shared (R422). -/
  version : Option Nat := none
  /-- Ticks in a row without HEARTBEAT, heard pulse, own pair on air (R424), and whether each came in this tick. -/
  linkSilent : Nat := 8
  pulseSilent : Nat := 8
  airSilent : Nat := 8
  linkHeard : Bool := false
  pulseHeard : Bool := false
  airHeard : Bool := false
  /-- Path events raised, and the active-on-air-only report made (R424). -/
  linkRaised : Bool := false
  pulseRaised : Bool := false
  airOnly : Bool := false
  /-- 0x2601:07 to :09. -/
  lateRun : Nat := 0
  lateTotal : U32 := 0
  takeovers : U32 := 0
  /-- The DELTA of this tick: sent with its tick, answered in time with this result (R427, R428). -/
  deltaSent : Option U32 := none
  ackResult : Option Nat := none
  /-- Planned handover: the request, and the boundary named in this tick's DELTA (R436). -/
  plannedReq : Option Req := none
  plannedFor : Option U32 := none
  /-- The partner asks for resynchronisation; a snapshot has gone out (R435). -/
  resyncAsked : Bool := false
  snapshotSent : Bool := false
  /-- Standby: the DELTA of the tick as received so far, whether its last part and a gap came, and what was answered. -/
  facts : List Fact := []
  commits : List CommitRecord := []
  complete : Bool := false
  gap : Bool := false
  /-- The part expected next, and whether one was absent (R421). -/
  parts : Nat := 0
  broken : Bool := false
  answered : Option Nat := none
  /-- Standby: the snapshot has been applied (R435). -/
  restored : Bool := false
  /-- PLANNED boundary received by the standby (R436). -/
  plannedIn : Option U32 := none
  /-- Ticks since the unit became ready for lanes in role 3 (R434). -/
  waited : Nat := 0
  /-- Own stamp of the last HEARTBEAT received; at a standby the stamps t1, t2, t3 of the last exchange, and the version its partner uses
  (R421, R423). -/
  received : Int := 0
  exchange : Option (Int × Int × Int) := none
  partnerVersion : Nat := 0
  /-- Clock correction the HEARTBEAT or pulse exchange asks of the standby, ns (R423). -/
  adjust : Int := 0
  deriving DecidableEq, Repr

/-- A change of a lane that falls due at a boundary, in order of acceptance. -/
structure Due where
  lane : Nat
  what : DueWhat
  /-- A DELTA of role 1 has carried it (R427). -/
  carried : Bool := false
  deriving DecidableEq, Repr

/-- Cell links (R442 to R449). -/
structure Cells where
  /-- 0x2602:02 to :04. -/
  sent : U32 := 0
  received : U32 := 0
  failed : U32 := 0
  /-- WITHDRAWAL sent every tick: pair, plan, ticks left (R442). -/
  withdrawals : List (Nat × U32 × Nat) := []
  /-- CONFIRM sent every tick: pair, plan, receiving lane, ticks left (R442). -/
  confirms : List (Nat × U32 × Nat × Nat) := []
  /-- HANDOVER received in time for a lane reserved here (R446). -/
  arriving : Table HandoverMsg := []
  /-- Plans whose handover failed under transition 15, for R449, and plans confirmed, for R442. -/
  failedPlans : List U32 := []
  releasedPlans : List (Nat × U32) := []
  /-- Lanes taken over by transition 16: sending pair and plan (R449). -/
  held : Table (Nat × U32) := []
  deriving DecidableEq, Repr

/-- Where address claiming stands (R439, R440): 0 idle, 1 QUERY sent, 2 ANNOUNCE sent with the claiming flag, 3 lost and
waiting, 4 done, 5 withheld as a duplicate, 6 none free, 7 stored address announced and boot-up due. -/
structure Chain where
  /-- 0x2600:01. -/
  address : Nat := 0
  /-- Address stored in MRAM, 0 none. -/
  stored : Nat := 0
  phase : Nat := 0
  /-- Addresses named by an ANNOUNCE since the QUERY. -/
  named : List Nat := []
  /-- Address claimed and not yet confirmed. -/
  claiming : Nat := 0
  /-- SEL_IN asserted, 0x2600:04; SEL_OUT. -/
  selIn : Bool := false
  selOut : Bool := false
  /-- 0x2600:05. -/
  seen : U32 := 0
  /-- Serial number of the unit that announced the same stored address (R440). -/
  rival : U64 := 0
  deriving DecidableEq, Repr

/-- Keys and security (R411, R453, R454, R458). Byte strings are empty where no key is held. -/
structure Keys where
  /-- 0x2700:01: 0 unprovisioned, 1 provisioned, 2 debug-open. -/
  security : Nat := 0
  /-- 0x2700:02, :03: generation in force and its check value. -/
  generation : Nat := 0
  check : U32 := 0
  /-- 0x2700:04: 0 empty, 1 loaded, 2 verified, 3 announced. -/
  pendingState : Nat := 0
  /-- 0x2700:08. -/
  tamper : U32 := 0
  /-- The two halves of the working key register (R454). -/
  current : Bytes := []
  pendingKey : Bytes := []
  pendingGeneration : Nat := 0
  pendingCheck : U32 := 0
  /-- Switch tick and window-end tick of an announced roll-over (R333, R453). -/
  switchTick : Option U32 := none
  windowEnd : Option U32 := none
  /-- The switch has been made: the ports send under the pending generation (R464). -/
  switched : Bool := false
  /-- Key command 1 or 2 waiting for its boundary, with its request (R463). -/
  verifyDue : Option Req := none
  announceDue : Option Req := none
  /-- The verified half has gone into a DELTA (R463). -/
  verifySent : Bool := false
  /-- A change of the pending half is owed to the standby (1), or the DELTA of this tick carries it (2). -/
  owed : Nat := 0
  /-- The unit restarted with an announced roll-over (R466). -/
  interrupted : Bool := false
  /-- The two halves as the key store keeps them when the register is lost (R453, R472). -/
  storeCurrent : Bytes := []
  storePending : Bytes := []
  /-- Ports that hold their keys (R458): link, network, pair, seal. -/
  linkPort : Bool := false
  networkPort : Bool := false
  pairPort : Bool := false
  sealPort : Bool := false
  /-- Root in use is the test root (R450). -/
  testRoot : Bool := false
  /-- Variant, 0x2000:03: the part is a VL-4192-FB-D, which runs under the test root only (R2, R450; log entry 10). -/
  development : Bool := false
  /-- A debug certificate has been accepted: open (true) or close, with the reset that follows (R468, R469). -/
  debugDue : Option Bool := none
  deriving DecidableEq, Repr

/-! ## Dispatcher and counters (17) -/

/-- What a task is doing (R508 to R511). -/
inductive TaskStatus where
  | ended | waiting | ready | running
  deriving DecidableEq, Repr

/-- One task context (R506 to R511). -/
structure Task where
  flags : U32 := 0
  /-- Wait-any mask A and wait-all mask B. -/
  any : U32 := 0
  all : U32 := 0
  /-- Fixed priority, 0 to 7 (R510): given by Config.taskPriority. -/
  priority : Nat := 0
  status : TaskStatus := .ended
  /-- Slices of its delay still to run. -/
  delay : Option Nat := none
  /-- Order in which it became ready. -/
  order : Nat := 0
  /-- Woken by a flag (its number) or by its delay. -/
  woken : Option Nat := none
  /-- Late counter (R31, R413). -/
  late : Nat := 0
  deriving DecidableEq, Repr

/-- The dispatcher. -/
structure Disp where
  tasks : Table Task := []
  /-- Task each engine runs; an unlisted engine idles. -/
  running : Table Nat := []
  /-- Next ready order. -/
  order : Nat := 0
  /-- Trace entries of the present slice, 16 bytes each (R512). -/
  trace : List Bytes := []
  /-- Write and read pointer of each queue between engines, by its number (R523). -/
  pointers : Table (Pointer × Pointer) := []
  deriving DecidableEq, Repr

/-- A snapshot between acceptance and publication (R518 to R520). -/
structure Snap where
  number : U32
  code : Nat
  time : Int
  /-- Taken: instant, tick, flags, the counter values and the lane items copied. -/
  taken : Option (Int × U32 × Nat) := none
  values : Table Nat := []
  lanes : List Bytes := []
  deriving DecidableEq, Repr

/-- The counter bank (R514 to R520). -/
structure Counters where
  live : Table Nat := []
  shadow : Table Nat := []
  /-- 0x2900:03. -/
  number : U32 := 0
  snap : Option Snap := none
  /-- Highest occupancy of each event select within the present slice (R516). -/
  peaks : Table Nat := []
  /-- Counters whose configuration changed, set to 0 at the next boundary (R515). -/
  changed : List Nat := []
  deriving DecidableEq, Repr

/-! ## Trip recorder (18) -/

/-- A record in the ring: a data record, or a gap record with its loss (R529, R541). -/
structure TripRec where
  time : Int
  data : Bytes
  /-- Samples lost and cause, of a gap record. -/
  gap : Option (Nat × Nat) := none
  deriving DecidableEq, Repr

/-- One capture unit (R528 to R540). -/
structure TripUnit where
  /-- :08. -/
  state : Nat := 0
  /-- :09. -/
  captures : U32 := 0
  /-- Bytes of the ring reserved (R528). -/
  share : Nat := 0
  pre : List TripRec := []
  post : List TripRec := []
  /-- Triggers that wait for their sample: cause bit and time-stamp (R536). -/
  fired : List (Nat × Int) := []
  cause : Nat := 0
  trigTime : Int := 0
  trigTick : U32 := 0
  trigInvalid : Bool := false
  /-- Post-trigger bytes the causes need (R537). -/
  need : Nat := 0
  /-- Milliseconds the unit has stayed armed (R538). -/
  armed : Nat := 0
  /-- Stream items of the sealed capture still to be written: type and body. -/
  items : List (Nat × Bytes) := []
  /-- Items of the capture, for MRAM and archive. -/
  sealed : List (Nat × Bytes) := []
  deriving DecidableEq, Repr

/-- The trip recorder (R528 to R545). -/
structure Trip where
  units : Table TripUnit := []
  /-- Retained captures, oldest first, and those still to be exported again (R543). -/
  retained : List (List (Nat × Bytes)) := []
  reexport : List (Nat × Bytes) := []
  /-- Archive address (R544). -/
  archive : Nat := 0
  deriving DecidableEq, Repr

/-! ## Panel and lamps (19) -/

/-- One contact channel: 0 contact 1 A, 1 contact 1 B, 2 contact 2 A, 3 contact 2 B (R548 to R551). -/
structure Channel where
  closed : Bool := false
  openRun : Nat := 0
  closedRun : Nat := 0
  /-- Passed a test pulse since it last closed for 4 samples. -/
  passed : Bool := false
  /-- Read low in its own pulse; the next slice sample decides (R549). -/
  pulsed : Bool := false
  deriving DecidableEq, Repr

/-- Cross-monitoring of one contact (R550, R551). -/
structure Contact where
  differ : Nat := 0
  fault : Bool := false
  /-- Clearing: both open together, both closed together, agreeing samples. -/
  openTogether : Nat := 0
  closedTogether : Nat := 0
  opened : Bool := false
  deriving DecidableEq, Repr

/-- One touch key (R554 to R557). -/
structure TouchKey where
  touched : Bool := false
  /-- Scans in a row that point the other way. -/
  run : Nat := 0
  /-- Scans since it was touched, or since it was released. -/
  held : Nat := 0
  ignored : Bool := false
  deriving DecidableEq, Repr

/-- The panel. -/
structure Panel where
  channels : Table Channel := []
  contacts : Table Contact := []
  keys : Table TouchKey := []
  /-- Keys wet (R556). -/
  wet : Bool := false
  sounder : Bool := false
  /-- 0x2B00:08 and :09. -/
  plug : Bool := false
  wake : Bool := false
  /-- Pattern engines toggled off by a key (R555). -/
  toggled : List Nat := []
  /-- Consecutive open strobes of contacts 1 and 2 in Standby (R552). -/
  strobe1 : Nat := 0
  strobe2 : Nat := 0
  deriving DecidableEq, Repr

/-- Health of a lamp channel (R571, R573). -/
structure LampChannel where
  /-- 0 not used, 1 healthy, 2 open, 3 short, 4 not verifiable, 5 unknown. -/
  health : Nat := 0
  /-- Consecutive measurements: open, short, clean. -/
  opens : Nat := 0
  shorts : Nat := 0
  cleans : Nat := 0
  /-- Slices since the last measurement and since the last clean one. -/
  age : Nat := 0
  cleanAge : Nat := 0
  /-- The on-time stayed below 512 since the last measurement. -/
  low : Bool := true
  deriving DecidableEq, Repr

/-- A lamp driver (R568, R569). -/
structure LampDriver where
  /-- Last valid temperatures, newest first, at most 16. -/
  temps : List Int := []
  scale : Nat := 255
  shutdown : Bool := false
  deriving DecidableEq, Repr

/-- The lamp chain. -/
structure Lamps where
  count : Nat := 0
  /-- 0x2B01:01, :07. -/
  drivers : Nat := 0
  late : U32 := 0
  chain : Table LampDriver := []
  channels : Table LampChannel := []
  /-- Whether the last returned frame was valid (R566); none before the first. -/
  valid : Option Bool := none
  /-- Shares of the last frame sent: on-times of the 32 channels, scales, measure bits. -/
  onTimes : List Nat := []
  scales : List Nat := []
  measures : List Bool := []
  /-- Slices of the lamp test still to run (R572). -/
  test : Nat := 0
  deriving DecidableEq, Repr

/-- One feed (R580 to R585): class 0 absent, 1 out of window, 2 in window. -/
structure Feed where
  /-- 0x2C00:03 or :04. -/
  state : Nat := 0
  cls : Nat := 0
  candidate : Nat := 0
  run : Nat := 0
  sense : Nat := 0
  /-- Its gate is driven low: it does not feed the bus (R582). -/
  gate : Bool := false
  /-- Slices in window since it returned, none if it has not left since it was judged (R584). -/
  back : Option Nat := none
  /-- Qualified at some time since the start, and its first qualification is over (R584). -/
  judged : Bool := false
  deriving DecidableEq, Repr

/-- What a run alone is for (R584, R585): 0 start, 1 requalification, 2 scheduled, 3 command. -/
structure RunAlone where
  feed : Nat
  cause : Nat
  /-- Sense before the run. -/
  before : Nat
  deriving DecidableEq, Repr

/-- Power, reset and keeper domain (20; R406, R407, R416). -/
structure Power where
  phase : Phase := .rom
  /-- 0x2C00:01. -/
  state : Nat := 0
  feedA : Feed := {}
  feedB : Feed := {}
  alone : Option RunAlone := none
  /-- A feed test is asked for by command (its request answered), or due and postponed already (R585). -/
  testAsked : Bool := false
  testDue : Bool := false
  postponed : Bool := false
  /-- Milliseconds since the last passed test on the RTC (R585). -/
  sinceTest : Nat := 0
  /-- 0x2C00:07 to :09. -/
  vbat : Nat := 0
  dieTemp : Int := 0
  rfTemp : Int := 0
  /-- Milliseconds VBAT has stayed below 2,500 mV. -/
  vbatLow : Nat := 0
  /-- Keeper domain (R577, R591). -/
  pwrEn : Bool := true
  standbyFlag : Bool := false
  rtcValid : Bool := false
  rtc : Nat := 0
  vbatPresent : Bool := true
  /-- Straps as sampled (R594). -/
  recover : Bool := false
  refSel : Bool := false
  svcAlt : Bool := false
  /-- 0x2000:05, :0A, :0B. -/
  deviceState : Nat := 0
  resets : U32 := 0
  cause : Nat := 0
  /-- A reset command, power command or wake that waits for its boundary (R407, R588 to R590). -/
  resetDue : Bool := false
  powerDue : Option Nat := none
  /-- What happened while the unit did not run and is reported at its next start: tamper detections, the unobserved tamper
  interval in s (R472). -/
  tamperOwed : Nat := 0
  unobserved : Option Nat := none
  /-- A unit woken by the plug starts in Quiet (R472). -/
  startQuiet : Bool := false
  /-- Beacons start at the next stage boundary (R589). -/
  beacons : Bool := false
  /-- REF10M_IN is locked (R578). -/
  refLocked : Bool := false
  /-- MRAM: TCXO offset and RTC offset from TB0 (R579), and whether they were ever stored. -/
  oscOffset : Int := 0
  rtcOffset : Int := 0
  offsetsAt : Option Nat := none
  deriving DecidableEq, Repr

/-- The debug port (R608): register selected (0 bypass, 1 IDCODE, 2 boundary scan, 3 boundary scan driving the balls), what it
captured, and the levels EXTEST drives. -/
structure Tap where
  selected : Nat := 1
  captured : Nat := 0
  driven : List Bool := []
  deriving DecidableEq, Repr

/-! ## GNSS and reference (02, 03) -/

/-- An antenna port (R48, R50). -/
structure Port where
  /-- 0x2302:08 or :0A. -/
  state : Nat := 0
  candidate : Nat := 0
  run : Nat := 0
  /-- Bias current, 0.1 mA. -/
  current : Nat := 0
  /-- Bias driven; off under the short policy until the owner writes the enable to 1 (R50). -/
  bias : Bool := false
  shortOff : Bool := false
  deriving DecidableEq, Repr

/-- An RF chain: 0 A-L1, 1 A-L5, 2 B-L1, 3 B-L5 (R45, R46). -/
structure RfChain where
  /-- AGC gain, 0.5 dB units. -/
  gain : Nat := 20
  /-- Gains of the last hour, newest first, with the slices each lasted. -/
  history : List (Nat × Nat) := []
  low : Nat := 0
  within : Nat := 0
  interference : Bool := false
  deriving DecidableEq, Repr

/-- A code NCO: 48-bit phase in chips, chip within the code, code epochs (R67). -/
structure CodeNco where
  phase : BitVec 48 := 0
  chip : Nat := 0
  epochs : U32 := 0
  deriving DecidableEq, Repr

/-- A carrier NCO: 48-bit phase, carrier cycles (R67). -/
structure CarrierNco where
  phase : BitVec 48 := 0
  cycles : U32 := 0
  deriving DecidableEq, Repr

/-- Loop options a tracker works with (R70, R84): 0x2304:01 to :07. -/
structure LoopSet where
  pllOrder : Nat := 3
  pllBand : Nat := 100
  fllOrder : Nat := 2
  fllBand : Nat := 50
  dllBand : Nat := 50
  spacing : Nat := 8
  coherent : Bool := false
  deriving DecidableEq, Repr

/-- A tap of an integration (R65): offset from prompt in 1/128 chip, on the data component, its sum. -/
structure CorrTap where
  offset : Int
  data : Bool
  sum : Int × Int
  deriving DecidableEq, Repr

/-- One tracker (R61 to R73, R77 to R81). Phase: 0 idle, 1 FLL, 2 FLL-assisted PLL, 3 PLL, 4 reacquisition. -/
structure Tracker where
  phase : Nat := 0
  codeLock : Bool := false
  phaseLock : Bool := false
  /-- Transmit time of code epoch 0, ns, once it is resolved (R60). -/
  tow : Option Int := none
  half : Bool := false
  /-- The half-cycle was resolved as inverted since the last latch (R80). -/
  flip : Bool := false
  /-- NCOs, rate words, and the sample at which the NCOs stand so (R67). -/
  code : CodeNco := {}
  carrier : CarrierNco := {}
  codeRate : BitVec 48 := 0
  carrierRate : BitVec 48 := 0
  sample : Nat := 0
  /-- Rates and sample at which code lock was lost: R61 extrapolates from them. -/
  lost : Option (BitVec 48 × BitVec 48 × Nat) := none
  /-- Number of the last integration, its taps, rates written for it (R68), loop options, offset of the roving tap and of the sweep in
  1/128 chip (R61, R65). -/
  integration : Nat := 0
  taps : List CorrTap := []
  written : Option (BitVec 48 × BitVec 48) := none
  loop : LoopSet := {}
  roving : Int := 0
  sweep : Int := 0
  /-- Milliseconds the indicator has held at or above 0.8, and C/N0 below 22 dB-Hz (R71). -/
  high : Nat := 0
  weak : Nat := 0
  cn0 : Nat := 0
  /-- In this tick: FLL assistance, late update. In the next record: phase restart. -/
  fll : Bool := false
  late : Bool := false
  restarted : Bool := false
  /-- Phase lock was set since the last latch; ticks since then (R77). -/
  lockNew : Bool := false
  lockTicks : Nat := 0
  slips : Nat := 0
  multipath : Bool := false
  mpRun : Nat := 0
  /-- Accumulated carrier phase at the last latch and the one before, 2^-48 cycle; carrier NCO at the last latch; the phase restarts
  at the next (R76, R81). -/
  acc : Int := 0
  accWas : Option Int := none
  carrierWas : CarrierNco := {}
  accNew : Bool := false
  /-- Milliseconds in reacquisition (R62), or since the L5 handover attempt began (R73), and its attempts. -/
  age : Nat := 0
  tries : Nat := 0
  deriving DecidableEq, Repr

/-- A tracking channel (R63, R64): satellite, port B, trackers, loop-late counter (0x230C), geometry-free combination at the last three
latches in um, newest first (R80). -/
structure TrackChannel where
  sat : Option SatView := none
  portB : Bool := false
  l1 : Tracker := {}
  l5 : Tracker := {}
  late : U32 := 0
  gf : Option Int := none
  gf1 : Option Int := none
  gf2 : Option Int := none
  deriving DecidableEq, Repr

/-- A search that waits (R56, R57): satellite, port, whether the L5-band signal is searched directly. -/
structure SearchReq where
  sat : SatView
  portB : Bool
  l5 : Bool := false
  deriving DecidableEq, Repr

/-- A search on an FFT unit (R53, R55, R58): what it searches, mode, Doppler bins, blocks of its dwell, code bins tested for each, and the
capture buffer it reads. -/
structure Search where
  req : SearchReq
  mode : Nat
  bins : Nat
  blocks : Nat
  cells : Nat
  buffer : Nat
  deriving DecidableEq, Repr

/-- An acquisition capture buffer (R54): chain, signal searched, mode, slices still to fill, satellites searched in it. -/
structure Capture where
  chain : Nat
  signal : Nat
  mode : Nat
  left : Nat
  searched : List (Nat × Nat) := []
  deriving DecidableEq, Repr

/-- What the array latched at a tick boundary (R74): the tick, and every channel with its NCOs at the boundary instant. -/
structure Latch where
  tick : U32
  time : Int
  channels : Table TrackChannel
  deriving DecidableEq, Repr

/-- The GNSS signal path. -/
structure Gnss where
  portA : Port := {}
  portB : Port := { state := 4, candidate := 4 }
  chains : Table RfChain := []
  channels : Table TrackChannel := []
  /-- Searches that wait, those on the FFT units 0 to 3, and the four capture buffers (R53, R54, R57). -/
  searches : List SearchReq := []
  units : Table Search := []
  captures : Table Capture := []
  /-- 0x2305:02, :03; instant of the first search, none before it and once the first acquisition is over (R59). -/
  mode : Nat := 0
  first : U32 := 0
  firstFrom : Option Nat := none
  firstDone : Bool := false
  /-- Ephemerides in the MRAM cache, and whether the almanac is valid (R58). -/
  cache : List Eph := []
  almanac : Bool := false
  /-- The latch of this tick waits for its block; the block before it was dropped (R74). -/
  latched : Option Latch := none
  gap : Bool := false
  /-- Chains that restart at the next boundary (R84). -/
  restart : List Nat := []
  deriving DecidableEq, Repr

/-- A cause of R96 on a satellite: number, and ticks its condition has been absent. -/
structure Cause where
  number : Nat
  absent : Nat
  deriving DecidableEq, Repr

/-- IF code smoothed by IF carrier (R93, R94): ticks in the window, smoothed code and last carrier, 0.1 mm. -/
structure Smooth where
  count : Nat
  code : Int
  carrier : Int
  deriving DecidableEq, Repr

/-- A satellite of port A under integrity (R96): causes, state, reported cause, ticks of monitor disagreement, continuity
counters and whether a slip counts against the next epoch, whole cycles of phase alignment (R110), and what the last tick left of the IF
carrier residual, of code less carrier in each band, and of the smoothed IF code, 0.1 mm (R93, R96). -/
structure Integrity where
  system : Nat
  prn : Nat
  causes : List Cause := []
  state : Nat := 0
  cause : Nat := 0
  monitor : Nat := 0
  c1 : Nat := 0
  c5 : Nat := 0
  slip1 : Bool := false
  slip5 : Bool := false
  align1 : Int := 0
  align5 : Int := 0
  carrier : Option Int := none
  cmc1 : Option Int := none
  cmc5 : Option Int := none
  smooth : Option Smooth := none
  elev : Option Int := none
  deriving DecidableEq, Repr

/-- The reference position and the corrections. -/
structure Reference where
  /-- 0x2306:0C and :0D. -/
  state : Nat := 0
  issue : Nat := 0
  /-- Position in force, 0.1 mm, and offsets; surveyed and its sigma. -/
  position : Int × Int × Int := (0, 0, 0)
  offsets : List Int := [0, 0, 0, 0, 0, 0]
  sigma : Nat := 0
  /-- Survey: its mode, 0x2307:06, :07, :08 to :0A, :0B; weighted sums and weight; result held for adoption (R89, R91, R94). -/
  surveyMode : Nat := 1
  elapsed : Nat := 0
  surveySigma : Nat := 0xFFFF
  result : Int × Int × Int := (0, 0, 0)
  running : Bool := false
  held : Bool := false
  sums : Int × Int × Int := (0, 0, 0)
  weight : Nat := 0
  /-- 0x2309:01 to :05; ticks all conditions have held (R100). -/
  positioning : Bool := false
  good : Nat := 0
  rms : Nat := 0xFFFF
  sats : List Integrity := []
  /-- Receiver clock of the last tick, ns (R77), and c times that of each system, 0.1 mm (R95). -/
  clock : Option Int := none
  clocks : List (Nat × Int) := []
  tb0 : Int := 0
  /-- 0x2401:02 to :04. -/
  correction : Nat := 0
  sent : U32 := 0
  notSent : U32 := 0
  /-- Gnoez epoch whose message is due, copies sent of it; the rate in force from the milestone (R105). -/
  epoch : Option U32 := none
  copies : Nat := 0
  message : Bytes := []
  /-- The issue changed at this milestone: an extra reference message is due (R106). -/
  fresh : Bool := false
  /-- Milestones since start (R112). -/
  milestones : Nat := 0
  /-- The monitor baseline is found, or to be found (R99). -/
  baseline : Bool := false
  baselineDue : Bool := false
  deriving DecidableEq, Repr

/-! ## Time (11) -/

/-- A time base (R340 to R342, 0x2110 to 0x2113), seen from the tick source. -/
structure Base where
  locked : Bool := false
  /-- Locked at some tick since power-on. -/
  ever : Bool := false
  /-- Base time minus tick-source time, ns, after conversion (R345); the last 50 measured while locked. -/
  offset : Int := 0
  recent : List Int := []
  /-- Consecutive locked ticks; estimated error when last locked; ticks since it was lost. -/
  run : Nat := 0
  error : Nat := 0xFFFFFFFF
  lost : Nat := 0
  deriving DecidableEq, Repr

/-- An Ethernet port's ordinary clock (R349 to R351, 0x2103, 0x2104). -/
structure PtpPort where
  /-- :10, :11, :12: portState of IEEE 1588 (1 initialising, 4 listening, 6 master, 9 slave), offset, mean path delay. -/
  state : Nat := 1
  offset : Int := 0
  delay : Int := 0
  /-- Master followed: source, priority1, clockClass, accuracy, priority2, steps; its timescale and UTC flags. -/
  master : Option (Nat × Nat × Nat × Nat × Nat × Nat) := none
  ptpScale : Bool := false
  utcValid : Bool := false
  /-- Two-step Sync whose Follow_Up is due: source, sequence and corrected ingress stamp. -/
  sync : Option (Nat × Nat × Int) := none
  /-- Origin and ingress of the last complete Sync (t1, t2); sequence and egress of the last Delay_Req (t3). -/
  t1 : Int := 0
  t2 : Int := 0
  t3 : Option (Nat × Int) := none
  /-- Ticks since the last accepted Sync and Announce. -/
  syncAge : Nat := 0
  announceAge : Nat := 0
  /-- Sequences sent. -/
  sequence : Nat := 0
  deriving DecidableEq, Repr

/-- Time: the tick's discipline, holdover, returns and steps. -/
structure Time where
  /-- 0x2100:01 to :08. -/
  valid : Bool := false
  discipline : Nat := 3
  error : Nat := 0xFFFFFFFF
  quality : Nat := 5
  declared : U32 := 0
  lastStep : Int := 0
  steps : U32 := 0
  switches : U32 := 0
  bases : Table Base := []
  ports : Table PtpPort := []
  /-- Error at the loss and ticks since it, in holdover (R352). -/
  e0 : Nat := 0xFFFFFFFF
  since : Nat := 0
  /-- Offset still to be slewed away, source time minus tick time, ns, and its part below 1 ns per tick in 1/50 ns (R355). -/
  remaining : Int := 0
  part : Int := 0
  /-- The owner asks to return from TB2 to TB1 (R347). -/
  goTb1 : Bool := false
  /-- The returned source has been measured: mean offset over its first 50 locked ticks (R354). -/
  measured : Option Int := none
  /-- Declared step: its Δ, whether the last ledger cutoff confirmed it, and whether one must be declared again (R356, R357). -/
  step : Option Int := none
  confirmed : Bool := false
  again : Bool := false
  /-- Numbering base in force (R343). -/
  numbering : Nat := 0
  /-- TAI minus UTC as the GPS navigation message gave it (R350). -/
  utcOffset : Option Int := none
  /-- 0x2105:06, :07; last PPS_OUT edge (R361). -/
  ppsOffset : Int := 0
  ppsRejected : U32 := 0
  /-- The last edge on PPS_IN was used (R363). -/
  ppsIn : Bool := false
  ppsLast : Option Int := none
  deriving DecidableEq, Repr

/-! ## Firmware update, settings store and recovery (16) -/

/-- An image in a slot or named by a manifest (R473). -/
structure Image where
  id : Nat
  version : U32
  length : Nat
  count : Nat
  schema : Nat
  low : Nat
  high : Nat
  /-- Digest of the manifest (R473), and the data of the body records stored, by record index (R475). -/
  digest : Bytes := []
  bodies : List (Nat × Bytes) := []
  deriving DecidableEq, Repr

/-- A settings area (R491): role 0 free, 1 in force, 2 pinned, 3 quarantined; header, fill and content. -/
structure Area where
  role : Nat := 0
  /-- Schema and firmware version of the writer; none: the image of manufacture. -/
  schema : Option Nat := none
  writer : Option U32 := none
  /-- Generation of the base, and of the last journal record. -/
  base : U32 := 0
  last : U32 := 0
  /-- Bytes of base and of journal. -/
  baseBytes : Nat := 0
  journal : Nat := 0
  values : Table Int := []
  antenna : Bytes := []
  antennaSerial : Bytes := []
  /-- A reference position has been written (R87). -/
  positionSet : Bool := false
  credentials : Table Bytes := []
  deriving DecidableEq, Repr

/-- The update record, the slots, the settings store, and the transfers that feed them (R473 to R505). -/
structure Update where
  /-- Slot that runs, 0 or 1; images of the slots: an unlisted slot 0 holds the image of manufacture, an unlisted slot 1
  none. -/
  running : Nat := 0
  slots : Table Image := []
  /-- Slot 0 no longer holds the image of manufacture. -/
  emptied : Bool := false
  /-- 0x2800:0B: 0 none, 1 on trial, 2 reverted, 3 not migrated; seconds of trial; failed boots (0x2800:0F). -/
  trial : Nat := 0
  trialSeconds : Nat := 0
  failedBoots : Nat := 0
  /-- 0x2800:03: 0 none, 1 receiving, 2 verified, 3 expired, 4 failed; its manifest, its bitmap as a number, its age, ms. -/
  download : Nat := 0
  manifest : Option Image := none
  bits : Nat := 0
  age : Nat := 0
  verifying : Bool := false
  /-- Image that fell back unmigrated (check 3 of R483). -/
  unmigrated : Option Nat := none
  /-- Settings areas X and Y; number of the last journal record (0x2800:0D). -/
  x : Area := { role := 1 }
  y : Area := {}
  generation : U32 := 0
  /-- IPv4 address last used on P0, none stored. -/
  ipv4 : Option Nat := none
  /-- Activation and confirmation that wait for their boundary; an activation confirmed, the reset follows (R483, R484). -/
  activateDue : Option Req := none
  confirmDue : Option Req := none
  activated : Bool := false
  /-- Events to raise after the start: cause and quarantined generations of a revert (R496), schema not migrated (R495). -/
  reverted : Option (Nat × U32 × U32) := none
  failed : Option Nat := none
  /-- The image has reached device state 1 since the handover (R487). -/
  started : Bool := false
  /-- Service port: sequence of the last request, its reply frame, or its request ID and dictionary response; an Image end that waits for
  the verification (sequence, flags); container offset and length, transfer open, the part of a record received (R499, R500). -/
  lastSeq : Option Nat := none
  lastReply : Option Bytes := none
  lastId : Option Nat := none
  lastAnswer : Option Answer := none
  endDue : Option (Nat × Nat) := none
  offset : Nat := 0
  total : Nat := 0
  receiving : Bool := false
  partRecord : Bytes := []
  /-- Recovery transfer: open, its client, next block, the part of a record received (R502, R503). -/
  tftp : Bool := false
  tftpPeer : TftpPeer := { address := 0, port := 0 }
  block : Nat := 1
  tftpPart : Bytes := []
  deriving DecidableEq, Repr


/-! ## The state -/

/-- The units of the block. -/
structure Units where
  clock : Clock := {}
  time : Time := {}
  gnss : Gnss := {}
  update : Update := {}
  reference : Reference := {}
  settings : Settings := {}
  access : Access := {}
  lanes : Table Lane := []
  routes : Table Route := []
  guests : Table Guest := []
  ledger : Ledger := {}
  halt : Halt := {}
  air : Air := {}
  airLanes : Table AirLane := []
  pair : Pair := {}
  due : List Due := []
  cells : Cells := {}
  checkpoint : Checkpoint := {}
  chain : Chain := {}
  keys : Keys := {}
  disp : Disp := {}
  counters : Counters := {}
  trip : Trip := {}
  panel : Panel := {}
  lamps : Lamps := {}
  power : Power := {}
  tap : Tap := {}
  deriving DecidableEq, Repr

/-- The state of the block: its units as they stand, what the read-only entries show (the units as of the last tick
boundary, R369), and the model's own fields. -/
structure State extends Units where
  shown : Units := {}
  /-- Free values drawn so far (log entry 8): the model's own field. -/
  free : Nat := 0
  /-- What the present step puts on links and pins (log entry 2): the model's own field. -/
  out : List Output := []
  /-- Commands that wait, first in first out. -/
  pending : List Instr := []
  deriving DecidableEq, Repr

/-- The state after reset: every field at the value its declaration gives. -/
def State.reset : State := {}

end Sys2Proof.Machine
end

