-- ==== Sys2Proof/Machine/Ops.lean ====
section
/-! DEFINITION. The named operations over tables, bytes and lanes that every family shares. -/

namespace Sys2Proof.Machine

/-! ## Tables -/

/-- The value at number `k`; an unlisted number reads as its default. -/
def tget {α : Type} (d : Nat → α) : Table α → Nat → α
  | [], k => d k
  | (j, v) :: t, k => if j = k then v else if k < j then d k else tget d t k

/-- The table with `v` at number `k`: rising order is kept, and a default is not listed, nowhere in the table. -/
def tput {α : Type} [DecidableEq α] (d : Nat → α) : Table α → Nat → α → Table α
  | [], k, v => if v = d k then [] else [(k, v)]
  | (j, w) :: t, k, v =>
    if k < j then (if v = d k then (j, w) :: t else (k, v) :: (j, w) :: t)
    else if j = k then (if v = d k then t.filter (fun e => e.1 ≠ k) else (k, v) :: t)
    else (j, w) :: tput d t k v

/-- Every number of the table is above `b`, numbers rise, and no entry equals its default. -/
def tableFrom {α : Type} [DecidableEq α] (d : Nat → α) : Option Nat → Table α → Bool
  | _, [] => true
  | b, (k, v) :: t =>
    (match b with | none => true | some j => decide (j < k)) && decide (v ≠ d k) && tableFrom d (some k) t

/-- The canonical form of a table. -/
def tableWf {α : Type} [DecidableEq α] (d : Nat → α) (t : Table α) : Bool := tableFrom d none t

/-- The table after `f` at number `k`. -/
def tmod {α : Type} [DecidableEq α] (d : Nat → α) (t : Table α) (k : Nat) (f : α → α) : Table α :=
  tput d t k (f (tget d t k))

/-- The table with every listed value changed by `f`. -/
def tmap {α : Type} [DecidableEq α] (d : Nat → α) (f : α → α) (t : Table α) : Table α :=
  t.foldl (fun u e => tput d u e.1 (f e.2)) []

/-- The table of the values `f` at the numbers below `n`. -/
def tbuild {α : Type} [DecidableEq α] (d : Nat → α) (f : Nat → α) : Nat → Table α
  | 0 => []
  | n + 1 => tput d (tbuild d f n) n (f n)

/-- An option table: unlisted is none. -/
def tfind {α : Type} : Table α → Nat → Option α
  | [], _ => none
  | (j, v) :: t, k => if j = k then some v else if k < j then none else tfind t k

/-- The option table with `v` at `k`. -/
def tset {α : Type} : Table α → Nat → α → Table α
  | [], k, v => [(k, v)]
  | (j, w) :: t, k, v =>
    if k < j then (k, v) :: (j, w) :: t else if j = k then (k, v) :: t else (j, w) :: tset t k v

/-- The option table without `k`. -/
def tdel {α : Type} (t : Table α) (k : Nat) : Table α := t.filter (fun e => e.1 ≠ k)

/-- Numbers rise. -/
def rising {α : Type} : Option Nat → Table α → Bool
  | _, [] => true
  | b, (k, _) :: t => (match b with | none => true | some j => decide (j < k)) && rising (some k) t

/-! ## Bytes and numbers -/

/-- `n` bytes of an integer, little-endian, two's complement (R8). -/
def le : Nat → Int → Bytes
  | 0, _ => []
  | n + 1, v => BitVec.ofInt 8 v :: le n (v / 256)

/-- The unsigned number that little-endian bytes spell (R8). -/
def unle : Bytes → Nat
  | [] => 0
  | b :: t => b.toNat + 256 * unle t

/-- The two's complement number that little-endian bytes spell (R366). -/
def unleSigned (b : Bytes) : Int :=
  let u := unle b
  if 2 * u < 256 ^ b.length then u else (u : Int) - 256 ^ b.length

/-- Byte `k` of a string, zero past its end. -/
def byteAt (b : Bytes) (k : Nat) : Nat := (b.getD k 0).toNat

/-- The unsigned field of `n` bytes at offset `k`. -/
def field (b : Bytes) (k n : Nat) : Nat := unle ((b.drop k).take n)

/-- The signed field of `n` bytes at offset `k`. -/
def fieldSigned (b : Bytes) (k n : Nat) : Int := unleSigned ((b.drop k).take n)

/-- Bit `k` of a number. -/
def bit (v k : Nat) : Bool := v / 2 ^ k % 2 = 1

/-- A value stored with its complement: low byte the code, high byte its complement (R18, R214). -/
def coded (code : Nat) : U16 := BitVec.ofNat 16 (code % 256 + 256 * (255 - code % 256))

/-- The code of a stored value, none where the complement does not match (R10). -/
def codeOf (v : U16) : Option Nat :=
  if v = coded (v.toNat % 256) then some (v.toNat % 256) else none

/-- A 16-bit value reported with its complement in the high half (R408, R410). -/
def complemented (v : U16) : U32 := BitVec.ofNat 32 (v.toNat + 65536 * (65535 - v.toNat))

/-- Tick `a` is later than tick `b` (R11). -/
def later (a b : U32) : Bool := decide (0 < (a - b).toInt)

/-- Tick `a` is at or after tick `b` (R11). -/
def atOrAfter (a b : U32) : Bool := a = b || later a b

/-- A 32-bit count that saturates (R31). -/
def saturate (c : U32) : U32 := if c = 0xFFFFFFFF then c else c + 1

/-- A 32-bit count that saturates, as a number. -/
def saturateNat (c : Nat) : Nat := if c < 0xFFFFFFFF then c + 1 else c

/-- A 32-bit count that wraps, as a number. -/
def wrapNat (c : Nat) : Nat := (c + 1) % 4294967296

/-- One step of the CRC-32 of IEEE 802.3, reflected form. -/
def crcBit (c : U32) : U32 := if c.getLsbD 0 then (c >>> 1) ^^^ 0xEDB88320 else c >>> 1

/-- CRC-32 register after one byte. -/
def crcByte (c : U32) (b : Byte) : U32 :=
  crcBit (crcBit (crcBit (crcBit (crcBit (crcBit (crcBit (crcBit (c ^^^ b.zeroExtend 32))))))))

/-- CRC-32 of IEEE 802.3 over a byte string (R168, R491, R492). -/
def crc32 (b : Bytes) : U32 := ~~~ (b.foldl crcByte 0xFFFFFFFF)

/-- Half away from zero rounding of `a / b`, for b > 0. -/
def roundDiv (a b : Int) : Int := if 0 ≤ a then (2 * a + b) / (2 * b) else - ((2 * (-a) + b) / (2 * b))

/-- The quotient rounded up, for b > 0. -/
def ceilDiv (a b : Int) : Int := - ((-a) / b)

/-- ASCII text as bytes (R456). -/
def ascii (s : String) : Bytes := s.toList.map (fun c => BitVec.ofNat 8 c.toNat)

/-! ## Instants -/

/-- Tick-source time at the present instant, ns. -/
def State.now (s : State) : Int := s.clock.source + s.clock.offset

/-- One tick in ns (R24), and one slice. -/
def tickNs : Nat := 20000000
def sliceNs : Nat := 1000000

/-- Place of the present tick in its stage, 0 to 4 (R24). -/
def State.stagePos (s : State) : Nat := ((s.clock.source / 20000000) % 5).toNat

/-- Place of the present tick in its milestone, 0 to 49 (R24). -/
def State.milestonePos (s : State) : Nat := ((s.clock.source / 20000000) % 50).toNat

/-- The outputs of the step before are gone (log entry 2). -/
def State.begin (s : State) : State := { s with out := [] }

/-- The instant of a stamped arrival, within the tick (R36). -/
def State.stamped (n : Nat) (s : State) : State :=
  { s with clock := { s.clock with offset := max s.clock.offset n } }

/-- Put one thing on a link or pin. -/
def State.emit (o : Output) (s : State) : State := { s with out := s.out ++ [o] }

/-- Draw a free value (log entry 8). -/
def State.draw (s : State) : Nat × State := (Config.free s.free, { s with free := s.free + 1 })

/-! ## Lanes -/

/-- The lane states of R17. -/
inductive LaneState where
  | vacant | admitting | parked | moving | holding | stopped | halted | handingOver | releasing
  deriving DecidableEq, Repr

/-- Code of a lane state (R17). -/
def LaneState.code : LaneState → Nat
  | .vacant => 0 | .admitting => 1 | .parked => 2 | .moving => 3 | .holding => 4
  | .stopped => 5 | .halted => 6 | .handingOver => 7 | .releasing => 8

/-- The lane state of a code (R17). -/
def LaneState.ofCode : Nat → Option LaneState
  | 0 => some .vacant | 1 => some .admitting | 2 => some .parked | 3 => some .moving | 4 => some .holding
  | 5 => some .stopped | 6 => some .halted | 7 => some .handingOver | 8 => some .releasing | _ => none

/-- The stored form of a lane state (R18). -/
def LaneState.stored (l : LaneState) : U16 := coded l.code

/-- The lane state of a stored value; none where it fails its complement check or is not used (R17, R19). -/
def laneStateOf (v : U16) : Option LaneState := (codeOf v).bind LaneState.ofCode

/-- The record of lane `n`. -/
def State.lane (s : State) (n : Nat) : Lane := tget (fun _ => {}) s.lanes n

/-- The state with the record of lane `n` replaced. -/
def State.setLane (s : State) (n : Nat) (l : Lane) : State :=
  { s with lanes := tput (fun _ => {}) s.lanes n l }

/-- The state after `f` on the record of lane `n`. -/
def State.onLane (s : State) (n : Nat) (f : Lane → Lane) : State := s.setLane n (f (s.lane n))

/-- The lane is in the given state, its stored value valid. -/
def State.laneIs (s : State) (n : Nat) (l : LaneState) : Bool := laneStateOf (s.lane n).state = some l

/-- The route record of lane `n`. -/
def State.route (s : State) (n : Nat) : Route := tget (fun _ => {}) s.routes n

/-- The state after `f` on the route record of lane `n`. -/
def State.onRoute (s : State) (n : Nat) (f : Route → Route) : State :=
  { s with routes := tmod (fun _ => {}) s.routes n f }

/-- Lanes 0 to 191 (R15). -/
def allLanes : List Nat := List.range 192

/-- The lane counts as not VACANT: any stored value but VACANT, a failed complement included (R19). -/
def Lane.occupied (l : Lane) : Bool := laneStateOf l.state ≠ some .vacant

/-- The lane counts as moving: MOVING, HOLDING, HANDING_OVER, or a failed complement (R19, R404). -/
def Lane.counts (l : Lane) : Bool :=
  match laneStateOf l.state with
  | none => true
  | some .moving => true
  | some .holding => true
  | some .handingOver => true
  | _ => false

/-- Numbers of the lanes the table lists: every other lane stands at its reset record, VACANT. -/
def Units.listed (u : Units) : List Nat := u.lanes.map (·.1)

/-- Every lane is VACANT and none is reserved for a guest: the guard "All VACANT" of R404. -/
def Units.allVacant (u : Units) : Bool := u.lanes.all (fun e => !e.2.occupied && !e.2.reserved)

/-- No lane counts as moving: the guard "Not moving" of R404. -/
def Units.notMoving (u : Units) : Bool := u.lanes.all (fun e => !e.2.counts)

/-- Lanes not VACANT, 0x2000:08. -/
def Units.lanesInUse (u : Units) : Nat := (u.lanes.filter (fun e => e.2.occupied)).length

/-- Lanes moving, 0x2000:09. -/
def Units.lanesMoving (u : Units) : Nat := (u.lanes.filter (fun e => e.2.counts)).length

/-- Lanes reserved for guests, 0x2013:14. -/
def Units.lanesReserved (u : Units) : Nat := (u.lanes.filter (fun e => e.2.reserved)).length

end Sys2Proof.Machine
end

