-- ==== Sys2Proof/Machine/Geometry.lean ====
section
/-! DEFINITION. Plane geometry of the site frame in integers: sine and cosine, boxes, polygons and leg geometry
(05 R140 to R145, R155, R171; 06 R185). Points are in 1/65,536 mm; angles in 2^-32 turn clockwise from grid north
(log entry 7). -/

namespace Sys2Proof

open Machine

/-- A point, in 1/65,536 mm: east and north. -/
abbrev Point := Int × Int

/-! ## Sine and cosine -/

/-- Sine of `x` / 2^30 of a quarter turn, scaled by 2^40: the Taylor polynomial to degree 17. -/
def quarterSine (x : Int) : Int :=
  let one : Int := 1099511627776
  let r := x * 1727108826179 / 1073741824
  let r2 := r * r / one
  let t := [8, 7, 6, 5, 4, 3, 2, 1].foldl (fun (t k : Int) => one - r2 * t / (one * (2 * k) * (2 * k + 1))) one
  r * t / one

/-- Sine of an angle, scaled by 2^40. -/
def sine (a : Int) : Int :=
  let q := a % 4294967296
  let x := q % 1073741824
  if q < 1073741824 then quarterSine x
  else if q < 2147483648 then quarterSine (1073741824 - x)
  else if q < 3221225472 then - quarterSine x
  else - quarterSine (1073741824 - x)

/-- Cosine of an angle, scaled by 2^40. -/
def cosine (a : Int) : Int := sine (a + 1073741824)

/-- An angle of 1/65,536 turn in 2^-32 turn. -/
def fine (h : Int) : Int := h * 65536

/-- `c` moved `a` along u and `b` along v of heading `h` (R145); all lengths in 1/65,536 mm, `h` in 2^-32 turn. -/
def moved (c : Point) (h a b : Int) : Point :=
  let s := sine h
  let k := cosine h
  (c.1 + (a * s + b * k) / 1099511627776, c.2 + (a * k - b * s) / 1099511627776)

/-- The components along u and v of heading `h` of the vector `d`. -/
def resolve (d : Point) (h : Int) : Int × Int :=
  let s := sine h
  let k := cosine h
  ((d.1 * s + d.2 * k) / 1099511627776, (d.1 * k - d.2 * s) / 1099511627776)

/-! ## Polygons -/

/-- Twice the signed area of a triangle. -/
def cross (a b c : Point) : Int := (b.1 - a.1) * (c.2 - a.2) - (b.2 - a.2) * (c.1 - a.1)

/-- `c` lies in the bounding rectangle of `a` and `b`. -/
def within (a b c : Point) : Bool :=
  decide (min a.1 b.1 ≤ c.1) && decide (c.1 ≤ max a.1 b.1) && decide (min a.2 b.2 ≤ c.2) && decide (c.2 ≤ max a.2 b.2)

/-- Two closed segments meet. -/
def segmentsMeet (a b c d : Point) : Bool :=
  let p := cross a b c
  let q := cross a b d
  let r := cross c d a
  let t := cross c d b
  (decide (p.sign * q.sign < 0) && decide (r.sign * t.sign < 0)) ||
    (decide (p = 0) && within a b c) || (decide (q = 0) && within a b d) ||
    (decide (r = 0) && within c d a) || (decide (t = 0) && within c d b)

/-- Edges of a closed polygon, from the last vertex back to the first (R155). -/
def edges (l : List Point) : List (Point × Point) :=
  match l with
  | [] => []
  | a :: t => l.zip (t ++ [a])

/-- `p` lies inside by the even-odd rule; points of the boundary are decided by segmentsMeet. -/
def insideOdd (p : Point) (l : List Point) : Bool :=
  ((edges l).filter (fun e =>
    (decide (e.1.2 ≤ p.2) != decide (e.2.2 ≤ p.2)) &&
      (if e.1.2 < e.2.2 then decide (0 < cross e.1 e.2 p) else decide (cross e.1 e.2 p < 0)))).length % 2 = 1

/-- `p` lies on the boundary. -/
def onBoundary (p : Point) (l : List Point) : Bool := (edges l).any (fun e => cross e.1 e.2 p = 0 && within e.1 e.2 p)

/-- Two closed polygons meet (R145): edges meet, or one contains the other. -/
def polygonsMeet (p q : List Point) : Bool :=
  (edges p).any (fun e => (edges q).any (fun f => segmentsMeet e.1 e.2 f.1 f.2)) ||
    (match p with | [] => false | a :: _ => insideOdd a q) || (match q with | [] => false | a :: _ => insideOdd a p)

/-! ### Areas of intersections, exactly

A simple polygon is the signed sum of the triangles that its edges form with the origin, so the area that polygons share is
the signed sum over those triangles, each pair of which is a convex clip. -/

/-- A point with rational coordinates. -/
abbrev RPoint := Rat × Rat

/-- Twice the signed area of a triangle of rational points. -/
def rcross (a b c : RPoint) : Rat := (b.1 - a.1) * (c.2 - a.2) - (b.2 - a.2) * (c.1 - a.1)

/-- A closed list's consecutive pairs. -/
def around {α : Type} (l : List α) : List (α × α) := l.zip (l.tail ++ l.take 1)

/-- The part of a convex polygon to the left of the line from `a` to `b`. -/
def clipHalf (a b : RPoint) (l : List RPoint) : List RPoint :=
  (around l).flatMap (fun e =>
    let p := rcross a b e.1
    let q := rcross a b e.2
    let t := p / (p - q)
    let cut := (e.1.1 + t * (e.2.1 - e.1.1), e.1.2 + t * (e.2.2 - e.1.2))
    if 0 ≤ p then (if 0 ≤ q then [e.1] else [e.1, cut]) else (if 0 < q then [cut] else []))

/-- The part of a convex polygon inside a convex polygon whose vertices turn left. -/
def clipTo (c l : List RPoint) : List RPoint := (around c).foldl (fun m e => clipHalf e.1 e.2 m) l

/-- Twice the signed area of a polygon. -/
def area2 (l : List RPoint) : Rat := ((around l).map (fun e => e.1.1 * e.2.2 - e.1.2 * e.2.1)).sum

/-- A point with rational coordinates. -/
def ratPoint (p : Point) : RPoint := (p.1, p.2)

/-- A polygon's triangles with the origin, each turning left, with their signs; the polygon itself counts as turning left. -/
def fan (l : List Point) : List (Rat × List RPoint) :=
  let turn : Rat := if area2 (l.map ratPoint) < 0 then -1 else 1
  (around (l.map ratPoint)).map (fun e =>
    if rcross (0, 0) e.1 e.2 < 0 then (-turn, [(0, 0), e.2, e.1]) else (turn, [(0, 0), e.1, e.2]))

/-- Twice the area two polygons share. -/
def sharedArea (p q : List Point) : Rat :=
  ((fan p).flatMap (fun a => (fan q).map (fun b => a.1 * b.1 * area2 (clipTo a.2 b.2)))).sum

/-- Twice the area three polygons share. -/
def sharedArea3 (p q r : List Point) : Rat :=
  ((fan p).flatMap (fun a => (fan q).flatMap (fun b => (fan r).map (fun c =>
    a.1 * b.1 * c.1 * area2 (clipTo a.2 (clipTo b.2 c.2)))))).sum

/-- Two polygons share interior points (R171). -/
def polygonsOverlap (p q : List Point) : Bool := decide (0 < sharedArea p q)

/-- The polygon `p` lies wholly inside the closed polygon `q`: none of its area is outside. -/
def whollyInside (p q : List Point) : Bool := decide (sharedArea p q = sharedArea p p)

/-- The polygon `p` lies in the union of two closed polygons: none of its area is outside both (R172). -/
def insideUnion (p a b : List Point) : Bool :=
  decide (sharedArea p a + sharedArea p b - sharedArea3 p a b = sharedArea p p)

/-- Pairs of edges that are not neighbours, and pairs that are. -/
def edgePairs (l : List (Point × Point)) : List ((Point × Point) × (Point × Point)) :=
  match l with
  | [] => []
  | e :: t => t.map (fun f => (e, f)) ++ edgePairs t

/-- Two edges of a polygon are in conflict: without a common end they meet, with one they fold back on each other. -/
def edgesClash (e f : Point × Point) : Bool :=
  if e.2 = f.1 then decide (cross e.1 e.2 f.2 = 0) && (within e.1 e.2 f.2 || within f.1 f.2 e.1)
  else if f.2 = e.1 then decide (cross f.1 f.2 e.2 = 0) && (within f.1 f.2 e.2 || within e.1 e.2 f.1)
  else segmentsMeet e.1 e.2 f.1 f.2

/-- The polygon is simple: no vertex repeats and no edge crosses another (R155). -/
def simplePolygon (l : List Point) : Bool :=
  decide l.Nodup && !(edgePairs (edges l)).any (fun p => edgesClash p.1 p.2)

/-! ## Boxes -/

/-- Limits of a along u, in mm (R145). -/
def Envelope.span (e : Envelope) : Int × Int :=
  match e.kind with
  | 1 => (- (e.halfLen : Int), e.halfLen + e.tail)
  | 2 => (- (e.halfLen : Int) - e.tail, e.halfLen)
  | _ => (- (e.halfLen : Int), e.halfLen)

/-- Centre of an envelope. -/
def Envelope.centre (e : Envelope) : Point := (e.east * 65536, e.north * 65536)

/-- Corners of the box, each side moved outward by `pad` mm; none for kind 0 (R144, R145). -/
def Envelope.corners (pad : Int) (e : Envelope) : List Point :=
  if e.kind = 0 then []
  else
    let lo := (e.span.1 - pad) * 65536
    let hi := (e.span.2 + pad) * 65536
    let w := ((e.halfWid : Int) + pad) * 65536
    [moved e.centre (fine e.heading) lo (-w), moved e.centre (fine e.heading) hi (-w),
     moved e.centre (fine e.heading) hi w, moved e.centre (fine e.heading) lo w]

/-- Outward rounding of the ledger engine: 1 mm, within the 2 mm R145 allows (log entry 7). -/
def outward : Int := 1

/-- Two envelopes' boxes meet, rounding outward (R145). -/
def envelopesMeet (a b : Envelope) : Bool :=
  a.kind ≠ 0 && b.kind ≠ 0 && polygonsMeet (a.corners outward) (b.corners 0)

/-- An envelope's box meets an area, rounding outward (R145, R156, R157). -/
def envelopeMeets (a : Envelope) (area : List Point) : Bool := a.kind ≠ 0 && polygonsMeet (a.corners outward) area

/-- An envelope lies wholly inside a region; no vertices stand for the whole site frame (R171, R172). -/
def envelopeInside (a : Envelope) (region : List Point) : Bool :=
  a.kind = 0 || region.isEmpty || whollyInside (a.corners outward) region

/-- An envelope lies wholly outside a region (R172). -/
def envelopeOutside (a : Envelope) (region : List Point) : Bool :=
  a.kind = 0 || (!region.isEmpty && !polygonsMeet (a.corners outward) region)

/-- Bounding rectangles of two point lists meet: the culling of R165. -/
def rectsMeet (p q : List Point) : Bool :=
  match p, q with
  | a :: s, b :: t =>
    let lo := fun (f : Point → Int) (a : Point) (l : List Point) => l.foldl (fun m x => min m (f x)) (f a)
    let hi := fun (f : Point → Int) (a : Point) (l : List Point) => l.foldl (fun m x => max m (f x)) (f a)
    decide (lo (·.1) a s ≤ hi (·.1) b t) && decide (lo (·.1) b t ≤ hi (·.1) a s) &&
      decide (lo (·.2) a s ≤ hi (·.2) b t) && decide (lo (·.2) b t ≤ hi (·.2) a s)
  | _, _ => false

/-- How far a point in mm lies outside the box of an envelope, in mm, rounded up; 0 inside (R154). -/
def Envelope.outside (e : Envelope) (east north : Int) : Nat :=
  let d := resolve ((east - e.east) * 65536, (north - e.north) * 65536) (fine e.heading)
  let da := max 0 (max (e.span.1 * 65536 - d.1) (d.1 - e.span.2 * 65536))
  let db := max 0 (max (- (e.halfWid : Int) * 65536 - d.2) (d.2 - (e.halfWid : Int) * 65536))
  (Nat.sqrt (da * da + db * db).toNat + 65535) / 65536

/-! ## Legs -/

/-- A pose with full precision: point, and body heading in 2^-32 turn. -/
structure FinePose where
  at' : Point
  heading : Int
  deriving DecidableEq, Repr

/-- A pose as computed. -/
def Pose.fine (p : Pose) : FinePose := { at' := (p.east * 65536, p.north * 65536), heading := Sys2Proof.fine p.heading }

/-- A computed pose rounded to whole millimetres and units of heading (R192). -/
def FinePose.rounded (p : FinePose) : Pose :=
  { east := roundDiv p.at'.1 65536, north := roundDiv p.at'.2 65536, heading := (roundDiv p.heading 65536 % 65536).toNat }

/-- The leg is travelled rear first (R184). -/
def Leg.backward (l : Leg) : Bool := bit l.flags 0

/-- Turn of the tangent after `s` µm of a leg, in 2^-32 turn: curvature runs linearly from κ0 to κ1 (R185). -/
def Leg.turn (l : Leg) (s : Int) : Int :=
  (2 * l.length * l.k0 * s + (l.k1 - l.k0) * s * s) * 683565275576 / (2 * l.length * 1000000000000000)

/-- Displacement over `s` µm of a leg from tangent `h`, in 1/65,536 mm: exact for a line, Simpson's rule on panels of at
most 100 mm otherwise (log entry 7). -/
def Leg.displace (l : Leg) (h s : Int) : Point :=
  if l.k0 = 0 ∧ l.k1 = 0 then
    (s * 65536 * sine h / (1000 * 1099511627776), s * 65536 * cosine h / (1000 * 1099511627776))
  else
    let m := (s / 100000).toNat + 1
    let ang := fun k : Nat => h + l.turn (s * k / (2 * m))
    let w := fun k : Nat => if k = 0 ∨ k = 2 * m then (1 : Int) else if k % 2 = 1 then 4 else 2
    let sum := (List.range (2 * m + 1)).foldl
      (fun (p : Point) k => (p.1 + w k * sine (ang k), p.2 + w k * cosine (ang k))) (0, 0)
    (sum.1 * s * 65536 / (6 * m * 1000 * 1099511627776), sum.2 * s * 65536 / (6 * m * 1000 * 1099511627776))

/-- The pose after `s` µm of a leg that starts at `p`: body heading and tangent differ by half a turn on a backward leg
(R185). -/
def Leg.poseAt (l : Leg) (p : FinePose) (s : Int) : FinePose :=
  let h := if l.backward then p.heading + 2147483648 else p.heading
  let d := l.displace h s
  { at' := (p.at'.1 + d.1, p.at'.2 + d.2), heading := (p.heading + l.turn s) % 4294967296 }

/-- The pose at arc length `σ` µm of a route (R185); at or past its end, the end pose. -/
def poseOn (start : FinePose) : List Leg → Int → FinePose
  | [], _ => start
  | l :: t, s => if s ≤ l.length then l.poseAt start s else poseOn (l.poseAt start l.length) t (s - l.length)

/-- Length of a route in µm. -/
def routeLength (l : List Leg) : Nat := (l.map (·.length)).sum

/-- Squared distance of two points, in 1/65,536 mm squared. -/
def dist2 (a b : Point) : Int := (a.1 - b.1) * (a.1 - b.1) + (a.2 - b.2) * (a.2 - b.2)

/-- Two points lie within `mm` of each other. -/
def near (a b : Point) (mm : Int) : Bool := decide (dist2 a b ≤ (mm * 65536) * (mm * 65536))

/-- Two headings differ by at most `u` units of 1/65,536 turn. -/
def headingNear (a b : Int) (u : Int) : Bool :=
  let d := (a - b) % 4294967296
  decide (d ≤ u * 65536) || decide (4294967296 - d ≤ u * 65536)

end Sys2Proof
end

