-- ==== Sys2Proof/Machine/Entries.lean ====
section
/-! DEFINITION. The object dictionary: type, access, writing roles, default and range of every entry, index by index
(R403 and the entry table of each chapter). -/

namespace Sys2Proof.Machine

/-- Data types of R366. -/
inductive Ty where
  | bool | u8 | u16 | u32 | u64 | i8 | i16 | i32 | i64
  | text (max : Nat)
  | domain (max : Nat)
  deriving DecidableEq, Repr

/-- Access of an entry (R369). -/
inductive Acc where
  | ro | rw | wo | const
  deriving DecidableEq, Repr

/-- Guards on a write that several entries share (R404, R179, R181, R212, R414). -/
inductive Guard where
  | free
  | allVacant
  | notMoving
  | notMovingNorReserved
  | laneVacant
  | notMovingToDisable
  | unitDisabled
  deriving DecidableEq, Repr

/-- One entry. -/
structure Entry where
  ty : Ty
  acc : Acc
  /-- Writing roles: bit 0 O, 1 P, 2 L, 3 W, 4 S. -/
  write : Nat := 0
  dflt : Int := 0
  lo : Int := 0
  hi : Int := 0
  /-- The only values allowed, where not a range. -/
  only : List Int := []
  guard : Guard := .free
  /-- Safety class (R368). -/
  safety : Bool := false
  deriving DecidableEq, Repr

/-- Role bits. -/
def roleO : Nat := 1
def roleP : Nat := 2
def roleL : Nat := 4
def roleW : Nat := 8
def roleS : Nat := 16

/-- Size in bytes of a fixed-size type (R366). -/
def Ty.size : Ty → Option Nat
  | .bool => some 1 | .u8 => some 1 | .i8 => some 1 | .u16 => some 2 | .i16 => some 2
  | .u32 => some 4 | .i32 => some 4 | .u64 => some 8 | .i64 => some 8
  | .text _ => none | .domain _ => none

/-- The type is two's complement. -/
def Ty.signed : Ty → Bool
  | .i8 => true | .i16 => true | .i32 => true | .i64 => true | _ => false

/-- The type is DOMAIN. -/
def Ty.isDomain : Ty → Bool
  | .domain _ => true | _ => false

/-- Least and greatest value of a type. -/
def Ty.range : Ty → Int × Int
  | .bool => (0, 1) | .u8 => (0, 255) | .u16 => (0, 65535) | .u32 => (0, 4294967295)
  | .u64 => (0, 18446744073709551615) | .i8 => (-128, 127) | .i16 => (-32768, 32767)
  | .i32 => (-2147483648, 2147483647) | .i64 => (-9223372036854775808, 9223372036854775807)
  | .text _ => (0, 0) | .domain _ => (0, 0)

/-- A read-only entry. -/
def ro (ty : Ty) : Entry := { ty := ty, acc := .ro }

/-- An entry fixed at manufacture. -/
def cst (ty : Ty) : Entry := { ty := ty, acc := .const }

/-- A write-only entry. -/
def wo (ty : Ty) (w : Nat) : Entry := { ty := ty, acc := .wo, write := w, lo := ty.range.1, hi := ty.range.2 }

/-- A setting with a range. -/
def rw' (ty : Ty) (w : Nat) (d lo hi : Int) : Entry := { ty := ty, acc := .rw, write := w, dflt := d, lo := lo, hi := hi }

/-- A setting written by the owner. -/
def rwW (ty : Ty) (d lo hi : Int) : Entry := rw' ty roleW d lo hi

/-- A BOOLEAN written by the owner. -/
def rwB (d : Int) : Entry := rwW .bool d 0 1

/-- A setting over the whole range of its type, written by the owner. -/
def rwAll (ty : Ty) (d : Int) : Entry := rwW ty d ty.range.1 ty.range.2

/-- The entry under a guard. -/
def Entry.under (e : Entry) (g : Guard) : Entry := { e with guard := g }

/-- The entry with a list of allowed values. -/
def Entry.among (e : Entry) (l : List Int) : Entry := { e with only := l }

/-- Entries numbered from `k` on. -/
def numbered (k : Nat) : List Entry → List (Nat × Entry)
  | [] => []
  | e :: t => (k, e) :: numbered (k + 1) t

/-- Vertex counts allowed: 0, or 3 to 32 (R155, R171). -/
def vertexCounts : List Int := 0 :: (List.range 30).map (fun k => (k : Int) + 3)

/-! ## Communication, device, access (12, 13) -/

def entries1000 : Nat → List (Nat × Entry)
  | 0x1000 => [(0, cst .u32)]
  | 0x1001 => [(0, ro .u8)]
  | 0x1003 => (0, rw' .u8 roleP 0 0 0) :: numbered 1 (List.replicate 8 (ro .u32))
  | 0x1008 => [(0, cst (.text 15))]
  | 0x1009 => [(0, cst (.text 1))]
  | 0x100A => [(0, ro (.text 15))]
  | 0x1014 => [(0, ro .u32)]
  | 0x1015 => [(0, rwAll .u16 0)]
  | 0x1017 => [(0, (rwW .u16 1000 0 65535))]
  | 0x1018 => numbered 1 [cst .u32, cst .u32, ro .u32, cst .u32]
  | _ => []

def entries2000 : Nat → List (Nat × Entry)
  | 0x2000 => numbered 1 [cst .u64, cst .u8, cst .u8, ro .u32, ro .u8, ro .u32, ro .bool, ro .u8, ro .u8, ro .u32, ro .u8]
  | 0x2001 => [(1, wo .u16 (roleW + roleS))]
  | 0x2002 => [(1, wo .u8 roleP)]
  | 0x2003 => [(1, rwW .u16 60 1 600), (2, rwW .u8 10 1 60)]
  | 0x2010 => numbered 1 [(rwAll .i64 0).under .allVacant, (rwAll .i64 0).under .allVacant,
      (rwAll .i64 0).under .allVacant, (rwAll .u16 0).under .allVacant]
  | 0x2011 => numbered 1 [((rwW .u16 1024 256 2048).among [256, 512, 768, 1024, 1280, 1536, 1792, 2048]).under
        .notMovingNorReserved, rwW .u16 150 100 1000, rwW .u8 2 2 10] ++ numbered 0x10 (List.replicate 8 (ro .u32))
  | 0x2012 => (1, ((rwW .u8 0 0 32).among vertexCounts).under .notMovingNorReserved) ::
      numbered 0x10 (List.replicate 64 ((rwAll .i32 0).under .notMovingNorReserved))
  | 0x2013 => numbered 1 (List.replicate 8 ((rwW .u8 0 0 16).under .notMovingNorReserved)) ++
      numbered 0x10 [ro .u32, ro .u32, ro .u32, ro .u32, ro .u8]
  | 0x2020 => [(1, wo (.domain 1384) (roleO + roleP + roleL))]
  | 0x2021 => numbered 1 (List.replicate 127 (rwW .u8 1 0 7))
  | 0x2022 => numbered 1 [rwW .u16 30 5 3600, rwB 1, rwB 1, ro .u8, ro .u32, ro .u32, ro .u32, ro .u32]
  | _ => []

/-! ## Time (11) and halt (07) -/

def ptpPort : List (Nat × Entry) :=
  numbered 1 [rwW .u8 0 0 3, rwW .u8 0 0 127, rwW .u8 0 0 1, rwW .u8 0 0 1, rwW .i8 (-3) (-4) 1, rwW .i8 (-3) (-4) 2,
    rwW .i8 0 (-3) 3, rwW .u8 3 2 10, rwW .u16 0 0 10000, rwW .u16 0 0 10000, rwW .i32 0 (-100000) 100000,
    rwAll .u8 128, rwAll .u8 128] ++ numbered 0x10 [ro .u8, ro .i64, ro .i32]

def entries2100 : Nat → List (Nat × Entry)
  | 0x2100 => numbered 1 [ro .bool, ro .u8, ro .u32, ro .u8, ro .u32, ro .i64, ro .u32, ro .u32]
  | 0x2101 => numbered 1 [(rwW .u8 0 0 1).under .allVacant, rwB 1, rwB 0, rwW .u32 1000 100 1000000, rwW .u8 100 10 100,
      rwW .u32 10000 10 1000000, rwW .u32 1000 0 100000, rwW .u16 0 0 5000, wo .u8 roleW]
  | 0x2103 => ptpPort
  | 0x2104 => ptpPort
  | 0x2105 => numbered 1 [rwB 1, (rwW .u8 255 0 255).among [0, 1, 2, 3, 255], rwW .u16 100 1 500,
      rwW .i32 0 (-100000) 100000, rwB 0, ro .i32, ro .u32]
  | 0x2110 => numbered 1 [ro .u8, ro .i64, ro .u32, ro .i64]
  | 0x2111 => numbered 1 [ro .u8, ro .i64, ro .u32, ro .i64]
  | 0x2112 => numbered 1 [ro .u8, ro .i64, ro .u32, ro .i64]
  | 0x2113 => numbered 1 [ro .u8, ro .i64, ro .u32, ro .i64]
  | 0x2201 => [(1, { wo .u32 (roleP + roleL + roleW) with safety := true }), (2, { wo .u32 roleP with safety := true })]
  | 0x2202 => numbered 1 [rwW .u8 0 0 2, rwW .u16 30 5 300, rwW .u8 3 2 3, rwW .u8 3 2 3,
      (rwB 1).under .notMovingToDisable, (rwB 1).under .notMovingToDisable, (rwB 1).under .notMovingToDisable,
      (rwB 1).under .notMovingToDisable]
  | 0x2203 => numbered 1 (List.replicate 6 (rwAll .u32 0))
  | 0x2210 => numbered 1 [ro .u16, ro .u16, ro .u16, ro .u8, ro .u16, ro .u16, ro .u32, ro .u32, ro .u32, ro .bool]
  | 0x2211 => numbered 1 (List.replicate 6 (ro .u32))
  | _ => []

/-! ## GNSS, reference, corrections, checkpoint (02, 03, 04) -/

def entries2300 : Nat → List (Nat × Entry)
  | 0x2301 => numbered 1 [rwB 1, rwB 0, rwW .u8 2 0 2, rwW .u8 0 0 1]
  | 0x2302 => numbered 1 [rwW .u16 5 1 250, rwW .u16 120 1 250, rwW .u16 5 1 250, rwW .u16 120 1 250, rwW .u8 0 0 1,
      rwB 1, rwB 1, ro .u8, ro .u16, ro .u8, ro .u16]
  | 0x2303 => numbered 1 [rwW .u8 0x0F 0 0x0F, rwW .u8 0 0 1, rwW .u16 50 0 300]
  | 0x2304 => numbered 1 [rwW .u8 3 2 3, rwW .u16 100 20 300, rwW .u8 2 1 2, rwW .u16 50 10 200, rwW .u16 50 5 200,
      rwW .u8 8 4 64, rwW .u8 0 0 1]
  | 0x2305 => numbered 1 [rwW .u8 0x0F 0 0x0F, ro .u8, ro .u32]
  | 0x2306 => numbered 1 ([rwW .u8 1 0 2, rwAll .i64 0, rwAll .i64 0, rwAll .i64 0, rwAll .u16 0] ++
      List.replicate 6 (rwAll .i16 0) ++ [ro .u8, ro .u8])
  | 0x2307 => numbered 1 [rwW .u32 3600 300 86400, rwW .u16 600 100 10000, rwW .u32 86400 600 172800, rwB 1, wo .u8 roleW,
      ro .u32, ro .u16, ro .i64, ro .i64, ro .i64, ro .bool]
  | 0x2308 => numbered 1 [rwW .u16 100 0 450, rwW .u16 3000 500 20000, rwW .u16 20 5 200, rwW .u16 20 5 200,
      rwW .u16 50 5 500, rwW .u8 6 5 12, rwW .u16 2000 300 10000, rwW .u64 0 0 4294967295, rwW .u64 0 0 68719476735,
      rwW .u64 0 0 35184372088831, rwW .u64 0 0 1023, rwB 0, rwW .u16 30 10 200]
  | 0x2309 => numbered 1 [ro .bool, ro .u8, ro .u8, ro .u8, ro .u16]
  | 0x230A => numbered 1 (List.replicate 64 (ro .u32))
  | 0x230B => numbered 1 [rwW .u16 300 150 1000, rwW .u8 6 5 12, rwW .u16 15000 100 30000, rwW .u16 15 5 50,
      rwW .u16 75 50 500, ro .u32, ro .u32, ro .u8]
  | 0x230C => numbered 1 (List.replicate 80 (ro .u32))
  | 0x2401 => numbered 1 [(rwW .u8 10 1 10).among [1, 2, 5, 10], ro .u8, ro .u32, ro .u32]
  | 0x2402 => numbered 1 ([rwW .u16 0 0 4095] ++ List.replicate 4 ((rwW .u8 7 0 7).among [0, 4, 7]) ++
      [(rwW .u8 1 1 10).among [1, 2, 5, 10], rwW .u8 2 0 2, rwW .u8 10 1 60, rwW .u8 30 0 60,
       rwW (.text 31) 0 0 0, rwW (.text 31) 0 0 0, rwAll .u8 0])
  | _ => []

/-! ## Air (08, 09, 10) -/

def entries2500 : Nat → List (Nat × Entry)
  | 0x2500 => [(1, rwAll .u32 0)]
  | 0x2501 => numbered 1 [rwW .u8 1 0 255, rwW .u8 5 0 255, rwW .u8 9 0 255, rwW .u8 13 0 255, rwW .u8 3 0 6,
      rwW .u8 2 0 6, rwW .i8 (-6) (-46) (-6), rwW .u8 20 0 20, rwW .i8 12 (-10) 30, rwW .u8 0 0 1] ++
      numbered 0x10 (List.replicate 4 (ro .u32))
  | 0x2502 => numbered 1 [rwW .u8 0 0 1, rwW .i8 8 (-40) 8, ro .u8, ro .u32]
  | 0x2503 => numbered 1 [rwW .u8 4 2 20, rwW .u8 2 1 19]
  | 0x2504 => numbered 1 [rwW .u8 0 0 15, rwW .u8 3 2 50, ro .u32, ro .u32, ro .u32, ro .u32, ro .u32]
  | 0x2505 => numbered 1 (List.replicate 24 (ro .u32))
  | 0x2506 => numbered 1 (List.replicate 6 (rwAll .u32 0))
  | 0x2507 => numbered 1 [rwW .u8 8 2 16, rwW .u8 2 1 5, ro .u32, ro .u32, ro .u32, ro .u8, ro .u32]
  | _ => []

/-! ## Pair, keys, update (13) -/

def entries2600 : Nat → List (Nat × Entry)
  | 0x2600 => numbered 1 [ro .u8, ro .u8, wo .u8 roleW, ro .bool, ro .u32]
  | 0x2601 => numbered 1 [(rwB 0).under .allVacant, ro .u8, ro .u32, cst .u8, ro .u8, wo .u8 roleW, ro .u8, ro .u32,
      ro .u32, ro .u32]
  | 0x2602 => numbered 1 [rwW .u8 10 5 50, ro .u32, ro .u32, ro .u32]
  | 0x2700 => numbered 1 [ro .u8, ro .u8, ro .u32, ro .u8, wo (.domain 64) roleW, wo .u8 roleW,
      wo (.domain 1024) (roleW + roleS), ro .u32]
  | 0x2701 => numbered 1 (List.replicate 8 (rwW (.domain 68) 0 0 0))
  | 0x2702 => [(1, cst (.domain 65))]
  | 0x2800 => numbered 1 [wo (.domain 4144) roleW, ro (.domain 4096), ro .u8, rwW .u16 30 1 365, rwB 0, wo .u8 roleW,
      rwW .u16 600 60 36000, ro .u8, ro .u32, ro .u32, ro .u8, ro .u16, ro .u32, ro .bool, ro .u8]
  | _ => []

/-! ## Counters, trip recorder, panel, power (13) -/

def entries2900 (i : Nat) : List (Nat × Entry) :=
  if i = 0x2900 then numbered 1 [wo .u8 (roleW + roleS), rw' .i64 (roleW + roleS) 0 (-9223372036854775808)
      9223372036854775807, ro .u32, ro .bool, rwB 0, rwB 0]
  else if i = 0x2901 then numbered 1 [rwB 1, rwW .u32 0xFFFFF 0 0xFFFFF]
  else if 0x2910 ≤ i ∧ i ≤ 0x2917 then numbered 1 (List.replicate 32 (rwAll .u16 0))
  else if 0x2918 ≤ i ∧ i ≤ 0x291F then numbered 1 (List.replicate 32 (rwW .u8 0 0 2))
  else if 0x2920 ≤ i ∧ i ≤ 0x2927 then numbered 1 (List.replicate 32 (rwAll .u32 0))
  else if 0x2930 ≤ i ∧ i ≤ 0x293F then numbered 1 (List.replicate 32 (ro .u64))
  else if 0x2950 ≤ i ∧ i ≤ 0x2957 then numbered 1 (List.replicate 32 (ro .u32))
  else []

def entries2A00 (i : Nat) : List (Nat × Entry) :=
  if i = 0x2A00 then numbered 1 [ro .u32, ro .u32, rwB 0, rwB 0, wo .u8 (roleW + roleS)]
  else if 0x2A10 ≤ i ∧ i ≤ 0x2A13 then
    numbered 1 [rwB 0, (rwW .u8 0 0 8).under .unitDisabled, (rwAll .u32 0).under .unitDisabled,
      (rwW .u32 65536 0 1048576).under .unitDisabled, (rwW .u32 65536 0 1048576).under .unitDisabled,
      (rwW .u32 0 0 3600000).under .unitDisabled, (rwB 0).under .unitDisabled, ro .u8, ro .u32]
  else []

def patternEngine : List (Nat × Entry) :=
  numbered 1 [rw' .u8 (roleP + roleW) 0 0 4, rw' .u16 (roleP + roleW) 1000 100 10000,
    rw' .u32 (roleP + roleW) 0 0 4294967295, rw' .u8 (roleP + roleW) 255 0 255]

def entries2B00 : Nat → List (Nat × Entry)
  | 0x2B00 => (1, ro .u8) :: numbered 4 (List.replicate 4 (rwW .u8 0 0 15) ++ [ro .bool, ro .bool,
      (rwW .u16 100 20 1000).under .notMoving])
  | 0x2B01 => numbered 1 [ro .u8, rwW .i16 850 400 1250, rwW .u16 20 0 100, rwB 1, ro .u16, ro .u16, ro .u32]
  | 0x2B02 => numbered 1 (List.replicate 4 (rwW .i16 0 (-1000) 1000))
  | 0x2B10 => patternEngine
  | 0x2B11 => patternEngine
  | 0x2B12 => patternEngine
  | 0x2B13 => patternEngine
  | 0x2C00 => numbered 1 [ro .u8, wo .u8 roleW, ro .u8, ro .u8, rwW .u16 30 0 365, wo .u8 roleW, ro .u16, ro .i16, ro .i16]
  | _ => []

/-! ## Areas, lanes, streams -/

/-- An area record (R179). -/
def entriesArea : List (Nat × Entry) :=
  numbered 1 [rwW .u8 0 0 2, rwB 0, (rwW .u8 0 0 32).among vertexCounts, rwW .u16 25 0 500, rwAll .u32 0, ro .u8, ro .u32] ++
    numbered 0x10 (List.replicate 64 (rwAll .i32 0))

/-- A lane-state record (R408). -/
def entriesLane : List (Nat × Entry) :=
  numbered 1 [ro .u16, ro .u32, ro .u16, ro .u16, ro .u32, ro .u8, ro .u64, ro .bool, ro .bool, ro (.domain 32), ro .u8,
    ro .u32] ++ [(0x10, wo .u8 (roleP + roleL + roleW))]

/-- A lane-limits record (R180). -/
def entriesLimits : List (Nat × Entry) :=
  numbered 1 [rw' .u16 roleL 1000 100 10000, rw' .u16 roleL 500 50 5000, rw' .u16 roleL 1000 100 8000,
    rw' .u16 roleL 1000 100 20000, rw' .bool roleL 0 0 1, (rwW .u16 1000 100 20000).under .laneVacant,
    (rwW .u16 500 100 10000).under .laneVacant, (rwW .u16 300 0 2000).under .laneVacant, rw' .u16 roleL 500 0 5000] ++
    numbered 0x11 [ro .u16, ro .u16, ro .u16, ro .u16, ro .bool, ro .u16, ro .bool]

/-- A lane-route record (R210). -/
def entriesRoute : List (Nat × Entry) :=
  [(1, { ty := .domain 8224, acc := .rw, write := roleL }), (2, wo .u8 (roleP + roleL))] ++
    numbered 3 [ro .u32, ro .u32, ro .u32, ro .i32, ro .i32, ro .u16, ro .u32, ro .u32]

/-- A lane-checkpoint record (R139). -/
def entriesCheckpoint : List (Nat × Entry) :=
  numbered 1 [ro .u8, ro .u8, ro .u32, ro .u32, ro .i32, ro .u16, ro .u8, ro .u8, ro .i32, ro .i32, ro .i32, ro .u32,
    ro .u32, ro .u32] ++ numbered 0x10 [rwW .u8 0 0 2, rwW .u8 2 1 10, rwW .u16 100 20 1000, rwW .u16 250 50 2000, ro .bool]

/-- A lane-air-statistics record (R306, R339). -/
def entriesAir : List (Nat × Entry) :=
  numbered 1 [ro .u32, ro .u32, ro .u32, ro .u8, ro .u32, ro .u32, ro .u32, ro .u32] ++
    numbered 0x10 (List.replicate 11 (ro .u32) ++ [ro .u8, ro .u8, ro .u8, ro .bool, ro .u32])

/-- A stream record (R392); `k` is the stream. -/
def entriesStream (k : Nat) : List (Nat × Entry) :=
  numbered 1 [ro (.domain 524288), ro .u32, ro .u32, ro .u32, ro .u32, rwB 0,
    rwW .u32 (0xEF0A0000 + k) 0xE0000000 0xEFFFFFFF]

/-- The entries of an index other than its subindex 0, in rising order; empty where the index does not exist (R403). -/
def entriesOf (i : Nat) : List (Nat × Entry) :=
  if i < 0x2000 then entries1000 i
  else if i < 0x2100 then entries2000 i
  else if i < 0x2300 then entries2100 i
  else if i < 0x2500 then entries2300 i
  else if i < 0x2600 then entries2500 i
  else if i < 0x2900 then entries2600 i
  else if i < 0x2A00 then entries2900 i
  else if i < 0x2B00 then entries2A00 i
  else if i < 0x3000 then entries2B00 i
  else if i < 0x3400 then entriesArea
  else if 0x4000 ≤ i ∧ i ≤ 0x40BF then entriesLane
  else if 0x4100 ≤ i ∧ i ≤ 0x41BF then entriesLimits
  else if 0x4200 ≤ i ∧ i ≤ 0x42BF then entriesRoute
  else if 0x4300 ≤ i ∧ i ≤ 0x43BF then entriesCheckpoint
  else if 0x4400 ≤ i ∧ i ≤ 0x44BF then entriesAir
  else if 0x5000 ≤ i ∧ i ≤ 0x5005 then entriesStream (i - 0x5000)
  else []

/-- The highest subindex of an index whose table lists subindices from 1 upward: its subindex 0 (R403). -/
def highestSub (i : Nat) : Nat := (entriesOf i).foldl (fun m e => max m e.1) 0

/-- What the dictionary says of index and subindex (R369, R403). -/
inductive Found where
  | noIndex
  | noSub
  | entry (e : Entry)
  deriving DecidableEq, Repr

/-- Look up an entry; subindex 0 of a record is const UNSIGNED8 (R403). -/
def lookup (index sub : Nat) : Found :=
  let l := entriesOf index
  if l.isEmpty then .noIndex
  else match l.find? (fun e => e.1 = sub) with
    | some (_, e) => .entry e
    | none => if sub = 0 then .entry (cst .u8) else .noSub

/-- Number of an entry in the settings tables. -/
def key (index sub : Nat) : Nat := index * 256 + sub

/-- Default of the entry with the given number: that of its entry table. -/
def settingDefault (k : Nat) : Int :=
  match lookup (k / 256) (k % 256) with
  | .entry e => e.dflt
  | _ => 0

/-- The setting in force. -/
def Units.cfg (u : Units) (index sub : Nat) : Int := tget settingDefault u.settings.inForce (key index sub)

/-- The setting most recently accepted. -/
def Units.cfgAccepted (u : Units) (index sub : Nat) : Int := tget settingDefault u.settings.accepted (key index sub)

/-- The setting in force, as a number. -/
def Units.cfgNat (u : Units) (index sub : Nat) : Nat := (u.cfg index sub).toNat

/-- A BOOLEAN setting in force. -/
def Units.cfgOn (u : Units) (index sub : Nat) : Bool := decide (u.cfg index sub = 1)

/-- The settings with one entry accepted. -/
def Settings.accept (t : Settings) (index sub : Nat) (v : Int) : Settings :=
  { t with accepted := tput settingDefault t.accepted (key index sub) v }

/-- The settings with one entry in force. -/
def Settings.apply (t : Settings) (index sub : Nat) (v : Int) : Settings :=
  { t with inForce := tput settingDefault t.inForce (key index sub) v }

end Sys2Proof.Machine
end

