-- ==== Sys2Proof/Machine/Events.lean ====
section
/-! DEFINITION. Counters of events, stream queues, trip-recorder triggers and samples, and the raising of events
(12 R392 to R399, R615, R616; 17 R514 to R516, R523, R525; 18 R529, R533 to R537). -/

namespace Sys2Proof.Machine

/-! ## Counter bank -/

/-- The counters that count in the given mode, with their numbers: the mode entries in force (R413, R515). -/
def Units.countersIn (u : Units) (mode : Int) : List Nat :=
  (u.settings.inForce.filter (fun e => decide (key 0x2918 0 ≤ e.1) && decide (e.1 < key 0x2920 0) && decide (e.2 = mode))).map
    (fun e => (e.1 / 256 - 0x2918) * 32 + e.1 % 256 - 1)

/-- Event select of counter `c` in force. -/
def Units.counterSelect (u : Units) (c : Nat) : Nat := u.cfgNat (0x2910 + c / 32) (c % 32 + 1)

/-- Threshold of counter `c` in force. -/
def Units.counterThreshold (u : Units) (c : Nat) : Nat := u.cfgNat (0x2920 + c / 32) (c % 32 + 1)

/-- Counter `c` after adding `n`: 48 bits, wrapping (R514). -/
def State.addCounter (n : Nat) (s : State) (c : Nat) : State :=
  { s with counters := { s.counters with
      live := tmod (fun _ => 0) s.counters.live c (fun v => (v + n) % 281474976710656) } }

/-- `n` happenings of an event: every counter in mode 1 that selects it adds them (R516). -/
def State.count (sel n : Nat) (s : State) : State :=
  ((s.countersIn 1).filter (fun c => s.counterSelect c = sel)).foldl (State.addCounter n) s

/-- The occupancy of an event is now `v`; the slice keeps its highest value (R516). -/
def State.occupy (sel v : Nat) (s : State) : State :=
  { s with counters := { s.counters with peaks := tmod (fun _ => 0) s.counters.peaks sel (max v) } }

/-! ## Trip recorder: samples and triggers -/

/-- Bytes a record takes in the ring: data record prefix and data, or a gap record (R529, R541). -/
def TripRec.size (r : TripRec) : Nat := match r.gap with | none => 20 + r.data.length | some _ => 32

/-- Bytes of a part. -/
def partSize (l : List TripRec) : Nat := (l.map TripRec.size).sum

/-- The pre-trigger part with its oldest records overwritten while the rest still holds `len` bytes (R534). -/
def trimPart (len : Nat) : List TripRec → List TripRec
  | [] => []
  | r :: t => if len ≤ partSize t then trimPart len t else r :: t

/-- Trigger mask of unit `u` in force. -/
def Units.tripMask (s : Units) (u : Nat) : Nat := s.cfgNat (0x2A10 + u) 3

/-- The unit takes a sample or trigger that concerns `lane` (R530): source 1 with a lane given counts only that lane. -/
def Units.tripLane (s : Units) (u lane : Nat) : Bool :=
  s.cfg (0x2A10 + u) 2 ≠ 1 || s.tripMask u / 16777216 = 0xFF || s.tripMask u / 16777216 = lane

/-- A forced trigger: bit 30 auto, bit 31 host (R536). -/
def forcedBit (b : Nat) : Bool := decide (30 ≤ b)

/-- Post-trigger bytes a list of causes needs: all of the length for a condition, half of it for forced ones (R537). -/
def needOf (len : Nat) (causes : List Nat) : Nat :=
  if causes.any (fun b => !forcedBit b) then len else (len + 1) / 2

/-- The cause mask of a list of causes. -/
def causeMask (causes : List Nat) : Nat := (causes.eraseDups.map (fun b => 2 ^ b)).sum

/-- Position of a trigger in a record whose samples stand `grain` ns apart (R536): the first sample at or after it. -/
def TripRec.position (r : TripRec) (grain : Nat) (f : Nat × Int) : Int :=
  if f.2 ≤ r.time then r.time else r.time + grain * ceilDiv (f.2 - r.time) grain

/-- A unit after one record of its source, whose last sample stands `last` ns after its first (R534 to R537). -/
def TripUnit.sample (t : TripUnit) (pre post : Nat) (last grain : Nat) (invalid : Bool) (tick : U32) (r : TripRec) : TripUnit :=
  match t.state with
  | 1 =>
    let l := t.pre ++ [r]
    { t with pre := l, state := if pre ≤ partSize l then 2 else 1, armed := 0 }
  | 2 =>
    let due := t.fired.filter (fun f => decide (f.2 ≤ r.time + last))
    match (due.map (r.position grain)).min? with
    | none => { t with pre := trimPart pre (t.pre ++ [r]) }
    | some at' =>
      let hits := (due.filter (fun f => r.position grain f = at')).map (·.1)
      { t with state := 3, post := [r], fired := [], cause := causeMask hits, trigTime := at', trigTick := tick,
               trigInvalid := invalid, need := needOf post hits }
  | 3 => if t.need ≤ partSize t.post then t else { t with post := t.post ++ [r] }
  | _ => t

/-- The state after `f` on capture unit `u`. -/
def State.onTrip (u : Nat) (f : TripUnit → TripUnit) (s : State) : State :=
  { s with trip := { s.trip with units := tmod (fun _ => {}) s.trip.units u f } }

/-- Capture unit `u`. -/
def State.tripUnit (s : State) (u : Nat) : TripUnit := tget (fun _ => {}) s.trip.units u

/-- One record reaches unit `u`; its first trigger sample pulses the trigger output (R545). -/
def State.recordUnit (last grain : Nat) (r : TripRec) (s : State) (u : Nat) : State :=
  let t := s.tripUnit u
  let t' := t.sample (s.cfgNat (0x2A10 + u) 4) (s.cfgNat (0x2A10 + u) 5) last grain (!s.time.valid) s.clock.tick r
  let s' := s.onTrip u (fun _ => t')
  if t.state = 2 ∧ t'.state = 3 ∧ s.cfgOn 0x2A00 4 then s'.emit (.pulse .trigger 1000000) else s'

/-- One record of a single sample reaches unit `u`. -/
def State.sampleUnit (r : TripRec) (s : State) (u : Nat) : State := s.recordUnit 0 1 r u

/-- A sample of a source that concerns a lane (0xFF none) at a time (R529). -/
def State.tripSample (source lane : Nat) (time : Int) (data : Bytes) (s : State) : State :=
  ((List.range 4).filter (fun u => s.cfg (0x2A10 + u) 2 = source ∧ s.cfgOn (0x2A10 + u) 1 ∧ (source ≠ 1 ∨ s.tripLane u lane))).foldl
    (State.sampleUnit { time := time, data := data }) s

/-- Unit `u` notes a trigger: only an armed unit takes it (R535). -/
def TripUnit.note (b : Nat) (time : Int) (t : TripUnit) : TripUnit :=
  if t.state = 2 then { t with fired := t.fired ++ [(b, time)] } else t

/-- A trigger condition happens at a time, for a lane or none (0xFF) (R533). -/
def State.trigger (b : Nat) (time : Int) (lane : Nat) (s : State) : State :=
  ((List.range 4).filter (fun u => bit (s.tripMask u) b && (decide (b < 3) || decide (9 < b) || s.tripLane u lane))).foldl
    (fun t u => t.onTrip u (TripUnit.note b time)) s

/-! ## Streams -/

/-- Capacity of stream `q` in bytes (R392). -/
def streamCapacity : Nat → Nat
  | 0 => 262144 | 1 => 65536 | 2 => 262144 | 3 => 524288 | 4 => 65536 | _ => 131072

/-- Stream `q`. -/
def Units.stream (u : Units) (q : Nat) : Stream := tget (fun _ => {}) u.access.streams q

/-- The state after `f` on stream `q`. -/
def State.onStream (q : Nat) (f : Stream → Stream) (s : State) : State :=
  { s with access := { s.access with streams := tmod (fun _ => {}) s.access.streams q f } }

/-- Bytes of an item with its header (R395). -/
def Item.size (i : Item) : Nat := 8 + i.body.length

/-- Fill of a stream, (0x5000 + s):02. -/
def Stream.fill (t : Stream) : Nat := (t.items.map Item.size).sum

/-- Both copies of a pointer agree (R523). -/
def Pointer.ok (p : Pointer) : Bool := p.other = ~~~ p.value

/-- The pointer moved on by `n`, both copies. -/
def Pointer.advance (p : Pointer) (n : Nat) : Pointer :=
  { value := p.value + BitVec.ofNat 32 n, other := ~~~ (p.value + BitVec.ofNat 32 n) }

/-- Oldest items dropped until what is left and `room` more bytes fit in `cap` (R523). -/
def dropOldest (cap room : Nat) : List Item → List Item
  | [] => []
  | i :: t => if (i.size + (t.map Item.size).sum + room) ≤ cap then i :: t else dropOldest cap room t

/-- The stream with one more item; a full queue loses its oldest items, which are counted (R523, R395). -/
def Stream.put (t : Stream) (cap typ : Nat) (body : Bytes) : Stream :=
  let kept := dropOldest cap (8 + body.length) t.items
  let gone := t.items.length - kept.length
  { t with
    items := kept ++ [{ seq := t.next, typ := typ, flags := if t.afterReset then 2 else 0, body := body }]
    lost := t.lost + BitVec.ofNat 32 gone
    next := t.next + 1
    write := t.write.advance 1
    readPtr := if gone = 0 then t.readPtr else t.readPtr.advance gone
    afterReset := false }

/-- The stream after a queue reset (R525): every item is discarded and counted lost, both pointers return to the
start, the sequence goes on, and the next item carries flag bit 1. -/
def Stream.reset (t : Stream) : Stream :=
  { t with items := [], lost := t.lost + BitVec.ofNat 32 t.items.length, resets := t.resets + 1, read := t.next,
           write := {}, readPtr := {}, afterReset := true }

/-- Place an item without looking at the pointers. -/
def State.placeItem (q typ : Nat) (body : Bytes) (s : State) : State :=
  let gone := (s.stream q).items.length - (dropOldest (streamCapacity q) (8 + body.length) (s.stream q).items).length
  let s := (s.onStream q (fun t => t.put (streamCapacity q) typ body)).count (0x400 + q) 1
  (s.count (0x500 + q) gone).occupy (0x400 + q) (s.stream q).fill

/-! ## Events -/

/-- The event body of R397. -/
def eventBody (s : State) (code cls reg lane : Nat) (params : Bytes) : Bytes :=
  le 2 code ++ le 1 cls ++ le 1 reg ++ le 4 s.clock.tick.toNat ++ le 8 s.now ++ le 1 lane ++ le 1 s.chain.address ++
    le 2 params.length ++ params

/-- Emergency error code of a register bit (R399). -/
def emcyCode : Nat → Nat
  | 0 => 0x1000 | 1 => 0x2000 | 2 => 0x3000 | 3 => 0x4000 | 4 => 0x8100 | _ => 0xFF00

/-- The error register 0x1001: conditions, momentary faults, and bit 0 while any other bit is set (R398). -/
def Access.register (a : Access) : BitVec 8 :=
  let r := a.conditions.foldl (fun v c => v ||| BitVec.ofNat 8 (2 ^ c.bit)) a.momentary
  if r = 0 then r else r ||| 1

/-- The code of the condition that a class 3 event ends (R615, R616). -/
def endedBy (code : Nat) : Nat := if code = 0x190C then 0x190A else code - 1

/-- Send one EMCY message, or count it as suppressed within the inhibit time (R399). -/
def State.sendEmcy (code event : Nat) (s : State) : State :=
  let open' := match s.access.nmt with | .preOperational => true | .operational => true | _ => false
  let inhibited := match s.access.lastEmcy with
    | none => false
    | some t => decide (s.now - t < s.cfg 0x1015 0 * 100000)
  if !open' then s
  else if inhibited then { s with access := { s.access with suppressed := s.access.suppressed + 1 } }
  else
    let s := s.emit (.emcy code s.access.register.toNat event (s.clock.tick.toNat % 65536))
    { s with access := { s.access with lastEmcy := some s.now } }

/-- SOUNDER_EN follows the raised conditions not yet silenced (R558, R615). -/
def State.sound (s : State) : State :=
  let on := s.access.conditions.any (fun c => !c.silenced)
  let s' := { s with panel := { s.panel with sounder := on } }
  if on = s.panel.sounder then s' else s'.emit (.pin .sounderEn on)

/-- What an event of a class does to conditions and register (R398, R615). -/
def Access.note (a : Access) (code cls reg key : Nat) : Access :=
  match cls with
  | 1 => { a with momentary := a.momentary ||| BitVec.ofNat 8 (2 ^ reg) }
  | 2 => if a.conditions.any (fun c => c.code = code && c.key = key) then a
         else { a with conditions := a.conditions ++ [{ code := code, key := key, bit := reg, silenced := false }] }
  | 3 => { a with conditions := a.conditions.filter (fun c => !(c.code = endedBy code && c.key = key)) }
  | _ => a

/-- Raise an event, the stream's pointers taken as good: conditions, register, error list, EMCY, stream item, trigger
condition 20, sample of source 2, sounder (R397 to R399, R405, R533, R558, R615). -/
def State.raiseCore (code cls reg lane key : Nat) (params : Bytes) (s : State) : State :=
  let body := eventBody s code cls reg lane params
  let had := !s.access.conditions.isEmpty
  let s := { s with access := s.access.note code cls reg key }
  let s := if cls = 1 ∨ cls = 2 then
      let s := { s with access := { s.access with
        errors := (BitVec.ofNat 32 (code * 65536 + emcyCode reg) :: s.access.errors).take 8 } }
      s.sendEmcy (emcyCode reg) code
    else if cls = 3 ∧ had ∧ s.access.conditions.isEmpty then s.sendEmcy 0 code
    else s
  let s := s.placeItem 1 1 body
  let s := if cls = 1 ∨ cls = 2 then s.trigger 20 s.now lane else s
  let s := if reg = 4 then s.tripSample 2 lane s.now body else s
  s.sound

/-- Every access compares the pointer copies of a stream; a mismatch resets the queue, with its event (R523, R525). -/
def State.checkQueue (q : Nat) (s : State) : State :=
  let t := s.stream q
  if t.write.ok && t.readPtr.ok then s
  else
    let bad := if t.write.ok then t.readPtr else t.write
    let lost := (t.next - t.read).toNat
    let s := (s.onStream q Stream.reset).count (0x500 + q) lost
    let s := s.raiseCore 0x1701 1 7 0xFF 0 (le 1 q ++ le 1 (if t.write.ok then 1 else 0) ++ le 2 0 ++ le 4 bad.value.toNat ++
      le 4 bad.other.toNat ++ le 4 lost)
    s.trigger 17 s.now 0xFF

/-- Raise an event (R37, R397): class 0 to 3, register bit, lane (0xFF none), key of its condition (R615). -/
def State.raise (code cls reg lane key : Nat) (params : Bytes) (s : State) : State :=
  (s.checkQueue 1).raiseCore code cls reg lane key params

/-- Write one item to a stream (R395). -/
def State.push (q typ : Nat) (body : Bytes) (s : State) : State := (s.checkQueue q).placeItem q typ body

/-- A lane telemetry stream item, which source 1 of the trip recorder samples too (R396, R529). -/
def State.pushTelemetry (typ lane : Nat) (body : Bytes) (s : State) : State :=
  (s.push 0 typ body).tripSample 1 lane s.now (le 1 typ ++ le 1 0 ++ body)

/-- A resource is refused to a second feature (R400): the event names resource and owner. -/
def State.inUse (resource owner : String) (s : State) : State :=
  s.raise 0x1201 0 0 0xFF 0 ((ascii resource ++ 0 :: ascii owner).take 64)

/-! ## Responses -/

/-- Answer a request. Over VAP the answer is stored with its request ID for repetition (R384), on the service port the last
one (R499). -/
def State.answer (r : Req) (a : Answer) (s : State) : State :=
  let s := s.emit (.response r.origin r.id a)
  match r.origin with
  | .vap k =>
    match tfind s.access.sessions k with
    | none => s
    | some e =>
      let e := { e with answers := ((r.id, a) :: e.answers.filter (fun x => x.1 ≠ r.id)).take 16, sent := e.sent + 1 }
      { s with access := { s.access with sessions := tset s.access.sessions k e } }
  | .service => if s.update.lastId = some r.id then { s with update := { s.update with lastAnswer := some a } } else s
  | .can _ => s

/-- Answer a request if there is one. -/
def State.answerOpt (r : Option Req) (a : Answer) (s : State) : State :=
  match r with | none => s | some r => s.answer r a

/-- Image of the slot that runs: that of manufacture where nothing else was loaded (R406). -/
def Units.image (u : Units) : Image :=
  (tfind u.update.slots u.update.running).getD
    { id := 0, version := Config.firmware, length := 0, count := 0, schema := Config.schema, low := Config.schema, high := Config.schema }

/-- Firmware version, 0x2000:04 (R406). -/
def Units.firmware (u : Units) : Int := u.image.version.toNat

/-! ## Pair link -/

/-- Put a frame on the pair link (R420). -/
def State.sendLink (m : LinkMsg) (s : State) : State :=
  if s.pair.linkUp then
    { s.emit (.link s.pair.sendSeq m) with pair := { s.pair with sendSeq := s.pair.sendSeq + 1 } }
  else s

/-- An item the active accepted goes to the standby as INPUT (R426): source 0 host request, 1 uplink element, 2 cell-link
message, 3 panel or internal event. -/
def State.mirror (source : Nat) (item : InputItem) (s : State) : State :=
  if s.pair.role = 1 ∨ s.pair.role = 4 then (s.sendLink (.input source s.clock.offset item)).count 0x40B 1 else s

end Sys2Proof.Machine
end

