-- ==== Sys2Proof/Machine/Store.lean ====
section
/-! DEFINITION. The settings store: two areas, the journal, compaction (16 R491 to R493; 12 R372, R385). -/

namespace Sys2Proof.Machine

/-- Bytes of one write item (R385). -/
def itemBytes (x : WriteItem) : Nat := 6 + x.data.length

/-- A number of the settings tables with its value, as a write item. -/
def numberItem (k : Nat) (v : Int) : WriteItem :=
  { index := k / 256, sub := k % 256
    data := match lookup (k / 256) (k % 256) with | .entry e => le (e.ty.size.getD 0) v | _ => [] }

/-- Schema and writer of an area (R491). -/
def Area.schemaNo (a : Area) : Nat := a.schema.getD Config.schema
def Area.writerNo (a : Area) : U32 := a.writer.getD Config.firmware

/-- Bytes of a journal record (R492). -/
def recordSize (items : List WriteItem) : Nat := 10 + (items.map itemBytes).sum

/-- An entry of the reference position (R87). -/
def positionEntry (index sub : Nat) : Bool := index = 0x2306 && decide (2 ≤ sub) && decide (sub ≤ 4)

/-- The area after one written entry. -/
def Area.write (a : Area) (x : WriteItem) : Area :=
  if x.index = 0x2402 ∧ x.sub = 0x0A then { a with antenna := x.data }
  else if x.index = 0x2402 ∧ x.sub = 0x0B then { a with antennaSerial := x.data }
  else if x.index = 0x2701 then { a with credentials := if x.data.isEmpty then tdel a.credentials x.sub else tset a.credentials x.sub x.data }
  else match lookup x.index x.sub with
    | .entry e =>
      { a with positionSet := a.positionSet || positionEntry x.index x.sub
               values := tput settingDefault a.values (key x.index x.sub) (if e.ty.signed then unleSigned x.data else unle x.data) }
    | _ => a

/-- Bytes of the area's content as a base: its written entries in the item layout (log entry 31). -/
def Area.content (a : Area) : Nat :=
  (a.values.map (fun e => itemBytes (numberItem e.1 e.2))).sum + (if a.antenna.isEmpty then 0 else 6 + a.antenna.length) +
    (if a.antennaSerial.isEmpty then 0 else 6 + a.antennaSerial.length) + 74 * a.credentials.length

/-- The accepted settings after one write item (R369). -/
def Settings.put (t : Settings) (x : WriteItem) : Settings :=
  if x.index = 0x2402 ∧ x.sub = 0x0A then { t with antenna := x.data }
  else if x.index = 0x2402 ∧ x.sub = 0x0B then { t with antennaSerial := x.data }
  else if x.index = 0x2701 then
    { t with credentials := if x.data.isEmpty then tdel t.credentials x.sub else tset t.credentials x.sub x.data }
  else match lookup x.index x.sub with
    | .entry e => ({ t with positionSet := t.positionSet || positionEntry x.index x.sub } : Settings).accept x.index x.sub
        (if e.ty.signed then unleSigned x.data else unle x.data)
    | _ => t

/-- Chains that a write restarts (R84): those of the port, of the band, or of the signals it sets; 0 A-L1, 1 A-L5, 2 B-L1, 3 B-L5. -/
def affectedChains (index sub : Nat) : List Nat :=
  if index = 0x2301 then (match sub with | 1 => [0, 1] | 2 => [2, 3] | 3 => [0, 2] | _ => [1, 3])
  else if sub = 2 then [0, 2] else [0, 1, 2, 3]

/-- What an accepted write does at once beside the settings: chains that restart (R84), a bias that returns (R50), counters
that start again (R515), a reader that multicast takes or gives back (R393). -/
def State.settingEffect (index sub : Nat) (v : Nat) (s : State) : State :=
  if index = 0x2301 ∨ (index = 0x2303 ∧ sub ≤ 2) then
    { s with gnss := { s.gnss with restart := s.gnss.restart ++ affectedChains index sub } }
  else if index = 0x2302 ∧ sub = 6 ∧ v = 1 then { s with gnss := { s.gnss with portA := { s.gnss.portA with shortOff := false } } }
  else if index = 0x2302 ∧ sub = 7 ∧ v = 1 then { s with gnss := { s.gnss with portB := { s.gnss.portB with shortOff := false } } }
  else if 0x2910 ≤ index ∧ index ≤ 0x2927 then
    { s with counters := { s.counters with changed := s.counters.changed ++ [(index % 8) * 32 + sub - 1] } }
  else if 0x5000 ≤ index ∧ index ≤ 0x5005 ∧ sub = 6 then
    let q := index - 0x5000
    if v = 1 then (if (s.stream q).reader = 0 then s.onStream q (fun x => { x with reader := 0xFF000000, idle := 0 }) else s)
    else if (s.stream q).reader = 0xFF000000 then s.onStream q (fun x => { x with reader := 0, idle := 0 })
    else s
  else s

/-- Accept one write item. -/
def State.put (s : State) (x : WriteItem) : State :=
  ({ s with settings := s.settings.put x } : State).settingEffect x.index x.sub (unle x.data)

/-- The entry of a write item as it stands accepted. -/
def State.present (s : State) (x : WriteItem) : WriteItem :=
  if x.index = 0x2402 ∧ x.sub = 0x0A then { x with data := s.settings.antenna }
  else if x.index = 0x2402 ∧ x.sub = 0x0B then { x with data := s.settings.antennaSerial }
  else if x.index = 0x2701 then { x with data := (tfind s.settings.credentials x.sub).getD [] }
  else numberItem (key x.index x.sub) (s.cfgAccepted x.index x.sub)

/-- Bytes of an area (R491), and those of its journal. -/
def areaBytes : Nat := 524288
def Area.room (a : Area) : Nat := areaBytes - 64 - a.baseBytes

/-- The area in force, and the other one (R491). -/
def Update.area (u : Update) : Area := if u.x.role = 1 then u.x else u.y
def Update.other (u : Update) : Area := if u.x.role = 1 then u.y else u.x

/-- The update record with the area in force and the other one replaced in place. -/
def Update.setAreas (u : Update) (a b : Area) : Update := if u.x.role = 1 then { u with x := a, y := b } else { u with x := b, y := a }

/-- A record does not fit and cannot be compacted: the other area is pinned (R493). -/
def Units.storeFull (u : Units) (items : List WriteItem) : Bool :=
  decide (u.update.area.room < u.update.area.journal + recordSize items) && decide (u.update.other.role = 2)

/-- The area with one more journal record (R492). -/
def Area.append (a : Area) (generation : U32) (items : List WriteItem) : Area :=
  { items.foldl Area.write a with journal := a.journal + recordSize items, last := generation }

/-- Compaction (R493): base and journal merged into the other area, which comes in force. -/
def State.compact (s : State) : State :=
  let a := s.update.area
  let b := s.update.other
  let s := if b.role = 3 then s.raise 0x1607 0 0 0xFF 0 (le 4 b.base.toNat ++ le 4 b.last.toNat) else s
  { s with update := s.update.setAreas { a with role := 0 } {
      a with role := 1, base := a.last, baseBytes := a.content, journal := 0, schema := some s.image.schema
             writer := some s.image.version } }

/-- One journal record with a given number (R492, R497). -/
def State.journalAs (generation : U32) (items : List WriteItem) (s : State) : State :=
  let s := if s.update.area.room < s.update.area.journal + recordSize items then s.compact else s
  { s with update := { s.update.setAreas (s.update.area.append generation items) s.update.other with generation := generation } }

/-- A confirmed write or batch appends one journal record, numbered one above the last (R492). -/
def State.journal (items : List WriteItem) (s : State) : State :=
  if items.isEmpty then s else s.journalAs (s.update.generation + 1) items

end Sys2Proof.Machine
end

