-- ==== Sys2Proof/Machine/Requests.lean ====
section
/-! DEFINITION. How a request of a host is admitted and answered: transports and roles (R373, R374), sessions, replay
and duplicates (R380, R384), the order of checks on an entry (R366 to R369, R430, R471). -/

namespace Sys2Proof.Machine

/-! ## Replay windows -/

/-- What the replay window says of a count (R325). -/
inductive Verdict where
  | accept | tooOld | repeated
  deriving DecidableEq, Repr

/-- The window's judgement of the 64-bit value `x` (R325). -/
def Window.judge (w : Window) (x : Int) : Verdict :=
  if x > w.high then .accept
  else if w.high - x > 63 then .tooOld
  else if w.mask.getLsbD (w.high - x).toNat then .repeated
  else .accept

/-- The window with `x` marked (R325). -/
def Window.mark (w : Window) (x : Int) : Window :=
  if x > w.high then { high := x, mask := (w.mask <<< (x - w.high).toNat) ||| 1 }
  else { w with mask := w.mask ||| ((1 : U64) <<< (w.high - x).toNat) }

/-- The 64-bit value of a 32-bit counter: the candidate nearest the highest value accepted (R325). -/
def Window.extend (w : Window) (c : U32) : Int :=
  let r := w.high / 4294967296
  let cand := fun k => (r + k) * 4294967296 + c.toNat
  let near := fun a b : Int => if (b - w.high).natAbs < (a - w.high).natAbs then b else a
  near (near (cand 0) (cand 1)) (if r - 1 < 0 then cand 0 else cand (-1))

/-! ## Roles -/

/-- Roles a request is made under (R373, R374): those of the session, the grant of the CAN node in force, or S. -/
def State.roles (s : State) : Origin → Nat
  | .vap k => match tfind s.access.sessions k with | some e => e.roles | none => 0
  | .can n => s.cfgNat 0x2021 n % 8
  | .service => roleS

/-- Some role held appears in the column (R373). -/
def permitted (roles column : Nat) : Bool := decide ((BitVec.ofNat 8 roles &&& BitVec.ofNat 8 column) ≠ 0)

/-- The reader value of (0x5000 + s):05 for an origin (R392). -/
def readerOf : Origin → Nat
  | .vap k => k
  | .can n => 0x100 + n
  | .service => 0x200

/-! ## Admission of a request -/

/-- What becomes of an arriving request before it is looked at. -/
inductive Admission where
  /-- Discarded without answer, or answered again from store. -/
  | closed (s : State)
  /-- To be handled. -/
  | go (s : State)

/-- The dictionary is served: the image runs, in Run or Quiet (R375, R471). -/
def State.serving (s : State) : Bool := decide (s.power.phase = .running)

/-- A VAP record against its session: tag and replay window (R380), duplicates and old IDs (R384), at most 16 in flight. -/
def admitVap (k : Nat) (e : Session) (r : Req) (s : State) : Admission :=
  let drop := { s with access := { s.access with discarded := s.access.discarded + 1 } }
  if !r.tagOk then .closed drop
  else match e.window.judge r.sequence with
    | .tooOld => .closed drop
    | .repeated => .closed drop
    | .accept =>
      let e := { e with window := e.window.mark r.sequence, idle := 0 }
      let s := { s with access := { s.access with sessions := tset s.access.sessions k e } }
      match e.answers.find? (fun a => a.1 = r.id) with
      | some (_, a) =>
        .closed ({ s with access := { s.access with duplicates := s.access.duplicates + 1 } }.emit
          (.response r.origin r.id a))
      | none =>
        if e.answers.length = 16 ∧ e.answers.all (fun a => decide (r.id < a.1)) then
          .closed { s with access := { s.access with duplicates := s.access.duplicates + 1 } }
        else if 16 ≤ (e.answers.filter (fun a => a.2 = .pending)).length then .closed s
        else .go s

/-- Admission by transport: VAP needs a session; CAN needs a claimed node-ID, a client node-ID of 33 to 127 and a node
not stopped (R377); the service port needs its plug (R498). -/
def State.admitted (r : Req) (s : State) : Admission :=
  let s := s.stamped r.stamp
  if !s.serving then .closed s
  else match r.origin with
    | .vap k =>
      match tfind s.access.sessions k with
      | none => .closed { s with access := { s.access with discarded := s.access.discarded + 1 } }
      | some e => admitVap k e r s
    | .can n =>
      if s.chain.address ≠ 0 ∧ 33 ≤ n ∧ n ≤ 127 ∧ (s.access.nmt = .preOperational ∨ s.access.nmt = .operational) then .go s
      else .closed s
    | .service => if s.panel.plug then .go s else .closed s

/-- Serve a request: judge it, run its body, answer with what the body says. -/
def State.serve (r : Req) (body : State → State × Answer) (s : State) : State :=
  match s.admitted r with
  | .closed t => t
  | .go t => let p := body t; p.1.answer r p.2

/-- A refusal that changes nothing. -/
def refuse (code : Nat) (s : State) : State × Answer := (s, .refused code 0)

/-- A confirmation without data. -/
def confirm (s : State) : State × Answer := (s, .done [])

/-- Writes that pass their checks: accepted, mirrored, journalled, confirmed; refused as storage busy where no record fits
(R372, R426, R492, R493). -/
def State.writeItems (items : List WriteItem) (s : State) : State × Answer :=
  if s.storeFull items then refuse 0x0F000008 s
  else confirm (((items.foldl State.put s).mirror 0 (.settings items)).journal items)

/-! ## Checks on an entry -/

/-- A standby refuses writes but to the areas R430 names. -/
def standbyAllows (index sub : Nat) : Bool :=
  (index = 0x2001 && sub = 1) || (index = 0x2601 && sub = 1) || index = 0x2800 ||
    (decide (0x2900 ≤ index) && decide (index ≤ 0x29FF)) || (decide (0x2A00 ≤ index) && decide (index ≤ 0x2AFF))

/-- The unit is a standby (roles 2 and 3 of 0x2601:02). -/
def State.isStandby (s : State) : Bool := s.pair.role = 2 || s.pair.role = 3

/-- The value that data spell under a type (R366). -/
def valueOf (ty : Ty) (data : Bytes) : Int := if ty.signed then unleSigned data else unle data

/-- Printable bytes (R366). -/
def printable (b : Byte) : Bool := decide (0x20 ≤ b.toNat) && decide (b.toNat ≤ 0x7E)

/-- The data length fits the type (R366). -/
def lengthOk (ty : Ty) (data : Bytes) : Bool :=
  match ty, ty.size with
  | _, some n => decide (data.length = n)
  | .text m, none => decide (data.length ≤ m)
  | .domain m, none => decide (data.length ≤ m)
  | _, none => false

/-- A 32-bit safety value whose high half is the complement of its low half (R10, R368). -/
def safetyOk (w : U32) : Bool := w.extractLsb' 16 16 = ~~~ (w.extractLsb' 0 16)

/-- The value is allowed by range, list and reserved bits (R367, R402, R404). -/
def Entry.allows (e : Entry) (v : Int) : Bool :=
  decide (e.lo ≤ v) && decide (v ≤ e.hi) && (e.only.isEmpty || e.only.contains v)

/-- The guard refuses the write (R404, R179, R181, R212, R414). -/
def State.guarded (s : State) (g : Guard) (index : Nat) (v : Int) : Bool :=
  match g with
  | .free => false
  | .allVacant => !s.allVacant
  | .notMoving => !s.notMoving
  | .notMovingNorReserved => !s.notMoving || decide (s.lanesReserved ≠ 0)
  | .laneVacant => (s.lane (index % 256)).occupied
  | .notMovingToDisable => decide (v = 0) && !s.notMoving
  | .unitDisabled => decide (s.cfgAccepted index 1 = 1)

/-- The checks every write of an entry meets before its own rule: existence, access, length, complement, role,
activation, standby, range (R366 to R369, R373, R430, R484). None where all pass. -/
def State.precheck (s : State) (roles index sub : Nat) (data : Bytes) : Option Nat :=
  match lookup index sub with
  | .noIndex => some 0x06020000
  | .noSub => some 0x06090011
  | .entry e =>
    if e.acc = .ro ∨ e.acc = .const then some 0x06010002
    else if !lengthOk e.ty data then some 0x06070010
    else if e.safety && !safetyOk (BitVec.ofNat 32 (unle data)) then some 0x0F000003
    else if !permitted roles e.write then some 0x0F000001
    else if s.update.activated then some 0x08000022
    else if s.isStandby && !standbyAllows index sub then some 0x08000022
    else if !e.ty.isDomain && !e.allows (valueOf e.ty data) &&
        (match e.ty with | .text _ => false | _ => true) then some 0x06090030
    else if (match e.ty with | .text _ => !data.all printable | _ => false) then some 0x06090030
    else none

/-- The precheck of a command that has its own row: entry, roles of the origin, data. -/
def State.commandCheck (s : State) (r : Req) (index sub : Nat) (data : Bytes) : Option Nat :=
  s.precheck (s.roles r.origin) index sub data

/-- A write of one entry: precheck, then the entry's own rule. A complement mismatch is reported under R37 (R368). -/
def State.checkedWrite (r : Req) (index sub : Nat) (data : Bytes) (body : State → State × Answer) (s : State) : State × Answer :=
  match s.commandCheck r index sub data with
  | some code =>
    let s := if code = 0x0F000003 then s.raise 0x1202 1 7 0xFF 0 (le 2 index ++ le 1 sub) else s
    refuse code s
  | none => body s

/-- Serve a request that writes one entry. -/
def State.serveWrite (r : Req) (index sub : Nat) (data : Bytes) (body : State → State × Answer) (s : State) : State :=
  s.serve r (State.checkedWrite r index sub data body)

end Sys2Proof.Machine
end

