-- ==== Sys2Proof/Machine/Lamps.lean ====
section
/-! DEFINITION. The lamp chain: patterns, frames, returned frames and diagnosis (19 R563 to R572), with the commands
LAMP_RETURN, CHANNEL_HEALTH_TIMEOUT and LAMP_TEST_END. -/

namespace Sys2Proof.Machine

/-- Index of pattern engine `p`. -/
def patternIndex (p : Nat) : Nat := 0x2B10 + p

/-- The pattern engine that claims lamp channel `c` (R415, R567). -/
def Units.lampOwner (u : Units) (c : Nat) : Option Nat :=
  (List.range 4).find? (fun p => bit (u.cfgNat (patternIndex p) 3) c)

/-- Channels a mask claims, ascending. -/
def claimed (mask : Nat) : List Nat := (List.range 32).filter (fun c => bit mask c)

/-- Level λ of a channel as a fraction: numerator and denominator (R567). -/
def State.lampLevel (s : State) (c : Nat) : Int × Int :=
  match s.lampOwner c with
  | none => (0, 1)
  | some p =>
    let level := s.cfg (patternIndex p) 4
    let period := s.cfg (patternIndex p) 2
    let t := (s.now / 1000000) % period
    if p ∈ s.panel.toggled then (0, 1)
    else match s.cfgNat (patternIndex p) 1 with
      | 1 => (level, 1)
      | 2 => (if 2 * t < period then level else 0, 1)
      | 3 => (level * (1099511627776 - cosine (t * 4294967296 / period)), 2199023255552)
      | 4 =>
        let l := claimed (s.cfgNat (patternIndex p) 3)
        (if l[(t * l.length / period).toNat]? = some c then level else 0, 1)
      | _ => (0, 1)

/-- Driver `i`. -/
def State.lampDriver (s : State) (i : Nat) : LampDriver := tget (fun _ => {}) s.lamps.chain i

/-- Sum and number of the last valid temperatures; 25.0 °C where there is none (R568). -/
def LampDriver.temperature (d : LampDriver) : Int × Int :=
  if d.temps.isEmpty then (250, 1) else (d.temps.sum, d.temps.length)

/-- On-time of channel `c`, in 1/64 µs (R568): the level, scaled and compensated by the colour's coefficient. -/
def State.onTime (s : State) (c : Nat) : Nat :=
  let l := s.lampLevel c
  let t := (s.lampDriver (c / 4)).temperature
  let k := s.cfg 0x2B02 (c % 4 + 1)
  let v := roundDiv (l.1 * 64000 * (100000 * t.2 + k * (t.1 - 250 * t.2))) (255 * l.2 * 100000 * t.2)
  (max 0 (min 64000 v)).toNat

/-- Target of a driver's current scale (R569): 26 while it reports thermal shutdown. -/
def State.scaleTarget (s : State) (i : Nat) : Nat :=
  let d := s.lampDriver i
  let t := d.temperature
  let knee := s.cfg 0x2B01 2
  if d.shutdown then 26
  else if t.1 ≤ knee * t.2 then 255
  else (max (roundDiv 255 10) (roundDiv (255 * (10000 * t.2 - s.cfg 0x2B01 3 * (t.1 - knee * t.2))) (10000 * t.2))).toNat

/-- One step towards a target (R569); under thermal shutdown the scale is held at 26. -/
def stepTo (v target : Nat) : Nat := if v < target then v + 1 else if target < v then v - 1 else v

/-- CRC-8, polynomial 0x07, initial value 0 (R563). -/
def crc8 (b : Bytes) : Byte :=
  let f := fun (c : Byte) => if c.getLsbD 7 then (c <<< 1) ^^^ 0x07 else c <<< 1
  b.foldl (fun c x => f (f (f (f (f (f (f (f (c ^^^ x))))))))) 0

/-- Slice number since the milestone boundary. -/
def State.milestoneSlice (s : State) : Nat := s.milestonePos * 20 + s.clock.slice

/-- The channel is stretched in this slice (R570). -/
def State.stretched (s : State) (c : Nat) : Bool :=
  s.cfgOn 0x2B01 4 && (s.lampOwner c).isSome && s.milestoneSlice = 30 * c + 5

/-- On-time and measure bit sent to channel `c` in this frame (R567, R570, R572). -/
def State.lampShare (s : State) (c : Nat) : Nat × Bool :=
  if 0 < s.lamps.test then (if c / 4 < s.lamps.drivers then (64000, true) else (0, false))
  else if (s.lampOwner c).isNone then (0, false)
  else
    let t := s.onTime c
    if 512 ≤ t then (t, true) else if s.stretched c then (512, true) else (t, false)

/-- The 11-byte share of driver `i` (R563). -/
def shareBytes (times : List Nat) (measure : List Bool) (scale i : Nat) : Bytes :=
  let m := fun j => if measure.getD (4 * i + j) false then 2 ^ j else 0
  let b := le 2 (times.getD (4 * i) 0) ++ le 2 (times.getD (4 * i + 1) 0) ++ le 2 (times.getD (4 * i + 2) 0) ++
    le 2 (times.getD (4 * i + 3) 0) ++ le 1 scale ++ le 1 (m 0 + m 1 + m 2 + m 3)
  b ++ [crc8 b]

/-- Event "Channel health" and the channel's new health (R571, R573). -/
def State.setHealth (c h : Nat) (s : State) : State :=
  let old := (tget (fun _ => {}) s.lamps.channels c : LampChannel).health
  if old = h then s
  else
    ({ s with lamps := { s.lamps with channels := tmod (fun _ => {}) s.lamps.channels c (fun x => { x with health := h }) } }).raise
      0x1909 0 0 0xFF 0 (le 1 c ++ le 1 h)

/-- A channel's claim is followed: newly claimed starts as unknown, unclaimed is not used (R567, R571). -/
def State.followClaim (s : State) (c : Nat) : State :=
  let x : LampChannel := tget (fun _ => {}) s.lamps.channels c
  match s.lampOwner c with
  | none =>
    let s := s.setHealth c 0
    { s with lamps := { s.lamps with channels := tput (fun _ => {}) s.lamps.channels c {} } }
  | some _ => if x.health = 0 then s.setHealth c 5 else s

/-- The chain's frame of this slice (R563): shares computed, scales moved by at most 1, frame count up by 1. -/
def State.lampFrame (s : State) : State :=
  let s := (List.range 32).foldl State.followClaim s
  let shares := (List.range 32).map s.lampShare
  let scales := (List.range 8).map (fun i =>
    if (s.lampDriver i).shutdown then 26 else stepTo (s.lampDriver i).scale (s.scaleTarget i))
  let count := (s.lamps.count + 1) % 256
  let times := shares.map (·.1)
  let measures := shares.map (·.2)
  let body := le 1 0xA5 ++ le 1 count ++
    ((List.range 8).map (fun i => shareBytes times measures (scales.getD i 255) i)).flatten
  let s := (List.range 8).foldl (fun s i => { s with lamps := { s.lamps with
    chain := tmod (fun _ => {}) s.lamps.chain i (fun d => { d with scale := scales.getD i 255 }) } }) s
  let s := (List.range 32).foldl (fun s c => { s with lamps := { s.lamps with
    channels := tmod (fun _ => {}) s.lamps.channels c (fun x =>
      if x.health = 0 then x else { x with age := x.age + 1, cleanAge := x.cleanAge + 1,
                                           low := x.low && decide (times.getD c 0 < 512) }) } }) s
  { s with lamps := { s.lamps with count := count, onTimes := times, measures := measures, scales := scales,
                                   test := s.lamps.test - 1 } }.emit (.lampFrame body)

/-- A lamp frame not ready by its slice boundary is dropped and counted; the drivers keep the last frame (R33). -/
def State.lampLate (s : State) : State := { s with lamps := { s.lamps with late := saturate s.lamps.late } }

/-- One measurement of a channel: open, short or clean (R571). -/
def LampChannel.measure (x : LampChannel) (op sh : Bool) : LampChannel :=
  { x with opens := if op then x.opens + 1 else 0, shorts := if sh then x.shorts + 1 else 0,
           cleans := if op || sh then 0 else x.cleans + 1, age := 0,
           cleanAge := if op || sh then x.cleanAge else 0, low := true }

/-- Health after a measurement (R571): open or short after two in a row, ended by two clean ones. -/
def LampChannel.verdict (x : LampChannel) : Nat :=
  if 2 ≤ x.opens then 2
  else if 2 ≤ x.shorts then 3
  else if x.health = 2 ∨ x.health = 3 then (if 2 ≤ x.cleans then 1 else x.health)
  else if 0 < x.cleans then 1 else x.health

/-- A measured channel of a valid return (R565, R571). -/
def State.measured (c : Nat) (op sh : Bool) (s : State) : State :=
  let x := (tget (fun _ => {}) s.lamps.channels c : LampChannel).measure op sh
  if (s.lampOwner c).isNone then s
  else
    ({ s with lamps := { s.lamps with channels := tput (fun _ => {}) s.lamps.channels c x } }).setHealth c x.verdict

/-- One driver's status: temperature, thermal shutdown, measurements (R564, R565, R568, R569). -/
def State.driverStatus (s : State) (p : Nat × DriverStatus) : State :=
  let i := p.1
  let st := p.2
  let d := s.lampDriver i
  let s := { s with lamps := { s.lamps with chain := tmod (fun _ => {}) s.lamps.chain i (fun d =>
    { d with temps := (st.temperature :: d.temps).take 16, shutdown := st.shutdown }) } }
  let s := if st.shutdown && !d.shutdown then s.raise 0x190A 2 3 0xFF i (le 1 i ++ le 2 st.temperature)
    else if !st.shutdown && d.shutdown then s.raise 0x190C 3 3 0xFF i (le 1 i ++ le 2 st.temperature) else s
  (List.range 4).foldl (fun s j => if bit st.measured j then s.measured (4 * i + j) (bit st.openBits j) (bit st.shortBits j) else s) s

/-- The 5 bytes a driver appends (R564). -/
def readStatus (b : Bytes) : DriverStatus :=
  let f := byteAt b 3
  let m := byteAt b 2
  { temperature := unleSigned (b.take 2), openBits := m / 16, shortBits := m % 16, measured := f % 16
    shareFailed := bit f 4, shutdown := bit f 5 }

/-- A status passes its CRC (R564). -/
def statusOk (b : Bytes) : Bool := crc8 (b.take 4) = b.getD 4 0

/-- The share of driver `i` in the last frame sent. -/
def State.sentShare (s : State) (i : Nat) : Bytes := shareBytes s.lamps.onTimes s.lamps.measures (s.lamps.scales.getD i 255) i

/-- Drivers that a returned frame of `n` bytes counts (R566): each takes an 11-byte share and appends 5 bytes. Another length is that of
no return (log entry 138). -/
def returnDrivers (n : Nat) : Option Nat := (List.range 9).find? (fun d => n = 2 + 11 * (8 - d) + 5 * d)

/-- The statuses of `d` drivers at the end of a returned frame. -/
def returnStatuses (b : Bytes) (d : Nat) : List Bytes := (List.range d).map (fun i => (b.drop (2 + 11 * (8 - d) + 5 * i)).take 5)

/-- Why a returned frame is not valid (R566, R573): 0 header, 1 unused share, 2 status CRC. -/
def State.returnFault (s : State) (b : Bytes) : Option Nat :=
  if b.take 2 ≠ le 1 0xA5 ++ le 1 s.lamps.count then some 0
  else match returnDrivers b.length with
    | none => some 1
    | some d =>
      if (b.drop 2).take (11 * (8 - d)) ≠ ((List.range (8 - d)).map (fun i => s.sentShare (d + i))).flatten then some 1
      else if (returnStatuses b d).any (fun x => !statusOk x) then some 2
      else none

/-- Statuses of a valid returned frame, in driver order. -/
def readStatuses (b : Bytes) : List DriverStatus := (returnStatuses b ((returnDrivers b.length).getD 0)).map readStatus

/-- A returned frame (R566): the header, start byte and frame count, the unused shares, the statuses. -/
def returnFrame (start count : Nat) (shares statuses : Bytes) : Bytes := le 1 start ++ le 1 count ++ shares ++ statuses

/-- LAMP_RETURN: a frame that is not valid is a chain fault, reported where a valid one came before; a valid one counts the drivers and
is read (R566). -/
def lampReturn (b : Bytes) (s : State) : State :=
  match s.returnFault b with
  | some c =>
    let t : State := { s with lamps := { s.lamps with valid := some false } }
    if s.lamps.valid = some true then t.raise 0x1907 2 7 0xFF 0 (le 1 s.lamps.count ++ le 1 c) else t
  | none =>
    let statuses := readStatuses b
    let was := s.lamps.valid
    let s : State := { s with lamps := { s.lamps with valid := some true, drivers := statuses.length } }
    let s := if was = some false then s.raise 0x1908 3 7 0xFF 0 (le 1 statuses.length) else s
    ((List.range statuses.length).zip statuses).foldl State.driverStatus s

/-- CHANNEL_HEALTH_TIMEOUT: no measurement, or no clean one, for 2,000 ms (R571). -/
def healthTimeout (c : Nat) (s : State) : State :=
  let x : LampChannel := tget (fun _ => {}) s.lamps.channels c
  if x.health = 0 then s
  else if 2000 ≤ x.age then s.setHealth c (if x.low && !s.cfgOn 0x2B01 4 then 4 else 5)
  else if x.health = 1 ∧ 2000 ≤ x.cleanAge then s.setHealth c 5
  else s

/-- A lamp test starts, or starts again: 3,000 ms (R572). -/
def State.startLampTest (s : State) : State := { s with lamps := { s.lamps with test := 3000 } }

/-- LAMP_TEST_END: once the 3,000 ms have run, the patterns resume (R572). -/
def lampTestEnd (s : State) : State := if s.lamps.test ≤ 1 then { s with lamps := { s.lamps with test := 0 } } else s

/-- The panel, with its lamps, works in Run and Quiet while the image runs (R588). -/
def execLampReturn (start count : Nat) (shares statuses : Bytes) (s : State) : Host.Outcome State Fault Refusal :=
  .next (if s.power.phase = .running then lampReturn (returnFrame start count shares statuses) s.begin else s.begin)

def execChannelHealthTimeout (channel : Nat) (s : State) : Host.Outcome State Fault Refusal :=
  .next (if s.power.phase = .running then healthTimeout channel s.begin else s.begin)

def execLampTestEnd (s : State) : Host.Outcome State Fault Refusal :=
  .next (if s.power.phase = .running then lampTestEnd s.begin else s.begin)

end Sys2Proof.Machine
end

