-- ==== Sys2Proof/Machine/Crypto.lean ====
section
/-! DEFINITION. The primitives that the spec names by their standards (10 R322, R323; 15 R452, R453, R456, R457, R462, R467;
16 R474, R476): AES and its CMAC, CCM*, GCM and key unwrap (FIPS 197, SP 800-38B to 800-38F, IEEE 802.15.4), SHA-256, SHA-384,
HMAC and HKDF (FIPS 180-4, RFC 5869), ECDSA over P-256 and P-384 (FIPS 186-5). Log entry 134. -/

namespace Sys2Proof.Crypto

/-! ## Byte strings -/

/-- The bytes of two strings combined by exclusive or, as many as the shorter has. -/
def xorBytes (a b : Bytes) : Bytes := List.zipWith (· ^^^ ·) a b

/-- A number as `n` bytes, highest first, and back. -/
def big (n v : Nat) : Bytes := (List.range n).map (fun i => BitVec.ofNat 8 (v / 256 ^ (n - 1 - i)))
def unbig (b : Bytes) : Nat := b.foldl (fun v x => 256 * v + x.toNat) 0

/-- Pieces of `n` bytes, the last one perhaps shorter. -/
def pieces (n : Nat) (b : Bytes) : List Bytes := (List.range ((b.length + n - 1) / n)).map (fun i => (b.drop (n * i)).take n)

/-- Zero bytes after a string up to a multiple of 16. -/
def padded (b : Bytes) : Bytes := b ++ List.replicate ((16 - b.length % 16) % 16) 0

/-! ## AES -/

/-- Product in the field of 256 elements. -/
def double (a : Byte) : Byte := (a <<< 1) ^^^ (if a.msb then 0x1B else 0)
def times (a b : Byte) : Byte :=
  ((List.range 8).foldl (fun (p : Byte × Byte) i => (if b.getLsbD i then p.1 ^^^ p.2 else p.1, double p.2)) (0, a)).1

/-- The S-box, in rows of 16. -/
def box : List (List Nat) := [
  [0x63, 0x7C, 0x77, 0x7B, 0xF2, 0x6B, 0x6F, 0xC5, 0x30, 0x01, 0x67, 0x2B, 0xFE, 0xD7, 0xAB, 0x76],
  [0xCA, 0x82, 0xC9, 0x7D, 0xFA, 0x59, 0x47, 0xF0, 0xAD, 0xD4, 0xA2, 0xAF, 0x9C, 0xA4, 0x72, 0xC0],
  [0xB7, 0xFD, 0x93, 0x26, 0x36, 0x3F, 0xF7, 0xCC, 0x34, 0xA5, 0xE5, 0xF1, 0x71, 0xD8, 0x31, 0x15],
  [0x04, 0xC7, 0x23, 0xC3, 0x18, 0x96, 0x05, 0x9A, 0x07, 0x12, 0x80, 0xE2, 0xEB, 0x27, 0xB2, 0x75],
  [0x09, 0x83, 0x2C, 0x1A, 0x1B, 0x6E, 0x5A, 0xA0, 0x52, 0x3B, 0xD6, 0xB3, 0x29, 0xE3, 0x2F, 0x84],
  [0x53, 0xD1, 0x00, 0xED, 0x20, 0xFC, 0xB1, 0x5B, 0x6A, 0xCB, 0xBE, 0x39, 0x4A, 0x4C, 0x58, 0xCF],
  [0xD0, 0xEF, 0xAA, 0xFB, 0x43, 0x4D, 0x33, 0x85, 0x45, 0xF9, 0x02, 0x7F, 0x50, 0x3C, 0x9F, 0xA8],
  [0x51, 0xA3, 0x40, 0x8F, 0x92, 0x9D, 0x38, 0xF5, 0xBC, 0xB6, 0xDA, 0x21, 0x10, 0xFF, 0xF3, 0xD2],
  [0xCD, 0x0C, 0x13, 0xEC, 0x5F, 0x97, 0x44, 0x17, 0xC4, 0xA7, 0x7E, 0x3D, 0x64, 0x5D, 0x19, 0x73],
  [0x60, 0x81, 0x4F, 0xDC, 0x22, 0x2A, 0x90, 0x88, 0x46, 0xEE, 0xB8, 0x14, 0xDE, 0x5E, 0x0B, 0xDB],
  [0xE0, 0x32, 0x3A, 0x0A, 0x49, 0x06, 0x24, 0x5C, 0xC2, 0xD3, 0xAC, 0x62, 0x91, 0x95, 0xE4, 0x79],
  [0xE7, 0xC8, 0x37, 0x6D, 0x8D, 0xD5, 0x4E, 0xA9, 0x6C, 0x56, 0xF4, 0xEA, 0x65, 0x7A, 0xAE, 0x08],
  [0xBA, 0x78, 0x25, 0x2E, 0x1C, 0xA6, 0xB4, 0xC6, 0xE8, 0xDD, 0x74, 0x1F, 0x4B, 0xBD, 0x8B, 0x8A],
  [0x70, 0x3E, 0xB5, 0x66, 0x48, 0x03, 0xF6, 0x0E, 0x61, 0x35, 0x57, 0xB9, 0x86, 0xC1, 0x1D, 0x9E],
  [0xE1, 0xF8, 0x98, 0x11, 0x69, 0xD9, 0x8E, 0x94, 0x9B, 0x1E, 0x87, 0xE9, 0xCE, 0x55, 0x28, 0xDF],
  [0x8C, 0xA1, 0x89, 0x0D, 0xBF, 0xE6, 0x42, 0x68, 0x41, 0x99, 0x2D, 0x0F, 0xB0, 0x54, 0xBB, 0x16]]

/-- The S-box of a byte, and its inverse. -/
def sub (a : Byte) : Byte := BitVec.ofNat 8 ((box.getD (a.toNat / 16) []).getD (a.toNat % 16) 0)
def unsub (a : Byte) : Byte := BitVec.ofNat 8 (box.flatten.idxOf a.toNat)

/-- Round constant `i`. -/
def roundConstant (i : Nat) : Byte := (List.range (i - 1)).foldl (fun x _ => double x) 1

/-- Round keys of 16 bytes of a key of 16 or 32 bytes. -/
def roundKeys (key : Bytes) : List Bytes :=
  let nk := key.length / 4
  let words := (List.range (4 * (nk + 7) - nk)).foldl (fun (w : List Bytes) k =>
    let i := k + nk
    let last := w.getLastD []
    let t := if i % nk = 0 then
        xorBytes (((last.drop 1) ++ last.take 1).map sub) (roundConstant (i / nk) :: [0, 0, 0])
      else if nk = 8 ∧ i % 8 = 4 then last.map sub else last
    w ++ [xorBytes (w.getD k []) t]) (pieces 4 key)
  pieces 16 words.flatten

/-- Row r of the state moves r columns to the left, or back. -/
def shiftRows (back : Bool) (s : Bytes) : Bytes :=
  (List.range 16).map (fun k => s.getD ((if back then k + 16 * 4 - 4 * (k % 4) else k + 4 * (k % 4)) % 16) 0)

/-- Each column times the matrix whose first row is given. -/
def mixColumns (row : List Byte) (s : Bytes) : Bytes :=
  (pieces 4 s).flatMap (fun c => (List.range 4).map (fun r =>
    (List.range 4).foldl (fun x k => x ^^^ times (c.getD k 0) (row.getD ((k + 4 - r) % 4) 0)) 0))

/-- One block enciphered. -/
def aes (key block : Bytes) : Bytes :=
  match roundKeys key with
  | [] => block
  | k0 :: ks =>
    let s := ks.dropLast.foldl (fun s k => xorBytes (mixColumns [2, 3, 1, 1] (shiftRows false (s.map sub))) k) (xorBytes block k0)
    xorBytes (shiftRows false (s.map sub)) (ks.getLastD [])

/-- One block deciphered. -/
def aesInverse (key block : Bytes) : Bytes :=
  match (roundKeys key).reverse with
  | [] => block
  | k0 :: ks =>
    let s := ks.dropLast.foldl (fun s k => mixColumns [14, 11, 13, 9] (xorBytes ((shiftRows true s).map unsub) k)) (xorBytes block k0)
    xorBytes ((shiftRows true s).map unsub) (ks.getLastD [])

/-- AES-CMAC. -/
def cmac (key message : Bytes) : Bytes :=
  let twice := fun (b : Bytes) =>
    let v : BitVec 128 := BitVec.ofNat 128 (unbig b)
    big 16 ((v <<< 1) ^^^ (if v.msb then 0x87 else 0)).toNat
  let k1 := twice (aes key (List.replicate 16 0))
  let whole := decide (message.length % 16 = 0) && !message.isEmpty
  let n := if whole then message.length - 16 else message.length / 16 * 16
  let last := if whole then xorBytes (message.drop n) k1 else xorBytes (padded (message.drop n ++ [0x80])) (twice k1)
  (pieces 16 (message.take n) ++ [last]).foldl (fun x b => aes key (xorBytes x b)) (List.replicate 16 0)

/-! ## CCM*, GCM, key unwrap -/

/-- Key stream block `i` of CCM* with a 13-byte nonce. -/
def ccmStream (key nonce : Bytes) (i : Nat) : Bytes := aes key ([1] ++ nonce ++ big 2 i)

/-- Tag of `size` bytes of CCM* over authenticated data and message; none of size 0. -/
def ccmTag (key nonce data message : Bytes) (size : Nat) : Bytes :=
  let flags : Nat := (if data.isEmpty then 0 else 64) + (if size = 0 then 0 else (size - 2) / 2 * 8) + 1
  let first := big 1 flags ++ nonce ++ big 2 message.length
  let lead := if data.isEmpty then [] else padded (big 2 data.length ++ data)
  let mac := (pieces 16 (first ++ lead ++ padded message)).foldl (fun x b => aes key (xorBytes x b)) (List.replicate 16 0)
  (xorBytes mac (ccmStream key nonce 0)).take size

/-- Message of CCM* enciphered. -/
def ccmCipher (key nonce message : Bytes) : Bytes :=
  ((pieces 16 message).zipIdx.map (fun p => xorBytes p.1 (ccmStream key nonce (p.2 + 1)))).flatten

/-- Product of GCM's field of 2^128 elements. -/
def gcmTimes (x y : BitVec 128) : BitVec 128 :=
  ((List.range 128).foldl (fun (p : BitVec 128 × BitVec 128) i =>
    (if x.getMsbD i then p.1 ^^^ p.2 else p.1, (p.2 >>> 1) ^^^ (if p.2.getLsbD 0 then 0xE1#128 <<< 120 else 0))) (0, y)).1

/-- Tag of GCM over authenticated data and ciphertext under a 12-byte nonce. -/
def gcmTag (key nonce data cipher : Bytes) : Bytes :=
  let h : BitVec 128 := BitVec.ofNat 128 (unbig (aes key (List.replicate 16 0)))
  let hash := (pieces 16 (padded data ++ padded cipher ++ big 8 (8 * data.length) ++ big 8 (8 * cipher.length))).foldl
    (fun (x : BitVec 128) b => gcmTimes (x ^^^ BitVec.ofNat 128 (unbig b)) h) 0
  xorBytes (big 16 hash.toNat) (aes key (nonce ++ big 4 1))

/-- Message of GCM enciphered, or deciphered. -/
def gcmCipher (key nonce message : Bytes) : Bytes :=
  ((pieces 16 message).zipIdx.map (fun p => xorBytes p.1 (aes key (nonce ++ big 4 (p.2 + 2))))).flatten

/-- The key that AES key wrap of SP 800-38F holds; none where its integrity check fails. -/
def unwrap (key wrapped : Bytes) : Option Bytes :=
  let n := wrapped.length / 8 - 1
  let r := ((List.range (6 * n)).reverse).foldl (fun (x : Bytes × List Bytes) t =>
    let i := t % n
    let b := aesInverse key (xorBytes x.1 (big 8 (t + 1)) ++ x.2.getD i [])
    (b.take 8, x.2.set i (b.drop 8))) (wrapped.take 8, pieces 8 (wrapped.drop 8))
  if r.1 = List.replicate 8 0xA6 then some r.2.flatten else none

/-! ## Hashes -/

/-- The first `n` primes. -/
def primes (n : Nat) : List Nat :=
  ((List.range 412).filter (fun p => decide (2 ≤ p) && (List.range p).all (fun d => decide (d < 2) || decide (p % d ≠ 0)))).take n

/-- The greatest number whose power `e` is at most `v`, below 2 ^ `bits`. -/
def root (e bits v : Nat) : Nat :=
  ((List.range bits).reverse).foldl (fun x i => if (x + 2 ^ i) ^ e ≤ v then x + 2 ^ i else x) 0

/-- Fraction bits of the root of a prime, as SHA-2 takes its constants. -/
def fraction (e w p : Nat) : BitVec w := BitVec.ofNat w (root e (w + 8) (p * 2 ^ (e * w)))

/-- What a SHA-2 of one word size takes: rounds, and rotations of its functions. -/
structure Sha (w : Nat) where
  rounds : Nat
  big0 : Nat × Nat × Nat
  big1 : Nat × Nat × Nat
  small0 : Nat × Nat × Nat
  small1 : Nat × Nat × Nat

/-- SHA-2 with 32-bit and with 64-bit words. -/
def sha32 : Sha 32 := ⟨64, (2, 13, 22), (6, 11, 25), (7, 18, 3), (17, 19, 10)⟩
def sha64 : Sha 64 := ⟨80, (28, 34, 39), (14, 18, 41), (1, 8, 7), (19, 61, 6)⟩

/-- Three rotations combined, the last one a shift for the small functions. -/
def turns {w : Nat} (x : BitVec w) (k : Nat × Nat × Nat) : BitVec w := x.rotateRight k.1 ^^^ x.rotateRight k.2.1 ^^^ x.rotateRight k.2.2
def slides {w : Nat} (x : BitVec w) (k : Nat × Nat × Nat) : BitVec w := x.rotateRight k.1 ^^^ x.rotateRight k.2.1 ^^^ (x >>> k.2.2)

/-- One block of SHA-2 into the eight words of the hash. -/
def shaBlock {w : Nat} (c : Sha w) (h : List (BitVec w)) (block : Bytes) : List (BitVec w) :=
  let m := (pieces (w / 8) block).map (fun b => BitVec.ofNat w (unbig b))
  let m := (List.range (c.rounds - 16)).foldl (fun (l : List (BitVec w)) i =>
    l ++ [slides (l.getD (i + 14) 0) c.small1 + l.getD (i + 9) 0 + slides (l.getD (i + 1) 0) c.small0 + l.getD i 0]) m
  let r := (((primes c.rounds).map (fraction 3 w)).zip m).foldl (fun (v : List (BitVec w)) km =>
    match v with
    | [a, b, d, e, f, g, i, j] =>
      let t := j + turns f c.big1 + ((f &&& g) ^^^ (~~~f &&& i)) + km.1 + km.2
      [t + turns a c.big0 + ((a &&& b) ^^^ (a &&& d) ^^^ (b &&& d)), a, b, d, e + t, f, g, i]
    | v => v) h
  List.zipWith (· + ·) h r

/-- SHA-2 over a message from an initial hash. -/
def sha {w : Nat} (c : Sha w) (start : List (BitVec w)) (message : Bytes) : Bytes :=
  let n := 2 * w
  let tail := w / 4
  let m := message ++ [0x80]
  let m := m ++ List.replicate ((n - (m.length + tail) % n) % n) 0 ++ big tail (8 * message.length)
  ((pieces n m).foldl (shaBlock c) start).flatMap (fun x => big (w / 8) x.toNat)

def sha256 (message : Bytes) : Bytes := sha sha32 ((primes 8).map (fraction 2 32)) message
def sha384 (message : Bytes) : Bytes := (sha sha64 (((primes 16).drop 8).map (fraction 2 64)) message).take 48

/-- HMAC-SHA-256. -/
def hmac (key message : Bytes) : Bytes :=
  let k := if 64 < key.length then sha256 key else key
  let k := k ++ List.replicate (64 - k.length) 0
  sha256 (k.map (· ^^^ 0x5C) ++ sha256 (k.map (· ^^^ 0x36) ++ message))

/-- HKDF-SHA-256: `size` bytes from key, salt and info. -/
def hkdf (key salt info : Bytes) (size : Nat) : Bytes :=
  let prk := hmac (if salt.isEmpty then List.replicate 32 0 else salt) key
  (((List.range ((size + 31) / 32)).foldl (fun (p : Bytes × Bytes) i =>
    let t := hmac prk (p.2 ++ info ++ big 1 (i + 1))
    (p.1 ++ t, t)) ([], [])).1).take size

/-! ## ECDSA -/

/-- A prime curve with a = -3: size of a number in bytes, field, b, generator and its order. -/
structure Curve where
  size : Nat
  p : Nat
  b : Nat
  g : Nat × Nat
  n : Nat

def p256 : Curve :=
  { size := 32, p := 2 ^ 256 - 2 ^ 224 + 2 ^ 192 + 2 ^ 96 - 1
    b := 0x5AC635D8AA3A93E7B3EBBD55769886BC651D06B0CC53B0F63BCE3C3E27D2604B
    g := (0x6B17D1F2E12C4247F8BCE6E563A440F277037D812DEB33A0F4A13945D898C296,
          0x4FE342E2FE1A7F9B8EE7EB4A7C0F9E162BCE33576B315ECECBB6406837BF51F5)
    n := 0xFFFFFFFF00000000FFFFFFFFFFFFFFFFBCE6FAADA7179E84F3B9CAC2FC632551 }

def p384 : Curve :=
  { size := 48, p := 2 ^ 384 - 2 ^ 128 - 2 ^ 96 + 2 ^ 32 - 1
    b := 0xB3312FA7E23EE7E4988E056BE3F82D19181D9C6EFE8141120314088F5013875AC656398D8A2ED19D2A85C8EDD3EC2AEF
    g := (0xAA87CA22BE8B05378EB1C71EF320AD746E1D3B628BA79B9859F741E082542A385502F25DBF55296C3A545E3872760AB7,
          0x3617DE4A96262C6F5D9E98BF9292DC29F8F41DBD289A147CE9DA3113B5F0B8C00A60B1CE1D7E819D7A431D7C90EA0E5F)
    n := 0xFFFFFFFFFFFFFFFFFFFFFFFFFFFFFFFFFFFFFFFFFFFFFFFFC7634D81F4372DDF581A0DB248B0A77AECEC196ACCC52973 }

/-- Power modulo `m`, by squaring over the bits of the exponent. -/
def powMod (m x e : Nat) : Nat :=
  ((List.range 400).foldl (fun (r : Nat × Nat) i => (if e.testBit i then r.1 * r.2 % m else r.1, r.2 * r.2 % m)) (1 % m, x % m)).1

/-- Inverse modulo a prime. -/
def inverse (m x : Nat) : Nat := powMod m x (m - 2)

/-- Sum of two points; none is the point at infinity. -/
def Curve.add (c : Curve) (a b : Option (Nat × Nat)) : Option (Nat × Nat) :=
  match a, b with
  | none, q => q
  | q, none => q
  | some (x, y), some (u, v) =>
    if x = u ∧ (y + v) % c.p = 0 then none
    else
      let s := if x = u then (3 * x * x + c.p - 3) * inverse c.p (2 * y) % c.p
        else (v + c.p - y) * inverse c.p (u + c.p - x) % c.p
      let w := (s * s + 2 * c.p - x - u) % c.p
      some (w, (s * (x + c.p - w) + c.p - y) % c.p)

/-- A multiple of a point. -/
def Curve.mul (c : Curve) (k : Nat) (a : Option (Nat × Nat)) : Option (Nat × Nat) :=
  ((List.range (8 * c.size)).foldl (fun (r : Option (Nat × Nat) × Option (Nat × Nat)) i =>
    (if k.testBit i then c.add r.1 r.2 else r.1, c.add r.2 r.2)) (none, a)).1

/-- A point as uncompressed bytes, and the point that bytes spell, if it lies on the curve. -/
def Curve.bytes (c : Curve) (a : Option (Nat × Nat)) : Bytes :=
  match a with | some (x, y) => [4] ++ big c.size x ++ big c.size y | none => [0]
def Curve.point (c : Curve) (b : Bytes) : Option (Nat × Nat) :=
  let x := unbig ((b.drop 1).take c.size)
  let y := unbig (b.drop (1 + c.size))
  if b.take 1 = [4] ∧ b.length = 1 + 2 * c.size ∧ x < c.p ∧ y < c.p ∧ (y * y + 3 * x) % c.p = (x * x * x + c.b) % c.p then some (x, y)
  else none

/-- A scalar from 1 to n - 1 from surplus random bytes (FIPS 186-5, A.2.1). -/
def Curve.scalar (c : Curve) (b : Bytes) : Nat := unbig b % (c.n - 1) + 1

/-- ECDSA: the signature r, s of a digest under a private scalar, with the secret number k. -/
def Curve.signs (c : Curve) (d k : Nat) (digest : Bytes) : Bytes :=
  let r := match c.mul k (some c.g) with | some (x, _) => x % c.n | none => 0
  big c.size r ++ big c.size (inverse c.n k * (unbig digest + r * d) % c.n)

/-- ECDH: x-coordinate of a private scalar times a peer's point; none where the peer's bytes are no point. -/
def Curve.shared (c : Curve) (d : Nat) (peer : Bytes) : Option Bytes :=
  match c.point peer with
  | some q => (c.mul d (some q)).map (fun x => big c.size x.1)
  | none => none

/-- ECDSA: the signature r, s of a digest holds under a public key. -/
def Curve.verifies (c : Curve) (key digest signature : Bytes) : Bool :=
  let r := unbig (signature.take c.size)
  let s := unbig (signature.drop c.size)
  let w := inverse c.n s
  match c.point key with
  | none => false
  | some q =>
    decide (signature.length = 2 * c.size) && decide (1 ≤ r) && decide (r < c.n) && decide (1 ≤ s) && decide (s < c.n) &&
      (match c.add (c.mul (unbig digest * w % c.n) (some c.g)) (c.mul (r * w % c.n) (some q)) with
       | some (x, _) => decide (x % c.n = r)
       | none => false)

end Sys2Proof.Crypto
end

