-- ==== Sys2Proof/Machine/Phy.lean ====
section
/-! DEFINITION. The physical layers from bytes to what is sent: the carriageway PPDU (08 R245 to R256) up to the values of its subcarriers,
and the verge frame (08 R262 to R264) up to its bits. The inverse DFT of R255 and the modulated wave of R262 are taken as these values and
bits (log entry 111). -/

namespace Sys2Proof.Machine

/-! ## Bits -/

/-- The low `n` bits of a number, least significant first (R245). -/
def bitsOf (n v : Nat) : List Bool := (List.range n).map (fun k => bit v k)

/-- The bits of bytes, each least significant first (R245). -/
def byteBits (b : Bytes) : List Bool := b.flatMap (fun x => bitsOf 8 x.toNat)

/-- The bytes that bits spell, least significant first. -/
def bitsToBytes (l : List Bool) : Bytes :=
  (List.range (l.length / 8)).map (fun k =>
    BitVec.ofNat 8 (((List.range 8).map (fun j => if l.getD (8 * k + j) false then 2 ^ j else 0)).sum))

/-- A shift register that sends out the sum of two of its cells and takes it in at cell 1: `a` and `b` are the cells added. State: cell 1
is bit 0. The output bits of `n` steps. -/
def shiftBits (cells a b : Nat) : Nat → Nat → List Bool
  | 0, _ => []
  | n + 1, x =>
    let f := bit x (a - 1) != bit x (b - 1)
    f :: shiftBits cells a b n ((2 * x + (if f then 1 else 0)) % 2 ^ cells)

/-- The scrambler x^7 + x^4 + 1 from a state (R249): that its output is the bit it feeds back is PRESUMED (log entry 133). -/
def scramblerBits (n state : Nat) : List Bool := shiftBits 7 7 4 n state

/-- The PN9 sequence x^9 + x^5 + 1 from 0x1FF (R264; log entry 133). -/
def pn9Bits (n : Nat) : List Bool := shiftBits 9 9 5 n 0x1FF

/-- Two bit strings added. -/
def xorBits (a b : List Bool) : List Bool := (a.zip b).map (fun x => x.1 != x.2)

/-! ## Modulation and coding (R250, R252, R256) -/

/-- Bits of a constellation point by MCS (R252, R256). -/
def pointBits : Nat → Nat
  | 0 => 1 | 1 => 2 | 2 => 2 | 3 => 4 | 4 => 4 | _ => 6

/-- Coded bits of a symbol (R256). -/
def codedBits (mcs : Nat) : Nat := 48 * pointBits mcs

/-- Data bits of a symbol by MCS (R256). -/
def symbolBits : Nat → Nat
  | 0 => 24 | 1 => 48 | 2 => 72 | 3 => 96 | 4 => 144 | 5 => 192 | _ => 216

/-- Symbols of a data field (R249). -/
def symbolsOf (mcs length : Nat) : Nat := (8 + 8 * length + 6 + symbolBits mcs - 1) / symbolBits mcs

/-- Microseconds of a PPDU (R240, R245). -/
def ppduMicros (mcs length : Nat) : Nat := 176 + 16 * symbolsOf mcs length

/-- The encoder's outputs A (133 octal) and B (171 octal) for a bit and the six before it, newest first (R250). -/
def encodeBit (x : Bool) (d : List Bool) : Bool × Bool :=
  let g := fun (k : Nat) => d.getD (k - 1) false
  (((x != g 2) != (g 3 != g 5)) != g 6, ((x != g 1) != (g 2 != g 3)) != g 6)

/-- The rate-1/2 code from a history of six bits (R250). -/
def convolve : List Bool → List Bool → List (Bool × Bool)
  | _, [] => []
  | d, x :: t => encodeBit x d :: convolve ((x :: d).take 6) t

/-- Outputs sent (R250): all at rate 1/2; without B2 at 2/3; without B2 and A3 at 3/4. `k` counts the input bits. -/
def puncture (mcs : Nat) : Nat → List (Bool × Bool) → List Bool
  | _, [] => []
  | k, (a, b) :: t =>
    (if mcs = 2 ∨ mcs = 4 ∨ mcs = 6 then (match k % 3 with | 0 => [a, b] | 1 => [a] | _ => [b])
     else if mcs = 5 then (if k % 2 = 0 then [a, b] else [a])
     else [a, b]) ++ puncture mcs (k + 1) t

/-- Position of coded bit `k` in its block (R251). -/
def interleaved (mcs k : Nat) : Nat :=
  let n := codedBits mcs
  let s := max (pointBits mcs / 2) 1
  let i := n / 12 * (k % 12) + k / 12
  s * (i / s) + (i + n - 12 * i / n) % s

/-- A block of coded bits interleaved (R251). -/
def interleave (mcs : Nat) (l : List Bool) : List Bool :=
  (List.range (codedBits mcs)).map (fun j =>
    match (List.range (codedBits mcs)).find? (fun k => interleaved mcs k = j) with
    | some k => l.getD k false
    | none => false)

/-- The level that Gray-coded bits stand for, first bit first (R252). -/
def grayLevel : List Bool → Int
  | [b] => if b then 1 else -1
  | [a, b] => (if a then 1 else -1) * (if b then 1 else 3)
  | [a, b, c] => (if a then 1 else -1) * (match b, c with | false, false => 7 | false, true => 5 | true, true => 3 | true, false => 1)
  | _ => 0

/-- The constellation point of a group of bits, before K_MOD (R252). -/
def point (mcs : Nat) (l : List Bool) : Int × Int :=
  if pointBits mcs = 1 then (grayLevel l, 0) else (grayLevel (l.take (pointBits mcs / 2)), grayLevel (l.drop (pointBits mcs / 2)))

/-- One over the square of K_MOD (R252). -/
def pointPower (mcs : Nat) : Nat := match pointBits mcs with | 1 => 1 | 2 => 2 | 4 => 10 | _ => 42

/-- Subcarrier of data symbol `k` (R253). -/
def dataSubcarrier (k : Nat) : Int :=
  if k < 5 then k - 26 else if k < 18 then k - 25 else if k < 24 then k - 24 else if k < 30 then k - 23 else if k < 43 then k - 22
  else k - 21

/-- The sign of the pilots of symbol `m` (R254). -/
def pilotSign (m : Nat) : Int := if (scramblerBits 127 127).getD (m % 127) false then -1 else 1

/-- The pilots of symbol `m` (R254). -/
def pilots (m : Nat) : List (Int × Int) :=
  [(-21, pilotSign m), (-7, pilotSign m), (7, pilotSign m), (21, -pilotSign m)]

/-- OFDM symbol `m` of a block of coded bits (R251 to R254). -/
def ofdmSymbol (mcs m : Nat) (coded : List Bool) : OfdmSymbol :=
  let l := interleave mcs coded
  let n := pointBits mcs
  { power := pointPower mcs, pilots := pilots m
    data := (List.range 48).map (fun k => (dataSubcarrier k, point mcs ((l.drop (n * k)).take n))) }

/-! ## The PPDU (R245 to R249, R255) -/

/-- The short training field (R246): a sign s on each subcarrier that carries energy, of value s x sqrt(13/6) x (1 + j); 32 periods of 16
samples. -/
def shortField : List (Int × Int) :=
  [(-24, 1), (-20, -1), (-16, 1), (-12, -1), (-8, -1), (-4, 1), (4, -1), (8, -1), (12, 1), (16, 1), (20, 1), (24, 1)]

/-- The long training field (R246): the sign on each used subcarrier, from the mask; a guard of 32 samples, then four symbols of 64. -/
def longField : List (Int × Int) :=
  ((List.range 53).map (fun k => (k : Int) - 26)).filterMap (fun k =>
    if k = 0 then none
    else some (k, if bit 0x0A3F1C6D5B2E4 ((if k < 0 then k + 26 else k + 25).toNat) then -1 else 1))

end Sys2Proof.Machine

namespace Sys2Proof

/-- Fields of a received header symbol (R247): MCS, PSDU length, and even parity over bits [17:0]. -/
def Ppdu.mcs (p : Ppdu) : Nat := p.header.toNat % 8
def Ppdu.length (p : Ppdu) : Nat := p.header.toNat / 8 % 4096
def Ppdu.parityOk (p : Ppdu) : Bool := decide (((List.range 18).filter (fun i => p.header.getLsbD i)).length % 2 = 0)

end Sys2Proof

namespace Sys2Proof.Machine

/-- The 24 bits of the header symbol (R247). -/
def headerBits (mcs length : Nat) : List Bool :=
  let l := bitsOf 3 mcs ++ bitsOf 12 length ++ [false, false]
  l ++ [decide (l.count true % 2 = 1)] ++ List.replicate 6 false

/-- The scrambled data field (R249): service, PSDU, tail of zeros after scrambling, pad. -/
def dataBits (mcs state : Nat) (psdu : Bytes) : List Bool :=
  let body := List.replicate 8 false ++ byteBits psdu
  let total := symbolsOf mcs psdu.length * symbolBits mcs
  let plain := body ++ List.replicate (total - body.length) false
  let l := xorBits plain (scramblerBits total state)
  l.take body.length ++ List.replicate 6 false ++ l.drop (body.length + 6)

/-- Blocks of `n` bits. -/
def blocks (n : Nat) : Nat → List Bool → List (List Bool)
  | 0, _ => []
  | k + 1, l => l.take n :: blocks n k (l.drop n)

/-- A carriageway PPDU (R245): preamble, header symbol, data symbols. The preamble and the symbols follow without a gap; each symbol is the
64-point inverse DFT of its subcarriers behind a cyclic prefix of 16 samples (R255). -/
def ppdu (mcs state : Nat) (psdu : Bytes) : Wave :=
  let header := puncture 0 0 (convolve [] (headerBits mcs psdu.length))
  let n := symbolsOf mcs psdu.length
  let coded := puncture mcs 0 (convolve [] (dataBits mcs state psdu))
  { shortField := shortField, longField := longField
    symbols := ofdmSymbol 0 0 header :: (List.range n).zipWith (fun m b => ofdmSymbol mcs (m + 1) b) (blocks (codedBits mcs) n coded) }

/-! ## The verge frame (R263, R264) -/

/-- One bit of the CRC-16, polynomial 0x1021. -/
def crc16Bit (c : Nat) : Nat := if c / 32768 % 2 = 1 then (2 * c % 65536) ^^^ 0x1021 else 2 * c % 65536

/-- CRC-16 of bytes from 0xFFFF, no final inversion (R263). -/
def crc16 (b : Bytes) : Nat :=
  b.foldl (fun c x => (List.range 8).foldl (fun c _ => crc16Bit c) (c ^^^ (x.toNat * 256))) 0xFFFF

/-- Bytes XORed with the PN9 sequence (R264). -/
def whitened (b : Bytes) : Bytes := bitsToBytes (xorBits (byteBits b) (pn9Bits (8 * b.length)))

/-- A verge frame as it is sent, each byte least significant bit first: preamble, sync word, and length, payload and CRC whitened (R263,
R264). -/
def vergeFrame (payload : Bytes) : Bytes :=
  let body := le 1 payload.length ++ payload
  List.replicate 4 0x55 ++ le 2 0x4FD3 ++ whitened (body ++ le 2 (crc16 body))

/-- What a receiver makes of the whitened bytes after a sync word (R264): the length is allowed, and the CRC holds. -/
def vergeLengthOk (air : Bytes) : Bool :=
  let n := byteAt (whitened air) 0
  decide (1 ≤ n) && decide (n ≤ 64) && decide (n + 3 ≤ air.length)
def vergeCrcOk (air : Bytes) : Bool :=
  let b := whitened air
  let n := byteAt b 0
  field b (n + 1) 2 = crc16 (b.take (n + 1))

end Sys2Proof.Machine
end

