-- ==== Sys2Proof/Machine/Frames.lean ====
section
/-! DEFINITION. Working keys, frame counters, frames and beacon bodies of the air interface, and the verge channel's
transmissions (08 R263 to R268, R273; 09 R292 to R295, R301 to R303; 10 R307 to R324; 15 R456, R457). -/

namespace Sys2Proof.Machine

/-! ## Derivation -/

/-- KDF of R456: blocks PRF(K, [i] ‖ label ‖ 0x00 ‖ context ‖ [L]), the first `bits` bits. -/
def kdf (k : Bytes) (label : String) (context : Bytes) (bits : Nat) : Bytes :=
  ((List.range ((bits + 127) / 128)).flatMap (fun i =>
    Crypto.cmac k (le 1 (i + 1) ++ ascii label ++ [0] ++ context ++ le 2 bits))).take (bits / 8)

/-- Device identity key and its public half, 0x2702:01, under the root in use (R452): the private scalar is 48 derived bytes, reduced to 1 to
n - 1 (FIPS 186-5, A.2.1). -/
def identityScalar (test : Bool) : Nat :=
  Crypto.p256.scalar (Crypto.hkdf (Config.deviceRoot test) (le 8 Config.serial.toNat) (ascii "VL identity") 48)
def identityKey (test : Bool) : Bytes := Crypto.p256.bytes (Crypto.p256.mul (identityScalar test) (some Crypto.p256.g))

/-- Domain byte d (R451). -/
def State.domain (s : State) : Bytes := [if s.keys.testRoot then 2 else 1]

/-- Pair number, 0x2600:02: (address + 1) div 2; 0 none (R410). -/
def Units.pairNumber (u : Units) : Nat := if u.chain.address = 0 then 0 else (u.chain.address + 1) / 2

/-- Site key the ports send under, and its generation: the pending half from the switch on (R464). -/
def State.sendKey (s : State) : Bytes := if s.keys.switched then s.keys.pendingKey else s.keys.current
def State.sendGeneration (s : State) : Nat := if s.keys.switched then s.keys.pendingGeneration else s.keys.generation

/-- Broadcast root and lane root of a site key (R456). -/
def State.broadcastRoot (s : State) (k : Bytes) : Bytes := kdf k "VL bcast root" (s.domain ++ le 1 s.pairNumber) 128
def State.laneRoot (s : State) (k : Bytes) (n : Nat) : Bytes :=
  kdf k "VL lane root" (s.domain ++ le 1 s.pairNumber ++ le 1 n) 128

/-- Broadcast key and lane key at the present pair epoch, lane admission key (R456). -/
def State.broadcastKey (s : State) : Bytes := kdf (s.broadcastRoot s.sendKey) "VL bcast" (le 2 s.pair.epoch.toNat) 128
def State.laneKey (s : State) (n : Nat) : Bytes := kdf (s.laneRoot s.sendKey n) "VL lane" (le 2 s.pair.epoch.toNat) 128
def State.admissionKey (s : State) (n : Nat) : Bytes :=
  kdf s.sendKey ("VL adm" ++ "it") (s.domain ++ le 1 s.pairNumber ++ le 1 n) 128

/-- Pair base and pair link key, from the START nonces of the odd and the even unit; cell-link key of two pairs (R456). -/
def State.pairBase (s : State) : Bytes := kdf s.sendKey "VL pair" (s.domain ++ le 1 s.pairNumber) 128
def State.pairLinkKey (s : State) (odd even : Bytes) : Bytes := Crypto.hkdf s.pairBase (odd ++ even) (ascii "VL pair link") 16
def State.cellLinkKey (s : State) (p q : Nat) : Bytes := kdf s.sendKey "VL cell" (s.domain ++ le 1 (min p q) ++ le 1 (max p q)) 128

/-- Check value of a site key (R457). -/
def siteCheck (k : Bytes) : U32 := BitVec.ofNat 32 (unle ((Crypto.cmac k (List.replicate 16 0)).take 4))

/-- Check value of a key set (R457). -/
def State.setCheck (s : State) (k : Bytes) (n generation : Nat) : Bytes :=
  (Crypto.cmac (s.laneRoot k n) (s.broadcastRoot k ++ le 1 s.pairNumber ++ le 1 n ++ le 1 generation)).take 4

/-! ## Addresses, nonces, carriageway frames -/

/-- Address of the controller on air (R307). -/
def State.address (s : State) : Nat := 0xFF00 + s.pairNumber

/-- Address of the machine in lane `n` (R307). -/
def State.laneAddress (s : State) (n : Nat) : Nat := s.pairNumber * 256 + n

/-- The 13-byte nonce (R322) of the frame whose 64-bit count is `count`. -/
def State.nonce (s : State) (sender : Nat) (count : U64) (level : Nat) : Bytes :=
  le 2 sender ++ le 2 s.pair.epoch.toNat ++ le 4 (count.toNat / 4294967296) ++ le 4 (count.toNat % 4294967296) ++ le 1 level

/-- One element (R312). -/
def elementBytes (typ : Nat) (msn : Option Nat) (value : Bytes) : Bytes :=
  le 1 (typ + (if msn.isSome then 128 else 0)) ++ le 1 (msn.getD 0) ++ le 2 value.length ++ value

/-- Epoch and complement as they travel (R308). -/
def epochBytes (e : U16) : Bytes := le 2 e.toNat ++ le 2 (65535 - e.toNat)

/-- The 20-byte header of a carriageway frame (R310). -/
def State.frameHeader (s : State) (typ generation dest : Nat) (laneEpoch : U16) (count : U64) (len : Nat) : Bytes :=
  le 1 typ ++ le 1 generation ++ le 2 s.address ++ le 2 dest ++ epochBytes s.pair.epoch ++ epochBytes laneEpoch ++
    le 4 (count.toNat % 4294967296) ++ le 2 len

/-- The state after one broadcast frame counter is drawn (R324). -/
def State.drawBroadcast (s : State) : State := { s with air := { s.air with broadcast := s.air.broadcast + 1 } }

/-- A broadcast frame over a body, MIC-64 at level 2 (R310, R323). -/
def State.broadcastFrame (s : State) (body : Bytes) : Bytes :=
  let h := s.frameHeader 1 s.sendGeneration 0xFFFF 0 s.air.broadcast body.length
  h ++ body ++ Crypto.ccmTag s.broadcastKey (s.nonce s.address s.air.broadcast 2) (h ++ body) [] 8

/-- Air record of lane `n`. -/
def State.airLane (s : State) (n : Nat) : AirLane := tget (fun _ => {}) s.airLanes n

/-- The state after `f` on the air record of lane `n`. -/
def State.onAirLane (n : Nat) (f : AirLane → AirLane) (s : State) : State :=
  { s with airLanes := tmod (fun _ => {}) s.airLanes n f }

/-- Key a unicast frame goes under: 0 the admission key, until the machine has acknowledged its lane key; 1 the lane key; 2 the
lane key of the generation being withdrawn, for a key delivery to a machine that has not acknowledged the new set (R310, R311,
R333). -/
def State.unicastKey (s : State) (n : Nat) (delivery : Bool) : Nat :=
  let g := (s.airLane n).keyGeneration
  if g = 0 then 0 else if s.keys.switched && delivery && decide (g ≠ s.keys.pendingGeneration) then 2 else 1

/-- A unicast frame to lane `n` over a body, ENC-MIC-64 at level 6 (R310, R323). -/
def State.unicastFrame (s : State) (n which : Nat) (body : Bytes) : Bytes :=
  let a := s.airLane n
  let count := match which with | 0 => a.admissionCounter | 1 => a.counter | _ => a.oldCounter
  let k := match which with
    | 0 => s.admissionKey n
    | 1 => s.laneKey n
    | _ => kdf (s.laneRoot s.keys.current n) "VL lane" (le 2 s.pair.epoch.toNat) 128
  let g : Nat := match which with | 0 => 0 | 1 => s.sendGeneration | _ => s.keys.generation
  let h := s.frameHeader 2 g (s.laneAddress n) (s.lane n).epoch count body.length
  h ++ Crypto.ccmCipher k (s.nonce s.address count 6) body ++ Crypto.ccmTag k (s.nonce s.address count 6) h body 8

/-- The state after one unicast frame counter of lane `n` is drawn (R324). -/
def State.drawUnicast (n which : Nat) (s : State) : State :=
  s.onAirLane n (fun a => match which with
    | 0 => { a with admissionCounter := a.admissionCounter + 1 }
    | 1 => { a with counter := a.counter + 1 }
    | _ => { a with oldCounter := a.oldCounter + 1 })

/-! ## Beacon bodies -/

/-- State code of a stored halt record (R214), 0 where it fails its complement. -/
def recordCode (v : U16) : Nat := (codeOf v).getD 0

/-- A halt record is in force: states 1 to 3 (R214). -/
def inForce (v : U16) : Bool := decide (1 ≤ recordCode v) && decide (recordCode v ≤ 3)

/-- Lanes whose own halt record is in force. -/
def Units.haltedLanes (u : Units) : List Nat := (u.lanes.filter (fun e => inForce e.2.haltRecord)).map (·.1)

/-- Halt summary of a beacon (R292): `cw` is the carriageway, none for the whole cell (R293). -/
def State.haltSummary (s : State) (cw : Option Nat) : Nat :=
  let lanes := match cw with
    | some c => s.haltedLanes.any (fun n => n % 4 = c)
    | none => !s.haltedLanes.isEmpty
  (if lanes then 16 else 0) + recordCode s.halt.site * 4 + recordCode s.halt.cell

/-- Six bytes with bit i set for lane 4i + c of a list (R292, R315). -/
def laneBits (c : Nat) (l : List Nat) : Nat := ((l.filter (fun n => n % 4 = c)).map (fun n => 2 ^ (n / 4))).sum

/-- Tick beacon body of carriageway `c` at a start offset (R292). -/
def State.tickBeacon (s : State) (c offset : Nat) : Bytes :=
  let sum := s.haltSummary (some c)
  let bits := laneBits c s.haltedLanes
  le 4 (s.cfg 0x2500 1) ++ le 2 (s.clock.tick.toNat % 65536) ++ le 2 offset ++ le 1 (s.milestonePos * 4 + c) ++
    le 1 (s.cfg 0x2501 6 + (if s.time.valid then 8 else 0) + (if s.stagePos = 0 then 16 else 0)) ++
    le 1 (s.cfg 0x2501 1) ++ le 1 (s.cfg 0x2501 2) ++ le 1 (s.cfg 0x2501 3) ++ le 1 (s.cfg 0x2501 4) ++
    le 1 sum ++ le 1 (255 - sum) ++ le 2 s.halt.haltId.toNat ++ le 6 bits ++ le 6 (281474976710655 - bits)

/-- Halt element of carriageway `c` (R314, R315). -/
def State.haltElement (s : State) (c : Nat) (covered : List Nat) : Bytes :=
  let sum := s.haltSummary (some c)
  let bits := laneBits c covered
  le 1 sum ++ le 1 (255 - sum) ++ le 2 s.halt.haltId.toNat ++ le 6 bits ++ le 6 (281474976710655 - bits)

/-! ## The verge channel -/

/-- This unit sends its cell's beacons: the image runs in Run, is not silent, holds the right of way, holds a site key
and has begun (R237, R300, R425, R471, R588, R589). -/
def State.onAir (s : State) : Bool :=
  decide (s.power.phase = .running) && s.power.state = 0 && !s.halt.silent &&
    (s.pair.role = 0 || s.pair.role = 1 || s.pair.role = 4) && s.keys.security ≠ 0 && s.sendGeneration ≠ 0 && s.power.beacons

/-- Stage number S = floor(T / 100 ms) (R267). -/
def State.stageNumber (s : State) : Int := s.clock.source / 100000000

/-- One xorshift step of R267. -/
def hopStep (x : U32) : U32 :=
  let x := x ^^^ (x <<< 13)
  let x := x ^^^ (x >>> 17)
  x ^^^ (x <<< 5)

/-- The list with places `i` and `j` swapped. -/
def swapAt (l : List Nat) (i j : Nat) : List Nat := (l.set i (l.getD j 0)).set j (l.getD i 0)

/-- The hop sequence of a site identity (R267). -/
def hopSequence (identity : U32) : List Nat :=
  let x : U32 := identity ^^^ 0x5A17C3E9
  let x : U32 := if x = 0 then 1 else x
  (((List.range 63).map (fun i => 63 - i)).foldl (fun (p : U32 × List Nat) k =>
    let x := hopStep p.1
    (x, swapAt p.2 k (x.toNat % (k + 1)))) (x, List.range 64)).2

/-- Hop index of the present stage, 0 in fixed mode (R267, 0x2502:03). -/
def State.hopIndex (s : State) : Nat := if s.cfg 0x2502 1 = 1 then (s.stageNumber % 64).toNat else 0

/-- Channel in use: 64 stands for the fixed one (R266, R267). -/
def State.vergeChannel (s : State) : Nat :=
  if s.cfg 0x2502 1 = 1 then (hopSequence (BitVec.ofInt 32 (s.cfg 0x2500 1))).getD s.air.hop 0 else 64

/-- Milliseconds on air over the last 3,600 s (R301). -/
def State.dutyAccount (s : State) : Nat :=
  ((s.air.duty.filter (fun e => decide (s.now / 1000000000 - 3600 < e.1))).map (·.2)).sum / 1000

/-- Microseconds of a verge frame of payload length `n` (R263). -/
def vergeMicros (n : Nat) : Nat := (9 + n) * 160

/-- Air time is added to the bin of the present second; bins older than 3,600 s leave (R301). Reaching the limit in
fixed mode raises the duty-exceeded event once, until the account is below again (R302). -/
def State.addDuty (us : Nat) (s : State) : State :=
  let sec := (s.now / 1000000000).toNat
  let s := { s with air := { s.air with
    duty := (tmod (fun _ => 0) s.air.duty sec (· + us)).filter (fun e => decide (sec < e.1 + 3600)) } }
  if s.cfg 0x2502 1 = 0 ∧ 360000 ≤ s.dutyAccount ∧ !s.air.dutyRaised then
    ({ s with air := { s.air with dutyRaised := true, exceeded := s.air.exceeded + 1 } }).raise 0x0906 2 4 0xFF 0
      (le 4 s.dutyAccount)
  else s

/-- The condition ends once the account is below its limit (R302, R616). -/
def State.dutyBelow (s : State) : State :=
  if s.air.dutyRaised ∧ s.dutyAccount < 360000 then
    ({ s with air := { s.air with dutyRaised := false } }).raise 0x0907 3 4 0xFF 0 (le 4 s.dutyAccount)
  else s

/-- The front-end sequence around a transmission (R273): before its first sample at `t0`, and after its last at `te`. -/
def State.linesOpen (lna sel amp : Pin) (t0 : Int) (s : State) : State :=
  let d1 : Int := 1000 * s.cfg 0x2503 1
  let d2 : Int := 1000 * s.cfg 0x2503 2
  ((s.emit (.line lna false (t0 - d1 - 1000))).emit (.line sel true (t0 - d1))).emit (.line amp true (t0 - d2))
def State.linesClose (lna sel amp : Pin) (te : Int) (s : State) : State :=
  ((s.emit (.line amp false (te + 1000))).emit (.line sel false (te + 2000))).emit (.line lna true (te + 3000))

/-- First sample of a verge frame that falls due now: in hopping mode none starts within 0.3 ms after a stage boundary (R268). -/
def State.vergeStart (s : State) : Int :=
  if s.cfg 0x2502 1 = 1 ∧ s.stagePos = 0 then max s.now (s.clock.source + 300000) else s.now

/-- Front-end lines of the verge radio before and after a transmission (R272, R273). -/
def State.vergeLines (on : Bool) (s : State) : State :=
  { s with air := { s.air with vgTxrx := on, vgPa := on, vgLna := !on } }

/-- A verge frame begins now: it takes the next broadcast counter, is authenticated with MIC-32 over its payload with
the TTL taken as 0 (R320, R323, R324), and goes out on the channel in use. -/
def State.beginVerge (code : Nat) (payload : Bytes) (s : State) : State :=
  let count := s.air.broadcast
  let head := le 1 (code * 16 + (s.pairNumber - 1)) ++ payload.take 1 ++ epochBytes s.pair.epoch ++
    le 4 (count.toNat % 4294967296) ++ payload.drop 1
  let plain := if code = 8 then head else
    head.take 1 ++ le 1 (byteAt head 1 / 4 * 4) ++ head.drop 2
  let full := head ++ Crypto.ccmTag s.broadcastKey (s.nonce s.address count 1) plain [] 4
  let t0 := s.vergeStart
  let s := s.drawBroadcast.vergeLines true
  let s := { s with air := { s.air with verge := some { code := code, payload := payload, began := t0 },
                                        delivered := s.air.delivered || code = 8 } }
  let s := s.linesOpen .vgLnaEn .vgTxRxSel .vgPaEn t0
  ((s.emit (.verge s.vergeChannel full (vergeFrame full))).count 0x900 1).occupy 0x900 (min 1000 (vergeMicros full.length))

/-- A verge transmission falls due: it goes at once, or waits behind a frame in progress (R295). -/
def State.sendVerge (code : Nat) (payload : Bytes) (s : State) : State :=
  let s := if s.onAir ∧ code ≠ 9 then s.count 0x418 1 else s
  if !s.onAir then s
  else match s.air.verge with
    | none => s.beginVerge code payload
    | some _ => { s with air := { s.air with
        vergeWaiting := s.air.vergeWaiting ++ [{ code := code, payload := payload, began := s.now }] } }

/-- The frame in progress is cut off, with a ramp-down of 20 µs; it counts for the time it was on air (R222, R265, R301), and a
cut stage beacon was not delivered (R300). -/
def State.cutVerge (s : State) : State :=
  match s.air.verge with
  | none => s
  | some f =>
    let us := min ((s.now - f.began) / 1000).toNat (vergeMicros (f.payload.length + 13)) + 20
    let s := s.linesClose .vgLnaEn .vgTxRxSel .vgPaEn (s.now + 20000)
    ({ s with air := { s.air with verge := none, delivered := s.air.delivered && f.code ≠ 8 } }).addDuty us

/-- Payload of a verge halt frame after code, before epochs and MIC: repetition index and TTL 3, then summary,
complement and lane (R320, R321). -/
def State.vergeHalt (s : State) (index : Nat) (lanes : List Nat) : Bytes :=
  let sum := s.haltSummary none
  le 1 (index * 4 + 3) ++ le 1 sum ++ le 1 (255 - sum) ++
    le 1 (match lanes with | [] => 0xFF | [n] => n | _ => 0xFE)

/-- The first halt frame of a burst aborts what is on the channel (R222). -/
def State.sendFirstHalt (lanes : List Nat) (s : State) : State :=
  if s.onAir then s.cutVerge.beginVerge 9 (s.vergeHalt 0 lanes) else s

/-- A notice (R316): on the verge channel unless withheld for duty (R302), and in the next broadcast frame of each
carriageway. -/
def State.notice (code arg : Nat) (tick : U32) (s : State) : State :=
  let v := le 1 code ++ le 1 arg ++ le 4 tick.toNat
  if !s.onAir then s
  else
    let s := { s with air := { s.air with cws := (List.range 4).foldl (fun t c =>
      tmod (fun _ => {}) t c (fun (w : Carriageway) => { w with notices := w.notices ++ [v] })) s.air.cws } }
    if s.cfg 0x2502 1 = 0 ∧ 300000 ≤ s.dutyAccount then
      { s with air := { s.air with withheldNotices := s.air.withheldNotices + 1 } }
    else s.sendVerge 10 (le 1 3 ++ v)

end Sys2Proof.Machine
end

