-- ==== Sys2Proof/Machine/Lanes.lean ====
section
/-! DEFINITION. Lane transitions and the seven steps of a boundary for one lane, envelopes by lane state, and the
messages a lane change sends (01 R16 to R23; 05 R143, R149 to R153; 10 R318, R319, R329; 13 R409). -/

namespace Sys2Proof.Machine

/-! ## Envelope runs -/

/-- The envelope of nothing (R144). -/
def noEnvelope : Envelope := { east := 0, north := 0, heading := 0, halfLen := 0, halfWid := 0, kind := 0, tail := 0 }

/-- The envelope of tick `k`: kind 0 before the run's first tick, the last one for every tick past its end (R143). -/
def EnvRun.envAt (r : EnvRun) (k : U32) : Envelope :=
  if r.list.isEmpty || later r.first k then noEnvelope
  else match r.list[(k - r.first).toNat]? with
    | some e => e
    | none => r.list.getLastD noEnvelope

/-- The run that keeps its envelopes before tick `f` and has `l` from `f` on (R167). -/
def EnvRun.replaceFrom (r : EnvRun) (f : U32) (l : List Envelope) : EnvRun :=
  if r.list.isEmpty || later r.first f then { first := f, list := l }
  else { first := r.first, list := (List.range (f - r.first).toNat).map (fun i => r.envAt (r.first + BitVec.ofNat 32 i)) ++ l }

/-- Past ticks whose envelopes are kept: a junction's release gap reaches 500 ticks back (R157), and a halt or a self-stop
report names an earlier tick (R151). -/
def keptTicks : U32 := 512

/-- The run with its envelopes of ticks before `now` gone. -/
def EnvRun.trim (r : EnvRun) (now : U32) : EnvRun :=
  if r.list.isEmpty || !later now r.first then r
  else
    let n := min (now - r.first).toNat (r.list.length - 1)
    { first := r.first + BitVec.ofNat 32 n, list := r.list.drop n }

/-- The run that stands at its envelope of tick `d` for every tick after `d` (R151). -/
def EnvRun.stopAt (r : EnvRun) (d : U32) : EnvRun :=
  if r.list.isEmpty then r else r.replaceFrom (d + 1) [r.envAt d]

/-- A run of one stationary envelope from tick `k` on. -/
def EnvRun.only (k : U32) (e : Envelope) : EnvRun := { first := k, list := [e] }

/-- The stationary envelope of lane `n` at a pose: half-dimensions and margin in force (R146, R149). -/
def State.stationary (s : State) (n : Nat) (p : Pose) : Envelope :=
  let m := s.cfgNat (0x4100 + n) 8
  { east := p.east, north := p.north, heading := p.heading, halfLen := s.cfgNat (0x4100 + n) 6 + m,
    halfWid := s.cfgNat (0x4100 + n) 7 + m, kind := 3, tail := 0 }

/-- Ticks from `k` on that must be looked at in a set of runs: to the tick from which every one stands for good. -/
def ticksOnward (k : U32) (runs : List EnvRun) : List U32 :=
  (List.range (runs.foldl (fun m r => max m ((r.first - k).toInt.toNat + r.list.length)) 0 + 1)).map (fun i => k + BitVec.ofNat 32 i)

/-! ## Recording a change -/

/-- 0x2210:03 from its sources (R239). -/
def Halt.sources (h : Halt) (lineOn : Bool) : Nat :=
  (if h.contact1 then 1 else 0) + (if h.contact2 then 2 else 0) + (if h.hostCell then 4 else 0) +
    (if h.hostSite then 8 else 0) + (if h.partnerCell then 16 else 0) + (if h.partnerSite then 32 else 0) +
    (if h.lineLow && lineOn then 64 else 0) + (if h.driving then 128 else 0)

/-- A halt-chain sample (R529): kind 0 decision, 1 applied at a boundary, 2 resume received. -/
def State.haltSample (lane kind : Nat) (s : State) : State :=
  s.tripSample 3 0xFF s.now (le 4 s.clock.tick.toNat ++ le 2 (s.halt.sources (s.cfgOn 0x2202 7)) ++ le 2 s.halt.site.toNat ++
    le 2 s.halt.cell.toNat ++ le 2 s.halt.haltId.toNat ++ le 1 lane ++ le 1 kind ++
    le 2 (if lane = 0xFF then 0xFF00 else (s.lane lane).haltRecord.toNat))

/-- Discard every checkpoint request and uncommitted verdict of lane `n`, counted as dropped in its air statistics
(R135). -/
def State.dropSolves (n : Nat) (s : State) : State :=
  let c := s.checkpoint
  let gone := (c.queue.filter (fun r => r.lane = n)).length + (c.running.filter (fun r => r.2.lane = n)).length +
    (c.found.filter (fun v => v.request.lane = n)).length
  let s := { s with checkpoint := { c with
    queue := c.queue.filter (fun r => r.lane ≠ n), running := c.running.filter (fun r => r.2.lane ≠ n),
    found := c.found.filter (fun v => v.request.lane ≠ n),
    lanes := tmod (fun _ => {}) c.lanes n (fun l => { l with assembly := none }) } }
  s.onAirLane n (fun a => { a with otherEpoch := a.otherEpoch + BitVec.ofNat 32 gone })

/-- Put a downlink message in line for lane `n` (R329). -/
def State.tell (n typ : Nat) (value : Bytes) (s : State) : State :=
  s.onAirLane n (fun a => { a with waiting := a.waiting ++ [(typ, value)] })

/-- Move lane `n` to a state: stored with its complement, its tick noted, the change on the telemetry stream; STOPPED
is trigger condition 3 (R18, R396, R408, R533). -/
def State.transition (n : Nat) (into : LaneState) (s : State) : State :=
  let before := (s.lane n).state
  let s := s.onLane n (fun l => { l with
    state := into.stored, lastTransition := s.clock.tick, timer := 0
    progress := if into = .halted ∨ into = .admitting then l.progress else 0 })
  let s := s.pushTelemetry 3 n (le 1 n ++ le 1 0 ++ le 2 before.toNat ++ le 2 into.stored.toNat ++ le 2 0 ++
    le 4 s.clock.tick.toNat)
  if into = .stopped then s.trigger 3 s.now n else s

/-- What a lane's air record keeps when the lane changes hands: counters of frames sent and replay windows (R324 to
R326). -/
def AirLane.fresh (a : AirLane) : AirLane :=
  { window := a.window, otherWindow := a.otherWindow, admissionWindow := a.admissionWindow, counter := a.counter,
    admissionCounter := a.admissionCounter, oldCounter := a.oldCounter, responses := a.responses }

/-- Checkpoint results of lane `n`. -/
def State.ck (s : State) (n : Nat) : CkLane := tget (fun _ => {}) s.checkpoint.lanes n

/-- The state after `f` on the checkpoint record of lane `n`. -/
def State.onCk (n : Nat) (f : CkLane → CkLane) (s : State) : State :=
  { s with checkpoint := { s.checkpoint with lanes := tmod (fun _ => {}) s.checkpoint.lanes n f } }

/-- The verdict item of the lane telemetry stream (R396). -/
def State.verdictItem (s : State) (n : Nat) : Bytes :=
  let c := s.ck n
  le 1 n ++ le 1 c.verdict ++ le 1 c.reason ++ le 1 0 ++ le 2 (s.lane n).epoch.toNat ++ le 2 0 ++ le 4 c.epochTick.toNat ++
    le 4 c.horizontal ++ le 4 c.vertical ++ le 1 c.used ++ le 3 0

/-- A lane's verdict code may have changed at this boundary: item, and on a change event and trigger 9 (R127, R396, R533). -/
def State.verdictChange (n before : Nat) (s : State) : State :=
  let c := s.ck n
  let s := s.pushTelemetry 2 n (s.verdictItem n)
  let s := if c.verdict = before then s else s.raise 0x0401 0 0 n 0 (le 1 c.verdict ++ le 1 c.reason)
  if c.verdict = 3 ∧ before ≠ 3 then s.trigger 9 s.now n else s

/-- Lane `n` leaves VACANT other than by handover: its epoch rises, its counters are 0, its message sequences start at 0,
and its verdict is STALE with reason 19 (R16, R127, R138, R306, R329). -/
def State.openLane (n : Nat) (s : State) : State :=
  let before := (s.ck n).verdict
  let s := s.onLane n (fun l => { l with
    epoch := l.epoch + 1, progress := 0, atHalt := 0xFF00, standstill := 0, pose := none, standPose := none, releaseAcked := false,
    selfStop := none })
  let s := s.onAirLane n AirLane.fresh
  let fresh : CkLane := { arrival := s.now, since := s.clock.tick }
  let s : State := { s with checkpoint := { s.checkpoint with lanes := tput (fun _ => {}) s.checkpoint.lanes n fresh } }
  s.verdictChange n before

/-- Lane `n` becomes VACANT: its envelopes leave the ledger, its route, requests and messages are gone (R20, R135,
R329). -/
def State.closeLane (n : Nat) (s : State) : State :=
  let s := (s.transition n .vacant).dropSolves n
  let s := s.onRoute n (fun r => { refused := r.refused, lastAccepted := r.lastAccepted })
  let s := s.onLane n (fun l => { l with
    atHalt := 0xFF00, standstill := 0, pose := none, standPose := none, releaseAcked := false, selfStop := none })
  s.onAirLane n (fun a => { a with
    expected := 0, next := 0, stored := [], held := [], unacked := [], waiting := [],
    acks := [], keyGeneration := 0, relay := false, configured := [], stateHeld := 0 })

/-! ## Key sets -/

/-- A key set (R318, R319, R457): pair, lane, generation, use, switch tick, rollover counts, check value, roots. -/
def State.keySet (s : State) (k : Bytes) (n generation use : Nat) (switch : U32) : Bytes :=
  let same := generation = s.sendGeneration
  le 1 s.pairNumber ++ le 1 n ++ le 1 generation ++ le 1 use ++ le 4 switch.toNat ++
    le 4 (if same then s.air.broadcast.toNat / 4294967296 else 0) ++
    le 4 (if same then (s.airLane n).counter.toNat / 4294967296 else 0) ++
    s.setCheck k n generation ++ s.broadcastRoot k ++ s.laneRoot k n

/-- Key delivery during admission: the current set, and while a roll-over is announced the pending one (R319, R335). -/
def State.deliverKeys (n : Nat) (s : State) : State :=
  let own := s.keySet s.keys.current n s.keys.generation 0 0
  let both := s.keys.pendingState = 3
  let more := if both then s.keySet s.keys.pendingKey n s.keys.pendingGeneration 1 (s.keys.switchTick.getD 0) else []
  s.tell n 0x19 (le 1 (if both then 2 else 1) ++ le 1 0 ++ own ++ more)

/-- The lane configuration element (R318). -/
def State.configuration (s : State) (n : Nat) (limits : Limits) : Bytes :=
  let relay := bit (s.cfgNat 0x2203 (n / 32 + 1)) (n % 32)
  le 1 (s.cfg 0x2502 1) ++ le 1 (s.cfg 0x2504 1) ++ le 1 (if relay then 1 else 0) ++ le 1 0 ++ le 2 limits.top ++
    le 2 limits.acc ++ le 2 limits.dec ++ le 2 limits.jerk ++ le 2 (s.cfg 0x2011 2) ++ le 2 0

/-- Send a lane configuration (R318). -/
def State.configure (n : Nat) (limits : Limits) (s : State) : State :=
  (s.tell n 0x1A (s.configuration n limits)).onAirLane n (fun a => { a with configured := s.configuration n limits })

/-! ## Coverage -/

/-- Lane `n` is covered by a halt: its own, the cell or the site record is in force (R215). -/
def State.covered (s : State) (n : Nat) : Bool := inForce s.halt.site || inForce s.halt.cell || inForce (s.lane n).haltRecord

/-- Tick in which the halt that covers lane `n` was decided: its own record first, then cell, then site (R151). -/
def State.decisionTick (s : State) (n : Nat) : U32 :=
  let at' := fun k => tget (fun _ => s.clock.tick) s.halt.decidedAt k
  let l := (if inForce (s.lane n).haltRecord then [at' (2 + n)] else []) ++ (if inForce s.halt.cell then [at' 1] else []) ++
    (if inForce s.halt.site then [at' 0] else [])
  l.foldl (fun m t => if later m t then t else m) (l.headD s.clock.tick)

/-! ## Step by step (R23) -/

/-- A stopping envelope appears: it stands from the tick after `d`, and waits for its check (R151, R153). -/
def State.stopEnvelope (n : Nat) (d : U32) (s : State) : State :=
  let s := s.onRoute n (fun r => { r with envelopes := r.envelopes.stopAt d })
  if (s.route n).envelopes.list.isEmpty then s
  else { s with ledger := { s.ledger with stopChecks := s.ledger.stopChecks ++ [n] } }

/-- Step 1 for one lane: transition 11 at the first boundary at which it is covered (R20, R215). -/
def State.applyHalt (n : Nat) (s : State) : State :=
  let l := s.lane n
  match laneStateOf l.state with
  | none => s
  | some .vacant => s
  | some .halted => s
  | some _ =>
    if s.covered n then
      let t := l.timer
      let s := (s.transition n .halted).onLane n (fun x => { x with atHalt := l.state, timer := t })
      s.stopEnvelope n (s.decisionTick n)
    else s

/-- State after a halt is cleared (R22). -/
def afterHalt : LaneState → LaneState
  | .moving => .holding | .holding => .holding | .handingOver => .holding
  | x => x

/-- Transition 9: the lane is STOPPED and its stopping envelope is that of the reported tick (R20, R151). -/
def State.stopLane (n : Nat) (d : U32) (s : State) : State := (s.transition n .stopped).stopEnvelope n d

/-- A self-stop report takes effect by lane state (R21). -/
def State.applySelfStop (n : Nat) (d : U32) (s : State) : State :=
  match laneStateOf (s.lane n).state with
  | some .parked => s.stopLane n d
  | some .moving => s.stopLane n d
  | some .holding => s.stopLane n d
  | some .handingOver => s.stopLane n d
  | some .halted => s.onLane n (fun l => { l with selfStop := some d })
  | _ => s

/-- Step 2 for one lane: it leaves HALTED at the first boundary at which nothing covers it; a self-stop reported
meanwhile follows (R22, R215). -/
def State.clearHalt (n : Nat) (s : State) : State :=
  let l := s.lane n
  if laneStateOf l.state = some .halted ∧ !s.covered n then
    match laneStateOf l.atHalt with
    | none => s
    | some b =>
      let s := (s.transition n (afterHalt b)).onLane n (fun x => { x with
        atHalt := 0xFF00, selfStop := none, timer := l.timer
        progress := if b = .admitting then l.progress else 0 })
      match l.selfStop with
      | none => s
      | some d => s.applySelfStop n d
  else s

/-- Overlap on entry (R150): the new stationary envelope of lane `n` meets an enabled closure, or another lane's envelope at
this tick or a later one; the first meeting in the order of R164 is reported (log entry 112). -/
def State.entryOverlap (n : Nat) (e : Envelope) (closures : List (Nat × List Point)) (s : State) : State :=
  let others := s.routes.filter (fun r => decide (r.1 ≠ n))
  let meets := fun (k : U32) =>
    match closures.find? (fun c => envelopeMeets e c.2) with
    | some c => some (k, 2, c.1)
    | none => (others.find? (fun r => envelopesMeet e (r.2.envelopes.envAt k))).map (fun r => (k, 4, r.1))
  match (ticksOnward s.clock.tick (others.map (·.2.envelopes))).findSome? meets with
  | none => s
  | some (k, kind, object) => s.raise 0x0502 1 7 n 0 (le 4 k.toNat ++ le 1 kind ++ le 2 object)

/-- Areas enabled with a kind, with their vertices in 1/65,536 mm, from the settings in force (R155 to R157). -/
def Units.areasOf (u : Units) (kind : Int) : List (Nat × List Point) :=
  ((u.settings.inForce.filter (fun e => decide (key 0x3000 0 ≤ e.1) && decide (e.1 < key 0x3400 0) &&
      e.1 % 256 = 2 && e.2 = 1)).map (fun e => e.1 / 256)).filterMap (fun i =>
    if u.cfg i 1 = kind then
      some (i - 0x3000, (List.range (u.cfgNat i 3)).map (fun k =>
        (u.cfg i (0x10 + 2 * k) * 65536, u.cfg i (0x11 + 2 * k) * 65536)))
    else none)

/-- Lane `n` stands at a pose from this tick on: a stationary envelope enters the ledger without a check (R149, R150). -/
def State.standAt (n : Nat) (p : Pose) (s : State) : State :=
  let e := s.stationary n p
  let s := s.onRoute n (fun r => { r with
    envelopes := r.envelopes.replaceFrom s.clock.tick [e], east := p.east, north := p.north, heading := p.heading })
  s.entryOverlap n e (s.areasOf 1)

/-- The pose a telemetry item reports, and whether it reports standstill (R317). -/
def telemetryPose (v : Bytes) : Pose × Bool :=
  ({ east := fieldSigned v 4 4, north := fieldSigned v 8 4, heading := field v 16 2 }, bit (byteAt v 3) 0)

/-- Transition 10: STOPPED to PARKED, any route discarded, with a stationary envelope at the reported standstill pose (R20). A
lane whose machine has reported no standstill keeps its stopping envelope (log entry 113). -/
def State.resumeStopped (n : Nat) (s : State) : State :=
  let s := (s.transition n .parked).onRoute n (fun r => { r with planId := 0, stretches := [], legs := [], crossing := none })
  match (s.lane n).standPose with
  | none => s
  | some p => s.standAt n p

/-- A lane command meets its lane at step 6 (R409): the answer and the state it leaves. -/
def State.laneCommand (n code : Nat) (s : State) : State × Answer :=
  let no := (s, Answer.refused 0x08000022 0)
  let st := laneStateOf (s.lane n).state
  match code with
  | 1 => if st = some .admitting then
      (s.onLane n (fun l => { l with progress := l.progress ||| 1 }), .done []) else no
  | 2 => if st = some .admitting then (s.closeLane n, .done []) else no
  | 3 => if st = some .stopped then (s.resumeStopped n, .done []) else no
  | 4 => if st = some .parked then ((s.transition n .releasing).tell n 0x1C [], .done []) else no
  | _ =>
    if (s.lane n).integrityFault || st.isNone then
      let s := s.onLane n (fun l => { l with integrityFault := false })
      ((s.closeLane n).raise 0x0102 3 7 n n (le 1 0), .done [])
    else if st = some .parked ∨ st = some .stopped ∨ st = some .releasing ∨ st = some .admitting then
      (s.closeLane n, .done [])
    else no

/-- Cancel meets its lane at step 6: HOLDING with standstill reported becomes PARKED, the held pose the final target
(R203, transition 8). -/
def State.cancelLane (n : Nat) (s : State) : State × Answer :=
  if s.laneIs n .holding ∧ (s.lane n).standstill ≠ 0 then
    let e := (s.route n).envelopes.list.getLastD noEnvelope
    let s := (s.transition n .parked).onRoute n (fun r => { r with
      east := e.east, north := e.north, heading := e.heading, planId := 0, crossing := none })
    (s, .done [])
  else (s, .refused 0x08000022 0)

/-- Completions of step 7 for one lane (R20 transitions 2, 5, 18): `ok` is whether what they rest on is released. -/
def State.complete (n : Nat) (ok : Bool) (s : State) : State :=
  let l := s.lane n
  if !ok then s
  else match laneStateOf l.state with
    | some .admitting => if l.progress &&& 7 = 7 then s.transition n .parked else s
    | some .moving =>
      if l.standstill ≠ 0 ∧ atOrAfter s.clock.tick ((s.route n).standstill + 1) then s.transition n .parked else s
    | some .releasing => if l.releaseAcked then s.closeLane n else s
    | _ => s

/-- A lane's stored state is checked on use: the first failure raises the integrity event (R19). -/
def State.checkLane (n : Nat) (s : State) : State :=
  let l := s.lane n
  if (laneStateOf l.state).isNone ∧ !l.integrityFault then
    (s.onLane n (fun x => { x with integrityFault := true })).raise 0x0101 2 7 n n (le 2 l.state.toNat)
  else s

/-- A command to a lane under R19 is refused, evict apart (R19, R38). -/
def State.frozen (s : State) (n : Nat) : Bool := (s.lane n).integrityFault || (laneStateOf (s.lane n).state).isNone

end Sys2Proof.Machine
end

