-- ==== Sys2Proof/Machine/Profile.lean ====
section
/-! DEFINITION. Routes, profiles and envelopes: what a route says, whether a profile handed over is admissible, and the
envelopes the profile engine builds from it (06 R184 to R198, R206; 05 R146 to R148). Log entries 6 and 7. -/

namespace Sys2Proof

open Machine

/-! ## Motion -/

/-- Place and motion on a route: µm, µm/s, µm/s². -/
structure Motion where
  sigma : Int
  v : Int
  a : Int
  deriving DecidableEq, Repr

/-- The motion `u` µs into a stretch, from its own initial values (R208). -/
def Stretch.motion (x : Stretch) (u : Int) : Motion :=
  { sigma := x.s0 + roundDiv (6 * x.v0 * u * 1000000000000 + 3 * x.a0 * u * u * 1000000 + x.jerk * u * u * u) 6000000000000000000
    v := x.v0 + roundDiv (2 * x.a0 * u * 1000000 + x.jerk * u * u) 2000000000000
    a := x.a0 + roundDiv (x.jerk * u) 1000000 }

/-- Start of a stretch in µs after the boundary that opens `f` (R206). -/
def Stretch.start (f : U32) (x : Stretch) : Int := (x.tick - f).toInt * 20000 + x.offset

/-- End of a stretch in µs after the boundary that opens `f`. -/
def Stretch.finish (f : U32) (x : Stretch) : Int := x.start f + x.duration

/-- A stretch at rest throughout (R208). -/
def Stretch.still (x : Stretch) : Bool := x.v0 = 0 && x.a0 = 0 && x.jerk = 0

/-- Least speed within a stretch: at an end, or where the acceleration passes zero. -/
def Stretch.lowSpeed (x : Stretch) : Int :=
  let e := min x.v0 (x.motion x.duration).v
  if 0 < x.jerk ∧ x.a0 < 0 then
    let u := -x.a0 * 1000000 / x.jerk
    if u ≤ x.duration then min e (x.motion u).v else e
  else e

/-- Greatest speed within the part [lo, hi] µs of a stretch: at an end, or where the acceleration passes zero. -/
def Stretch.topSpeed (x : Stretch) (lo hi : Int) : Int :=
  let e := max (x.motion lo).v (x.motion hi).v
  if x.jerk < 0 ∧ 0 < x.a0 then
    let u := x.a0 * 1000000 / (-x.jerk)
    if lo ≤ u ∧ u ≤ hi then max e (x.motion u).v else e
  else e

/-- The motion at `t` µs after the boundary that opens `f`: rest at 0 before the first stretch, rest at the end after
the last (R208). -/
def motionAt (f : U32) : List Stretch → Int → Motion
  | [], _ => ⟨0, 0, 0⟩
  | [x], t => if t < x.start f then ⟨x.s0, 0, 0⟩ else if t < x.finish f then x.motion (t - x.start f)
      else ⟨(x.motion x.duration).sigma, 0, 0⟩
  | x :: y :: l, t => if t < x.start f then ⟨x.s0, 0, 0⟩ else if t < y.start f then x.motion (t - x.start f)
      else motionAt f (y :: l) t

/-- Speed is zero at `t` on the profile before rounding: outside the stretches, in one at rest, or where one begins from
rest; a residue of the rounded values is no motion (R146, R208). -/
def restsWhen (f : U32) (l : List Stretch) (t : Int) : Bool :=
  l.all (fun x => decide (t < x.start f) || decide (x.finish f ≤ t) || x.still ||
    (decide (t = x.start f) && decide (x.v0 = 0) && decide (x.a0 = 0)))

/-- A stretch begins from rest. -/
def Stretch.fromRest (x : Stretch) : Bool := decide (x.v0 = 0) && decide (x.a0 = 0)

/-- Arc length half-way between the rests around the stretch in motion at `t`, or ending there: the machine keeps one
direction of travel between two rests. -/
def runMiddle (f : U32) (l : List Stretch) (t : Int) : Int :=
  let before := l.filter (fun x => decide (x.start f < t))
  let after := l.filter (fun x => decide (t ≤ x.start f))
  let a : Int := match before.reverse.find? Stretch.fromRest with | some x => x.s0 | none => ((before.head?.map (·.s0)).getD 0 : Nat)
  let b : Int := match after.find? Stretch.fromRest, l.getLast? with
    | some x, _ => x.s0
    | none, some x => (x.motion x.duration).sigma
    | none, none => 0
  (a + b) / 2

/-- Stretches that overlap [t, t + 20 ms) for some time, with the overlap in their own µs. -/
def overlaps (f : U32) (l : List Stretch) (t : Int) : List (Stretch × Int × Int) :=
  (l.filter (fun x => decide (x.start f < t + 20000) && decide (t < x.finish f))).map (fun x =>
    (x, max 0 (t - x.start f), min x.duration (t + 20000 - x.start f)))

/-! ## Tail -/

/-- The tail in mm (R147) for a highest speed in µm/s, limits in mm units and the reaction allowance in ms: the least
whole number of millimetres that covers reaction travel and stop. -/
def tailFor (highest : Int) (m : Limits) (ta : Nat) : Nat :=
  let v : Int := min (highest + m.acc * ta) (m.top * 1000)
  let a : Int := m.dec * 1000
  let j : Int := m.jerk * 1000
  if v ≤ 0 then 0
  else if a * a ≤ 2 * j * v then
    let den := 24000 * a * j * j
    let num := v * ta * 24 * a * j * j + 24000 * a * a * j * v - 4000 * a * a * a * a + 3000 * (2 * j * v - a * a) * (2 * j * v - a * a)
    (ceilDiv num (1000 * den)).toNat
  else
    -- d * d = 8 v^3 / (9 j), in µm squared
    let covers := fun t : Int => decide (0 ≤ 1000000 * t - v * ta) &&
      decide (8000000 * v * v * v ≤ 9 * j * ((1000000 * t - v * ta) * (1000000 * t - v * ta)))
    let guess := (v * ta / 1000 + Nat.sqrt (8 * v * v * v / (9 * j)).toNat) / 1000
    (if covers guess then guess else if covers (guess + 1) then guess + 1 else guess + 2).toNat

/-- The tail at top speed (R148). -/
def topTail (m : Limits) (ta : Nat) : Nat := tailFor (m.top * 1000) m ta

/-! ## Envelopes of a profile -/

/-- The leg at arc length `s`, the later one at a boundary; none past the end. -/
def legAfter : List Leg → Int → Option Leg
  | [], _ => none
  | l :: t, s => if s < l.length then some l else legAfter t (s - l.length)

/-- The leg at arc length `s`, the earlier one at a boundary. -/
def legBefore : List Leg → Int → Option Leg
  | [], _ => none
  | l :: t, s => if s ≤ l.length then some l else legBefore t (s - l.length)

/-- Half-dimensions with margin, in mm. -/
structure Body where
  halfLen : Nat
  halfWid : Nat
  deriving DecidableEq, Repr

/-- The envelope of the tick whose boundary falls `t` µs after that of `f` (R146). -/
def envelopeOf (f : U32) (start : Pose) (legs : List Leg) (l : List Stretch) (m : Limits) (ta : Nat) (b : Body) (t : Int) : Envelope :=
  let poses := (List.range 21).map (fun k => poseOn start.fine legs (motionAt f l (t + 1000 * k)).sigma)
  let p0 := poses.headD start.fine
  let p1 := poses.getLastD start.fine
  let h0 : Int := p0.rounded.heading
  let s := ((p1.rounded.heading : Int) - h0) % 65536
  let s := if 32768 ≤ s then s - 65536 else s
  let h := (h0 + s / 2) % 65536
  let hf := Sys2Proof.fine h
  let parts := overlaps f l t
  let vmax := parts.foldl (fun m' x => max m' (x.1.topSpeed x.2.1 x.2.2)) 0
  let still := parts.all (fun x => x.1.still)
  let half := fun (p : FinePose) => 
    let d := p.heading - hf
    let c : Int := (cosine d).natAbs
    let n : Int := (sine d).natAbs
    (ceilDiv (65536 * (b.halfLen * c + b.halfWid * n)) 1099511627776, ceilDiv (65536 * (b.halfLen * n + b.halfWid * c)) 1099511627776)
  let ext := poses.map (fun p =>
    let r := resolve (p.at'.1 - p0.at'.1, p.at'.2 - p0.at'.2) hf
    (r, half p))
  let lo := fun (g : (Int × Int) × (Int × Int) → Int) => ext.foldl (fun m' x => min m' (g x)) (g (ext.headD ((0, 0), (0, 0))))
  let hi := fun (g : (Int × Int) × (Int × Int) → Int) => ext.foldl (fun m' x => max m' (g x)) (g (ext.headD ((0, 0), (0, 0))))
  let grow := ceilDiv (vmax * 65536) 1000000
  let aLo := lo (fun x => x.1.1 - x.2.1) - grow
  let aHi := hi (fun x => x.1.1 + x.2.1) + grow
  let bLo := lo (fun x => x.1.2 - x.2.2) - grow
  let bHi := hi (fun x => x.1.2 + x.2.2) + grow
  let c := moved p0.at' hf ((aLo + aHi) / 2) ((bLo + bHi) / 2)
  let e := roundDiv c.1 65536
  let n := roundDiv c.2 65536
  let r := resolve (e * 65536 - c.1, n * 65536 - c.2) hf
  let leg := legBefore legs (runMiddle f l (if restsWhen f l (t + 20000) then t + 1 else t + 20000))
  let rear := match leg with | some x => x.backward | none => false
  { east := e, north := n, heading := h.toNat
    halfLen := (ceilDiv ((aHi - aLo + 1) / 2 + r.1.natAbs) 65536).toNat
    halfWid := (ceilDiv ((bHi - bLo + 1) / 2 + r.2.natAbs) 65536).toNat
    kind := if still then 3 else if rear then 2 else 1
    tail := if still then 0 else tailFor vmax m ta }

/-- End of the last stretch, µs after the boundary that opens `f`. -/
def profileEnd (f : U32) (l : List Stretch) : Int := (l.map (Stretch.finish f)).foldl max 0

/-- Arc length at which stretch `k` ends: where the next begins, or where the profile ends. -/
def stretchEnd (f : U32) (l : List Stretch) (k : Nat) : Int :=
  match l[k + 1]? with
  | some x => x.s0
  | none => (motionAt f l (profileEnd f l)).sigma

/-- Number of legs that the first `k` stretches reach (R207): legs that begin before their end. -/
def legsReached (f : U32) (legs : List Leg) (l : List Stretch) (k : Nat) : Nat :=
  if k = 0 then 0
  else max 1 ((List.range legs.length).filter (fun i => decide ((routeLength (legs.take i) : Int) < stretchEnd f l (k - 1)))).length

/-- Number of the first tick after `f` that opens at or after the end of the profile. -/
def restTicks (f : U32) (l : List Stretch) : Nat := (ceilDiv (profileEnd f l) 20000).toNat

/-- The envelopes of a plan: one for each tick up to the first at rest at the end, which stands for the rest (R143). -/
def envelopesOf (f : U32) (start : Pose) (legs : List Leg) (l : List Stretch) (m : Limits) (ta : Nat) (b : Body) : List Envelope :=
  (List.range (restTicks f l + 1)).map (fun i => envelopeOf f start legs l m ta b (20000 * i))

/-! ## The fastest stop -/

/-- Motion before rounding: µm, µm/s, µm/s². -/
structure ExactMotion where
  sigma : Rat
  v : Rat
  a : Rat
  deriving DecidableEq, Repr

/-- Motion after `t` seconds of constant jerk. -/
def ExactMotion.after (m : ExactMotion) (jerk t : Rat) : ExactMotion :=
  { sigma := m.sigma + m.v * t + m.a * t * t / 2 + jerk * t * t * t / 6
    v := m.v + m.a * t + jerk * t * t / 2
    a := m.a + jerk * t }

/-- A rational rounded to the nearest whole number, halves away from zero. -/
def roundHalf (x : Rat) : Int := if x < 0 then -(-x + 1 / 2).floor else (x + 1 / 2).floor

/-- Square root of a rational number, to 10⁻⁹. -/
def ratSqrt (x : Rat) : Rat := ((Nat.sqrt (x * 1000000000000000000).floor.toNat : Nat) : Rat) / 1000000000

/-- The fastest stop from a motion under deceleration limit and jerk limit: its phases of constant jerk, as jerk and
duration in seconds. The deceleration grows to its peak, holds if the peak is the limit, and falls to zero with the
speed; one above the limit first eases to it (R152, R194, R201). None where the speed would pass zero. -/
def stopPhases (m : Limits) (p : Motion) : Option (List (Rat × Rat)) :=
  let d : Rat := m.dec * 1000
  let j : Rat := m.jerk * 1000
  let v : Rat := p.v
  let a : Rat := p.a
  if a < -d then
    let ease := (-d - a) / j
    let v := v + (a * ease + j * ease * ease / 2)
    let hold := (v - d * d / (2 * j)) / d
    if hold < 0 then none else some [(j, ease), (0, hold), (j, d / j)]
  else
    let square := j * v + a * a / 2
    if a < 0 ∧ square < a * a then (if a * a ≤ square + 10 * j then some [(j, -a / j)] else none)
    else if square ≤ d * d then
      let peak := ratSqrt square
      some [(-j, (a + peak) / j), (j, peak / j)]
    else some [(-j, (a + d) / j), (0, (v + (a * a - 2 * d * d) / (2 * j)) / d), (j, d / j)]

/-- Motion at the end of phases. -/
def ExactMotion.through (m : ExactMotion) (l : List (Rat × Rat)) : ExactMotion := l.foldl (fun m x => m.after x.1 x.2) m

/-- A motion as an exact one. -/
def Motion.exact (p : Motion) : ExactMotion := ⟨p.sigma, p.v, p.a⟩

/-- Arc length at which the fastest stop ends; none where the motion cannot be brought to rest without passing zero speed
(R192, R194, R201). -/
def stopPoint (m : Limits) (p : Motion) : Option Int :=
  (stopPhases m p).map (fun l => roundHalf ((p.exact.through l).sigma))

/-- Speed of the fastest stop where it passes arc length `s`, by halving the time: the lowest with which a profile can be
there (R192). -/
def stopSpeedAt (m : Limits) (p : Motion) (s : Int) : Int :=
  let phases := (stopPhases m p).getD []
  let total := (phases.map (·.2)).foldl (· + ·) 0
  let state := fun (t : Rat) => (phases.foldl (fun (x : ExactMotion × Rat) y =>
    let u := if x.2 < y.2 then x.2 else y.2
    (x.1.after y.1 u, x.2 - u)) (p.exact, t)).1
  let t := (List.range 48).foldl (fun (x : Rat × Rat) _ =>
    let mid := (x.1 + x.2) / 2
    if (state mid).sigma ≤ s then (mid, x.2) else (x.1, mid)) (0, total)
  roundHalf (state t.1).v

/-! ## Admissibility of a profile (R188, R189; log entry 6)

Stretch values are rounded and durations are whole microseconds (R189); `slack` is what that leaves of a value whose rate of
change is `rate` per second. -/

/-- Rounding that R189 leaves: the change within a microsecond, and two units. -/
def slack (rate : Int) : Int := rate.natAbs / 1000000 + 2

/-- A motion equals the initial motion of a stretch up to rounding. -/
def Stretch.startsAt (x : Stretch) (p : Motion) : Bool :=
  decide (((x.s0 - p.sigma).natAbs : Int) ≤ slack p.v) && decide (((x.v0 - p.v).natAbs : Int) ≤ slack p.a) &&
    decide (((x.a0 - p.a).natAbs : Int) ≤ slack 20000000)

/-- Consecutive stretches follow one another without gap, and motion is continuous up to rounding. -/
def joined (f : U32) : List Stretch → Bool
  | [] => true
  | [_] => true
  | x :: y :: l => decide (y.start f = x.finish f) && y.startsAt (x.motion x.duration) && joined f (y :: l)

/-- A stretch keeps the lane's limits: speed from 0 to the top speed, acceleration, and offset. Deceleration above its limit
at the start, which lowered limits leave, eases; speed above its limit, where `above` allows it, is being reduced (R198). -/
def Stretch.keeps (x : Stretch) (m : Limits) (above : Bool) : Bool :=
  let e := x.motion x.duration
  let least := -(m.dec : Int) * 1000 - 50
  decide (-slack 20000000 ≤ x.lowSpeed) && (decide (x.topSpeed 0 x.duration ≤ m.top * 1000 + 20) || (above && (decide (x.jerk < 0) ||
      decide (x.a0 ≤ 0)))) &&
    (decide (least ≤ x.a0) || decide (0 < x.jerk)) && (decide (least ≤ e.a) || decide (0 < x.jerk)) &&
    (decide (x.a0 ≤ m.acc * 1000 + 50) || decide (x.jerk < 0)) && (decide (e.a ≤ m.acc * 1000 + 50) || decide (x.jerk < 0)) &&
    decide (x.offset < 20000)

/-- The jerk of each stretch is plus or minus the first jerk limit up to the first stretch of zero jerk, and the limit
after it, or zero (R189, R197). -/
def jerksKept (first jerk : Nat) : List Stretch → Bool
  | [] => true
  | x :: l => if x.jerk = 0 then jerksKept jerk jerk l else decide (x.jerk.natAbs = first * 1000) && jerksKept first jerk l

/-- Arc lengths of the cusps inside a route. -/
def cuspsFrom (s : Int) : List Leg → List Int
  | [] => []
  | [_] => []
  | x :: y :: l => (if x.backward = y.backward then [] else [s + x.length]) ++ cuspsFrom (s + x.length) (y :: l)

/-- The profile rests at arc length `s` for just the dwell (R188). -/
def restsAt (l : List Stretch) (s : Int) (dwell : Nat) : Bool :=
  if dwell = 0 then l.any (fun x => x.fromRest && decide ((x.s0 - s).natAbs ≤ 1000))
  else decide (dwell * 1000 = ((l.filter (fun x => x.still && decide (((x.s0 : Int) - s).natAbs ≤ 1000))).map (·.duration)).sum)

/-- First µs of a stretch at which its arc length is at least `s`, by halving; its duration where there is none. -/
def Stretch.reaches (x : Stretch) (s : Int) : Int :=
  ((List.range 33).foldl (fun (w : Int × Int) _ =>
    let mid := (w.1 + w.2) / 2
    if (x.motion mid).sigma < s then (min (mid + 1) w.2, w.2) else (w.1, mid)) (0, x.duration)).1

/-- Ranges of arc length of the legs, with their speed limits in µm/s. -/
def legRanges (s : Int) : List Leg → List (Int × Int × Int)
  | [] => []
  | x :: l => (s, s + x.length, x.speed * 1000) :: legRanges (s + x.length) l

/-- The part of a stretch on the arc lengths from `a` to `b`, up to rounding: none where it has none there. -/
def Stretch.partOn (x : Stretch) (a b : Int) : Option (Int × Int) :=
  let e := (x.motion x.duration).sigma
  if e < a + 2 ∨ b - 2 < x.s0 then none
  else some (x.reaches (a + 2), if e ≤ b - 2 then x.duration else x.reaches (b - 2))

/-- Leg speed limits hold at every instant: of each leg over the part of each stretch on it (R188). -/
def legSpeeds (legs : List Leg) (l : List Stretch) : Bool :=
  let ranges := legRanges 0 legs
  l.all (fun x => ranges.all (fun r => match x.partOn r.1 r.2.1 with
    | none => true
    | some w => decide (x.topSpeed w.1 w.2 ≤ r.2.2 + 20)))

/-- Constant acceleration is used only at a bound that allows no more: the acceleration limit, the deceleration limit, the
speed limit of a leg or of the lane, or rest (R188). -/
def boundsUsed (legs : List Leg) (m : Limits) (l : List Stretch) : Bool :=
  let ranges := legRanges 0 legs
  l.all (fun x => decide (x.jerk ≠ 0) || x.still || decide ((x.a0 - m.acc * 1000).natAbs ≤ 50) || decide ((x.a0 + m.dec * 1000).natAbs ≤ 50) ||
    (decide (x.a0.natAbs ≤ 50) && (decide ((x.v0 - m.top * 1000).natAbs ≤ 50) ||
      ranges.any (fun r => (x.partOn r.1 r.2.1).isSome && decide ((x.v0 - r.2.2).natAbs ≤ 50)))))

/-- Runs of stretches between rests. -/
def runsOf : List Stretch → List (List Stretch)
  | [] => []
  | x :: l =>
    if x.still then [] :: runsOf l
    else match runsOf l with
      | [] => [[x]]
      | r :: rest => if (l.head?.map Stretch.fromRest).getD false then [x] :: r :: rest else (x :: r) :: rest

/-- The signs are a part, in order, of the pattern. -/
def partOf : List Int → List Int → Bool
  | [], _ => true
  | _ :: _, [] => false
  | a :: s, b :: t => if a = b then partOf s t else partOf (a :: s) t

/-- Where one speed limit holds throughout a run, the earliest profile speeds up, holds, and slows down once: its jerks are a
part of + 0 - 0 - 0 + (R188). -/
def soonest (legs : List Leg) (m : Limits) (l : List Stretch) : Bool :=
  let ranges := legRanges 0 legs
  (runsOf l).all (fun r =>
    let caps := ((ranges.filter (fun g => r.any (fun x => (x.partOn g.1 g.2.1).isSome))).map (fun g => min g.2.2 ((m.top : Int) * 1000))).eraseDups
    decide (1 < caps.length) || partOf (r.map (fun x => x.jerk.sign)) [1, 0, -1, 0, -1, 0, 1])

/-- The profile begins in the given motion, keeps every bound, dwells at every cusp before `goal` and ends at rest within
1 mm of `goal`, the end of the route or of the stop; nothing moves before `held` µs, and a start from rest is at `held`
(R187 to R189). Jerk is limited to `first` up to the first constant acceleration (R197). -/
def admissible (f : U32) (legs : List Leg) (l : List Stretch) (m : Limits) (first : Nat) (from' : Motion) (held goal : Nat) : Bool :=
  let above := decide ((m.top : Int) * 1000 < from'.v + (if 0 < from'.a then from'.a * from'.a / (2 * max 1 (m.jerk : Int) * 1000) else 0))
  match l with
  | [] => decide (goal = 0) && decide (from'.v = 0) && decide (from'.a = 0)
  | x :: _ =>
    decide (0 ≤ x.start f) && decide (x.start f = 0 ∨ (from'.v = 0 ∧ from'.a = 0)) && x.startsAt from' &&
      joined f l && l.all (fun y => y.keeps m above) && jerksKept first m.jerk l && legSpeeds legs l && boundsUsed legs m l &&
      (above || soonest legs m l) && (cuspsFrom 0 legs).all (fun s => decide ((goal : Int) ≤ s) || restsAt l s m.dwell) &&
      (match l.getLast? with
       | some y => decide (((y.motion y.duration).v.natAbs : Int) ≤ slack 20000000) && decide ((y.motion y.duration).a.natAbs ≤ 50) &&
           decide (((y.motion y.duration).sigma - goal).natAbs ≤ 1000)
       | none => true) &&
      (match l.find? (fun y => !y.still) with
       | some y => if from'.v = 0 ∧ from'.a = 0 then decide (y.start f = held) else decide (held = 0)
       | none => true)

/-- The cut version follows the full profile to `t` µs and then takes the fastest stop (R177). -/
def cutFollows (f : U32) (l c : List Stretch) (m : Limits) (t : Int) : Bool :=
  let p := motionAt f l t
  let kept := l.filter (fun x => decide (x.start f < t))
  let brake := c.drop kept.length
  decide (kept.dropLast = (c.take kept.length).dropLast) &&
    (match kept.getLast?, (c.drop (kept.length - 1)).head? with
     | some x, some y => decide ({ x with duration := y.duration } = y) && decide (y.finish f = min t (x.finish f))
     | none, _ => true
     | some _, none => false) &&
    joined f c && brake.all (fun y => y.keeps m true) && jerksKept m.jerk m.jerk brake &&
    (match stopPoint m p, c.getLast? with
     | some s, some y => decide (((y.motion y.duration).sigma - s).natAbs ≤ 1000) && decide (((y.motion y.duration).v.natAbs : Int) ≤ slack 20000000)
     | _, _ => restsWhen f l t)

/-! ## Routes -/

/-- Header of a route and its legs (R184). -/
structure RouteForm where
  kind : Nat
  start : Pose
  earliest : U32
  legs : List Leg
  deriving DecidableEq, Repr

/-- One leg of 32 bytes. -/
def legOf (b : Bytes) : Leg :=
  { kind := byteAt b 0, flags := byteAt b 1, speed := field b 2 2, length := field b 4 4, k0 := fieldSigned b 8 4,
    k1 := fieldSigned b 12 4, final := ⟨fieldSigned b 16 4, fieldSigned b 20 4, field b 24 2⟩ }

/-- A leg as 32 bytes (R184). -/
def Leg.bytes (l : Leg) : Bytes :=
  le 1 l.kind ++ le 1 l.flags ++ le 2 l.speed ++ le 4 l.length ++ le 4 l.k0 ++ le 4 l.k1 ++ le 4 l.final.east ++
    le 4 l.final.north ++ le 2 l.final.heading ++ List.replicate 6 0

/-- Legs of the domain after its header. -/
def legsOf (n : Nat) (b : Bytes) : List Leg := (List.range n).map (fun k => legOf ((b.drop (32 * k)).take 32))

/-- The route a domain spells, or reason 1 (R184, R209). -/
def routeOf (b : Bytes) : Option RouteForm :=
  let n := field b 2 2
  if byteAt b 0 = 1 ∧ byteAt b 1 ≤ 1 ∧ 1 ≤ n ∧ n ≤ 256 ∧ b.length = 32 + 32 * n ∧ field b 14 2 = 0 ∧ field b 24 8 = 0 ∧
      (List.range n).all (fun k => decide (byteAt b (32 + 32 * k + 1) < 4) && decide (field b (32 + 32 * k + 26) 6 = 0)) then
    some { kind := byteAt b 1, start := ⟨fieldSigned b 4 4, fieldSigned b 8 4, field b 12 2⟩,
           earliest := BitVec.ofNat 32 (field b 20 4), legs := legsOf n (b.drop 32) }
  else none

/-- A leg's kind, curvature, speed limit and length are valid (R184, R185; reason 2). -/
def Leg.valid (l : Leg) : Bool :=
  decide (1 ≤ l.speed) && decide (l.speed ≤ 10000) && decide (100000 ≤ l.length) && decide (l.length ≤ 1000000000) &&
    decide (l.k0.natAbs ≤ 1000000) && decide (l.k1.natAbs ≤ 1000000) &&
    (match l.kind with | 1 => l.k0 = 0 && l.k1 = 0 | 2 => l.k0 = l.k1 && l.k0 ≠ 0 | 3 => l.k0 ≠ l.k1 | _ => false)

/-- The first leg whose end fields differ from the computed end pose: reason 3 or 4; 0 where all match (R185). -/
def endMismatch (p : FinePose) : List Leg → Nat
  | [] => 0
  | l :: t =>
    let q := l.poseAt p l.length
    if !near q.at' (l.final.east * 65536, l.final.north * 65536) 10 then 3
    else if !headingNear q.heading (fine l.final.heading) 16 then 4
    else endMismatch q t

/-- A cusp in the route's own legs lacks the lane's or the leg's permission (R193; reason 5). -/
def cuspRefused (allowed : Bool) : List Leg → Bool
  | [] => false
  | [_] => false
  | x :: y :: l => (x.backward ≠ y.backward && !(allowed && bit x.flags 1)) || cuspRefused allowed (y :: l)

/-- The route as a domain read returns it: start kind 0 (R210). -/
def routeBytes (start : Pose) (legs : List Leg) : Bytes :=
  if legs.isEmpty then [] else
    le 1 1 ++ le 1 0 ++ le 2 legs.length ++ le 4 start.east ++ le 4 start.north ++ le 2 start.heading ++ le 2 0 ++ le 4 0 ++
      le 4 0 ++ le 8 0 ++ legs.flatMap Leg.bytes

/-! ## The nearest point of a route (R191) -/

/-- Distance of two points in µm. -/
def gap (a b : Point) : Int := (Nat.sqrt (dist2 a b * 1000000).toNat : Int) / 65536

/-- Places visited along a route of `len` µm: from `s` on, each step as long as no nearer point can lie within it, and at
least 1 mm. `best` is the least distance met. -/
def walk (dist : Int → Int) (len : Int) : Nat → Int → Int → List Int
  | 0, _, _ => []
  | n + 1, s, best =>
    if len < s then [len]
    else
      let d := dist s
      let b := min best d
      s :: walk dist len n (s + max 1000 (d - b - 3000)) b

/-- The nearest place within 1 mm of a place, by thirds and then by whole micrometres; `dist` is any measure that grows with
the distance. -/
def settle (dist : Int → Int) (len s : Int) : Int :=
  let w := (List.range 18).foldl (fun (w : Int × Int) _ =>
    let a := w.1 + (w.2 - w.1) / 3
    let b := w.2 - (w.2 - w.1) / 3
    if dist a ≤ dist b then (w.1, b) else (a, w.2)) (max 0 (s - 1000), min len (s + 1000))
  (List.range (w.2 - w.1).toNat).foldl (fun m k => if dist (w.1 + k + 1) < dist m then w.1 + k + 1 else m) w.1

/-- Places with their distances, those within `more` of the least. -/
def closest (more : Int) (l : List (Int × Int)) : List (Int × Int) :=
  match l.map (·.2) with
  | [] => []
  | d :: t => (fun least => l.filter (fun x => decide (x.2 ≤ least + more))) (t.foldl min d)

/-- J: the point of a route nearest to a point; of equally near ones the first at or after `from'`, otherwise the last
before it (R191). -/
def nearestOn (start : FinePose) (legs : List Leg) (p : Point) (from' : Int) : Int :=
  let len : Int := routeLength legs
  let place := fun s => (poseOn start legs s).at'
  let seen := walk (fun s => gap (place s) p) len (len / 1000 + 2).toNat 0 (gap (place 0) p)
  let found := (closest 2000 (seen.map (fun s => (s, gap (place s) p)))).map (fun x => settle (fun s => dist2 (place s) p) len x.1)
  let equal := closest 2 (found.map (fun s => (s, gap (place s) p)))
  let chosen := match equal.find? (fun x => decide (from' ≤ x.1)), equal.getLast? with
    | some x, _ => x.1
    | none, some x => x.1
    | none, none => 0
  settle (fun s => dist2 (place s) p) len chosen

/-! ## Connecting legs (R192) -/


/-- Curvature `s` µm into a leg. -/
def Leg.curvature (l : Leg) (s : Int) : Int := l.k0 + roundDiv ((l.k1 - l.k0) * s) (max 1 l.length)

/-- The part of a leg from `a` to `b` µm; its kind follows its curvatures. -/
def Leg.part (l : Leg) (a b : Int) : Leg :=
  let p := l.curvature a
  let q := l.curvature b
  { l with kind := if p = q then (if p = 0 then 1 else 2) else 3, length := (b - a).toNat, k0 := p, k1 := q }

/-- The route from `a` to `b` µm, forward: legs split where needed. -/
def subRoute : List Leg → Int → Int → List Leg
  | [], _, _ => []
  | l :: t, a, b =>
    let lo := max 0 a
    let hi := min (l.length : Int) b
    (if lo < hi then [l.part lo hi] else []) ++ subRoute t (a - l.length) (b - l.length)

/-- A leg travelled the other way: curvatures exchanged and negated, direction flag turned, speed at most `v`. -/
def Leg.reversed (v : Nat) (l : Leg) : Leg :=
  { l with flags := if bit l.flags 0 then l.flags - 1 else l.flags + 1, speed := min v l.speed, k0 := -l.k1, k1 := -l.k0 }

/-- End fields of legs filled from the computed poses, from a start pose (R184, R210). -/
def withEnds (p : FinePose) : List Leg → List Leg
  | [] => []
  | l :: t => let q := l.poseAt p l.length; { l with final := q.rounded } :: withEnds q t

end Sys2Proof
end

