-- ==== Sys2Proof/Machine/Ledger.lean ====
section
/-! DEFINITION. The right-of-way ledger: acceptance into a window, profiling, checking against the view, results and
commits (05 R155 to R178; 06 R186 to R205), with PROFILE_CUTOFF, LEDGER_CUTOFF, PLAN_PROFILED and PLAN_CHECKED. -/

namespace Sys2Proof.Machine

/-! ## Acceptance -/

/-- Tick in which an item accepted now counts as submitted (R28). -/
def State.window (s : State) : U32 := if s.clock.offset < 18000000 then s.clock.tick else s.clock.tick + 1

/-- Plan horizon H and permit wait W in force. -/
def Units.horizon (u : Units) : Nat := u.cfgNat 0x2011 1
def Units.permitWait (u : Units) : Nat := u.cfgNat 0x2011 3

/-- The limits of lane `n` in force (R180). -/
def Units.limitsIn (u : Units) (n : Nat) : Limits :=
  { top := u.cfgNat (0x4100 + n) 1, acc := u.cfgNat (0x4100 + n) 2, dec := u.cfgNat (0x4100 + n) 3,
    jerk := u.cfgNat (0x4100 + n) 4, reversal := u.cfgOn (0x4100 + n) 5, dwell := u.cfgNat (0x4100 + n) 9 }

/-- The limits a plan of lane `n` is profiled with: the committed plan's while a change is deferred and the plan does not
start from rest (R182, R198). -/
def State.limitsFor (s : State) (n : Nat) (rest : Bool) : Limits :=
  if (s.route n).deferred && !rest then (s.route n).effective else s.limitsIn n

/-- Body of lane `n` with its margin (R146). -/
def Units.bodyOf (u : Units) (n : Nat) : Body :=
  { halfLen := u.cfgNat (0x4100 + n) 6 + u.cfgNat (0x4100 + n) 8, halfWid := u.cfgNat (0x4100 + n) 7 + u.cfgNat (0x4100 + n) 8 }

/-- The plan changes a lane's route: everything but closure changes and held settings. -/
def PlanWhat.ofLane : PlanWhat → Bool
  | .closure _ _ => false
  | .settings _ _ => false
  | _ => true

/-- An earlier plan of the lane that a later one supersedes (R162): one of the same window, or a crossing plan whose own checks
have passed and whose permit has not come. -/
def Plan.supersededBy (p : Plan) (lane : Nat) (w : U32) : Bool :=
  p.what.ofLane && p.lane = lane && (p.submit = w || p.awaiting || (p.crossing.isSome && p.result = some 0)) &&
    (p.result = none || p.result = some 0)

/-- Send a withdrawal for a crossing plan that asked for a permit (R162, R178), repeated every tick (R442). -/
def State.withdraw (pair : Nat) (plan : U32) (s : State) : State :=
  if s.cells.withdrawals.any (fun w => w.1 = pair && w.2.1 = plan) then s
  else { s with cells := { s.cells with withdrawals := s.cells.withdrawals ++ [(pair, plan, s.cfgNat 0x2602 1)] } }

/-- What a superseded plan's request is told: a limit change stands, a hold or resume is refused (R204). -/
def State.answerSuperseded (p : Plan) (s : State) : State :=
  let s := match p.crossing with
    | some c => if p.awaiting ∨ (p.result = some 0 ∧ s.ledger.ledgerClosed) then s.withdraw c.pair p.id else s
    | none => s
  match p.what with
  | .limit _ => s.answerOpt p.req (.done [])
  | _ => s.answerOpt p.req (.refused 0x08000022 0)

/-- Plan submissions the queue holds (R526): lane plans not yet profiled. -/
def State.queuedPlans (s : State) : List Plan :=
  s.ledger.plans.filter (fun p => p.what.ofLane && p.result = none && !p.profiled)

/-- A 257th plan overwrites the oldest of the submission queue, which returns "late" (R523, R526). -/
def State.shedPlan (s : State) : State :=
  match s.queuedPlans with
  | [] => s
  | p :: t =>
    if t.length < 256 then s
    else ({ s with ledger := { s.ledger with plans := s.ledger.plans.map (fun q =>
      if q.what.ofLane && q.id = p.id && q.submit = p.submit && q.lane = p.lane then { q with result := some 2 } else q) } } : State).count 0x509 1

/-- Accept a plan into the present window: it gets the next plan ID and supersedes earlier plans of its lane (R28, R160,
R162, R183). A closure change carries its area's index. -/
def State.acceptPlan (lane : Nat) (what : PlanWhat) (req : Option Req) (s : State) : State :=
  let w := s.window
  let old := s.ledger.plans.filter (fun p => what.ofLane && p.supersededBy lane w)
  let s := old.foldl (fun (t : State) p => t.answerSuperseded p) s
  let own := what.ofLane
  let id : U32 := match what with
    | .closure a _ => BitVec.ofNat 32 a
    | .settings _ _ => 0
    | _ => s.ledger.nextPlan
  let p : Plan := { id := id, lane := lane, what := what, req := req, submit := w,
                    epoch := if own then (s.lane lane).epoch else 0, first := if own then w + 3 else w + 2, profiled := !own,
                    result := match what with | .settings _ _ => some 0 | _ => none }
  let s := { s with ledger := { s.ledger with
    plans := s.ledger.plans.map (fun q => if what.ofLane && q.supersededBy lane w then
        { q with result := some 3, awaiting := false, req := none } else q) ++ [p]
    nextPlan := if own then s.ledger.nextPlan + 1 else s.ledger.nextPlan } }
  let s := match what with
    | .route b => s.mirror 0 (.route lane b id)
    | .hold _ => s.mirror 0 (.command lane 1 id)
    | .resume => s.mirror 0 (.command lane 2 id)
    | .limit prev => s.mirror 0 (.limit lane (prev.map (fun x =>
        { index := 0x4100 + lane, sub := x.1, data := le 4 (s.cfgAccepted (0x4100 + lane) x.1) })) id)
    | .closure a items => s.mirror 0 (.closure a (items.map (fun x => (x.1, le 4 x.2))) id)
    | .settings _ _ => s
    | .permit _ _ _ _ _ _ => s
  let s := if own then ((s.onRoute lane (fun r => { r with lastAccepted := id })).count 0x409 1).shedPlan else s
  s

/-- The state after `f` on the plans that satisfy `c`. -/
def State.onPlans (c : Plan → Bool) (f : Plan → Plan) (s : State) : State :=
  { s with ledger := { s.ledger with plans := s.ledger.plans.map (fun p => if c p then f p else p) } }

/-- A plan found by ID among those of lanes. -/
def State.planOf (s : State) (id : U32) : Option Plan := s.ledger.plans.find? (fun p => p.what.ofLane && p.id = id)

/-- Replace the plan of that ID. -/
def State.onPlan (id : U32) (f : Plan → Plan) (s : State) : State := s.onPlans (fun p => p.what.ofLane && p.id = id) f

/-! ## Profiling -/

/-- What a plan is profiled over, or why it cannot be (R186, R191 to R194, R209). -/
inductive Work where
  | refused (reason : Nat)
  /-- Start pose, legs, motion at the start, limits, jerk limit of the first transition, µs held at rest, arc length of the
  end, and whether the plan only stops. -/
  | go (start : Pose) (legs : List Leg) (motion : Motion) (limits : Limits) (jerk held goal : Nat) (stop : Bool)
  | deferred
  deriving DecidableEq, Repr

/-- The committed plan's motion at the boundary that opens `f`. -/
def Route.motion (r : Route) (f : U32) : Motion := motionAt r.first r.stretches ((f - r.first).toInt * 20000)

/-- Length and leg count of a released route are within R192 and R209. -/
def tooLong (legs : List Leg) : Bool := decide (512 < legs.length) || decide (4294967295 < routeLength legs)

/-- µs of the cusp dwell still to rest at `f`, where the committed profile then rests at a cusp (R188, R197). -/
def Route.dwellLeft (r : Route) (f : U32) (dwell : Nat) : Nat :=
  let t := (f - r.first).toInt * 20000
  match r.stretches.find? (fun x => x.still && decide (x.start r.first ≤ t) && decide (t < x.finish r.first)) with
  | some x =>
    if (cuspsFrom 0 r.legs).any (fun c => decide ((c - x.s0).natAbs ≤ 1000)) then ((dwell : Int) * 1000 - (t - x.start r.first)).toNat else 0
  | none => 0

/-- Arc length at which the fastest stop from the committed state at `f` ends (R192, R194, R201). -/
def Route.stopAt (r : Route) (f : U32) (k : Limits) : Int := (stopPoint k (r.motion f)).getD (r.motion f).sigma

/-- A stop over the rest of the committed route (R194, R201). -/
def State.stopWork (s : State) (n : Nat) (f : U32) (whole : Bool) : Work :=
  let r := s.route n
  let m := r.motion f
  let k := s.limitsFor n false
  let rest := r.stopAt f k
  .go (poseOn r.start.fine r.legs m.sigma).rounded
    (subRoute r.legs m.sigma (if whole then routeLength r.legs else rest)) ⟨0, m.v, m.a⟩ k k.jerk 0 (rest - m.sigma).toNat (!whole)

/-- A route from rest (R186, R187). -/
def State.restWork (s : State) (n : Nat) (f : U32) (x : RouteForm) : Work :=
  let m := s.limitsFor n true
  let e := (s.route n).envelopes.envAt s.clock.tick
  if !s.laneIs n .parked then .refused 7
  else if !near (x.start.east * 65536, x.start.north * 65536) e.centre 50 || !headingNear (fine x.start.heading) (fine e.heading) 16 then
    .refused 6
  else if x.earliest ≠ 0 ∧ !(atOrAfter x.earliest f && later (f + BitVec.ofNat 32 s.horizon) x.earliest) then .refused 10
  else .go x.start (withEnds x.start.fine x.legs) ⟨0, 0, 0⟩ m m.jerk
    (if x.earliest = 0 then 0 else (x.earliest - f).toNat * 20000) (routeLength x.legs) false

/-- The connecting legs of a join (R192): through to J, to a cusp at J, or to the stop and back, whichever applies first. -/
def Route.connect (r : Route) (f : U32) (k : Limits) (first : Leg) (atJ : Int) : List Leg :=
  let m := r.motion f
  let rest := r.stopAt f k
  let same : Bool := match legBefore r.legs atJ with | some l => decide (l.backward = first.backward) | none => false
  if m.sigma ≤ atJ ∧ (if same then rest ≤ atJ ∨ stopSpeedAt k m atJ ≤ first.speed * 1000 else rest ≤ atJ) then subRoute r.legs m.sigma atJ
  else subRoute r.legs m.sigma rest ++ ((subRoute r.legs atJ rest).reverse.map (Leg.reversed first.speed))

/-- A route that joins the committed one (R191 to R194). The released route starts at a rounded pose, so its legs reach the
new start at the arc length nearest to it from there. Connecting legs with a cusp that lacks a permission give the stop-only
plan. -/
def State.joinWork (s : State) (n : Nat) (f : U32) (x : RouteForm) : Work :=
  let r := s.route n
  let m := r.motion f
  let k := s.limitsFor n false
  let first := x.legs.headD ⟨0, 0, 0, 0, 0, 0, ⟨0, 0, 0⟩⟩
  let point : Point := (x.start.east * 65536, x.start.north * 65536)
  let j := nearestOn r.start.fine r.legs point m.sigma
  let atJ := poseOn r.start.fine r.legs j
  let here := poseOn r.start.fine r.legs m.sigma
  let shift : Point := (here.rounded.east * 65536 - here.at'.1, here.rounded.north * 65536 - here.at'.2)
  let j' := settle (fun s => dist2 (poseOn r.start.fine r.legs s).at' (point.1 - shift.1, point.2 - shift.2)) (routeLength r.legs) j
  if !s.laneIs n .moving then .refused 7
  else if x.earliest ≠ 0 then .refused 10
  else if !near point atJ.at' 50 || !headingNear (fine x.start.heading) atJ.heading 16 then .refused 6
  else
    let con := r.connect f k first j'
    let turns := (if con.isEmpty then (legBefore r.legs j).toList else con) ++ [first]
    let legs := con ++ x.legs
    if cuspRefused k.reversal turns then s.stopWork n f false
    else if tooLong legs then .refused 8
    else .go here.rounded (withEnds here.rounded.fine legs)
      ⟨0, m.v, m.a⟩ k k.jerk (r.dwellLeft f k.dwell) (routeLength legs) false

/-- Why a route is refused before its start is looked at: the lowest reason that applies (R184, R185, R193, R209). -/
def routeReason (m : Limits) (b : Bytes) : Nat :=
  match routeOf b with
  | none => 1
  | some x =>
    if !x.legs.all Leg.valid then 2
    else if endMismatch x.start.fine x.legs ≠ 0 then endMismatch x.start.fine x.legs
    else if cuspRefused m.reversal x.legs then 5
    else if 4000000000 < routeLength x.legs then 8
    else 0

/-- New limits lower one of the old, or clear reversal permission (R198). -/
def Limits.lowers (old new : Limits) : Bool :=
  decide (new.top < old.top) || decide (new.acc < old.acc) || decide (new.dec < old.dec) || decide (new.jerk < old.jerk) ||
    (old.reversal && !new.reversal)

/-- A limit plan (R196 to R199): the rest of the released route under the new limits. Where reversal is cleared and a cusp
lies ahead it ends at that cusp. A lowering is deferred where the fastest stop under the new limits passes the first cusp or
the end; with the first rest in reach, every later one is. A change that lowers nothing runs its first transition at the lower
jerk limit. -/
def State.limitWork (s : State) (n : Nat) (f : U32) : Work :=
  let r := s.route n
  let m := r.motion f
  let k := s.limitsIn n
  let legs := subRoute r.legs m.sigma (routeLength r.legs)
  let len := routeLength legs
  let cusp := (cuspsFrom 0 legs).head?
  let inReach : Bool := match stopPoint k ⟨0, m.v, m.a⟩ with | some d => decide (d ≤ cusp.getD len + 1000) | none => false
  let start := (poseOn r.start.fine r.legs m.sigma).rounded
  let lowers := r.effective.lowers k
  let jerk := if lowers then k.jerk else min k.jerk r.effective.jerk
  let held := r.dwellLeft f k.dwell
  if lowers && !inReach then .deferred
  else match cusp with
    | some c =>
      if r.effective.reversal && !k.reversal then .go start (subRoute legs 0 c) ⟨0, m.v, m.a⟩ k jerk held c.toNat true
      else .go start legs ⟨0, m.v, m.a⟩ k jerk held len false
    | none => .go start legs ⟨0, m.v, m.a⟩ k jerk held len false

/-- Arc length of the held pose: the end of the stopping plan, or, where a halt stopped the machine, the point of the route
nearest to the pose it reported, of equally near ones that at the arc length it reported, or, with no report, the one nearest to
the centre of its stopping envelope (R202, R317; log entry 6). -/
def State.heldAt (s : State) (n : Nat) : Int :=
  let r := s.route n
  let last := r.envelopes.list.getLastD noEnvelope
  if last.kind = 3 then (motionAt r.first r.stretches (profileEnd r.first r.stretches)).sigma
  else
    let x := s.lane n
    let point : Point := match x.standPose.orElse (fun _ => x.pose) with
      | some p => (p.east * 65536, p.north * 65536)
      | none => last.centre
    let along : Int := if field x.telemetry 22 4 = r.planId.toNat then field x.telemetry 26 4 * 1000 - 50000 else 0
    nearestOn r.start.fine r.legs point along

/-- A resumed plan: from rest at the held pose to the end of the released route (R202). -/
def State.resumeWork (s : State) (n : Nat) : Work :=
  let r := s.route n
  let m := s.limitsFor n true
  let at' := s.heldAt n
  let legs := subRoute r.legs at' (routeLength r.legs)
  .go (poseOn r.start.fine r.legs at').rounded legs ⟨0, 0, 0⟩ m m.jerk 0 (routeLength legs) false

/-- The work of a plan whose first tick is `f`. -/
def State.workOf (s : State) (p : Plan) (f : U32) : Work :=
  match p.what with
  | .route b =>
    let why := routeReason (s.limitsFor p.lane (byteAt b 1 = 0)) b
    if why ≠ 0 then .refused why
    else match routeOf b with
      | none => .refused 1
      | some x => if x.kind = 0 then s.restWork p.lane f x else s.joinWork p.lane f x
  | .limit _ => s.limitWork p.lane f
  | .hold _ => s.stopWork p.lane f true
  | .resume => s.resumeWork p.lane
  | _ => .refused 7

/-! ## Regions and crossings (R171, R172, R177) -/

/-- Vertices of the own region in 1/65,536 mm (R171). -/
def Units.region (u : Units) : List Point :=
  (List.range (u.cfgNat 0x2012 1)).map (fun k => (u.cfg 0x2012 (0x10 + 2 * k) * 65536, u.cfg 0x2012 (0x11 + 2 * k) * 65536))

/-- Neighbour pairs listed (R171). -/
def Units.neighbourPairs (u : Units) : List Nat := ((List.range 8).map (fun k => u.cfgNat 0x2013 (k + 1))).filter (· ≠ 0)

/-- Region last received from a neighbour, in 1/65,536 mm. -/
def State.neighbourRegion (s : State) (p : Nat) : List Point :=
  ((tget (fun _ => {}) s.ledger.neighbours p).vertices).map (fun v => (v.1 * 65536, v.2 * 65536))

/-- The box lies in the union of two regions; no vertices stand for the whole site frame (R171, R172). -/
def inUnion (e : Envelope) (a b : List Point) : Bool :=
  e.kind = 0 || a.isEmpty || b.isEmpty || insideUnion (e.corners outward) a b

/-- How a plan stands to the border (R172). -/
inductive Border where
  | inside
  | outside
  | crossing (pair : Nat) (border handover : U32)
  | cut (pair : Nat) (border : U32)
  deriving DecidableEq, Repr

/-- Index of the first element that satisfies `c`. -/
def firstIndex {α : Type} (c : α → Bool) : List α → Nat → Option Nat
  | [], _ => none
  | a :: t, k => if c a then some k else firstIndex c t (k + 1)

/-- Index from which every element satisfies `c`. -/
def lastRun {α : Type} (c : α → Bool) (l : List α) : Option Nat :=
  let n := l.length - ((l.reverse.takeWhile c).length)
  if n < l.length then some n else none

/-- Neighbours whose region is known. -/
def State.knownNeighbours (s : State) : List Nat :=
  s.neighbourPairs.filter (fun p => (tget (fun _ => {}) s.ledger.neighbours p).known)

/-- Index of the first envelope by which a plan has left the own region and the union with any one neighbour's (R172): none
while one union holds all of them. -/
def State.outsideFrom (s : State) (l : List Envelope) : Option Nat :=
  let own := firstIndex (fun e => !envelopeInside e s.region) l 0
  let each := s.knownNeighbours.map (fun p => firstIndex (fun e => !(envelopeInside e s.region || inUnion e s.region (s.neighbourRegion p))) l 0)
  (own :: each).foldl (fun m x => match m, x with | some a, some b => some (max a b) | _, _ => none) (some 0)

/-- Classify the envelopes of a plan whose first tick is `f` and whose commit boundary opens f - 1 (R172, R443). -/
def State.classify (s : State) (f : U32) (l : List Envelope) : Border :=
  let own := s.region
  if l.all (fun e => envelopeInside e own) then .inside
  else
    let fits := s.knownNeighbours.filter (fun p => l.all (fun e => envelopeInside e own || inUnion e own (s.neighbourRegion p)))
    match fits with
    | [] => .outside
    | p :: rest =>
      match firstIndex (fun e => !envelopeInside e own) l 0 with
      | none => .inside
      | some b =>
        let bt := f + BitVec.ofNat 32 b
        let last := l.getLastD noEnvelope
        match lastRun (fun e => envelopeOutside e own) l with
        | some h =>
          let ht := f + BitVec.ofNat 32 h
          if rest.isEmpty && envelopeInside last (s.neighbourRegion p) && decide (15 ≤ (ht - (f - 1)).toInt) &&
              !(tget (fun _ => {}) s.ledger.neighbours p).mismatch then .crossing p bt ht
          else .cut p bt
        | none => .cut p bt

/-- The cut version in the ledger: envelopes up to the last tick wholly inside before the border tick, which then stands; none
where there is no such tick (R172, R173, R177; log entry 115). -/
def State.cutEnvelopes (s : State) (l : List Envelope) : List Envelope := l.takeWhile (fun e => envelopeInside e s.region)

/-! ## A profile arrives (R146, R209) -/

/-- The plan with a result of the profile engine or the checker. -/
def Plan.fail (p : Plan) (result detail : Nat) : Plan := { p with profiled := true, result := some result, detail := detail }

/-- The plan with its profile: start, legs, stretches and envelopes from `f`. -/
def State.built (s : State) (p : Plan) (f : U32) (out : ProfileOut) (start : Pose) (legs : List Leg) (m : Limits) (stop : Bool) : Plan :=
  { p with
    first := f, profiled := true, start := start, legs := legs, stretches := out.stretches, limits := m, stopOnly := stop
    envelopes := envelopesOf f start legs out.stretches m (s.cfgNat 0x2011 2) (s.bodyOf p.lane) }

/-- Crossing data and cut version of a plan that meets the border; none where the cut handed over is not one (R172, R173,
R177). -/
def State.bordered (s : State) (p : Plan) (pair : Nat) (b h : U32) (expired : Bool) (out : ProfileOut) : Option Plan :=
  let l := s.cutEnvelopes p.envelopes
  if (if l.isEmpty then out.cut.isEmpty else cutFollows p.first p.stretches out.cut p.limits (20000 * l.length)) then
    some { p with
      crossing := some { pair := pair, border := b, handover := h, commit := p.first - 1 }, expired := expired
      cutList := l, cutStretches := out.cut }
  else none

/-- The profile engine's work on one plan, its first tick `f`; none where what was handed over is not an admissible
profile of it (log entry 6). -/
def State.profileAs (s : State) (p : Plan) (f : U32) (out : ProfileOut) : Option Plan :=
  match s.workOf p f with
  | .refused why => some (p.fail 5 why)
  | .deferred => some { p with profiled := true, result := some 0, deferred := true }
  | .go start legs motion m jerk held goal stop =>
    if 1024 < out.stretches.length then some (p.fail 5 9)
    else if !admissible f legs out.stretches m jerk motion held goal then none
    else if s.horizon ≤ restTicks f out.stretches then some (p.fail 4 0)
    else some (s.built p f out start legs m stop)

/-- A plan after PLAN_PROFILED: inside its region as it is; across the border with its first tick W later, or cut
(R172, R173). -/
def State.profilePlan (s : State) (p : Plan) (out : ProfileOut) : Option Plan :=
  let wait := s.profileAs p (p.submit + 3 + BitVec.ofNat 32 s.permitWait) out
  match s.profileAs p (p.submit + 3) out with
  | some q =>
    if q.result ≠ none then some q
    else match s.classify q.first q.envelopes with
      | .inside => some q
      | .outside => some q
      | .cut pair b => s.bordered q pair b b true out
      | .crossing _ _ _ => none
  | none =>
    match wait with
    | none => none
    | some q =>
      if q.result ≠ none then some q
      else match s.classify q.first q.envelopes with
        | .crossing pair b h => s.bordered q pair b h false out
        | _ => none

/-- PLAN_PROFILED: an admissible profile of a plan of the last window, before the profile cutoff. -/
def planProfiled (id : U32) (out : ProfileOut) (s : State) : State :=
  match s.planOf id with
  | none => s
  | some p =>
    if p.submit + 1 = s.clock.tick ∧ !p.profiled ∧ p.result = none ∧ !s.ledger.profileClosed then
      match s.profilePlan p out with
      | none => s
      | some q =>
        let s := (s.onPlan id (fun _ => q)).count 0x40A 1
        if q.result = some 5 then s.onRoute p.lane (fun r => { r with refused := r.refused + 1 }) else s
    else s

/-! ## The view and the check (R157, R160 to R164) -/

/-- One lane's envelopes in a view: lane, party code of R170, run. -/
abbrev Viewed := Nat × Nat × EnvRun

/-- The plan's envelopes over the lane's committed ones (R167). -/
def State.withPlan (s : State) (p : Plan) (l : List Envelope) : EnvRun := (s.route p.lane).envelopes.replaceFrom p.first l

/-- What one lane contributes to the view (R161): a plan awaiting a permit, a plan passed earlier in the window, or its
committed envelopes. -/
def State.viewLane (s : State) (w : U32) (n : Nat) : List Viewed :=
  let plans := s.ledger.plans.filter (fun q => q.what.ofLane && q.lane = n)
  match plans.find? (fun q => q.awaiting) with
  | some q => [(n, 2, s.withPlan q (q.envelopes.map (fun e => if envelopeInside e s.region then e else noEnvelope))),
               (n, 2, s.withPlan q q.cutList)]
  | none =>
    match plans.find? (fun q => q.submit = w && (q.result = some 0 || q.result = some 7) && !q.deferred) with
    | some q => [(n, 1, s.withPlan q (if q.result = some 7 then q.cutList else q.envelopes))]
    | none =>
      let party := if (s.lane n).reserved then 4
        else if s.laneIs n .stopped || s.laneIs n .halted then 3 else 0
      [(n, party, (s.route n).envelopes)]

/-- Lanes that may contribute: those with a route record or a plan. -/
def State.viewedLanes (s : State) : List Nat :=
  allLanes.filter (fun n => decide (n ∈ s.routes.map (·.1)) || s.ledger.plans.any (fun q => q.what.ofLane && q.lane = n))

/-- The view against which a plan of lane `n` in window `w` is checked. -/
def State.viewFor (s : State) (w : U32) (n : Nat) : List Viewed :=
  (s.viewedLanes.filter (· ≠ n)).flatMap (s.viewLane w)

/-- Closure changes that passed earlier in the window (R161): area, kind, gap, polygon. -/
def State.passedAreas (s : State) (w : U32) : List (Nat × List (Nat × Int)) :=
  s.ledger.plans.filterMap (fun q => match q.what with
    | .closure a items => if q.submit = w && q.result = some 0 then some (a, items) else none
    | _ => none)

/-- The items of area `a` that closure changes leave which passed earlier in the window, the latest first (R161). -/
def State.passedItems (s : State) (w : U32) (a : Nat) : List (Nat × Int) :=
  (((s.passedAreas w).filter (fun c => c.1 = a)).reverse).flatMap (·.2)

/-- An area's setting as a closure change leaves it: the change's item, else the setting in force. -/
def State.areaValue (s : State) (items : List (Nat × Int)) (a sub : Nat) : Int :=
  match items.find? (fun x => x.1 = sub) with | some x => x.2 | none => s.cfg (0x3000 + a) sub

/-- Polygon of an area as a change leaves it, in 1/65,536 mm. -/
def State.areaPolygon (s : State) (items : List (Nat × Int)) (a : Nat) : List Point :=
  (List.range (s.areaValue items a 3).toNat).map (fun k =>
    (s.areaValue items a (0x10 + 2 * k) * 65536, s.areaValue items a (0x11 + 2 * k) * 65536))

/-- An area in the view: index, release gap, polygon, and whether a change of this window passed for it (R161, R170). -/
structure ViewArea where
  index : Nat
  gap : Nat
  polygon : List Point
  changed : Bool
  deriving DecidableEq, Repr

/-- Enabled areas of a kind in the view, ascending (R161). -/
def State.viewAreas (s : State) (w : U32) (kind : Int) : List ViewArea :=
  let changed := s.passedAreas w
  let enabled : List Nat := (s.settings.inForce.filter (fun e => decide (key 0x3000 0 ≤ e.1) && decide (e.1 < key 0x3400 0) &&
      e.1 % 256 = 2 && e.2 = 1)).map (fun e => e.1 / 256 - 0x3000)
  let all := (List.range 1024).filter (fun a => decide (a ∈ enabled) || changed.any (fun c => c.1 = a))
  all.filterMap (fun a =>
    let items := s.passedItems w a
    if s.areaValue items a 1 = kind ∧ s.areaValue items a 2 = 1 then
      some { index := a, gap := (s.areaValue items a 4).toNat, polygon := s.areaPolygon items a
             changed := changed.any (fun c => c.1 = a) }
    else none)

/-- A first conflict: tick, kind, other party, object, own centre (R170). -/
structure Conflict where
  tick : U32
  kind : Nat
  other : Nat
  object : Nat
  east : Int
  north : Int
  deriving DecidableEq, Repr

/-- A run meets a junction's polygon at some tick of [k - g, k + g] that satisfies `c` (R157). -/
def EnvRun.meetsWithin (r : EnvRun) (c : U32 → Bool) (k : U32) (g : Nat) (poly : List Point) : Bool :=
  (List.range (2 * g + 1)).any (fun i =>
    let t := k - BitVec.ofNat 32 g + BitVec.ofNat 32 i
    c t && envelopeMeets (r.envAt t) poly)

/-- The first conflict of own envelope `e` at tick `k`: closures, junctions, lanes, each ascending (R164). A closure that a change
of this window set is the pending party (R170). -/
def conflictAt (e : Envelope) (k : U32) (closures junctions : List ViewArea) (view : List Viewed) : Option Conflict :=
  let found := fun (kind other object : Nat) => some { tick := k, kind := kind, other := other, object := object, east := e.east, north := e.north : Conflict }
  if e.kind = 0 then none
  else match closures.find? (fun c => envelopeMeets e c.polygon) with
    | some c => found 2 (if c.changed then 1 else 0) c.index
    | none =>
      let held := junctions.filterMap (fun j =>
        if envelopeMeets e j.polygon then
          (view.find? (fun v => v.2.2.meetsWithin (fun _ => true) k j.gap j.polygon)).map (fun v => (j.index, v.2.1))
        else none)
      match held.head? with
      | some (j, party) => found 3 party j
      | none =>
        match view.find? (fun v => envelopesMeet e (v.2.2.envAt k)) with
        | some v => found 4 v.2.1 v.1
        | none => none

/-- Ticks that must be looked at from `f`, of `h` to check: to where the own run and every run of the view stands for good. -/
def ticksToCheck (f : U32) (h : Nat) (run : EnvRun) (view : List Viewed) : List U32 := (ticksOnward f (run :: view.map (·.2.2))).take h

/-- The first conflict of a run of own envelopes from `f` (R163, R164): the region first where `region` asks for it. -/
def State.firstConflict (s : State) (w f : U32) (lane : Nat) (l : List Envelope) (region : Bool) : Option Conflict :=
  let view := s.viewFor w lane
  let run : EnvRun := { first := f, list := l }
  let closures := s.viewAreas w 1
  let junctions := s.viewAreas w 2
  let leaves := if region then (s.outsideFrom l).map (fun i => f + BitVec.ofNat 32 i) else none
  (ticksToCheck f s.horizon run view).findSome? (fun k =>
    let e := run.envAt k
    if leaves = some k then some { tick := k, kind := 1, other := 0, object := 0, east := e.east, north := e.north }
    else conflictAt e k closures junctions view)

/-- Triangles a box is tested against over the horizon (R165): those of the areas whose rectangles its own meets, tick by tick, the
last envelope for every tick past the run. -/
def areaTests (f : U32) (h : Nat) (run : EnvRun) (polygons : List (List Point)) : Nat :=
  let at' := fun (k : U32) =>
    (polygons.map (fun p => if rectsMeet ((run.envAt k).corners outward) p then p.length - 2 else 0)).sum
  let ticks := ticksToCheck f h run []
  (ticks.map at').sum + (h - ticks.length) * at' (f + BitVec.ofNat 32 h)

/-- Box tests the check of a plan takes (R165): lane pairs without culling, areas after culling; a closure change is tested
against every envelope of the view. -/
def State.testsFor (s : State) (p : Plan) : Nat :=
  match p.what with
  | .closure a items =>
    let poly := s.areaPolygon (items ++ s.passedItems p.submit a) a
    ((s.viewedLanes.flatMap (s.viewLane p.submit)).map (fun v => areaTests p.first s.horizon v.2.2 [poly])).sum
  | .settings _ _ => 0
  | _ =>
    let areas := s.viewAreas p.submit 1 ++ s.viewAreas p.submit 2
    (s.viewFor p.submit p.lane).length * s.horizon +
      areaTests p.first s.horizon { first := p.first, list := p.envelopes } (areas.map (·.polygon))

/-- The plan with a conflict found. -/
def Plan.conflict (p : Plan) (c : Conflict) : Plan :=
  { p with result := some 1, conflictTick := c.tick, conflictKind := c.kind, other := c.other, object := c.object, own := (c.east, c.north) }

/-- The plan as it resolves without its permit: conflict kind 5 at the border tick, with its own centre there (R170, R178). -/
def Plan.atBorder (p : Plan) (c : Crossing) : Plan :=
  let e := EnvRun.envAt { first := p.first, list := p.envelopes } c.border
  { p with conflictKind := 5, conflictTick := c.border, object := c.pair, own := (e.east, e.north), result := some 7 }

/-- The check of a plan of an own lane (R161 to R164, R173, R177). A crossing plan with no cut tick conflicts at its border
(R178; log entry 116). -/
def State.checkOwn (s : State) (p : Plan) : Plan :=
  let cut := fun (q : Plan) =>
    if q.cutList.isEmpty then
      let b := match q.crossing with | some c => q.atBorder c | none => q
      some { tick := b.conflictTick, kind := 5, other := 0, object := b.object, east := b.own.1, north := b.own.2 : Conflict }
    else s.firstConflict q.submit q.first q.lane q.cutList false
  if p.deferred then p
  else if p.expired then
    match p.crossing, cut p with
    | some c, none => p.atBorder c
    | _, some c => p.conflict c
    | none, none => { p with result := some 7 }
  else match s.firstConflict p.submit p.first p.lane p.envelopes p.crossing.isNone with
    | some c => p.conflict c
    | none =>
      match p.crossing with
      | none => { p with result := some 0 }
      | some _ => { p with result := some 0, cutPassed := (cut p).isNone }

/-- The lane a permit would reserve: the lowest VACANT one with no admission in progress and no reservation (R174). -/
def State.freeLane (s : State) : Option Nat :=
  allLanes.find? (fun n => s.laneIs n .vacant && !(s.lane n).reserved && !s.due.any (fun d => d.lane = n) &&
    !s.ledger.plans.any (fun q => match q.what with | .permit _ _ _ _ _ _ => q.result = some 0 && q.lane = n | _ => false))

/-- The check of a guest plan as the plan of a reserved lane (R171, R173, R174). -/
def State.checkGuest (s : State) (p : Plan) (pair : Nat) : Plan :=
  let no := { p with result := some 1, conflictKind := 5, object := s.pairNumber }
  if (tget (fun _ => {}) s.ledger.neighbours pair).mismatch || s.keys.pendingState = 3 then no
  else match s.freeLane with
    | none => no
    | some n =>
      let q := { p with lane := n, epoch := (s.lane n).epoch }
      match s.firstConflict p.submit p.first n p.envelopes false with
      | some c => q.conflict c
      | none => { q with result := some 0 }

/-- The check of a closure change against every envelope from its commit tick on (R156 to R158). -/
def State.checkClosure (s : State) (p : Plan) (a : Nat) (items : List (Nat × Int)) : Plan :=
  let view := s.viewedLanes.flatMap (s.viewLane p.submit)
  let items := items ++ s.passedItems p.submit a
  let poly := s.areaPolygon items a
  let ticks := ticksOnward p.first (view.map (·.2.2))
  let hit := fun k => view.find? (fun v => envelopeMeets (v.2.2.envAt k) poly)
  let c := if s.areaValue items a 1 = 1 then
      ticks.findSome? (fun k => (hit k).map (fun v => (k, v)))
    else
      ticks.findSome? (fun k => (view.find? (fun v => envelopeMeets (v.2.2.envAt k) poly &&
        view.any (fun u => u.1 ≠ v.1 && u.2.2.meetsWithin (fun t => atOrAfter t p.first) k (s.areaValue items a 4).toNat poly))).map (fun v => (k, v)))
  match c with
  | some (k, v) => { p with result := some 1, conflictTick := k, conflictKind := 4, other := v.2.1, object := v.1,
                            own := ((v.2.2.envAt k).east, (v.2.2.envAt k).north) }
  | none => { p with result := some 0 }

/-- The check of one plan. -/
def State.checkPlan (s : State) (p : Plan) : Plan :=
  match p.what with
  | .permit pair _ _ _ _ _ => s.checkGuest p pair
  | .closure a items => s.checkClosure p a items
  | .settings _ _ => p
  | _ => s.checkOwn p

/-- Tests added to the count of the tick (R165, R179). -/
def State.tested (n : Nat) (s : State) : State :=
  { s with ledger := { s.ledger with
      tests := s.ledger.tests + n, testsPeak := max s.ledger.testsPeak (s.ledger.tests + n) } }

/-- First tick at which the stopping envelope of lane `n` meets what lane `m` holds or has awaiting (R153). -/
def State.stopMeets (s : State) (n m : Nat) : Option U32 :=
  let run := (s.route n).envelopes
  ((s.viewLane (s.clock.tick - 1) m).filterMap (fun v =>
    (ticksOnward s.clock.tick [run, v.2.2]).find? (fun k => envelopesMeet (run.envAt k) (v.2.2.envAt k)))).head?

/-- The stopping envelopes that wait are checked against all other envelopes; each meeting is one event, of two lanes that stop
together named once (R153, R165). -/
def State.checkStops (s : State) : State :=
  let stops := s.ledger.stopChecks.eraseDups
  let s := stops.foldl (fun (t : State) n =>
    let others := t.viewedLanes.filter (fun m => m ≠ n && !(decide (m < n) && stops.contains m))
    let t := t.tested (others.length * t.horizon)
    others.foldl (fun (t : State) m =>
      match t.stopMeets n m with
      | none => t
      | some k =>
        let t : State := { t with ledger := { t.ledger with stopping := t.ledger.stopping + 1 } }
        (t.raise 0x0503 1 7 n 0 (le 4 k.toNat ++ le 1 m)).trigger 6 t.now n) t) s
  { s with ledger := { s.ledger with stopChecks := [] } }

/-- Earlier plans of the window are all resolved, and none of them is late (R160, R166). -/
def turnOf (id : U32) (w : U32) (lane : Bool) : List Plan → Bool
  | [] => false
  | p :: t => if p.id = id ∧ p.what.ofLane = lane ∧ p.submit = w ∧ p.result = none then p.profiled
      else if p.submit = w ∧ (p.result = none ∨ p.result = some 2) then false else turnOf id w lane t

/-- PLAN_CHECKED: the next unresolved plan of the window, profiled, before the cutoff. -/
def planChecked (id : U32) (s : State) : State :=
  let w := s.clock.tick - 1
  let s := if s.ledger.ledgerClosed then s else s.checkStops
  match s.ledger.plans.find? (fun p => p.id = id && p.submit = w && p.result = none) with
  | none => s
  | some p =>
    if turnOf id w p.what.ofLane s.ledger.plans ∧ !s.ledger.ledgerClosed then
      let q := s.checkPlan p
      let n := s.testsFor p
      let s := s.onPlans (fun x => x.id = id && x.submit = w && x.result = none && x.what.ofLane = p.what.ofLane) (fun _ => q)
      let s : State := { s with ledger := { s.ledger with checked := s.ledger.checked + 1 } }
      (s.tested n).count 0x600 n
    else s

/-! ## Cutoffs -/

/-- PROFILE_CUTOFF (R33): plans of the last window not yet profiled are LATE, and leave nothing behind. -/
def profileCutoff (s : State) : State :=
  let s := s.stamped 15000000
  let w := s.clock.tick - 1
  let s := s.onPlans (fun p => p.submit = w && p.result = none && !p.profiled) (fun p => p.fail 2 0)
  { s with ledger := { s.ledger with profileClosed := true } }

/-- Bytes 0 to 19 of a commit record (R168). -/
def CommitRecord.head (c : CommitRecord) : Bytes :=
  le 1 c.lane ++ le 1 c.kind ++ le 2 c.epoch.toNat ++ le 4 c.planId.toNat ++ le 4 c.first.toNat ++ le 4 c.last.toNat ++ le 4 c.crc.toNat

/-- The 40 bytes of a commit record (R168). -/
def CommitRecord.bytes (c : CommitRecord) : Bytes := c.head ++ c.comp

/-- The record with the complement of its bytes 0 to 19 in bytes 20 to 39 (R168). -/
def CommitRecord.sealed (c : CommitRecord) : CommitRecord := { c with comp := c.head.map (fun b => ~~~ b) }

/-- The complement holds (R10, R168). -/
def CommitRecord.compOk (c : CommitRecord) : Bool := decide (c.comp = c.head.map (fun b => ~~~ b))

/-- The items a closure change is checked and committed with: its own, then those of changes before it in its window. -/
def State.closureItems (s : State) (p : Plan) (a : Nat) (items : List (Nat × Int)) : List (Nat × Int) :=
  items ++ ({ s with ledger := { s.ledger with plans := s.ledger.plans.takeWhile (fun q => q.what ≠ p.what) } } : State).passedItems p.submit a

/-- The commit record of a passed plan (R168). -/
def State.commitRecord (s : State) (p : Plan) : CommitRecord :=
  let h := s.horizon
  let envBytes := fun (e : Envelope) => le 4 e.east ++ le 4 e.north ++ le 2 e.heading ++ le 2 e.halfLen ++ le 2 e.halfWid ++
    le 2 (e.kind * 16384 + e.tail)
  let run : EnvRun := { first := p.first, list := if p.result = some 7 then p.cutList else p.envelopes }
  let body := match p.what with
    | .closure a own =>
      let items := s.closureItems p a own
      le 1 (s.areaValue items a 1) ++ le 2 (s.areaValue items a 4) ++ le 1 (s.areaValue items a 3) ++
        (s.areaPolygon items a).flatMap (fun v => le 4 (v.1 / 65536) ++ le 4 (v.2 / 65536))
    | _ => (List.range h).flatMap (fun i => envBytes (run.envAt (p.first + BitVec.ofNat 32 i)))
  let kind := match p.what with
    | .closure _ _ => 6 | .permit _ _ _ _ _ _ => 5 | .hold _ => 2 | .resume => 3
    | _ => if p.result = some 7 then 4 else 1
  let area := !p.what.ofLane
  CommitRecord.sealed { lane := if area then 0xFF else p.lane, kind := kind, epoch := if area then 0 else p.epoch, planId := p.id
                        first := p.first, last := if area then 0xFFFFFFFF else p.first + BitVec.ofNat 32 h - 1, crc := crc32 body
                        comp := [] }

/-- The record of an envelope withdrawal, kind 7 (R168): a guest that ends at the next boundary leaves nothing in its lane from
that tick on (log entry 117). -/
def State.withdrawalRecord (s : State) (n : Nat) (g : Guest) : CommitRecord :=
  let h := s.horizon
  CommitRecord.sealed { lane := n, kind := 7, epoch := (s.lane n).epoch, planId := g.planId, first := s.clock.tick + 1
                        last := s.clock.tick + BitVec.ofNat 32 h, crc := crc32 (List.replicate (16 * h) 0), comp := [] }

/-- Put a message on a cell link (R442): only the active of a provisioned unit has cell links (R471). -/
def State.sendCell (pair : Nat) (m : CellMsg) (s : State) : State :=
  if s.keys.security ≠ 0 ∧ (s.pair.role = 0 ∨ s.pair.role = 1 ∨ s.pair.role = 4) ∧ !s.halt.silent then
    ({ s with keys := { s.keys with networkPort := true } } : State).emit (.cell pair m)
  else s

/-- Send the permit request of a crossing plan that passed its own checks (R173); none while the pending half is announced
(R465). -/
def State.requestPermit (p : Plan) (s : State) : State :=
  match p.crossing with
  | none => s
  | some c =>
    if s.keys.pendingState = 3 then s
    else
      let skip := (c.border - p.first).toNat
      let s := { s with ledger := { s.ledger with requested := s.ledger.requested + 1 } }
      s.sendCell c.pair (.permitRequest p.id c.border c.handover c.commit p.lane p.epoch { first := c.border, list := p.envelopes.drop skip })

/-- The version of a plan whose commit record joins the DELTA of this tick: a plan of the window that passed, and a crossing plan
that ends its wait, whole where its grant counts and cut where it does not (R168, R173, R178). -/
def State.deltaVersion (s : State) (p : Plan) : Option Plan :=
  if p.awaiting then
    if p.submit + 1 + BitVec.ofNat 32 s.permitWait ≠ s.clock.tick then none
    else match p.crossing with
      | some c => if c.granted ∧ !p.expired then some p else if p.cutPassed ∧ p.cutList ≠ [] then some (p.atBorder c) else none
      | none => none
  else
    let held := match p.what with | .settings _ _ => true | _ => false
    if p.submit = s.clock.tick - 1 ∧ (p.result = some 0 ∨ p.result = some 7) ∧ (p.crossing.isNone ∨ p.result = some 7) ∧
        !p.deferred ∧ !held then some p
    else none

/-- A plan of a batch stands only with every plan of its batch (R387): the results that do not. -/
def batchResult (plans : List Plan) (p : Plan) : Option Nat :=
  if !p.batch then none
  else ((plans.filter (fun q => q.batch && q.req = p.req)).filterMap (fun q =>
    match q.result with | some 0 => none | some r => some r | none => some 2)).head?

/-- What the writes held with a batch will be, as state facts, once every plan of the batch has passed (R41, R387, R427). -/
def State.batchFacts (s : State) : List Fact :=
  let plans := s.ledger.plans.filter (fun p => p.submit = s.clock.tick - 1)
  (plans.filter (fun p => (batchResult plans p).isNone)).flatMap (fun p => match p.what with
    | .settings items before => items.map (fun x => Fact.setting (x.1 / 256) (x.1 % 256) x.2) ++ before.map (fun x => Fact.item (s.present x))
    | _ => [])

/-- The commit records of the tick's DELTA: of passed plans, each kept with its plan, and of guests withdrawn (R168, R169). -/
def State.keepRecords (s : State) : State :=
  { s with ledger := { s.ledger with plans := s.ledger.plans.map (fun p =>
      match s.deltaVersion p with | some q => { p with mirrored := some (s.commitRecord q) } | none => p) } }

/-- The records that the DELTA of this tick carries. -/
def State.deltaRecords (s : State) : List CommitRecord :=
  (s.ledger.plans.filterMap (fun p => if (s.deltaVersion p).isSome then p.mirrored else none)) ++
    (s.guests.filter (fun g => g.2.withdrawn)).map (fun g => s.withdrawalRecord g.1 g.2)

/-- LEDGER_CUTOFF (R166): unchecked plans of the window are LATE; the commit records join the DELTA; permit requests go
out. -/
def ledgerCutoff (s : State) : State :=
  let s := s.stamped 17000000
  let w := s.clock.tick - 1
  let s := if s.ledger.ledgerClosed then s else s.checkStops
  let s := s.onPlans (fun p => p.submit = w && p.result = none) (fun p => p.fail 2 0)
  let s := { s with ledger := { s.ledger with profileClosed := true, ledgerClosed := true } }
  let s : State := (s.ledger.plans.filter (fun p => p.submit = w && p.result = some 0 && p.crossing.isSome)).foldl
    (fun (t : State) p => t.requestPermit p) s
  let s := s.keepRecords
  if (s.pair.role = 1 ∨ s.pair.role = 4) ∧ s.pair.deltaSent = some s.clock.tick then
    s.sendLink (.delta s.clock.tick 1 s.batchFacts s.deltaRecords true)
  else s

def execProfileCutoff (s : State) : Host.Outcome State Fault Refusal :=
  .next (if s.power.phase = .running then profileCutoff s.begin else s.begin)

def execPlanProfiled (plan : U32) (profile : ProfileOut) (s : State) : Host.Outcome State Fault Refusal :=
  .next (if s.power.phase = .running then planProfiled plan profile s.begin else s.begin)

def execPlanChecked (plan : U32) (s : State) : Host.Outcome State Fault Refusal :=
  .next (if s.power.phase = .running then planChecked plan s.begin else s.begin)

end Sys2Proof.Machine
end

