-- ==== Sys2Proof/Machine/Halt.lean ====
section
/-! DEFINITION. The halt chain: decisions, bursts, the site line, restoring, resuming, falling silent (07 R211 to
R238), with HALT_ASSERT, HALT_RESTORE, HALT_RESUME, HALT_REPETITION, SITE_HALT_SAMPLE, SITE_LINE_READBACK,
SITE_LINE_STUCK, SITE_LINE, SITE_LINE_PERIODIC, SITE_LINE_DRIVER_TIMEOUT, LOCAL_RESUME_PRESS, TWO_PARTY_WINDOW_EXPIRE
and LOCKSTEP_MISMATCH. -/

namespace Sys2Proof.Machine

/-! ## Sources -/

/-- A contact source acts on a scope: 2 cell, 3 site (R211, R212). -/
def State.contactActs (s : State) (scope : Nat) : Bool :=
  (s.halt.contact1 && s.cfgOn 0x2202 5 && s.cfgNat 0x2202 3 = scope) ||
    (s.halt.contact2 && s.cfgOn 0x2202 6 && s.cfgNat 0x2202 4 = scope)

/-- Own site-scope sources other than SITE_HALT_N (R234). -/
def State.ownSite (s : State) : Bool :=
  s.contactActs 3 || s.halt.hostSite || (s.halt.partnerSite && s.cfgOn 0x2202 8)

/-- Some site-scope source is active (R211, R216). -/
def State.siteActive (s : State) : Bool := s.ownSite || (s.halt.lineLow && s.cfgOn 0x2202 7)

/-- Some cell-scope source is active (R211, R216). -/
def State.cellActive (s : State) : Bool :=
  s.contactActs 2 || s.halt.hostCell || (s.halt.partnerCell && s.cfgOn 0x2202 8)

/-! ## Records -/

/-- Halt record `k`: 0 site, 1 cell, 2 + n lane n. -/
def State.haltRecord (s : State) (k : Nat) : U16 :=
  match k with | 0 => s.halt.site | 1 => s.halt.cell | m + 2 => (s.lane m).haltRecord

/-- Set halt record `k` to a state code with its complement (R214). -/
def State.setRecord (k code : Nat) (s : State) : State :=
  match k with
  | 0 => { s with halt := { s.halt with site := coded code } }
  | 1 => { s with halt := { s.halt with cell := coded code } }
  | m + 2 => s.onLane m (fun l => { l with haltRecord := coded code })

/-- The source of record `k` is active. -/
def State.recordActive (s : State) (k : Nat) : Bool :=
  match k with | 0 => s.siteActive | 1 => s.cellActive | m + 2 => (s.lane m).hostHalt

/-- Records that may change: site, cell, and the lanes listed. -/
def State.records (s : State) : List Nat := 0 :: 1 :: s.listed.map (· + 2)

/-- Lane byte of a record: 0xFF for site and cell. -/
def recordLane (k : Nat) : Nat := if k < 2 then 0xFF else k - 2

/-! ## Falling silent (R237) -/

/-- Stop all transmission, both heartbeat paths and lease renewal, and freeze the site line; the application cores
report it. Cause 0 lockstep mismatch, 1 halt record complement. -/
def State.fallSilent (cause : Nat) (s : State) : State :=
  if s.halt.silent then s
  else
    let s := { s with halt := { s.halt with silent := true } }
    let s := s.cutVerge.emit .cutOff
    let s := { s with air := { s.air with vergeWaiting := [], pa := false, txrx := false, vgPa := false, vgTxrx := false } }
    s.raise 0x0706 1 7 0xFF 0 (le 1 cause)

/-- A halt record that fails its complement is a fault of the safety pair's own state (R214). -/
def State.checkRecords (s : State) : State :=
  if s.records.any (fun k => (codeOf (s.haltRecord k)).isNone) then s.fallSilent 1 else s

/-! ## The site line (R234, R235) -/

/-- Send SITE_LINE with the present drive state. -/
def State.sendSiteLine (s : State) : State :=
  s.emit (.can 0x7C3 (le 1 s.chain.address ++ le 1 (if s.halt.driving then 1 else 0) ++ le 2 0))

/-- Drive or release SITE_HALT_N as the own site-scope sources ask, and report each change (R234, R235). -/
def State.driveLine (s : State) : State :=
  let want := s.ownSite && s.cfgOn 0x2202 7
  if s.halt.silent || want = s.halt.driving then s
  else
    let s := { s with halt := { s.halt with driving := want } }
    (s.emit (.pin .siteHaltN (!want))).sendSiteLine

/-! ## Decisions (R217, R218, R222 to R224) -/

/-- The HALT message of a decision or change: records with their IDs, own sources, the decision (R218, R421). -/
def State.sendHalt (lanes : List Nat) (decisions : List RemoteDecision) (s : State) : State :=
  s.sendLink (.halt s.halt.site s.halt.cell (lanes.map (fun n => (n, (s.lane n).haltRecord))) s.halt.haltId
    (([0, 1] ++ lanes.map (· + 2)).filterMap (fun k => (tfind s.halt.ids k).map (k, ·)))
    (BitVec.ofNat 16 (s.halt.sources (s.cfgOn 0x2202 7))) decisions)

/-- Every carriageway owes its halt copy, with the lanes newly covered on it (R223, R315). -/
def State.oweHalt (lanes : List Nat) (s : State) : State :=
  { s with air := { s.air with cws := (List.range 4).foldl (fun t c => tmod (fun _ => {}) t c (fun (w : Carriageway) =>
      { w with haltOwed := true, covered := w.covered ++ lanes.filter (fun n => n % 4 = c) })) s.air.cws } }

/-- The decision over records that hold good: every record with an active source becomes IN_FORCE; those that were CLEAR share one
new halt ID and start one burst, whose first frame goes out at once; it stands for every halt decided in the slice (R215 to
R218, R221 to R224, R234). The latency is a free value
within the 1,000 µs of R221 (log entry 19). -/
def State.decideHalt (s : State) : State :=
  let on := s.records.filter (fun k => s.recordActive k && recordCode (s.haltRecord k) ≠ 1)
  let fresh := on.filter (fun k => recordCode (s.haltRecord k) = 0)
  let lanes := fresh.filterMap (fun k => if k < 2 then none else some (k - 2))
  let s := on.foldl (fun (t : State) k => t.setRecord k 1) s
  let s := { s with halt := { s.halt with half := s.halt.half.filter (fun h => !(on.any (· = h.1))) } }
  let s := s.driveLine
  if on.isEmpty then s
  else if fresh.isEmpty then
    on.foldl (fun (t : State) k => t.haltSample (recordLane k) 0) (s.sendHalt (on.filterMap (fun k => if k < 2 then none else some (k - 2))) [])
  else
    let id := s.halt.haltId + 1
    let p := s.draw
    let s := p.2
    let q := s.draw
    let s := q.2
    let burst : Burst := { haltId := id, site := fresh.any (· = 0), cell := fresh.any (· = 1), lanes := lanes, next := 1,
                           delay := q.1 % 41, began := s.now }
    let s := { s with halt := { s.halt with
      haltId := id, decided := s.halt.decided + 1, latency := p.1 % 1001, bursts := s.halt.bursts ++ [burst]
      ids := fresh.foldl (fun t k => tset t k id) s.halt.ids
      decidedAt := fresh.foldl (fun t k => tset t k s.clock.tick) s.halt.decidedAt } }
    let s := s.sendHalt (on.filterMap (fun k => if k < 2 then none else some (k - 2)))
      [{ haltId := id, tick := s.clock.tick, offset := s.clock.offset }]
    let inSlice := (s.halt.bursts.filter (fun b => decide (s.clock.source + (s.clock.offset / sliceNs * sliceNs : Nat) ≤ b.began))).flatMap (·.lanes)
    let s := (s.sendFirstHalt inSlice).oweHalt lanes
    let s := fresh.foldl (fun (t : State) k => t.trigger 0 t.now (recordLane k)) s
    on.foldl (fun (t : State) k => t.haltSample (recordLane k) 0) s

/-- The safety pair's decision; records that fail their complement make it fall silent instead (R214, R237). -/
def State.haltDecision (s : State) : State :=
  if s.halt.silent then s
  else
    let s := s.checkRecords
    if s.halt.silent then s else s.decideHalt

/-- Sources changed: decide, drive the line, tell the partner (R211, R218, R234). -/
def State.sourcesChanged (s : State) : State :=
  if s.halt.silent then s
  else
    let before := s.halt.decided
    let t := s.haltDecision.driveLine
    if t.halt.silent ∨ t.halt.decided ≠ before then t else t.sendHalt [] []

/-! ## Boundary (R229, R231, R232) -/

/-- Record `k` becomes CLEAR (R215, R321, R533). -/
def State.clearRecord (k : Nat) (s : State) : State :=
  let s := s.setRecord k 0
  let s := { s with halt := { s.halt with ids := tdel s.halt.ids k, half := tdel s.halt.half k } }
  (s.trigger 1 s.now (recordLane k)).haltSample (recordLane k) 1

/-- Step 1 of R23 for the records: IN_FORCE becomes RESTORED once every source of its scope is restored (R229). -/
def State.restoreRecords (s : State) : State :=
  if s.halt.silent then s
  else (s.records.filter (fun k => recordCode (s.haltRecord k) = 1 && !s.recordActive k)).foldl
    (fun (t : State) k => (t.setRecord k 2).haltSample (recordLane k) 1) s

/-- The record a resume names. -/
def Resume.record (r : Resume) : Nat := match r.scope with | 3 => 0 | 2 => 1 | _ => r.lane + 2

/-- One resume takes effect at step 2 (R230 to R232). -/
def State.applyResume (s : State) (r : Resume) : State :=
  let k := r.record
  let code := recordCode (s.haltRecord k)
  let host := r.req.isSome
  if code ≠ 2 ∧ code ≠ 3 then s.answerOpt r.req (.refused 0x08000022 0)
  else if k < 2 ∧ s.cfg 0x2202 1 = 2 then
    match tfind s.halt.half k with
    | none =>
      let s := { (s.setRecord k 3) with halt := { (s.setRecord k 3).halt with
        half := tset s.halt.half k { host := host, until_ := r.instant + s.cfg 0x2202 2 * 1000000000 } } }
      (s.haltSample 0xFF 1).answerOpt r.req (.done [])
    | some h =>
      if h.host = host then s.answerOpt r.req (.done [])
      else if r.instant ≤ h.until_ then (s.clearRecord k).answerOpt r.req (.done [])
      else
        let s := { s with halt := { s.halt with
          half := tset s.halt.half k { host := host, until_ := r.instant + s.cfg 0x2202 2 * 1000000000 } } }
        (s.raise 0x0705 0 0 0xFF 0 (le 1 (3 - k))).answerOpt r.req (.done [])
  else (s.clearRecord k).answerOpt r.req (.done [])

/-- Step 2 of R23 for the records: waiting resumes in order; bursts whose records are all CLEAR end (R321). -/
def State.resumeRecords (s : State) : State :=
  if s.halt.silent then s
  else
    let s := s.halt.resumes.foldl State.applyResume s
    let alive := fun (b : Burst) => (b.site && inForce s.halt.site) || (b.cell && inForce s.halt.cell) ||
      b.lanes.any (fun n => inForce (s.lane n).haltRecord)
    { s with halt := { s.halt with resumes := [], bursts := s.halt.bursts.filter alive } }

/-! ## Host commands (R219, R220) -/

/-- Fields of a halt command: action, scope, reserved, lane. -/
def haltFields (w : U32) : Nat × Nat × Nat × Nat :=
  let v := w.toNat
  (v / 16384 % 4, v / 4096 % 4, v / 256 % 16, v % 256)

/-- The scope and lane fields are valid (R219, R220). -/
def scopeOk (scope reserved lane : Nat) : Bool :=
  decide (scope ≠ 0) && decide (reserved = 0) && (if scope = 1 then decide (lane < 192) else decide (lane = 0))

/-- Set or end the host source of a scope. -/
def State.hostSource (scope lane : Nat) (on : Bool) (s : State) : State :=
  match scope with
  | 1 => s.onLane lane (fun l => { l with hostHalt := on })
  | 2 => { s with halt := { s.halt with hostCell := on } }
  | _ => { s with halt := { s.halt with hostSite := on } }

/-- The host source of a scope is active. -/
def State.hostActive (s : State) (scope lane : Nat) : Bool :=
  match scope with | 1 => (s.lane lane).hostHalt | 2 => s.halt.hostCell | _ => s.halt.hostSite

/-- Body of a host assert (R219, R220). -/
def State.assertHalt (w : U32) (s : State) : State × Answer :=
  let f := haltFields w
  if f.1 ≠ 1 ∨ !scopeOk f.2.1 f.2.2.1 f.2.2.2 then refuse 0x06090030 s
  else if s.halt.silent then refuse 0x08000022 s
  else if f.2.1 = 1 ∧ (s.laneIs f.2.2.2 .vacant ∨ s.frozen f.2.2.2) then refuse 0x08000022 s
  else ((s.hostSource f.2.1 f.2.2.2 true).sourcesChanged, .done [])

/-- Body of a host restore (R220): role P alone; no command reaches a lane under R19 (R38). -/
def State.restoreHalt (roles : Nat) (w : U32) (s : State) : State × Answer :=
  let f := haltFields w
  if f.1 ≠ 2 ∨ !scopeOk f.2.1 f.2.2.1 f.2.2.2 then refuse 0x06090030 s
  else if !permitted roles roleP then refuse 0x0F000001 s
  else if s.halt.silent ∨ !s.hostActive f.2.1 f.2.2.2 ∨ (f.2.1 = 1 ∧ s.frozen f.2.2.2) then refuse 0x08000022 s
  else ((s.hostSource f.2.1 f.2.2.2 false).sourcesChanged, .done [])

/-- Body of a host resume (R219, R220, R232): answered at the next boundary; none for a lane under R19 (R38). -/
def State.resumeHalt (r : Req) (w : U32) (s : State) : State × Answer :=
  let f := haltFields w
  let x : Resume := { scope := f.2.1, lane := f.2.2.2, req := some r, instant := s.now }
  let code := recordCode (s.haltRecord x.record)
  if f.1 ≠ 0 ∨ !scopeOk f.2.1 f.2.2.1 f.2.2.2 then refuse 0x06090030 s
  else if s.halt.silent ∨ (code ≠ 2 ∧ code ≠ 3) ∨ (f.2.1 = 1 ∧ s.frozen f.2.2.2) then refuse 0x08000022 s
  else
    let s := { s with halt := { s.halt with resumes := s.halt.resumes ++ [x] } }
    (s.haltSample (recordLane x.record) 2, .pending)

def haltAssert (r : Req) (w : U32) (s : State) : State :=
  s.serveWrite r 0x2201 1 (le 4 w.toNat) (State.assertHalt w)

def haltRestore (r : Req) (w : U32) (s : State) : State :=
  s.serveWrite r 0x2201 1 (le 4 w.toNat) (fun t => t.restoreHalt (t.roles r.origin) w)

def haltResume (r : Req) (w : U32) (s : State) : State :=
  s.serveWrite r 0x2201 2 (le 4 w.toNat) (State.resumeHalt r w)

/-! ## Events -/

/-- HALT_REPETITION (R224, R225, R302, R321): the next repetition of a burst, with the records as they stand, at its place in
time; one whose place lies past the tick is not due yet. -/
def haltRepetition (id : U16) (index : Nat) (s : State) : State :=
  match s.halt.bursts.find? (fun b => b.haltId = id && b.next = index) with
  | none => s
  | some b =>
    let due := b.began + tickNs * index + 100000 * b.delay - s.clock.source
    if s.halt.silent ∨ 49 < index ∨ ((tickNs + s.clock.extension : Int) ≤ due ∧ due < tickNs * 60) then s
    else
      let s := s.stamped due.toNat
      let p := s.draw
      let s : State := { p.2 with halt := { p.2.halt with
        bursts := if index = 49 then s.halt.bursts.filter (fun (x : Burst) => x.haltId ≠ id)
          else s.halt.bursts.map (fun (x : Burst) =>
            if x.haltId = id then { x with next := index + 1, delay := p.1 % 41 } else x) } }
      if s.cfgNat 0x2502 1 = 0 ∧ 5 ≤ index ∧ 340000 ≤ s.dutyAccount then
        { s with air := { s.air with withheldHalts := s.air.withheldHalts + 1 } }
      else s.sendVerge 9 (s.vergeHalt index b.lanes)

/-- SITE_HALT_SAMPLE (R211): four agreeing samples change the line state. -/
def siteHaltSample (low : Bool) (stamp : Nat) (s : State) : State :=
  let s := s.stamped stamp
  let run := if low = s.halt.lastSample then min 4 (s.halt.lineRun + 1) else 1
  let s := { s with halt := { s.halt with lastSample := low, lineRun := run } }
  if s.halt.silent ∨ run < 4 ∨ low = s.halt.lineLow then s
  else
    let s := { s with halt := { s.halt with lineLow := low } }
    let s := if low ∧ s.cfgOn 0x2202 7 then s.trigger 2 s.now 0xFF else s
    if low then s.sourcesChanged
    else
      let s := if s.halt.stuck then ({ s with halt := { s.halt with stuck := false } }).raise 0x0704 3 7 0xFF 0 [] else s
      s.sourcesChanged

/-- SITE_LINE_READBACK (R235): a line that reads high while driven is a fault; the local halt stands. -/
def siteLineReadback (high : Bool) (s : State) : State :=
  if s.halt.driving ∧ high ∧ !s.halt.silent then
    ({ s with halt := { s.halt with lineFaults := s.halt.lineFaults + 1 } }).raise 0x0702 1 7 0xFF 0 []
  else s

/-- SITE_LINE_STUCK (R235): low for 60 s with no unit reporting that it drives it. -/
def siteLineStuck (s : State) : State :=
  if s.halt.lineLow ∧ !s.halt.stuck ∧ !s.halt.driving ∧ s.halt.drivers.isEmpty ∧ 60000 ≤ s.halt.lowFor ∧ !s.halt.silent then
    ({ s with halt := { s.halt with stuck := true } }).raise 0x0703 2 7 0xFF 0 []
  else s

/-- SITE_LINE (R235): another unit reports its drive. -/
def siteLine (address : Nat) (driving : Bool) (s : State) : State :=
  { s with halt := { s.halt with drivers := if driving then tset s.halt.drivers address 0 else tdel s.halt.drivers address } }

/-- SITE_LINE_PERIODIC (R235): sent every 1 s while the line is driven. -/
def siteLinePeriodic (s : State) : State := if s.halt.driving ∧ !s.halt.silent then s.sendSiteLine else s

/-- SITE_LINE_DRIVER_TIMEOUT (R235): 3 s without a SITE_LINE from a unit. -/
def siteLineDriverTimeout (address : Nat) (s : State) : State :=
  match tfind s.halt.drivers address with
  | some age => if 3000 ≤ age then { s with halt := { s.halt with drivers := tdel s.halt.drivers address } } else s
  | none => s

/-- LOCAL_RESUME_PRESS (R230, R231): touch key K1 held for 1 to 5 s and released. -/
def localResumePress (holdMs stamp : Nat) (s : State) : State :=
  let s := s.stamped stamp
  let waiting := [0, 1].filter (fun k => recordCode (s.haltRecord k) = 2 || recordCode (s.haltRecord k) = 3)
  let second := waiting.all (fun k => match tfind s.halt.half k with | some h => !h.host | none => false)
  if holdMs < 1000 ∨ 5000 < holdMs ∨ s.panel.wet ∨ s.halt.silent then s
  else if s.cfg 0x2202 1 = 0 then s.raise 0x1906 0 0 0xFF 0 (le 1 1)
  else if waiting.isEmpty then s.raise 0x1906 0 0 0xFF 0 (le 1 0)
  else if s.cfg 0x2202 1 = 2 ∧ second then s.raise 0x1906 0 0 0xFF 0 (le 1 2)
  else
    let s := { s with halt := { s.halt with
      resumes := s.halt.resumes ++ waiting.map (fun k => { scope := 3 - k, lane := 0, req := none, instant := s.now }) } }
    waiting.foldl (fun (t : State) _ => t.haltSample 0xFF 2) s

/-- TWO_PARTY_WINDOW_EXPIRE (R231): at the first boundary after the window, half-resumed records are RESTORED again. -/
def twoPartyWindowExpire (s : State) : State :=
  let ended := s.halt.half.filter (fun h => decide (h.2.until_ < s.clock.source))
  let s := ended.foldl (fun (t : State) h =>
    (t.setRecord h.1 2).raise 0x0705 0 0 (recordLane h.1) 0 (le 1 (if h.1 < 2 then 3 - h.1 else 1))) s
  { s with halt := { s.halt with half := s.halt.half.filter (fun h => decide (s.clock.source ≤ h.2.until_)) } }

/-- LOCKSTEP_MISMATCH (R237). -/
def lockstepMismatch (s : State) : State := s.fallSilent 0

/-- Work of a running unit. -/
def running (f : State → State) (s : State) : Host.Outcome State Fault Refusal :=
  .next (if s.power.phase = .running then f s.begin else s.begin)

def execHaltAssert (r : Req) (word : U32) (s : State) : Host.Outcome State Fault Refusal := running (haltAssert r word) s
def execHaltRestore (r : Req) (word : U32) (s : State) : Host.Outcome State Fault Refusal := running (haltRestore r word) s
def execHaltResume (r : Req) (word : U32) (s : State) : Host.Outcome State Fault Refusal := running (haltResume r word) s
def execHaltRepetition (haltId : U16) (index : Nat) (s : State) : Host.Outcome State Fault Refusal :=
  running (haltRepetition haltId index) s
def execSiteHaltSample (low : Bool) (stamp : Nat) (s : State) : Host.Outcome State Fault Refusal :=
  running (siteHaltSample low stamp) s
def execSiteLineReadback (high : Bool) (s : State) : Host.Outcome State Fault Refusal := running (siteLineReadback high) s
def execSiteLineStuck (s : State) : Host.Outcome State Fault Refusal := running siteLineStuck s
def execSiteLine (address : Nat) (driving : Bool) (s : State) : Host.Outcome State Fault Refusal :=
  running (siteLine address driving) s
def execSiteLinePeriodic (s : State) : Host.Outcome State Fault Refusal := running siteLinePeriodic s
def execSiteLineDriverTimeout (address : Nat) (s : State) : Host.Outcome State Fault Refusal :=
  running (siteLineDriverTimeout address) s
def execLocalResumePress (holdMs stamp : Nat) (s : State) : Host.Outcome State Fault Refusal :=
  running (localResumePress holdMs stamp) s
def execTwoPartyWindowExpire (s : State) : Host.Outcome State Fault Refusal := running twoPartyWindowExpire s
def execLockstepMismatch (s : State) : Host.Outcome State Fault Refusal := running lockstepMismatch s

end Sys2Proof.Machine
end

