-- ==== Sys2Proof/Machine/Trip.lean ====
section
/-! DEFINITION. The trip recorder: enabling, the sample streams of sources 5 and 8, sealing, draining, retention and
archive (18 R528 to R547), with FORCE_TRIGGER, AUTO_TRIGGER_TIMEOUT, CAPTURE_COMPLETE and CAPTURE_DRAINED. -/

namespace Sys2Proof.Machine

/-! ## Enabling (R528, R530 to R532) -/

/-- Accepted settings of unit `u`. -/
def Units.tripSet (s : Units) (u sub : Nat) : Nat := (s.cfgAccepted (0x2A10 + u) sub).toNat

/-- Bytes of the ring a unit of the given lengths takes (R528). -/
def shareOf (pre post : Nat) : Nat := (pre + post + 4095) / 4096 * 4096

/-- Bytes of the ring that unit `u` holds. -/
def Units.tripShare (s : Units) (u : Nat) : Nat := if s.tripSet u 1 = 1 then shareOf (s.tripSet u 4) (s.tripSet u 5) else 0

/-- Bytes of the ring (R528). -/
def ringBytes : Nat := 4194304

/-- Carriageway whose channeliser a mask names, and its channel index (R530). -/
def maskCarriageway (mask : Nat) : Nat := mask / 16777216 % 4
def maskChannel (mask : Nat) : Nat := mask / 268435456

/-- The source parameter of a mask breaks the rules of its source (R530). -/
def parameterBad (source mask : Nat) : Bool :=
  let p := mask / 16777216
  match source with
  | 1 => decide (192 ≤ p) && p ≠ 0xFF
  | 5 => decide (4 ≤ p)
  | 8 => decide (14 < maskChannel mask) || bit p 2 || bit p 3
  | _ => p ≠ 0

/-- Unit other than `u` that is enabled with a source for which `c` holds. -/
def Units.tripOwner (s : Units) (u source : Nat) (c : Nat → Bool) : Option Nat :=
  (List.range 4).find? (fun v => v ≠ u && s.tripSet v 1 = 1 && s.tripSet v 2 = source && c (s.tripSet v 3))

/-- Unit that holds the channeliser of carriageway `k` (R532). -/
def Units.spectrumOwner (s : Units) (u k : Nat) : Option Nat := s.tripOwner u 8 (fun m => maskCarriageway m = k)

/-- Names of units and carriageways. -/
def unitName (u : Nat) : String := "unit " ++ toString u
def cwName (k : Nat) : String := "CW" ++ toString k

/-- Why an entry's own rule refuses a write: an abort code, with resource and owner under R400. -/
structure Ruling where
  code : Nat
  names : Option (String × String) := none
  deriving DecidableEq, Repr

/-- A resource is in use (R400). -/
def inUseBy (resource owner : String) : Ruling := { code := 0x0F000002, names := some (resource, owner) }

/-- Own rule of enabling unit `u` (R528, R530 to R532). -/
def Units.tripRule (s : Units) (u : Nat) : Option Ruling :=
  let source := s.tripSet u 2
  let mask := s.tripSet u 3
  let others := (List.range 4).filter (fun v => v ≠ u && decide (s.tripShare v ≠ 0))
  let k := maskCarriageway mask
  if parameterBad source mask then some { code := 0x06040043 }
  else if source = 5 ∧ (s.tripSet u 4 ≠ 0 ∨ s.tripSet u 5 % 4180 ≠ 0 ∨ s.tripSet u 5 < 4180 ∨ 1045000 < s.tripSet u 5) then
    some { code := 0x06040043 }
  else if ringBytes < shareOf (s.tripSet u 4) (s.tripSet u 5) + (others.map s.tripShare).sum then
    some (inUseBy "ring" (String.intercalate ", " (others.map unitName)))
  else if source = 5 then (s.tripOwner u 5 (fun _ => true)).map (fun v => inUseBy "acquisition buffer 5" (unitName v))
  else if source = 8 then
    if s.cfgAccepted 0x2501 (k + 1) ≠ 255 then some (inUseBy ("channeliser " ++ cwName k) (cwName k))
    else (s.spectrumOwner u k).map (fun v => inUseBy ("channeliser " ++ cwName k) (unitName v))
  else none

/-- An armed or filling unit as it starts (R534). -/
def TripUnit.start (t : TripUnit) (pre : Nat) : TripUnit :=
  { t with state := if pre = 0 then 2 else 1, pre := [], post := [], fired := [], armed := 0, items := [], sealed := [] }

/-- Enables in force reach the units at a tick boundary (R404, R528, R534): disabling discards a capture not yet complete. -/
def State.tripTick (s : State) : State :=
  (List.range 4).foldl (fun (t : State) u =>
    let on := t.cfgOn (0x2A10 + u) 1
    t.onTrip u (fun x =>
      if on ∧ x.state = 0 then { x.start (t.cfgNat (0x2A10 + u) 4) with share := t.tripShare u }
      else if !on ∧ x.state ≠ 0 then { captures := x.captures }
      else x)) s

/-! ## Sources 5 and 8 -/

/-- Sample bytes of a record: free (log entry 21). -/
def State.freeBytes (n : Nat) (s : State) : Bytes × State := let p := s.draw; (le n p.1, p.2)

/-- Records of spectrum capture in a slice (R529): five of 200 µs each. -/
def State.spectrumUnit (s : State) (u : Nat) : State :=
  (List.range 5).foldl (fun (t : State) k =>
    let p := t.freeBytes 2000
    p.2.recordUnit 199800 200 { time := t.now - 1000000 + 200000 * k, data := p.1 } u) s

/-- The fifth acquisition buffer at a slice (R531): it starts to fill at the trigger, and yields one record each 64 µs. -/
def State.snapshotUnit (s : State) (u : Nat) : State :=
  let t := s.tripUnit u
  let s := match t.state, (t.fired.map (·.2)).min? with
    | 2, some at' =>
      let hits := (t.fired.filter (fun f => f.2 = at')).map (·.1)
      let s := s.onTrip u (fun x => { x with
        state := 3, fired := [], post := [], cause := causeMask hits, trigTime := at', trigTick := s.clock.tick
        trigInvalid := !s.time.valid, need := needOf (s.cfgNat (0x2A10 + u) 5) hits })
      if s.cfgOn 0x2A00 4 then s.emit (.pulse .trigger 1000000) else s
    | _, _ => s
  let t := s.tripUnit u
  if t.state ≠ 3 then s
  else
    let ended := ((s.now - t.trigTime) / 64000).toNat - t.post.length
    (List.range ended).foldl (fun (x : State) k =>
      if t.need ≤ partSize (x.tripUnit u).post then x
      else
        let p := x.freeBytes 4160
        p.2.onTrip u (fun y => { y with post := y.post ++ [{ time := t.trigTime + 64000 * (t.post.length + k), data := p.1 }] })) s

/-- The recorder at a slice boundary: armed time (R538), sources 5 and 8. -/
def State.tripSlice (s : State) : State :=
  (List.range 4).foldl (fun (t : State) u =>
    if !t.cfgOn (0x2A10 + u) 1 then t
    else
      let t := t.onTrip u (fun x => if x.state = 2 then { x with armed := x.armed + 1 } else x)
      match t.cfgNat (0x2A10 + u) 2 with
      | 5 => t.snapshotUnit u
      | 8 => t.spectrumUnit u
      | _ => t) s

/-! ## Sealing (R540 to R542) -/

/-- Stream item of a record: type 2 or 3 (R540, R541). -/
def recordItem (number index source part : Nat) (r : TripRec) : Nat × Bytes :=
  match r.gap with
  | none => (2, le 4 number ++ le 4 index ++ le 8 r.time ++ le 1 source ++ le 1 part ++ le 2 r.data.length ++ r.data)
  | some g => (3, le 4 number ++ le 4 index ++ le 8 r.time ++ le 8 r.time ++ le 4 g.1 ++ le 1 g.2 ++ le 3 0)

/-- Record items from an index on: the first of the post-trigger part holds the trigger sample. -/
def recordItems (number source : Nat) (pre : Bool) : Nat → List TripRec → List (Nat × Bytes)
  | _, [] => []
  | i, r :: t => recordItem number i source (if pre then 0 else 2) r :: recordItems number source pre (i + 1) t

/-- Trip seal key (R456). -/
def State.sealKey (s : State) : Bytes := kdf s.sendKey "VL trip seal" (s.domain ++ le 1 s.chain.address) 128

/-- Key generation of a seal, 0 when no site key is in force (R540). -/
def State.sealGeneration (s : State) : Nat := s.sendGeneration

/-- Items of the capture of unit `u` (R540 to R542). -/
def State.captureItems (s : State) (u number : Nat) : List (Nat × Bytes) :=
  let t := s.tripUnit u
  let source := s.cfgNat (0x2A10 + u) 2
  let offset : Nat := match t.post with
    | r :: _ => if source = 8 then ((t.trigTime - r.time) / 200).toNat else 0
    | [] => 0
  let header := le 4 number ++ le 1 u ++ le 1 source ++ le 1 s.chain.address ++ le 1 (if t.trigInvalid then 1 else 0) ++
    le 4 t.cause ++ le 4 (s.tripMask u) ++ le 8 t.trigTime ++ le 4 t.trigTick.toNat ++ le 4 t.pre.length ++ le 2 offset ++ le 2 0 ++
    le 4 (partSize t.pre) ++ le 4 (partSize t.post) ++ le 4 (t.pre.length + t.post.length)
  let post := match t.post with
    | [] => []
    | r :: l => recordItem number t.pre.length source 1 r :: recordItems number source false (t.pre.length + 1) l
  let body := (1, header) :: recordItems number source true 0 t.pre ++ post
  let trailer := le 4 number ++ le 1 s.sealGeneration ++ le 3 0 ++ le 4 body.length
  let sealed := (body.flatMap (fun i => le 1 i.1 ++ i.2)) ++ trailer
  body ++ [(4, trailer ++ (if s.sealGeneration = 0 then List.replicate 16 0 else Crypto.cmac s.sealKey sealed))]

/-- Number the capture of unit `u` completes with (R540). -/
def State.captureNumber (s : State) (u : Nat) : Nat := ((s.tripUnit u).captures + 1).toNat

/-- CAPTURE_COMPLETE (R534, R540 to R542, R547): the post-trigger part holds what its causes need. -/
def captureComplete (u : Nat) (s : State) : State :=
  let t := s.tripUnit u
  if t.state ≠ 3 ∨ partSize t.post < t.need then s
  else
    let number := s.captureNumber u
    let items := s.captureItems u number
    let s := s.onTrip u (fun x => { x with state := 4, items := items, sealed := items })
    let s : State := { s with keys := { s.keys with sealPort := s.keys.sealPort || decide (s.sealGeneration ≠ 0) } }
    s.raise 0x1801 0 0 0xFF 0 (le 1 u ++ le 3 0 ++ le 4 number ++ le 4 t.cause)

/-! ## Draining (R539, R543, R544) -/

/-- Room of stream 0x5003 for an item body. -/
def State.exportRoom (s : State) (body : Bytes) : Bool := decide ((s.stream 3).fill + 8 + body.length ≤ streamCapacity 3)

/-- Write items to the export stream while it has room; what is left stays (R539). -/
def State.exportItems (archive : Bool) : List (Nat × Bytes) → State → List (Nat × Bytes) × State
  | [], s => ([], s)
  | i :: t, s =>
    if !s.exportRoom i.2 then (i :: t, s)
    else
      let item := le 4 (s.stream 3).next.toNat ++ le 2 i.2.length ++ le 1 i.1 ++ le 1 0 ++ i.2
      let s := s.push 3 i.1 i.2
      let s := if archive then
          let a := if Config.archiveCapacity < s.trip.archive + item.length then 0 else s.trip.archive
          ({ s with trip := { s.trip with archive := a + item.length } } : State).emit (.archive a item)
        else s
      s.exportItems archive t

/-- Bytes a retained capture takes: types and bodies of its items (R543). -/
def retainedBytes (l : List (Nat × Bytes)) : Nat := (l.map (fun i => 1 + i.2.length)).sum

/-- Bytes of the MRAM area of retained captures (R543). -/
def retainArea : Nat := 2097152

/-- The oldest retained captures are displaced until the rest and `n` bytes fit (R543). -/
def displace (n : Nat) : List (List (Nat × Bytes)) → List (List (Nat × Bytes))
  | [] => []
  | c :: t => if n + ((c :: t).map retainedBytes).sum ≤ retainArea then c :: t else displace n t

/-- A capture is retained in MRAM, or is too large (R543, R547). -/
def State.retain (u number : Nat) (items : List (Nat × Bytes)) (s : State) : State :=
  let n := retainedBytes items
  if retainArea < n then s.raise 0x1802 0 0 0xFF 0 (le 1 u ++ le 3 0 ++ le 4 number ++ le 4 n)
  else { s with trip := { s.trip with retained := displace n s.trip.retained ++ [items] } }

/-- Retained captures go out again before new ones (R543). -/
def State.reexportStep (s : State) : State :=
  if (s.stream 3).reader = 0 then s
  else
    let p := s.exportItems false s.trip.reexport
    { p.2 with trip := { p.2.trip with reexport := p.1 } }

/-- A frozen capture passes on as room allows; once it has passed whole, the unit starts again (R539). -/
def State.drainUnit (s : State) (u : Nat) : State :=
  let s := s.reexportStep
  let t := s.tripUnit u
  if t.state ≠ 4 ∨ (s.stream 3).reader = 0 ∨ !s.trip.reexport.isEmpty then s
  else
    let p := s.exportItems (s.cfgOn 0x2A00 3) t.items
    if !p.1.isEmpty then p.2.onTrip u (fun x => { x with items := p.1 })
    else
      let s := if s.cfgOn (0x2A10 + u) 7 then p.2.retain u (s.captureNumber u) t.sealed else p.2
      s.onTrip u (fun x => { (x.start (s.cfgNat (0x2A10 + u) 4)) with captures := x.captures + 1 })

/-- Room has come free on the export stream (R539). -/
def State.drainAll (s : State) : State := (List.range 4).foldl State.drainUnit s

/-- CAPTURE_DRAINED (R539). -/
def captureDrained (u : Nat) (s : State) : State := if u < 4 then s.drainUnit u else s

/-! ## Forced triggers -/

/-- Body of a write of 0x2A00:05 (R533). -/
def State.forceTrigger (mask : Nat) (s : State) : State × Answer :=
  if 15 < mask then refuse 0x06090030 s
  else confirm (((List.range 4).filter (bit mask)).foldl (fun (t : State) u => t.onTrip u (TripUnit.note 31 t.now)) s)

def forceTrigger (r : Req) (mask : Nat) (s : State) : State := s.serveWrite r 0x2A00 5 (le 1 mask) (State.forceTrigger mask)

/-- AUTO_TRIGGER_TIMEOUT (R538): the unit has stayed armed for its time, and no condition stamped before has fired. -/
def autoTrigger (u : Nat) (s : State) : State :=
  let t := s.tripUnit u
  let ms := s.cfgNat (0x2A10 + u) 6
  if t.state = 2 ∧ ms ≠ 0 ∧ ms ≤ t.armed ∧ t.fired.isEmpty then s.onTrip u (TripUnit.note 30 s.now) else s

def execForceTrigger (r : Req) (mask : Nat) (s : State) : Host.Outcome State Fault Refusal := running (forceTrigger r mask) s
def execAutoTriggerTimeout (unit : Nat) (s : State) : Host.Outcome State Fault Refusal := running (autoTrigger unit) s
def execCaptureComplete (unit : Nat) (s : State) : Host.Outcome State Fault Refusal := running (captureComplete unit) s
def execCaptureDrained (unit : Nat) (s : State) : Host.Outcome State Fault Refusal := running (captureDrained unit) s

end Sys2Proof.Machine
end

