-- ==== Sys2Proof/Machine/Streams.lean ====
section
/-! DEFINITION. Streams: readers, pulls, multicast, stream keys (12 R392 to R396; 17 R522, R523, R525; 15 R452, R456), with
STREAM_PULL, STREAM_CLAIM, STREAM_RELEASE, STREAM_KEY and CAN_READER_TIMEOUT. -/

namespace Sys2Proof.Machine

/-! ## Readers -/

/-- Roles that may read stream `q` (R392). -/
def streamRoles (q : Nat) : Nat :=
  match q with
  | 0 => roleO + roleP + roleL + roleW
  | 1 => roleO + roleP + roleL + roleW + roleS
  | 4 => roleO + roleL + roleW
  | _ => roleW + roleS

/-- Grant entry of stream `q`: streams 2 and 5 may be granted to O (R392, R413, R522). -/
def grantSub : Nat → Option Nat
  | 2 => some 6
  | 5 => some 5
  | _ => none

/-- The roles may not read stream `q`: abort code (R373, R522). -/
def Units.streamRefused (u : Units) (roles q : Nat) : Option Nat :=
  if permitted roles (streamRoles q) then none
  else match grantSub q with
    | some k => if permitted roles roleO then (if u.cfgOn 0x2900 k then none else some 0x0F000006) else some 0x0F000001
    | none => some 0x0F000001

/-- Readers as the reader entry names them (R392): none, and the controller itself under multicast. -/
def multicastReader : U32 := 0xFF000000

/-- A CAN client holds the stream (R392). -/
def canReader (reader : U32) : Bool := decide (0x100 < reader.toNat) && decide (reader.toNat < 0x180)

/-- Claim stream `q` for a reader: abort code where another holds it (R393, R400). -/
def State.claimReader (q : Nat) (reader : U32) (s : State) : State × Option Nat :=
  let t := s.stream q
  if t.reader = reader then (s, none)
  else if t.reader ≠ 0 then (s.inUse ("reader of stream " ++ toString q) ("reader " ++ toString t.reader.toNat), some 0x0F000002)
  else (s.onStream q (fun x => { x with reader := reader, idle := 0 }), none)

/-- Release every stream that a reader holds (R393). -/
def State.releaseReader (reader : U32) (s : State) : State :=
  (List.range 6).foldl (fun (t : State) q =>
    if (t.stream q).reader = reader then t.onStream q (fun x => { x with reader := 0, idle := 0 }) else t) s

/-- Roles of the holder of a reader entry. -/
def State.readerRoles (s : State) (reader : U32) : Nat :=
  if reader = 0x200 then roleS
  else if reader = multicastReader then roleW
  else if canReader reader then s.roles (.can (reader.toNat - 0x100))
  else s.roles (.vap reader.toNat)

/-- A withdrawn grant releases a reader that holds the stream only through it, at a tick boundary (R522). -/
def State.grantTick (s : State) : State :=
  [2, 5].foldl (fun (t : State) q =>
    let reader := (t.stream q).reader
    if reader ≠ 0 ∧ (t.streamRefused (t.readerRoles reader) q).isSome then t.onStream q (fun x => { x with reader := 0, idle := 0 }) else t) s

/-! ## Pulls -/

/-- An item with its header (R395). -/
def Item.bytes (i : Item) : Bytes := le 4 i.seq.toNat ++ le 2 i.body.length ++ le 1 i.typ ++ le 1 i.flags ++ i.body

/-- The idle item (R395): it carries the sequence the next item will take. -/
def Stream.idleItem (t : Stream) : Bytes := le 4 t.next.toNat ++ le 2 0 ++ le 1 0 ++ le 1 1

/-- Whole items, oldest first, that fit into `room` bytes (R394). -/
def fitting (room : Nat) : List Item → List Item
  | [] => []
  | i :: t => if i.size ≤ room then i :: fitting (room - i.size) t else []

/-- The stream after its first `n` items have been read (R523, R525). -/
def Stream.took (t : Stream) (n : Nat) : Stream :=
  match (t.items.take n).getLast? with
  | none => t
  | some i => { t with items := t.items.drop n, read := i.seq + 1, readPtr := t.readPtr.advance n }

/-- Data of a pull and the stream after it (R394). -/
def Stream.pull (t : Stream) (room : Nat) : Bytes × Stream :=
  match t.items with
  | [] => (t.idleItem, t)
  | i :: _ =>
    if room < i.size then (le 4 i.seq.toNat ++ le 2 i.body.length ++ le 1 i.typ ++ le 1 (if bit i.flags 2 then i.flags else i.flags + 4), t)
    else
      let l := fitting room t.items
      (l.flatMap Item.bytes, t.took l.length)

/-- Access to the pointers of a stream before a read: a mismatch resets the queue, and the access returns the idle item
(R525). -/
def State.readQueue (q : Nat) (s : State) : State × Bool :=
  ((s.checkQueue q), (s.stream q).write.ok && (s.stream q).readPtr.ok)

/-- Body of a pull (R393, R394). -/
def State.pullStream (r : Req) (q room : Nat) (s : State) : State × Answer :=
  if 6 ≤ q then refuse 0x06020000 s
  else match s.streamRefused (s.roles r.origin) q with
    | some c => refuse c s
    | none =>
      let p := s.claimReader q (BitVec.ofNat 32 (readerOf r.origin))
      match p.2 with
      | some c => refuse c p.1
      | none =>
        let a := p.1.readQueue q
        if !a.2 then (a.1, .done (a.1.stream q).idleItem)
        else
          let x := (a.1.stream q).pull room
          let s := a.1.onStream q (fun _ => x.2)
          (if q = 3 then s.drainAll else s, .done x.1)

def streamPull (r : Req) (q room : Nat) (s : State) : State := s.serve r (State.pullStream r q room)

/-- Body of a claim (R393). -/
def State.claimStream (r : Req) (q : Nat) (s : State) : State × Answer :=
  if 6 ≤ q then refuse 0x06020000 s
  else match s.streamRefused (s.roles r.origin) q with
    | some c => refuse c s
    | none =>
      let p := s.claimReader q (BitVec.ofNat 32 (readerOf r.origin))
      match p.2 with
      | some c => refuse c p.1
      | none => confirm p.1

def streamClaim (r : Req) (q : Nat) (s : State) : State := s.serve r (State.claimStream r q)

/-- Body of a release (R393): a reader gives the stream back; from anyone else it changes nothing. -/
def State.releaseStream (r : Req) (q : Nat) (s : State) : State × Answer :=
  if 6 ≤ q then refuse 0x06020000 s
  else if (s.stream q).reader = BitVec.ofNat 32 (readerOf r.origin) then
    confirm (s.onStream q (fun x => { x with reader := 0, idle := 0 }))
  else confirm s

def streamRelease (r : Req) (q : Nat) (s : State) : State := s.serve r (State.releaseStream r q)

/-! ## Multicast -/

/-- Storage key (R452). -/
def State.storageKey (s : State) : Bytes :=
  Crypto.hkdf (Config.deviceRoot s.keys.testRoot) (le 8 Config.serial.toNat) (ascii "VL storage") 32

/-- Stream key of stream `q` (R456). -/
def State.streamKeyOf (s : State) (q : Nat) : Bytes := kdf s.storageKey "VL stream" (le 1 q ++ le 4 s.power.resets.toNat) 128

/-- Body of a stream-key request (R394): any session holding a role that may read the stream. -/
def State.giveStreamKey (r : Req) (q : Nat) (s : State) : State × Answer :=
  if 6 ≤ q then refuse 0x06020000 s
  else match s.streamRefused (s.roles r.origin) q with
    | some c => refuse c s
    | none => (s, .done (s.streamKeyOf q))

def streamKey (r : Req) (q : Nat) (s : State) : State := s.serve r (State.giveStreamKey r q)

/-- A VAP datagram of the controller (R379): header, and the payload as it stands or sealed under a key. -/
def vapDatagram (kind id count : Nat) (key : Option Bytes) (payload : Bytes) : Bytes :=
  let sequence := le 8 (9223372036854775808 + count)
  let header := [0xA7, 1, BitVec.ofNat 8 kind, 0] ++ le 4 id ++ sequence
  match key with
  | none => header ++ payload
  | some k =>
    let nonce := le 4 id ++ sequence
    let cipher := Crypto.gcmCipher k nonce payload
    header ++ cipher ++ Crypto.gcmTag k nonce header cipher

/-- Data of one multicast datagram (R379). -/
def datagramRoom : Nat := 1424

/-- Item bytes cut into datagrams (R394); `n` bounds their number. -/
def pieces : Nat → Bytes → List Bytes
  | 0, _ => []
  | n + 1, b => if b.length ≤ datagramRoom then [b] else b.take datagramRoom :: pieces n (b.drop datagramRoom)

/-- Items of multicast streams go out on the enabled VAP ports (R393, R394; log entry 41). -/
def State.multicastSlice (s : State) : State :=
  (List.range 6).foldl (fun (t : State) q =>
    if (t.stream q).reader ≠ multicastReader then t
    else
      let a := t.readQueue q
      let x := a.1.stream q
      let parts := x.items.flatMap (fun i => pieces (i.size / datagramRoom + 1) i.bytes)
      let data := parts.zipIdx.map (fun b => vapDatagram 7 (0xFF000000 + q) (x.datagrams + b.2) (some (t.streamKeyOf q)) b.1)
      let t := a.1.onStream q (fun y => { y.took y.items.length with datagrams := y.datagrams + parts.length })
      let t := [0, 1].foldl (fun (t : State) port =>
        if t.cfgOn 0x2022 (2 + port) then data.foldl (fun (t : State) b => t.emit (.vap port 7 b)) t else t) t
      if q = 3 then t.drainAll else t) s

/-! ## CAN readers -/

/-- CAN_READER_TIMEOUT (R393): 10 s without an upload. -/
def canReaderTimeout (q : Nat) (s : State) : State :=
  let t := s.stream q
  if q < 6 ∧ canReader t.reader ∧ 500 ≤ t.idle then
    s.onStream q (fun x => { x with reader := 0, idle := 0 })
  else s

/-- Readers age by a tick. -/
def State.readerTick (s : State) : State :=
  (List.range 6).foldl (fun (t : State) q => if (t.stream q).reader = 0 then t else t.onStream q (fun x => { x with idle := x.idle + 1 })) s

def execStreamPull (r : Req) (stream room : Nat) (s : State) : Host.Outcome State Fault Refusal := running (streamPull r stream room) s
def execStreamClaim (r : Req) (stream : Nat) (s : State) : Host.Outcome State Fault Refusal := running (streamClaim r stream) s
def execStreamRelease (r : Req) (stream : Nat) (s : State) : Host.Outcome State Fault Refusal := running (streamRelease r stream) s
def execStreamKey (r : Req) (stream : Nat) (s : State) : Host.Outcome State Fault Refusal := running (streamKey r stream) s
def execCanReaderTimeout (stream : Nat) (s : State) : Host.Outcome State Fault Refusal := running (canReaderTimeout stream) s

end Sys2Proof.Machine
end

