-- ==== Sys2Proof/Machine/Panel.lean ====
section
/-! DEFINITION. The operator panel: contacts and their diagnosis, touch keys, service plug, WAKE (19 R548 to R560), with
CONTACT_TEST_PULSE, TOUCH_SCAN, KEYS_WET_END, KEY_STUCK, SERVICE_PLUG_CHANGE and WAKE_RISING_EDGE. -/

namespace Sys2Proof.Machine

/-! ## Contacts -/

/-- Channel `c`: 0 contact 1 A, 1 contact 1 B, 2 contact 2 A, 3 contact 2 B. -/
def State.contactChannel (s : State) (c : Nat) : Channel := tget (fun _ => {}) s.panel.channels c

/-- The state after `f` on channel `c`. -/
def State.onContactChannel (c : Nat) (f : Channel → Channel) (s : State) : State :=
  { s with panel := { s.panel with channels := tmod (fun _ => {}) s.panel.channels c f } }

/-- Contact `k`, 1 or 2. -/
def State.contact (s : State) (k : Nat) : Contact := tget (fun _ => {}) s.panel.contacts k

/-- The state after `f` on contact `k`. -/
def State.onContact (k : Nat) (f : Contact → Contact) (s : State) : State :=
  { s with panel := { s.panel with contacts := tmod (fun _ => {}) s.panel.contacts k f } }

/-- Contact of a channel. -/
def contactOf (c : Nat) : Nat := c / 2 + 1

/-- Slice offset of a channel's test pulses, for period `p` (R549). -/
def pulseOffset (p c : Nat) : Nat :=
  match c with | 0 => 0 | 1 => p / 2 | 2 => p / 4 | _ => 3 * p / 4

/-- The channel pulses in the present slice (R549). -/
def State.pulses (s : State) (c : Nat) : Bool :=
  let p := s.cfgNat 0x2B00 0xA
  let o := pulseOffset p c
  decide (c < 4) && decide (o ≤ s.milestoneSlice) && decide ((s.milestoneSlice - o) % max 1 p = 0)

/-- Latch a cross-monitoring fault (R550): kind 1 discrepancy, 2 pulse not seen, 3 cross short; `channel` 0 A or 1 B. -/
def State.latchFault (kind channel k : Nat) (s : State) : State :=
  if (s.contact k).fault then s
  else
    let s := s.onContact k (fun x => { x with fault := true, openTogether := 0, closedTogether := 0, opened := false })
    s.raise 0x1901 2 7 0xFF k (le 1 k ++ le 1 kind ++ le 1 channel ++ le 1 0)

/-- One channel's slice-boundary sample (R211, R548, R549): `settled` says both channels of its contact had been closed on 4
consecutive samples when its test pulse fell. -/
def Channel.sample (c : Channel) (closed settled : Bool) : Channel :=
  { closed := closed, openRun := if closed then 0 else min 4 (c.openRun + 1), closedRun := if closed then min 4 (c.closedRun + 1) else 0
    passed := closed && (c.passed || (c.pulsed && settled)), pulsed := false }

/-- The source of contact `k` as it stands. -/
def State.contactActive (s : State) (k : Nat) : Bool := if k = 1 then s.halt.contact1 else s.halt.contact2

/-- The two samples of contact `k` at a slice boundary: discrepancy and clearing (R550, R551). -/
def State.contactSample (k : Nat) (a b : Bool) (s : State) : State :=
  let ca := 2 * k - 2
  let cb := 2 * k - 1
  let settled := 4 ≤ (s.contactChannel ca).closedRun && 4 ≤ (s.contactChannel cb).closedRun
  let s := (s.onContactChannel ca (fun c => c.sample a settled)).onContactChannel cb (fun c => c.sample b settled)
  let s := s.onContact k (fun x => { x with
    differ := if a ≠ b then min 500 (x.differ + 1) else 0
    openTogether := if !a && !b then min 4 (x.openTogether + 1) else 0
    closedTogether := if a && b && x.opened then min 4 (x.closedTogether + 1) else 0
    opened := x.opened || (x.fault && !a && !b && decide (3 ≤ x.openTogether)) })
  let x := s.contact k
  let passed := (s.contactChannel ca).passed && (s.contactChannel cb).passed
  let s := if x.fault ∧ x.opened ∧ 4 ≤ x.closedTogether ∧ passed then
      (s.onContact k (fun _ => {})).raise 0x1902 3 7 0xFF k (le 1 k ++ le 3 0)
    else s
  if 500 ≤ (s.contact k).differ then s.latchFault 1 (if a then 1 else 0) k else s

/-- The source of contact `k` after its samples (R211). -/
def State.contactSource (k : Nat) (s : State) : State :=
  let a := s.contactChannel (2 * k - 2)
  let b := s.contactChannel (2 * k - 1)
  let fault := (s.contact k).fault
  let on := decide (4 ≤ a.openRun) || decide (4 ≤ b.openRun) || fault
  let off := decide (4 ≤ a.closedRun) && decide (4 ≤ b.closedRun) && a.passed && b.passed && !fault
  let now' := on || (s.contactActive k && !off)
  if k = 1 then { s with halt := { s.halt with contact1 := now' } } else { s with halt := { s.halt with contact2 := now' } }

/-- Both sources follow; a change is decided on at once (R211, R218). -/
def State.contactSources (s : State) : State :=
  let t := (s.contactSource 1).contactSource 2
  if t.halt.contact1 = s.halt.contact1 ∧ t.halt.contact2 = s.halt.contact2 then t else t.sourcesChanged

/-- CONTACT_SAMPLE at a slice boundary (R211, R548). -/
def State.contactSlice (e : SliceEnv) (s : State) : State :=
  ((s.contactSample 1 e.c1a e.c1b).contactSample 2 e.c2a e.c2b).contactSources

/-- CONTACT_TEST_PULSE (R549, R550): every sense input is sampled 0.55 ms into the slice in which a channel pulses. -/
def contactTestPulse (channel : Nat) (low : List Bool) (s : State) : State :=
  if !s.pulses channel then s
  else
    let s := s.emit (.pulse (.haltPulse channel) 300000)
    let s := if low.getD channel false then s.onContactChannel channel (fun c => { c with pulsed := true })
      else s.latchFault 2 (channel % 2) (contactOf channel)
    let s := ((List.range 4).filter (fun d => d ≠ channel && low.getD d false && (s.contactChannel d).closed)).foldl
      (fun (t : State) d => t.latchFault 3 (d % 2) (contactOf d)) s
    s.contactSources

/-! ## Touch keys -/

/-- Touch key `k`. -/
def State.touchKey (s : State) (k : Nat) : TouchKey := tget (fun _ => {}) s.panel.keys k

/-- The state after `f` on key `k`. -/
def State.onTouchKey (k : Nat) (f : TouchKey → TouchKey) (s : State) : State :=
  { s with panel := { s.panel with keys := tmod (fun _ => {}) s.panel.keys k f } }

/-- One scan of a key (R554). Level 2 and more: above the touch threshold; 0: below half of it; 1: between. -/
def TouchKey.scan (t : TouchKey) (level : Nat) : TouchKey :=
  let run := if (if t.touched then level = 0 else 2 ≤ level) then t.run + 1 else 0
  if 3 ≤ run then { touched := !t.touched, run := 0, held := 0, ignored := false } else { t with run := run, held := t.held + 1 }

/-- Acknowledgement (R398): bits held only by momentary faults clear. -/
def State.acknowledge (s : State) : State := { s with access := { s.access with momentary := 0 } }

/-- Silence (R558). -/
def State.silence (s : State) : State :=
  ({ s with access := { s.access with conditions := s.access.conditions.map (fun c => { c with silenced := true }) } } : State).sound

/-- Pattern engine `p` toggles between off and its configured pattern (R555). -/
def State.toggleEngine (p : Nat) (s : State) : State :=
  { s with panel := { s.panel with
      toggled := if p ∈ s.panel.toggled then s.panel.toggled.filter (· ≠ p) else s.panel.toggled ++ [p] } }

/-- An assigned action (R555). -/
def State.assigned (k code : Nat) (s : State) : State :=
  if 1 ≤ code ∧ code ≤ 8 then s.raise 0x1903 0 0 0xFF 0 (le 1 k ++ le 1 code)
  else if 9 ≤ code ∧ code ≤ 12 then s.toggleEngine (code - 9)
  else match code with
    | 13 => s.acknowledge
    | 14 => s.startLampTest
    | 15 => s.silence
    | _ => s

/-- The action of a key at its touch (R555); that of K1 counts at its release. -/
def State.keyTouched (s : State) (k : Nat) : State :=
  match k with
  | 0 => s.acknowledge
  | 1 => s
  | 2 => s.startLampTest
  | 3 => s.silence
  | _ => s.assigned k (s.cfgNat 0x2B00 k)

/-- Keys touched, 0x2B00:01. -/
def Units.keysTouched (u : Units) : Nat :=
  ((List.range 8).map (fun k => if (tget (fun _ => ({} : TouchKey)) u.panel.keys k).touched then 2 ^ k else 0)).sum

/-- TOUCH_SCAN (R554 to R556). -/
def touchScan (levels : List Nat) (s : State) : State :=
  let before := s
  let l := tbuild (fun _ => {}) (fun k => (s.touchKey k).scan (levels.getD k 0)) 8
  let s : State := { s with panel := { s.panel with keys := l } }
  let new := (List.range 8).filter (fun k => (s.touchKey k).touched && !(before.touchKey k).touched)
  if 3 ≤ new.length ∧ !s.panel.wet then
    ({ s with panel := { s.panel with wet := true } } : State).raise 0x1904 1 7 0xFF 0 (le 1 s.keysTouched)
  else if s.panel.wet then s
  else new.foldl State.keyTouched s

/-- KEYS_WET_END (R556): every key has stayed released for 100 ms, 20 scans. -/
def keysWetEnd (s : State) : State :=
  if (List.range 8).all (fun k => !(s.touchKey k).touched && decide (20 ≤ (s.touchKey k).held)) then
    { s with panel := { s.panel with wet := false } }
  else s

/-- KEY_STUCK (R557): touched for more than 60 s, 12,000 scans. -/
def keyStuck (k : Nat) (s : State) : State :=
  let t := s.touchKey k
  if t.touched ∧ 12000 < t.held ∧ !t.ignored ∧ k < 8 then
    (s.onTouchKey k (fun x => { x with ignored := true })).raise 0x1905 1 7 0xFF 0 (le 1 k)
  else s

/-! ## Service plug and WAKE -/

/-- Without the plug the service port is idle: partial frames, records and transfers are gone, its stream readers released
(R393, R498). -/
def State.plugRemoved (s : State) : State :=
  let s : State := { s with
    update := { s.update with receiving := false, partRecord := [], lastSeq := none, lastReply := none, lastId := none, lastAnswer := none }
    access := { s.access with transfers := s.access.transfers.filter (fun t => t.origin ≠ .service) } }
  s.releaseReader 0x200

/-- SERVICE_PLUG_CHANGE (R559): 50 agreeing samples. -/
def servicePlugChange (present : Bool) (run : Nat) (s : State) : State :=
  if run < 50 ∨ present = s.panel.plug then s
  else
    let s : State := { s with panel := { s.panel with plug := present } }
    let s := if present then s else s.plugRemoved
    if s.power.phase = .running then s.raise 0x190B 0 0 0xFF 0 (le 1 (if present then 1 else 0)) else s

/-- WAKE_RISING_EDGE (R560): an information event, whose code no table gives (log entry 43). -/
def wakeRisingEdge (s : State) : State :=
  let p := ({ s with panel := { s.panel with wake := true } } : State).draw
  p.2.raise (p.1 % 65536) 0 0 0xFF 0 []

def execContactTestPulse (channel : Nat) (low : List Bool) (s : State) : Host.Outcome State Fault Refusal :=
  running (contactTestPulse channel low) s
def execTouchScan (levels : List Nat) (s : State) : Host.Outcome State Fault Refusal := running (touchScan levels) s
def execKeysWetEnd (s : State) : Host.Outcome State Fault Refusal := running keysWetEnd s
def execKeyStuck (key : Nat) (s : State) : Host.Outcome State Fault Refusal := running (keyStuck key) s
def execServicePlugChange (present : Bool) (run : Nat) (s : State) : Host.Outcome State Fault Refusal :=
  .next (if s.power.phase = .running ∨ s.power.phase = .recovery then servicePlugChange present run s.begin else s.begin)
def execWakeRisingEdge (s : State) : Host.Outcome State Fault Refusal := running wakeRisingEdge s

end Sys2Proof.Machine
end

