-- ==== Sys2Proof/Machine/Commit.lean ====
section
/-! DEFINITION. What a boundary does with plans and lane changes: results, commits, closures, limit changes, border
permits (05 R158, R167, R170 to R178; 06 R194 to R205), and the seven steps of R23 in order. -/

namespace Sys2Proof.Machine

/-! ## Results -/

/-- The result record of a plan (R170), its window tick the one after its submission. -/
def Plan.record (p : Plan) (result : Nat) : ResultRecord :=
  { planId := p.id, lane := if p.what.ofLane then p.lane else 0xFF, result := result, epoch := p.epoch, window := p.submit + 1,
    conflictTick := p.conflictTick, conflictKind := p.conflictKind, other := p.other, object := p.object, east := p.own.1,
    north := p.own.2, detail := p.detail }

/-- The 32 bytes of a result record (R170). -/
def recordBytes (r : ResultRecord) : Bytes :=
  le 4 r.planId.toNat ++ le 1 r.lane ++ le 1 r.result ++ le 2 r.epoch.toNat ++ le 4 r.window.toNat ++ le 4 r.conflictTick.toNat ++
    le 1 r.conflictKind ++ le 1 r.other ++ le 2 r.object ++ le 4 r.east ++ le 4 r.north ++ le 1 r.detail ++ le 3 0

/-- Place a plan's result: event, lane record, counts, recorder (R170, R179, R408, R533). -/
def State.report (p : Plan) (result : Nat) (s : State) : State :=
  let r := p.record result
  let lane := r.lane
  let s := s.raise 0x0501 0 0 lane 0 (recordBytes r)
  let s := s.tripSample 6 lane s.now (recordBytes r)
  let s := if p.what.ofLane && decide (lane < 192) then
      s.onLane lane (fun l => { l with result := some r, resultCode := result, resultPlan := p.id }) else s
  let s := { s with ledger := { s.ledger with
    committed := if (result = 0 ∨ result = 7) ∧ !p.deferred then s.ledger.committed + 1 else s.ledger.committed
    conflicts := if result = 1 then s.ledger.conflicts + 1 else s.ledger.conflicts
    late := if result = 2 then s.ledger.late + 1 else s.ledger.late
    conflictsOf := if result = 1 ∧ (p.conflictKind = 2 ∨ p.conflictKind = 3) then
      tmod (fun _ => 0) s.ledger.conflictsOf p.object (· + 1) else s.ledger.conflictsOf } }
  if result = 1 then s.trigger 4 s.now lane else if result = 2 then s.trigger 5 s.now lane else s

/-- Abort code of a request whose plan ended with a result (R158, R196, R201, R202). -/
def failCode (result : Nat) : Nat := if result = 2 then 0x0F00000A else 0x08000022

/-- The settings with one number set, accepted and in force. -/
def State.settle (k : Nat) (v : Int) (s : State) : State :=
  { s with settings := { s.settings with
      accepted := tput settingDefault s.settings.accepted k v, inForce := tput settingDefault s.settings.inForce k v } }

/-- Undo what a plan's acceptance stored (R158, R196): an area's content, a lane's limits, the writes of a batch. -/
def State.undo (p : Plan) (s : State) : State :=
  let back := fun (t : State) (k : Nat) =>
    let v := tget settingDefault t.settings.inForce k
    { t with settings := { t.settings with accepted := tput settingDefault t.settings.accepted k v } }
  match p.what with
  | .closure a items => items.foldl (fun t x => back t (key (0x3000 + a) x.1)) s
  | .limit prev => prev.foldl (fun (t : State) x => t.settle (key (0x4100 + p.lane) x.1) x.2) s
  | .settings items before => before.foldl State.put (items.foldl (fun t x => back t x.1) s)
  | _ => s

/-- A plan that does not commit (R158, R170, R196, R201, R202): its result, its event, its request refused unless its
batch answers. The writes of a batch that need no check are no plan and have no result record. -/
def State.failPlan (p : Plan) (result : Nat) (s : State) : State :=
  let s := (match p.what with | .settings _ _ => s | _ => s.report p result).undo p
  let s := match p.what with
    | .closure _ _ => s.raise 0x0505 0 0 0xFF 0 (recordBytes (p.record result))
    | .limit _ => if result = 3 then s else s.raise 0x0603 0 0 p.lane 0 (recordBytes (p.record result))
    | _ => s
  if p.batch then s else s.answerOpt p.req (.refused (failCode result) 0)

/-! ## Commits -/

/-- The lane state permits the commit (R167): transitions 4, 6 and 7, and plans that keep a lane MOVING. -/
def State.permits (s : State) (p : Plan) : Bool :=
  match p.what with
  | .route b => if byteAt b 1 = 0 then s.laneIs p.lane .parked else s.laneIs p.lane .moving
  | .limit _ => s.laneIs p.lane .moving
  | .hold _ => s.laneIs p.lane .moving
  | .resume => s.laneIs p.lane .holding
  | _ => true

/-- Tick in which a profile comes to rest at its end (R210). -/
def standstillTick (f : U32) (l : List Stretch) : U32 :=
  f + BitVec.ofNat 32 ((profileEnd f l - 1).toNat / 20000)

/-- The plan starts from rest (R198). -/
def PlanWhat.fromRest : PlanWhat → Bool
  | .route b => byteAt b 1 = 0
  | .resume => true
  | _ => false

/-- What a commit writes into the route record (R167, R182, R198, R205, R210). -/
def State.committedRoute (s : State) (p : Plan) (cut : Bool) : State :=
  let l := if cut then p.cutStretches else p.stretches
  let target := (poseOn p.start.fine p.legs (motionAt p.first l (profileEnd p.first l)).sigma).rounded
  s.onRoute p.lane (fun r => { r with
    planId := p.id, first := p.first, standstill := standstillTick p.first l, east := target.east, north := target.north
    heading := target.heading
    tag := match p.what with | .route b => field b 16 4 | _ => r.tag
    earliest := match p.what with | .route b => field b 20 4 | _ => r.earliest
    start := p.start, legs := p.legs, stretches := l, effective := p.limits
    deferred := r.deferred && !p.what.fromRest
    envelopes := r.envelopes.replaceFrom p.first (if cut then p.cutList else p.envelopes)
    crossing := if cut then none else p.crossing, sentStretches := 0, sentLegs := 0 })

/-- The transition a commit brings (R20 transitions 4, 6, 7). -/
def State.commitTransition (p : Plan) (s : State) : State :=
  match p.what with
  | .route b => if byteAt b 1 = 0 then s.transition p.lane .moving else s
  | .hold _ => s.transition p.lane .holding
  | .resume => s.transition p.lane .moving
  | _ => s

/-- The entries that a plan's confirmation commits to the settings store (R372, R492). -/
def State.planItems (s : State) (p : Plan) : List WriteItem :=
  match p.what with
  | .closure a items => items.map (fun x => numberItem (key (0x3000 + a) x.1) x.2)
  | .limit prev => prev.map (fun x => numberItem (key (0x4100 + p.lane) x.1) (s.cfgAccepted (0x4100 + p.lane) x.1))
  | .settings items before => items.map (fun x => numberItem x.1 x.2) ++ before.map s.present
  | _ => []

/-- Commit a lane plan: record, transition, events, answer; a crossing plan it replaces loses its guest (R167, R194,
R196, R198, R444). -/
def State.commitLane (p : Plan) (cut : Bool) (s : State) : State :=
  let s := match (s.route p.lane).crossing with
    | some c => s.withdraw c.pair (s.route p.lane).planId
    | none => s
  let s := (s.committedRoute p cut).onLane p.lane (fun l => { l with standstill := 0 })
  let s := (s.commitTransition p).report p (if cut then 7 else 0)
  let s := if p.stopOnly then s.raise 0x0601 0 0 p.lane 0 (le 4 p.id.toNat) else s
  if p.batch then s else (s.journal (s.planItems p)).answerOpt p.req (.done [])

/-- A deferred limit change (R198): the committed plan stands, the write is confirmed; its result record says PASS and no
commit is counted (R170; log entry 114). -/
def State.deferLimit (p : Plan) (s : State) : State :=
  let s := (s.onRoute p.lane (fun r => { r with deferred := true })).report p 0
  let s := s.raise 0x0602 0 0 p.lane 0 (le 4 (s.route p.lane).planId.toNat)
  if p.batch then s else (s.journal (s.planItems p)).answerOpt p.req (.done [])

/-- A guest plan commits provisionally: the lane is reserved, the grant goes out with a handover key set (R173, R174,
R443). -/
def State.commitGuest (p : Plan) (pair : Nat) (remote border handover commit : U32) (s : State) : State :=
  let g : Guest := { pair := pair, planId := remote, border := border, handover := handover, commit := commit, final := false,
                     start := p.start, legs := [], stretches := [] }
  let s := { (s.onLane p.lane (fun l => { l with reserved := true })) with guests := tset s.guests p.lane g }
  let s := s.onRoute p.lane (fun r => { r with envelopes := { first := p.first, list := p.envelopes } })
  let s := s.sendCell pair (.grant remote p.lane (s.keySet s.sendKey p.lane s.sendGeneration 2 handover))
  s.report p 0

/-- Commit a plan that passed, was acknowledged and is permitted. -/
def State.commitPlan (p : Plan) (s : State) : State :=
  match p.what with
  | .closure a items =>
    let s := items.foldl (fun (t : State) x => t.settle (key (0x3000 + a) x.1) x.2) s
    let s := s.report p 0
    if p.batch then s else (s.journal (s.planItems p)).answerOpt p.req (.done [])
  | .settings items _ =>
    let s := items.foldl (fun (t : State) x => t.settle x.1 x.2) s
    if p.batch then s else s.journal (s.planItems p)
  | .permit pair remote _ border handover commit => s.commitGuest p pair remote border handover commit
  | _ => if p.deferred then s.deferLimit p else s.commitLane p (p.result = some 7)

/-- The DELTA of the tick just ended is acknowledged, or the unit releases without waiting (R427 to R429). -/
def State.released (s : State) : Bool := s.pair.role ≠ 1 || s.pair.ackResult = some 0

/-- A crossing plan that would await its permit is superseded by a plan of its lane from a later window (R162). -/
def State.overtaken (s : State) (p : Plan) : Bool :=
  p.crossing.isSome && s.ledger.plans.any (fun q => q.what.ofLane && q.lane = p.lane && later q.submit p.submit)

/-- The commit record the plan was mirrored with fails its complement at the active (R169). -/
def Plan.damaged (p : Plan) : Bool := match p.mirrored with | some r => !r.compOk | none => false

/-- One plan whose window has closed (R33, R162, R167, R169, R170, R173). -/
def State.resolveFirst (all : List Plan) (s : State) (p : Plan) : State :=
  let result := p.result.getD 2
  if p.crossing.isSome ∧ result = 0 then
    if s.overtaken p then (s.answerSuperseded { p with awaiting := true }).report p 3
    else (s.onPlan p.id (fun q => { q with awaiting := true })).report p 8
  else if (result = 0 ∨ result = 7) ∧ p.damaged then (s.raise 0x0506 1 7 0xFF 0 (le 4 p.id.toNat)).failPlan p 2
  else if result ≠ 0 ∧ result ≠ 7 then
    (match p.what with
      | .permit pair remote _ _ _ _ => (s.report p result).sendCell pair (.refusal remote (p.record result))
      | _ => s.failPlan p result)
  else if !s.released then s.failPlan p 2
  else match batchResult all p with
    | some r => s.failPlan p r
    | none => if s.permits p then s.commitPlan p else s.failPlan p 6

/-- A crossing plan at the end of its permit wait (R173, R178): granted, cut, or CONFLICT. -/
def State.resolveWait (s : State) (p : Plan) : State :=
  match p.crossing with
  | none => s
  | some c =>
    if p.damaged then ((s.withdraw c.pair p.id).raise 0x0506 1 7 0xFF 0 (le 4 p.id.toNat)).failPlan p 2
    else if c.granted ∧ !p.expired then
      if !s.released then (s.withdraw c.pair p.id).failPlan p 2
      else if !s.permits p then (s.withdraw c.pair p.id).failPlan p 6
      else
        let s := s.commitLane p false
        let s := s.sendCell c.pair (.commitNotice p.id p.start p.legs p.stretches)
        s.tell p.lane 0x19 (le 1 1 ++ le 1 0 ++ c.keySet)
    else
      let s := s.withdraw c.pair p.id
      let q := p.atBorder c
      if !p.cutPassed ∨ p.cutList.isEmpty then s.failPlan { q with result := some 1 } 1
      else if !s.released then s.failPlan q 2
      else if !s.permits p then s.failPlan q 6
      else s.commitLane q true

/-- Step 5 of R23: every plan whose window has closed, in order of acceptance. -/
def State.commitStep (s : State) : State :=
  let tick := s.clock.tick
  let plans := s.ledger.plans
  let first := plans.filter (fun p => !p.awaiting && atOrAfter tick (p.submit + 2))
  let wait := plans.filter (fun p => p.awaiting && atOrAfter tick (p.submit + 2 + BitVec.ofNat 32 s.permitWait))
  let done := fun (p : Plan) =>
    (!p.awaiting && atOrAfter tick (p.submit + 2) && (!(p.crossing.isSome && p.result = some 0) || s.overtaken p)) ||
    (p.awaiting && atOrAfter tick (p.submit + 2 + BitVec.ofNat 32 s.permitWait))
  let s := first.foldl (State.resolveFirst first) s
  let s := wait.foldl State.resolveWait s
  let batches := ((first.filter (·.batch)).map (·.req)).eraseDups
  let s := batches.foldl (fun (t : State) r =>
    match (first.filter (fun p => p.batch && p.req = r)).findSome? (fun p =>
      match p.result with | some 0 => none | x => some (x.getD 2)) with
    | some c => t.answerOpt r (.refused (failCode c) 0)
    | none =>
      let own := first.filter (fun p => p.batch && p.req = r)
      (if t.released then (t.journal (own.flatMap t.planItems)).answerOpt r (.done [])
        else t.answerOpt r (.refused 0x0F00000A 0))) s
  let gone := fun (p : Plan) => plans.any (fun q => done q && q.id = p.id && q.submit = p.submit && q.lane = p.lane && q.what = p.what)
  { s with ledger := { s.ledger with plans := s.ledger.plans.filter (fun p => !gone p) } }

/-! ## The other steps -/

/-- A change that waits is released at this boundary (R427, R428). -/
def State.mayApply (s : State) (d : Due) : Bool := s.pair.role ≠ 1 || (s.released && d.carried)

/-- Take the changes that satisfy `c` and are released from the waiting list. -/
def State.takeDue (s : State) (c : DueWhat → Bool) : List Due × State :=
  let go := fun (d : Due) => c d.what && s.mayApply d
  (s.due.filter go, { s with due := s.due.filter (fun d => !go d) })

/-- Step 3: self-stop reports (R21, R23). -/
def State.selfStopStep (s : State) : State :=
  let p := s.takeDue (fun w => match w with | .selfStop _ _ => true | _ => false)
  p.1.foldl (fun (t : State) d => match d.what with | .selfStop k _ => t.applySelfStop d.lane k | _ => t) p.2

/-- Transition 15: the lane takes its state before handover, reports the failure and withdraws the guest (R20, R447). -/
def State.handoverFails (n : Nat) (s : State) : State :=
  let back := (laneStateOf (s.lane n).beforeHandover).getD .holding
  let r := s.route n
  let s := (s.transition n back).raise 0x140B 1 7 n 0 (le 4 r.planId.toNat)
  let s := { s with cells := { s.cells with failed := s.cells.failed + 1, failedPlans := s.cells.failedPlans ++ [r.planId] } }
  match r.crossing with | some c => s.withdraw c.pair r.planId | none => s

/-- Step 4: handover confirmation or failure (R447); a lane handed over takes a new epoch (R16). -/
def State.handoverStep (s : State) : State :=
  let p := s.takeDue (fun w => match w with | .handoverConfirmed => true | .handoverRefused => true | _ => false)
  p.1.foldl (fun (t : State) d =>
    if !t.laneIs d.lane .handingOver then t
    else match d.what with
      | .handoverConfirmed =>
        let r := t.route d.lane
        let t := (t.closeLane d.lane).onLane d.lane (fun l => { l with epoch := l.epoch + 1 })
        let t := { t with cells := { t.cells with sent := t.cells.sent + 1 } }
        (match r.crossing with
          | some c => { (t.sendCell c.pair (.released r.planId)) with cells := { t.cells with
              releasedPlans := t.cells.releasedPlans ++ [(c.pair, r.planId)] } }
          | none => t)
      | _ => t.handoverFails d.lane) p.2

/-- Lane commands and cancels that are due meet their lanes (R203, R409). -/
def State.answerCommands (s : State) : State :=
  let p := s.takeDue (fun w => match w with | .command _ _ => true | .cancel _ => true | _ => false)
  p.1.foldl (fun (t : State) d => match d.what with
    | .command code r => let q := t.laneCommand d.lane code; q.1.answerOpt r q.2
    | .cancel r => let q := t.cancelLane d.lane; q.1.answerOpt r q.2
    | _ => t) p.2

/-- Step 6: host commands in order of acceptance, and admissions of machines after them (R23, R291; log entry 26). -/
def State.commandStep (s : State) : State :=
  let p := s.answerCommands.takeDue (fun w => match w with | .admission _ => true | .keyAck => true | .releaseAck => true | _ => false)
  p.1.foldl (fun (t : State) d => match d.what with
    | .admission id =>
      if t.laneIs d.lane .vacant ∧ !(t.lane d.lane).reserved then
        let t := (t.openLane d.lane).transition d.lane .admitting
        let t := t.onLane d.lane (fun l => { l with identity := id })
        let t := t.onAirLane d.lane (fun a => { a with expected := 1, stored := [(0, 0)] })
        t.deliverKeys d.lane
      else t.onAirLane d.lane (fun a => { a with responses := a.responses.map (fun x =>
        (if x.1 = 0 then (if (t.lane d.lane).reserved then 4 else 2) else x.1, x.2)) })
    | .keyAck => t.onLane d.lane (fun l => { l with progress := l.progress ||| 2 })
    | .releaseAck => t.onLane d.lane (fun l => { l with releaseAcked := true })
    | _ => t) p.2

/-- Ticks an admission or release timeout runs in the lane's state (R20): 0x2003:01 and :02, in s. -/
def State.timeLimit (s : State) (n : Nat) : Option Nat :=
  if s.laneIs n .admitting then some (s.cfgNat 0x2003 1 * 50)
  else if s.laneIs n .releasing then some (s.cfgNat 0x2003 2 * 50)
  else none

/-- An admission or release timeout meets its lane, after the completions: transition 3 or 18 if its time is over (R20, R23). -/
def State.timeOut (n : Nat) (s : State) : State :=
  match s.timeLimit n with
  | some k => if k ≤ (s.lane n).timer then s.closeLane n else s
  | none => s

/-- Step 7: completions of every lane, then timeouts (R23). In role 1 completions rest on reports that an acknowledged DELTA
carried. -/
def State.completeStep (s : State) : State :=
  let s := s.listed.foldl (fun (t : State) n =>
    t.complete n (t.pair.role ≠ 1 || (t.released && ((t.lane n).standstill ≠ 1)))) s
  let p := s.takeDue (fun w => decide (w = .timeout))
  p.1.foldl (fun (t : State) d => t.timeOut d.lane) p.2

/-- Steps 1 and 2 over every lane, the records first (R23, R215, R229, R232). -/
def State.haltSteps (s : State) : State :=
  if s.halt.silent then s
  else
    let s := s.checkRecords.restoreRecords
    let s := s.listed.foldl (fun (t : State) n => t.applyHalt n) s
    let s := s.resumeRecords
    s.listed.foldl (fun (t : State) n => t.clearHalt n) s

end Sys2Proof.Machine
end

