-- ==== Sys2Proof/Machine/LaneCommands.lean ====
section
/-! DEFINITION. Host commands to lanes, routes, limits and areas (05 R155, R158; 06 R183, R196, R200 to R203; 13 R409),
with ROUTE_SUBMIT, HOLD, RESUME_ROUTE, CANCEL_ROUTE, LIMIT_CHANGE, APPROVE_ADMISSION, REFUSE_ADMISSION,
RESUME_STOPPED_LANE, RELEASE, EVICT and CLOSURE_CHANGE. -/

namespace Sys2Proof.Machine

/-- Body of a route write (R132, R183): confirmed at acceptance; its fate is its result record. -/
def State.submitRoute (lane : Nat) (route : Bytes) (s : State) : State × Answer :=
  let s := s.checkLane lane
  if s.frozen lane ∨ !(s.laneIs lane .parked || s.laneIs lane .moving) ∨ (s.ck lane).refuses then refuse 0x08000022 s
  else confirm (s.acceptPlan lane (.route route) none)

def routeSubmit (r : Req) (lane : Nat) (route : Bytes) (s : State) : State :=
  s.serveWrite r (0x4200 + lane) 1 route (State.submitRoute lane route)

/-- Body of a route command 1 to 3 (R200 to R203); only hold is open to P. -/
def State.routeCommand (r : Req) (lane code : Nat) (s : State) : State × Answer :=
  let s := s.checkLane lane
  if code = 0 ∨ 3 < code then refuse 0x06090030 s
  else if code ≠ 1 ∧ !permitted (s.roles r.origin) roleL then refuse 0x0F000001 s
  else if s.frozen lane then refuse 0x08000022 s
  else match code with
    | 1 => if s.laneIs lane .moving then (s.acceptPlan lane (.hold false) (some r), .pending) else refuse 0x08000022 s
    | 2 => if s.laneIs lane .holding ∧ !(s.ck lane).refuses then (s.acceptPlan lane .resume (some r), .pending)
      else refuse 0x08000022 s
    | _ => if s.laneIs lane .holding ∧ (s.lane lane).standstill ≠ 0 then
        ({ s with due := s.due ++ [{ lane := lane, what := .cancel (some r) }] }, .pending)
      else refuse 0x08000022 s

/-- A route command over any transport. -/
def routeCommand (r : Req) (lane code : Nat) (s : State) : State :=
  s.serveWrite r (0x4200 + lane) 2 (le 1 code) (State.routeCommand r lane code)

/-- Limits of lane `n` with one subindex replaced. -/
def Limits.withSub (m : Limits) (sub : Nat) (v : Int) : Limits :=
  match sub with
  | 1 => { m with top := v.toNat } | 2 => { m with acc := v.toNat } | 3 => { m with dec := v.toNat }
  | 4 => { m with jerk := v.toNat } | 5 => { m with reversal := v = 1 } | 9 => { m with dwell := v.toNat }
  | _ => m

/-- The limits of lane `n` most recently accepted. -/
def Units.limitsAccepted (u : Units) (n : Nat) : Limits :=
  { top := (u.cfgAccepted (0x4100 + n) 1).toNat, acc := (u.cfgAccepted (0x4100 + n) 2).toNat,
    dec := (u.cfgAccepted (0x4100 + n) 3).toNat, jerk := (u.cfgAccepted (0x4100 + n) 4).toNat,
    reversal := decide (u.cfgAccepted (0x4100 + n) 5 = 1), dwell := (u.cfgAccepted (0x4100 + n) 9).toNat }

/-- A write of one limit is refused by its own rules: the guard of R181 or the tail of R148. -/
def State.limitRefused (s : State) (lane sub : Nat) (v : Int) : Option Nat :=
  if decide (6 ≤ sub) && decide (sub ≤ 8) && (s.lane lane).occupied then some 0x08000022
  else if 16383 < topTail ((s.limitsAccepted lane).withSub sub v) (s.cfgAccepted 0x2011 2).toNat then some 0x06090030
  else none

/-- Another plan of the lane, not a limit plan, is accepted in the present window (R196). -/
def State.otherPlan (s : State) (lane : Nat) : Bool :=
  s.ledger.plans.any (fun p => p.what.ofLane && p.lane = lane && p.submit = s.window && p.result = none &&
    (match p.what with | .limit _ => false | _ => true))

/-- Store limits; for a MOVING lane with no other plan in the window a limit plan follows (R182, R196). -/
def State.storeLimits (req : Option Req) (lane : Nat) (items : List (Nat × Int)) (s : State) : State × Answer :=
  let before := s
  let prev := items.map (fun x => (x.1, s.cfgAccepted (0x4100 + lane) x.1))
  let moves := items.any (fun x => decide (x.1 ≤ 5) || x.1 = 9)
  let s : State := { s with settings := items.foldl (fun t x => t.accept (0x4100 + lane) x.1 x.2) s.settings }
  if before.storeFull (items.map (fun x => numberItem (key (0x4100 + lane) x.1) x.2)) then refuse 0x0F000008 before
  else if moves ∧ s.laneIs lane .moving ∧ !s.otherPlan lane then (s.acceptPlan lane (.limit prev) req, .pending)
  else
    let w := items.map (fun x => numberItem (key (0x4100 + lane) x.1) x.2)
    ((s.mirror 0 (.settings w)).journal w, .done [])

/-- Body of a limit write. -/
def State.changeLimit (r : Req) (lane sub : Nat) (v : Int) (s : State) : State × Answer :=
  let s := s.checkLane lane
  if s.frozen lane then refuse 0x08000022 s
  else match s.limitRefused lane sub v with
    | some c => refuse c s
    | none => s.storeLimits (some r) lane [(sub, v)]

def limitChange (r : Req) (lane sub : Nat) (value : Bytes) (s : State) : State :=
  s.serveWrite r (0x4100 + lane) sub value (fun t =>
    match lookup (0x4100 + lane) sub with
    | .entry e => t.changeLimit r lane sub (valueOf e.ty value)
    | _ => refuse 0x06090011 t)

/-- Roles that may write a lane command (R409). -/
def laneCommandRoles : Nat → Nat
  | 3 => roleP + roleL
  | 5 => roleW
  | _ => roleL

/-- Body of a lane command (R19, R409): it waits for the next boundary. -/
def State.orderLane (r : Req) (lane code : Nat) (s : State) : State × Answer :=
  let s := s.checkLane lane
  if code = 0 ∨ 5 < code then refuse 0x06090030 s
  else if !permitted (s.roles r.origin) (laneCommandRoles code) then refuse 0x0F000001 s
  else if s.frozen lane ∧ code ≠ 5 then refuse 0x08000022 s
  else if code = 1 ∧ s.laneIs lane .halted then refuse 0x08000022 s
  else ({ s with due := s.due ++ [{ lane := lane, what := .command code (some r) }] }, .pending)

/-- A lane command over any transport. -/
def laneOrder (r : Req) (lane code : Nat) (s : State) : State :=
  s.serveWrite r (0x4000 + lane) 0x10 (le 1 code) (State.orderLane r lane code)

/-! ## Areas -/

/-- What a set of writes to one area is (R158). -/
inductive AreaChange where
  | refused (code : Nat)
  | plain
  | checked
  deriving DecidableEq, Repr

/-- Value of an area's subindex after the writes. -/
def State.areaAfter (s : State) (a : Nat) (items : List (Nat × Int)) (sub : Nat) : Int :=
  match items.reverse.find? (fun x => x.1 = sub) with | some x => x.2 | none => s.cfgAccepted (0x3000 + a) sub

/-- Classify the writes to area `a` (R155, R158). -/
def State.areaChange (s : State) (a : Nat) (items : List (Nat × Int)) : AreaChange :=
  let after := s.areaAfter a items
  let before := s.cfgAccepted (0x3000 + a) 2 = 1
  let shapes := items.any (fun x => x.1 = 1 || x.1 = 3 || x.1 = 4 || decide (0x10 ≤ x.1))
  if after 2 ≠ 1 ∨ (before ∧ (after 1 = 0 ∨ !shapes)) then .plain
  else
    let poly := (List.range (after 3).toNat).map (fun k => (after (0x10 + 2 * k), after (0x11 + 2 * k)))
    if after 1 = 0 ∨ after 3 < 3 then .refused 0x06040043
    else if !simplePolygon poly then .refused 0x06090030
    else .checked

/-- Store the writes of an area as accepted. -/
def State.storeArea (a : Nat) (items : List (Nat × Int)) (s : State) : State :=
  { s with settings := items.foldl (fun t x => t.accept (0x3000 + a) x.1 x.2) s.settings }

/-- Accept the writes of one area (R158): checked ones enter the submission window. -/
def State.changeArea (r : Option Req) (a : Nat) (items : List (Nat × Int)) (s : State) : State × Answer :=
  if s.storeFull (items.map (fun x => numberItem (key (0x3000 + a) x.1) x.2)) then refuse 0x0F000008 s
  else match s.areaChange a items with
  | .refused c => refuse c s
  | .plain =>
    let w := items.map (fun x => numberItem (key (0x3000 + a) x.1) x.2)
    (((s.storeArea a items).mirror 0 (.settings w)).journal w, .done [])
  | .checked =>
    let all := (2, s.areaAfter a items 2) :: (1, s.areaAfter a items 1) :: (3, s.areaAfter a items 3) ::
      items.filter (fun x => x.1 ≠ 1 && x.1 ≠ 2 && x.1 ≠ 3)
    ((s.storeArea a items).acceptPlan 0xFF (.closure a all) r, .pending)

/-- The first refusal among the writes of one area, each checked as an entry (R366, R367, R386). -/
def State.areaCheck (s : State) (r : Req) (a : Nat) : List (Nat × Bytes) → Option Nat
  | [] => none
  | x :: t => match s.commandCheck r (0x3000 + a) x.1 x.2 with
    | some c => some c
    | none => s.areaCheck r a t

/-- Values of writes to one area. -/
def areaItems (a : Nat) (writes : List (Nat × Bytes)) : List (Nat × Int) :=
  writes.map (fun x => (x.1, match lookup (0x3000 + a) x.1 with | .entry e => valueOf e.ty x.2 | _ => 0))

def closureChange (r : Req) (area : Nat) (writes : List (Nat × Bytes)) (s : State) : State :=
  s.serve r (fun t => match t.areaCheck r area writes with
    | some c => refuse c t
    | none => t.changeArea (some r) area (areaItems area writes))

def execRouteSubmit (r : Req) (lane : Nat) (route : Bytes) (s : State) : Host.Outcome State Fault Refusal :=
  running (routeSubmit r lane route) s
def execHold (r : Req) (lane : Nat) (s : State) : Host.Outcome State Fault Refusal := running (routeCommand r lane 1) s
def execResumeRoute (r : Req) (lane : Nat) (s : State) : Host.Outcome State Fault Refusal := running (routeCommand r lane 2) s
def execCancelRoute (r : Req) (lane : Nat) (s : State) : Host.Outcome State Fault Refusal := running (routeCommand r lane 3) s
def execLimitChange (r : Req) (lane sub : Nat) (value : Bytes) (s : State) : Host.Outcome State Fault Refusal :=
  running (limitChange r lane sub value) s
def execApproveAdmission (r : Req) (lane : Nat) (s : State) : Host.Outcome State Fault Refusal := running (laneOrder r lane 1) s
def execRefuseAdmission (r : Req) (lane : Nat) (s : State) : Host.Outcome State Fault Refusal := running (laneOrder r lane 2) s
def execResumeStoppedLane (r : Req) (lane : Nat) (s : State) : Host.Outcome State Fault Refusal := running (laneOrder r lane 3) s
def execRelease (r : Req) (lane : Nat) (s : State) : Host.Outcome State Fault Refusal := running (laneOrder r lane 4) s
def execEvict (r : Req) (lane : Nat) (s : State) : Host.Outcome State Fault Refusal := running (laneOrder r lane 5) s
def execClosureChange (r : Req) (area : Nat) (writes : List (Nat × Bytes)) (s : State) : Host.Outcome State Fault Refusal :=
  running (closureChange r area writes) s

end Sys2Proof.Machine
end

