-- ==== Sys2Proof/Machine/Cells.lean ====
section
/-! DEFINITION. Cells and lane handover: regions, permits, guests, HANDOVER and CONFIRM, lane timeouts (05 R171 to R178;
14 R442 to R449), with REGION, PERMIT_REQUEST, GRANT, REFUSAL, COMMIT_NOTICE, WITHDRAWAL, HANDOVER, CONFIRM, RELEASED,
PERMIT_WAIT_EXPIRE, GUEST_PLAN_EXPIRE, ADMISSION_TIMEOUT, RELEASE_TIMEOUT and HANDOVER_CONFIRMATION_TIMEOUT. -/

namespace Sys2Proof.Machine

/-- A unit that takes part in cell links: not a standby, provisioned, not silent (R442, R471). -/
def State.onCells (s : State) : Bool := !s.isStandby && decide (s.keys.security ≠ 0) && !s.halt.silent

/-- Neighbour record of a pair. -/
def State.neighbour (s : State) (p : Nat) : Neighbour := tget (fun _ => {}) s.ledger.neighbours p

/-- Send the own region to every listed neighbour (R171). -/
def State.sendRegions (s : State) : State :=
  let v := (List.range (s.cfgNat 0x2012 1)).map (fun k => (s.cfg 0x2012 (0x10 + 2 * k), s.cfg 0x2012 (0x11 + 2 * k)))
  s.neighbourPairs.foldl (fun (t : State) p => t.sendCell p (.region v t.horizon (t.cfgNat 0x2101 1))) s

/-- A neighbour's region is noted, and whether its horizon and numbering base match (R171, R344). -/
def State.noteRegion (pair : Nat) (vertices : List (Int × Int)) (horizon numbering : Nat) (s : State) : State :=
  if pair ∉ s.neighbourPairs then s
  else
    let bad : Bool := decide (horizon ≠ s.horizon ∨ numbering ≠ s.cfgNat 0x2101 1)
    let was := (s.neighbour pair).mismatch
    let s : State := { s with ledger := { s.ledger with
      neighbours := tput (fun _ => {}) s.ledger.neighbours pair { vertices := vertices, known := true, mismatch := bad } } }
    if bad then s.raise 0x0507 2 4 0xFF pair (le 1 pair ++ le 2 horizon ++ le 1 numbering)
    else if was then s.raise 0x0508 3 4 0xFF pair (le 1 pair)
    else s

/-- REGION (R171). -/
def regionReceive (pair : Nat) (vertices : List (Int × Int)) (horizon numbering : Nat) (s : State) : State :=
  if !s.onCells then s
  else (s.mirror 2 (.cell pair (.region vertices horizon numbering) 0)).noteRegion pair vertices horizon numbering

/-- The result record of a permit refused out of hand (R171). -/
def State.permitRefused (s : State) (plan : U32) : ResultRecord :=
  { planId := plan, lane := 0xFF, result := 1, epoch := 0, window := s.clock.tick, conflictTick := 0, conflictKind := 5, other := 0,
    object := s.pairNumber, east := 0, north := 0, detail := 0 }

/-- A permit request enters the window as the plan of a lane to be reserved (R160, R174). -/
def State.acceptPermit (pair : Nat) (plan : U32) (lane : Nat) (border handover commit : U32) (run : EnvelopeRun) (s : State) : State :=
  let p : Plan := { id := s.ledger.nextPlan, lane := 0xFF, what := .permit pair plan lane border handover commit, req := none,
                    submit := s.window, epoch := 0, first := run.first, profiled := true, envelopes := run.list }
  { s with ledger := { s.ledger with plans := s.ledger.plans ++ [p], nextPlan := s.ledger.nextPlan + 1 } }

/-- PERMIT_REQUEST (R160, R171, R173, R465), of the named lane and lane epoch: refused out of hand while no lane may leave VACANT
(R26), else accepted into the window and mirrored. -/
def permitRequest (pair : Nat) (plan : U32) (lane : Nat) (epoch : U16) (border handover commit : U32) (run : EnvelopeRun) (stamp : Nat)
    (s : State) : State :=
  let s := s.stamped stamp
  if !s.onCells then s
  else if pair ∉ s.neighbourPairs ∨ (s.neighbour pair).mismatch ∨ s.keys.pendingState = 3 ∨ s.power.deviceState ≠ 2 then
    s.sendCell pair (.refusal plan (s.permitRefused plan))
  else (s.mirror 2 (.cell pair (.permitRequest plan border handover commit lane epoch run) s.ledger.nextPlan)).acceptPermit
    pair plan lane border handover commit run

/-- An item of this tick and stamp falls at or before 17.0 ms into `tick` (R35, R173, R175). -/
def State.byCutoff (s : State) (tick : U32) (stamp : Nat) : Bool :=
  later tick s.clock.tick || (s.clock.tick = tick && decide (stamp ≤ 17000000))

/-- The crossing plan that asked a pair for a permit. -/
def State.askedBy (s : State) (pair : Nat) (plan : U32) : Option Plan :=
  (s.planOf plan).filter (fun p => match p.crossing with | some c => c.pair = pair | none => false)

/-- A grant counts for a plan (R173). -/
def State.grantPlan (plan : U32) (lane : Nat) (keySet : Bytes) (s : State) : State :=
  let s := s.onPlan plan (fun q => { q with
    crossing := q.crossing.map (fun c => { c with granted := true, guestLane := lane, keySet := keySet }) })
  { s with ledger := { s.ledger with granted := s.ledger.granted + 1 } }

/-- GRANT (R173): counts if stamped at or before the cutoff of tick n + 1 + W. -/
def grantReceive (pair : Nat) (plan : U32) (lane : Nat) (keySet : Bytes) (stamp : Nat) (s : State) : State :=
  let s := s.stamped stamp
  match s.askedBy pair plan with
  | none => s
  | some p =>
    if !s.onCells ∨ p.expired ∨ !s.byCutoff (p.submit + 1 + BitVec.ofNat 32 s.permitWait) stamp then s
    else (s.mirror 2 (.cell pair (.grant plan lane keySet) plan)).grantPlan plan lane keySet

/-- The lane that hands over under a plan to a pair. -/
def State.handingLane (s : State) (pair : Nat) (plan : U32) : Option Nat :=
  s.listed.find? (fun n => s.laneIs n .handingOver && (s.route n).planId = plan &&
    (match (s.route n).crossing with | some c => c.pair = pair | none => false))

/-- A refusal counts for a plan, which waits no longer (R173, R178). -/
def State.refusePlan (plan : U32) (s : State) : State :=
  let s := s.onPlan plan (fun q => { q with
    crossing := q.crossing.map (fun c => { c with granted := false }), expired := q.awaiting })
  { s with ledger := { s.ledger with refused := s.ledger.refused + 1 } }

/-- REFUSAL (R173, R178, R447): of a permit, whose plan then waits no longer; or of a handover, which fails at the next
boundary. -/
def refusalReceive (pair : Nat) (plan : U32) (record : ResultRecord) (stamp : Nat) (s : State) : State :=
  let s := s.stamped stamp
  if !s.onCells then s
  else match s.handingLane pair plan with
    | some n => { s with due := s.due ++ [{ lane := n, what := .handoverRefused }] }
    | none =>
      match s.askedBy pair plan with
      | none => s
      | some p =>
        if p.expired then s else (s.mirror 2 (.cell pair (.refusal plan record) plan)).refusePlan plan

/-- Lane reserved for a guest of a pair and plan. -/
def State.guestOf (s : State) (pair : Nat) (plan : U32) : Option (Nat × Guest) :=
  s.guests.find? (fun g => g.2.pair = pair && g.2.planId = plan)

/-- The guest of lane `n` becomes final (R173). -/
def State.finalGuest (n : Nat) (g : Guest) (start : Pose) (legs : List Leg) (stretches : List Stretch) (s : State) : State :=
  { s with guests := tset s.guests n { g with final := true, start := start, legs := legs, stretches := stretches } }

/-- COMMIT_NOTICE (R173, R175): the guest becomes final. -/
def commitNotice (pair : Nat) (plan : U32) (start : Pose) (legs : List Leg) (stretches : List Stretch) (stamp : Nat) (s : State) : State :=
  let s := s.stamped stamp
  match s.guestOf pair plan with
  | none => s
  | some (n, g) =>
    if !s.onCells ∨ g.withdrawn ∨ !s.byCutoff g.commit stamp then s
    else (s.mirror 2 (.cell pair (.commitNotice plan start legs stretches) plan)).finalGuest n g start legs stretches

/-- The guest of lane `n` is dropped: reservation and envelopes end (R175). -/
def State.dropGuest (n : Nat) (s : State) : State :=
  let s := s.onLane n (fun l => { l with reserved := false })
  let s : State := { s with guests := tdel s.guests n, cells := { s.cells with arriving := tdel s.cells.arriving n } }
  s.onRoute n (fun r => { r with envelopes := {} })

/-- A guest plan ends and is counted (R175). -/
def State.endGuest (n : Nat) (s : State) : State :=
  let s := s.dropGuest n
  { s with ledger := { s.ledger with expired := s.ledger.expired + 1 } }

/-- The guest of lane `n` ends at the next boundary (R175). -/
def State.withdrawGuest (n : Nat) (s : State) : State :=
  match tfind s.guests n with
  | none => s
  | some g => { s with guests := tset s.guests n { g with withdrawn := true } }

/-- Guests that end are dropped at this boundary (R175). -/
def State.dropWithdrawn (s : State) : State :=
  (s.guests.filter (fun g => g.2.withdrawn)).foldl (fun (t : State) g => t.endGuest g.1) s

/-- GUEST_PLAN_EXPIRE (R175): no commit notice by 17.0 ms into the tick of its commit boundary; at the next boundary the
guest is dropped. -/
def guestPlanExpire (lane : Nat) (s : State) : State :=
  match tfind s.guests lane with
  | none => s
  | some g => if g.final ∨ later g.commit s.clock.tick then s else (s.stamped 17000000).withdrawGuest lane

/-- A lane held here under transition 16 from a pair and plan (R449). -/
def State.heldLane (s : State) (pair : Nat) (plan : U32) : Option Nat :=
  (s.cells.held.find? (fun h => h.2 = (pair, plan) && (s.lane h.1).occupied)).map (·.1)

/-- WITHDRAWAL (R175, R449): the guest ends at the next boundary, or is a handover conflict for a lane already held. -/
def withdrawal (pair : Nat) (plan : U32) (stamp : Nat) (s : State) : State :=
  let s := s.stamped stamp
  if !s.onCells then s
  else match s.guestOf pair plan with
    | some (n, _) => (s.mirror 2 (.cell pair (.withdrawal plan) plan)).withdrawGuest n
    | none =>
      match s.heldLane pair plan with
      | some n => s.raise 0x140C 1 7 n 0 (le 4 plan.toNat ++ le 1 pair)
      | none => s.onPlans (fun p => p.result = none && (match p.what with
          | .permit q r _ _ _ _ => q = pair && r = plan | _ => false)) (fun p => p.fail 3 0)

/-- The state a lane takes by transition 16 (R20): none where the complement fails or the table knows no such transition. -/
def handedState (m : HandoverMsg) : Option LaneState :=
  match laneStateOf m.state with
  | some .parked => some .parked
  | some .moving => some .moving
  | some .holding => some .holding
  | _ => none

/-- HANDOVER has come in time for the guest of lane `n`. -/
def State.arrive (n : Nat) (msg : HandoverMsg) (s : State) : State :=
  { s with cells := { s.cells with arriving := tset s.cells.arriving n msg } }

/-- HANDOVER (R446): the receiving cell takes the lane at the boundary opening h + 1 if its guest is final, the message is
in time and the set is acknowledged; otherwise REFUSAL goes out and the guest is dropped. A lane state whose complement fails is
never used: the message is discarded, and its repetition may come (R10, R442). -/
def handoverReceive (pair : Nat) (msg : HandoverMsg) (stamp : Nat) (s : State) : State :=
  let s := s.stamped stamp
  if !s.onCells ∨ (handedState msg).isNone then s
  else match s.guestOf pair msg.planId with
    | none => if (s.heldLane pair msg.planId).isSome then s else s.sendCell pair (.refusal msg.planId (s.permitRefused msg.planId))
    | some (n, g) =>
      if (tfind s.cells.arriving n).isSome then s
      else if g.final ∧ !g.withdrawn ∧ s.clock.tick = g.handover ∧ stamp ≤ 17000000 ∧ msg.setAcked then
        (s.mirror 2 (.cell pair (.handover msg) msg.planId)).arrive n msg
      else (s.dropGuest n).sendCell pair (.refusal msg.planId (s.permitRefused msg.planId))

/-- CONFIRM (R442, R447, R449): the handover is confirmed at the next boundary; a repeated one is answered RELEASED
again; after transition 15 it is a conflict. -/
def confirmReceive (pair : Nat) (plan : U32) (_lane stamp : Nat) (s : State) : State :=
  let s := s.stamped stamp
  if !s.onCells then s
  else match s.handingLane pair plan with
    | some n =>
      if s.due.any (fun d => d.lane = n && d.what = .handoverConfirmed) then s
      else { s with due := s.due ++ [{ lane := n, what := .handoverConfirmed }] }
    | none =>
      if (pair, plan) ∈ s.cells.releasedPlans then s.sendCell pair (.released plan)
      else if plan ∈ s.cells.failedPlans then s.raise 0x140C 1 7 0xFF 0 (le 4 plan.toNat ++ le 1 pair)
      else s

/-- RELEASED (R442): the repetition of CONFIRM ends. -/
def releasedReceive (pair : Nat) (plan : U32) (s : State) : State :=
  if !s.onCells then s
  else { s with cells := { s.cells with confirms := s.cells.confirms.filter (fun c => !(c.1 = pair && c.2.1 = plan)) } }

/-- PERMIT_WAIT_EXPIRE (R178): at the cutoff of tick n + 1 + W no grant has counted: the plan waits no longer. -/
def permitWaitExpire (plan : U32) (s : State) : State :=
  match s.planOf plan with
  | none => s
  | some p =>
    match p.crossing with
    | none => s
    | some c =>
      if p.awaiting ∧ !c.granted ∧ !p.expired ∧ s.clock.tick = p.submit + 1 + BitVec.ofNat 32 s.permitWait then
        ((s.stamped 17000000).onPlan plan (fun q => { q with expired := true })).withdraw c.pair plan
      else s

/-! ## Timeouts of lanes -/

/-- A timeout of lane `n` falls due at the next boundary (R23), which a standby leaves to its active. -/
def State.timeoutDue (n : Nat) (what : DueWhat) (s : State) : State :=
  if s.isStandby ∨ s.due.any (fun d => d.lane = n && decide (d.what = what)) then s
  else { s with due := s.due ++ [{ lane := n, what := what }] }

/-- ADMISSION_TIMEOUT (R20, R23): the time of an ADMITTING lane is over at the next boundary, at whose step 7 transition 3 is made. -/
def admissionTimeout (lane : Nat) (s : State) : State :=
  if s.laneIs lane .admitting ∧ s.cfgNat 0x2003 1 * 50 ≤ (s.lane lane).timer + 1 then s.timeoutDue lane .timeout else s

/-- RELEASE_TIMEOUT (R20, R23): the same for transition 18 of a RELEASING lane. -/
def releaseTimeout (lane : Nat) (s : State) : State :=
  if s.laneIs lane .releasing ∧ s.cfgNat 0x2003 2 * 50 ≤ (s.lane lane).timer + 1 then s.timeoutDue lane .timeout else s

/-- HANDOVER_CONFIRMATION_TIMEOUT (R23, R447): 0x2602:01 ticks since h are over at the next boundary, at whose step 4 transition 15 is
made. -/
def handoverTimeout (lane : Nat) (s : State) : State :=
  if s.laneIs lane .handingOver ∧ s.cfgNat 0x2602 1 ≤ (s.lane lane).timer + 1 then s.timeoutDue lane .handoverRefused else s

/-! ## Boundary -/

/-- The HANDOVER message of lane `n` (R445). -/
def State.handoverMsg (s : State) (n : Nat) : HandoverMsg :=
  let r := s.route n
  let c := s.ck n
  let e := r.effective
  { planId := r.planId, state := (s.lane n).beforeHandover, epoch := (s.lane n).epoch, identity := (s.lane n).identity,
    setAcked := match r.crossing with | some x => x.keyAcked | none => false
    verdict := c.verdict, reason := c.reason, disagree := c.disagree, top := e.top, acc := e.acc, dec := e.dec, jerk := e.jerk,
    reversal := e.reversal, dwell := e.dwell, halfLen := s.cfgNat (0x4100 + n) 6, halfWid := s.cfgNat (0x4100 + n) 7,
    margin := s.cfgNat (0x4100 + n) 8, policy := s.cfgNat (0x4300 + n) 0x10, policyCount := s.cfgNat (0x4300 + n) 0x11,
    horizontal := s.cfgNat (0x4300 + n) 0x12, vertical := s.cfgNat (0x4300 + n) 0x13, telemetry := (s.lane n).telemetry }

/-- Send HANDOVER for every lane that hands over in this tick (R442, R445). -/
def State.sendHandovers (s : State) : State :=
  s.listed.foldl (fun (t : State) n =>
    match (t.route n).crossing with
    | some c => if t.laneIs n .handingOver ∧ c.handover = t.clock.tick then t.sendCell c.pair (.handover (t.handoverMsg n)) else t
    | none => t) s

/-- Transition 13 at the boundary opening h (R176, R445). -/
def State.beginHandovers (s : State) : State :=
  s.listed.foldl (fun (t : State) n =>
    match (t.route n).crossing with
    | some c =>
      if c.handover = t.clock.tick ∧ (t.laneIs n .moving ∨ t.laneIs n .holding) then
        let before := (t.lane n).state
        (t.transition n .handingOver).onLane n (fun l => { l with beforeHandover := before })
      else t
    | none => t) s

/-- Transition 16 of one lane (R127, R137, R446): the reserved lane takes the machine and the records of R445; what they do not name
of its checkpoint record stands as it was (log entry 119). -/
def State.takeLane (s : State) (x : Nat × HandoverMsg) : State :=
  let n := x.1
  let m := x.2
  match tfind s.guests n, handedState m with
  | some g, some into =>
    let before := (s.ck n).verdict
    let at' := telemetryPose m.telemetry
    let known : Bool := m.telemetry.length = 64
    let s := s.onLane n (fun l => { l with
      epoch := l.epoch + 1, identity := m.identity, reserved := false, standstill := 0, telemetry := m.telemetry
      pose := if known then some at'.1 else none, standPose := if known ∧ at'.2 then some at'.1 else none })
    let s := s.onAirLane n (fun a => { a with
      expected := 0, next := 0, stored := [], held := [], unacked := [], waiting := [], acks := [], keyGeneration := s.sendGeneration })
    let set := fun (t : State) (i sub : Nat) (v : Int) => t.settle (key i sub) v
    let s := set (set (set (set (set (set s (0x4100 + n) 1 m.top) (0x4100 + n) 2 m.acc) (0x4100 + n) 3 m.dec) (0x4100 + n) 4 m.jerk)
      (0x4100 + n) 5 (if m.reversal then 1 else 0)) (0x4100 + n) 9 m.dwell
    let s := set (set (set s (0x4100 + n) 6 m.halfLen) (0x4100 + n) 7 m.halfWid) (0x4100 + n) 8 m.margin
    let s := set (set (set (set s (0x4300 + n) 0x10 m.policy) (0x4300 + n) 0x11 m.policyCount) (0x4300 + n) 0x12 m.horizontal)
      (0x4300 + n) 0x13 m.vertical
    let s : State := { s with
      checkpoint := { s.checkpoint with lanes := tmod (fun _ => {}) s.checkpoint.lanes n (fun c =>
        { c with verdict := m.verdict, reason := m.reason, disagree := m.disagree, arrival := s.now, since := s.clock.tick }) }
      guests := tdel s.guests n
      cells := { s.cells with
        arriving := tdel s.cells.arriving n, received := s.cells.received + 1, held := tset s.cells.held n (g.pair, g.planId)
        confirms := s.cells.confirms ++ [(g.pair, g.planId, n, s.cfgNat 0x2602 1)] } }
    let first := (g.stretches.headD ⟨g.border, 0, 0, 0, 0, 0, 0⟩).tick
    let target := (poseOn g.start.fine g.legs (routeLength g.legs)).rounded
    let sentBefore := (g.stretches.takeWhile (fun x => later g.handover (x.tick - 50))).length
    let s := s.onRoute n (fun r => { r with
      planId := g.planId, first := first, standstill := standstillTick first g.stretches, east := target.east
      north := target.north, heading := target.heading, start := g.start, legs := g.legs, stretches := g.stretches
      effective := { top := m.top, acc := m.acc, dec := m.dec, jerk := m.jerk, reversal := m.reversal, dwell := m.dwell }
      sentStretches := sentBefore, sentLegs := legsReached first g.legs g.stretches sentBefore })
    let s := (s.transition n into).verdictChange n before
    (s.configure n (s.route n).effective).applyHalt n
  | _, _ => s

/-- Lanes whose HANDOVER arrived in the tick just ended are taken (R446), none while the tick is provisional (R26). -/
def State.takeLanes (s : State) : State := if s.clock.provisional then s else s.cells.arriving.foldl State.takeLane s

/-- A guest is withdrawn at the first boundary at which the lane no longer follows its crossing plan (R444). -/
def State.mismatchedGuests (s : State) : State :=
  s.listed.foldl (fun (t : State) n =>
    match (t.route n).crossing with
    | some c =>
      if t.laneIs n .moving ∨ t.laneIs n .handingOver then t
      else (t.withdraw c.pair (t.route n).planId).onRoute n (fun r => { r with crossing := none })
    | none => t) s

/-- The cell-link messages repeated every tick (R442). -/
def State.cellTick (s : State) : State :=
  let s : State := s.cells.withdrawals.foldl (fun (t : State) w => t.sendCell w.1 (.withdrawal w.2.1)) s
  let s : State := s.cells.confirms.foldl (fun (t : State) c => t.sendCell c.1 (.confirm c.2.1 c.2.2.1)) s
  { s with cells := { s.cells with
    withdrawals := (s.cells.withdrawals.map (fun w => (w.1, w.2.1, w.2.2 - 1))).filter (fun w => decide (0 < w.2.2))
    confirms := (s.cells.confirms.map (fun c => (c.1, c.2.1, c.2.2.1, c.2.2.2 - 1))).filter (fun c => decide (0 < c.2.2.2)) } }

/-- A datagram of a cell link takes its place in the receive queue (R516). -/
def fromCell (f : State → State) (s : State) : State := f (s.count 0x40C 1)

def execRegion (pair : Nat) (vertices : List (Int × Int)) (horizon numbering : Nat) (s : State) : Host.Outcome State Fault Refusal :=
  running (fromCell (regionReceive pair vertices horizon numbering)) s
def execPermitRequest (head : CellHead) (asker : LaneName) (border handover commit : U32) (run : EnvelopeRun) (stamp : Nat) (s : State) :
    Host.Outcome State Fault Refusal :=
  running (fromCell (permitRequest head.pair head.plan asker.lane asker.epoch border handover commit run stamp)) s
def execGrant (pair : Nat) (plan : U32) (lane : Nat) (keySet : Bytes) (stamp : Nat) (s : State) : Host.Outcome State Fault Refusal :=
  running (fromCell (grantReceive pair plan lane keySet stamp)) s
def execRefusal (head : CellHead) (record : ResultRecord) (stamp : Nat) (s : State) : Host.Outcome State Fault Refusal :=
  running (fromCell (refusalReceive head.pair head.plan record stamp)) s
def execCommitNotice (pair : Nat) (plan : U32) (start : Pose) (legs : List Leg) (stretches : List Stretch) (stamp : Nat) (s : State) :
    Host.Outcome State Fault Refusal := running (fromCell (commitNotice pair plan start legs stretches stamp)) s
def execWithdrawal (head : CellHead) (stamp : Nat) (s : State) : Host.Outcome State Fault Refusal :=
  running (fromCell (withdrawal head.pair head.plan stamp)) s
def execHandover (pair : Nat) (msg : HandoverMsg) (stamp : Nat) (s : State) : Host.Outcome State Fault Refusal :=
  running (fromCell (handoverReceive pair msg stamp)) s
def execConfirm (head : CellHead) (lane stamp : Nat) (s : State) : Host.Outcome State Fault Refusal :=
  running (fromCell (confirmReceive head.pair head.plan lane stamp)) s
def execReleased (pair : Nat) (plan : U32) (s : State) : Host.Outcome State Fault Refusal := running (fromCell (releasedReceive pair plan)) s
def execPermitWaitExpire (plan : U32) (s : State) : Host.Outcome State Fault Refusal := running (permitWaitExpire plan) s
def execGuestPlanExpire (lane : Nat) (s : State) : Host.Outcome State Fault Refusal := running (guestPlanExpire lane) s
def execAdmissionTimeout (lane : Nat) (s : State) : Host.Outcome State Fault Refusal := running (admissionTimeout lane) s
def execReleaseTimeout (lane : Nat) (s : State) : Host.Outcome State Fault Refusal := running (releaseTimeout lane) s
def execHandoverConfirmationTimeout (lane : Nat) (s : State) : Host.Outcome State Fault Refusal := running (handoverTimeout lane) s

end Sys2Proof.Machine
end

