-- ==== Sys2Proof/Machine/Checkpoint.lean ====
section
/-! DEFINITION. Checkpoint fixes: segments and records, the request queue, the solve, verdicts and policies (04 R116 to
R139), with CHECKPOINT_SOLVE_START, CHECKPOINT_SOLVE_DONE, CHECKPOINT_SOLVE_LATE and VERDICT_STALE_TIMEOUT. -/

namespace Sys2Proof.Machine

/-- A tick boundary that opens a stage and is a record epoch of lane `n` (R116): `stage` is its stage number within the
milestone. -/
def recordStage (n stage : Nat) : Bool := stage % 5 = n / 4 % 5

/-! ## Records -/

/-- Bytes of the block that starts at `b`: 14 with an L5-band part, 8 without (R119). -/
def blockSize (b : Bytes) : Nat := if bit (byteAt b 0) 4 then 14 else 8

/-- The satellite blocks of a record body: none if they do not fill it exactly (R119). -/
def blocksOf : Nat → Bytes → Option (List Bytes)
  | 0, b => if b.isEmpty then some [] else none
  | n + 1, b =>
    if b.length < blockSize b then none
    else (blocksOf n (b.drop (blockSize b))).map (fun l => b.take (blockSize b) :: l)

/-- One satellite block parses: codes in range (R119). Its reserved bits are ignored (R9). -/
def blockOk (b : Bytes) : Bool :=
  decide (field b 2 3 ≤ 14989622) && (b.length = 8 || decide (field b 8 3 ≤ 14989622))

/-- The record parses without error (R118, R119). Its reserved bits are ignored (R9). -/
def recordOk (b : Bytes) : Bool :=
  decide (24 ≤ b.length) && byteAt b 0 = 1 && decide (1 ≤ byteAt b 2) && decide (byteAt b 2 ≤ 25) &&
    (match blocksOf (byteAt b 2) (b.drop 24) with | some l => l.all blockOk | none => false)

/-- The record of lane `n` for epoch `e` is discarded whole and counted (R118). -/
def State.incomplete (n : Nat) (e : U32) (s : State) : State :=
  s.onCk n (fun c => { c with assembly := none, counted := some e, incomplete := c.incomplete + 1 })

/-- A request enters the queue of 24; on a full queue the oldest is lost, as late and as a queue item (R131). -/
def State.enqueue (q : CkRequest) (s : State) : State :=
  let s := if s.checkpoint.queue.length < 24 then s
    else match s.checkpoint.queue with
      | [] => s
      | o :: t =>
        let s : State := { s with checkpoint := { s.checkpoint with queue := t, dropped := s.checkpoint.dropped + 1 } }
        let s : State := { s with checkpoint := { s.checkpoint with lost := s.checkpoint.lost + 1 } }
        (s.onCk o.lane (fun c => { c with dropped := c.dropped + 1 })).count 0x508 1
  let s : State := { s with checkpoint := { s.checkpoint with queue := s.checkpoint.queue ++ [q] } }
  (s.count 0x408 1).occupy 0x800 s.checkpoint.queue.length

/-- The tick a 16-bit air tick number names: the one whose signed 16-bit difference from the present tick it gives (R11). -/
def State.fullTick (s : State) (t : Nat) : U32 :=
  s.clock.tick + (BitVec.ofNat 16 t - s.clock.tick.setWidth 16).signExtend 32

/-- Stage of the present tick, counted from the milestone boundary. -/
def State.stageInMilestone (s : State) : Nat := s.milestonePos / 5

/-- A segment of lane `n` that arrived in its owned slot (R116 to R119): it must be of this stage's schedule. Its reserved bits are
ignored (R9). -/
def State.segment (n : Nat) (b : Bytes) (s : State) : State :=
  let opened := s.clock.tick - BitVec.ofNat 32 s.stagePos
  let epoch := s.fullTick (field b 0 2)
  let k := byteAt b 2 / 16
  let len := byteAt b 3
  let onTime := k ≤ 4 ∧ opened - epoch = BitVec.ofNat 32 (5 * (k + 1)) ∧
    recordStage n ((s.stageInMilestone + 10 - (k + 1)) % 10) ∧ len ≤ 76 ∧ b.length = 4 + len
  let le' := (s.lane n).epoch
  if ¬ onTime then s
  else
    let body := b.drop 4
    let s := match (s.ck n).assembly with
      | some (e, _, _, _) => if e = epoch then s else s.incomplete n e
      | none => s
    match (s.ck n).assembly with
    | none =>
      if k = 0 then s.onCk n (fun c => { c with assembly := some (epoch, le', 1, body) })
      else if k = 4 then s.incomplete n epoch
      else s.onCk n (fun c => { c with assembly := some (epoch, le', 9, []) })
    | some (_, l, next, got) =>
      if k < 4 then
        s.onCk n (fun c => { c with assembly := some (epoch, l, if next = k then k + 1 else 9, got ++ body) })
      else if next = 4 ∧ l = le' ∧ recordOk (got ++ body) then
        let s := s.onCk n (fun c => { c with assembly := none, counted := some epoch, complete := c.complete + 1 })
        s.enqueue { lane := n, laneEpoch := le', epoch := epoch, tick := s.clock.tick, arrival := s.now, record := got ++ body }
      else s.incomplete n epoch

/-- The stage of segment 4 of a record has ended (R116 to R118): a record whose segments have not all come is incomplete, even
if none came. -/
def State.recordsEnd (s : State) : State :=
  let e := s.clock.tick - 30
  (s.listed.filter (fun n => (s.lane n).occupied && recordStage n ((s.stageInMilestone + 4) % 10))).foldl (fun (t : State) n =>
    if (t.ck n).counted = some e ∨ !atOrAfter e (t.ck n).since then t else t.incomplete n e) s

/-! ## Solving -/

/-- Nanoseconds from now to the solve deadline of a request (R124). -/
def State.solveLeft (s : State) (q : CkRequest) : Int :=
  ((q.tick + 2 - s.clock.tick).toInt * 20 + 16) * 1000000 - s.clock.offset

/-- A request is dropped as late (R124). -/
def State.solveDropped (q : CkRequest) (s : State) : State :=
  let s : State := { s with checkpoint := { s.checkpoint with dropped := s.checkpoint.dropped + 1 } }
  s.onCk q.lane (fun c => { c with dropped := c.dropped + 1 })

/-- The oldest request that may still start, those before it dropped (R131). -/
def takeRequest (s : State) : List CkRequest → State × Option CkRequest
  | [] => ({ s with checkpoint := { s.checkpoint with queue := [] } }, none)
  | q :: t =>
    if s.solveLeft q < 10000000 then takeRequest (s.solveDropped q) t
    else ({ s with checkpoint := { s.checkpoint with queue := t } }, some q)

/-- Requests whose deadline has come closer than 10.0 ms are dropped at once (R131). -/
def State.dropLate (s : State) : State :=
  let late := s.checkpoint.queue.filter (fun q => decide (s.solveLeft q < 10000000))
  late.foldl (fun (t : State) q => t.solveDropped q) { s with checkpoint := { s.checkpoint with
    queue := s.checkpoint.queue.filter (fun q => !decide (s.solveLeft q < 10000000)) } }

/-- The limits in force for a solve of lane `n` that starts now (R139). -/
def State.solveLimits (s : State) (n : Nat) : CkLimits :=
  { ratio := s.cfgNat 0x230B 1, common := s.cfgNat 0x230B 2, baseline := s.cfgNat 0x230B 3, residual := s.cfgNat 0x230B 4,
    horizontal := s.cfg (0x4300 + n) 0x12, vertical := s.cfg (0x4300 + n) 0x13 }

/-- CHECKPOINT_SOLVE_START (R129, R131): a free DSP takes the oldest request. -/
def solveStart (dsp stamp : Nat) (s : State) : State :=
  let s := s.stamped stamp
  if 4 ≤ dsp ∨ (tfind s.checkpoint.running dsp).isSome then s
  else
    let p := takeRequest s s.checkpoint.queue
    match p.2 with
    | none => p.1
    | some q =>
      let s := p.1
      { s with checkpoint := { s.checkpoint with
        running := tset s.checkpoint.running dsp { q with
          startValid := s.reference.positioning, limits := s.solveLimits q.lane } } }

/-- Satellites of the common set (R121 step 5). -/
def commonSet (l : List Bytes) (held : List HeldSat) : Nat :=
  (l.filter (fun b => held.any (fun h =>
    h.system = byteAt b 0 / 64 && h.prn = byteAt b 1 &&
      ((h.l1 && !bit (byteAt b 0) 3) || (h.l5 && bit (byteAt b 0) 4))))).length

/-- The verdict found for a request, from what the DSP found (R121, R123). -/
def State.solved (s : State) (q : CkRequest) (out : SolveOut) (after16 : Bool) : CkVerdict :=
  let r := q.record
  let v : CkVerdict := { request := q, verdict := 3, reason := 16, horizontal := 0, vertical := 0, ratio := 0, used := 0, east := 0,
                         north := 0, up := 0, after16 := after16 }
  let block := s.checkpoint.blocks.find? (fun b => b.tick = q.epoch)
  let validAt := match block with | some b => b.valid | none => true
  let issueAt := match block with | some b => b.issue | none => byteAt r 3
  let sats := match block with | some b => b.sats | none => []
  let common := commonSet ((blocksOf (byteAt r 2) (r.drop 24)).getD []) sats
  if !validAt ∨ !q.startValid then v
  else if issueAt ≠ byteAt r 3 then { v with reason := 17 }
  else if !(match block with | some b => b.held | none => false) then { v with reason := 18 }
  else if byteAt r 1 / 64 = 0 then { v with verdict := 2, reason := 5 }
  else if common < q.limits.common then { v with verdict := 2, reason := 1, used := common }
  else if q.limits.baseline < out.baseline then { v with verdict := 2, reason := 3, used := common }
  else if out.ratio < q.limits.ratio then { v with verdict := 2, reason := 2, used := common, ratio := out.ratio }
  else if q.limits.residual < out.residual then { v with verdict := 2, reason := 4, used := common, ratio := out.ratio }
  else
    let h := fieldSigned r 16 2 * 65536
    let f := fieldSigned r 18 2
    let l := fieldSigned r 20 2
    let unit := 1099511627776
    let e := roundDiv (out.east * unit - f * sine h + l * cosine h) unit
    let n := roundDiv (out.north * unit - f * cosine h - l * sine h) unit
    let u := out.up - fieldSigned r 22 2
    let de := e - fieldSigned r 4 4
    let dn := n - fieldSigned r 8 4
    let dv := u - fieldSigned r 12 4
    let limit := q.limits.horizontal
    let agree := de * de + dn * dn ≤ limit * limit ∧ (dv.natAbs : Int) ≤ q.limits.vertical
    let d2 := (4 * (de * de + dn * dn)).toNat
    { v with verdict := if agree then 0 else 1, reason := 0, used := common, ratio := out.ratio, vertical := dv
             horizontal := (d2.sqrt + 1) / 2, east := e, north := n, up := u }

/-- CHECKPOINT_SOLVE_DONE (R121, R124, R126): a verdict found by the deadline waits for its boundary. -/
def solveDone (dsp : Nat) (out : SolveOut) (stamp : Nat) (s : State) : State :=
  let s := s.stamped stamp
  match tfind s.checkpoint.running dsp with
  | none => s
  | some q =>
    let s : State := { s with checkpoint := { s.checkpoint with running := tdel s.checkpoint.running dsp } }
    if s.solveLeft q < 0 then s.solveDropped q
    else
      let v := s.solved q out (decide (16000000 < s.clock.offset))
      let s : State := { s with checkpoint := { s.checkpoint with
        found := if q.void ∧ v.reason ≠ 16 then s.checkpoint.found else s.checkpoint.found ++ [v]
        completed := s.checkpoint.completed + 1 } }
      s.count 0x800 1

/-- CHECKPOINT_SOLVE_LATE (R31, R124): a solve past its deadline is dropped. -/
def solveLate (dsp : Nat) (s : State) : State :=
  match tfind s.checkpoint.running dsp with
  | none => s
  | some q =>
    if 0 ≤ s.solveLeft q then s
    else ({ s with checkpoint := { s.checkpoint with running := tdel s.checkpoint.running dsp } } : State).solveDropped q

/-! ## Verdicts -/

/-- The consecutive-DISAGREE count after a verdict (R128). -/
def disagreeAfter (count verdict : Nat) : Nat :=
  if verdict = 1 then min 255 (count + 1) else if verdict = 0 then 0 else count

/-- A verdict stands from this boundary: item, events, triggers (R127, R396, R533). -/
def State.reportVerdict (n before : Nat) (s : State) : State :=
  let c := s.ck n
  let s := s.verdictChange n before
  if c.verdict = 1 then
    (s.raise 0x0402 1 7 n 0 (le 4 c.horizontal ++ le 4 c.vertical ++ le 1 c.disagree)).trigger 8 s.now n
  else s

/-- The lane's verdict becomes STALE for a reason without a solve (R125, R126), which the mirror carries (R136). -/
def State.stale (n reason : Nat) (s : State) : State :=
  let before := (s.ck n).verdict
  let s := (s.onCk n (fun c => { c with verdict := 3, reason := reason })).reportVerdict n before
  if (s.pair.role = 1 ∨ s.pair.role = 4) ∧ n ∉ s.checkpoint.marked then
    { s with checkpoint := { s.checkpoint with marked := s.checkpoint.marked ++ [n] } }
  else s

/-- The lane's policy at a committed DISAGREE, or the release of its refusals at an AGREE (R132, R133). -/
def State.policy (n verdict : Nat) (s : State) : State :=
  let p := s.cfgNat (0x4300 + n) 0x10
  if verdict = 0 then s.onCk n (fun c => { c with refuses := false })
  else if verdict = 1 ∧ s.cfgNat (0x4300 + n) 0x11 ≤ (s.ck n).disagree ∧ p ≠ 0 then
    let s := s.onCk n (fun c => { c with refuses := true })
    if p = 2 ∧ s.laneIs n .moving then s.acceptPlan n (.hold true) none else s
  else s

/-- The lane is in ADMITTING, or in a halt that found it there (R20, R22). -/
def State.admitting (s : State) (n : Nat) : Bool :=
  s.laneIs n .admitting || (s.laneIs n .halted && decide (laneStateOf (s.lane n).atHalt = some .admitting))

/-- The checkpoint record a verdict leaves (R125, R127, R128). -/
def CkLane.after (c : CkLane) (v : CkVerdict) : CkLane :=
  { c with
    verdict := v.verdict, reason := v.reason, epochTick := v.request.epoch, horizontal := v.horizontal, vertical := v.vertical
    ratio := v.ratio, used := v.used, east := v.east, north := v.north, up := v.up, solved := true
    disagree := disagreeAfter c.disagree v.verdict, arrival := max c.arrival v.request.arrival }

/-- One verdict commits (R127, R128, R133): AGREE also counts towards transition 2, halted or not (R22), and a lane in ADMITTING
stands where an AGREE or DISAGREE found it, under its reported heading (R149, R150). -/
def State.commitVerdict (s : State) (v : CkVerdict) : State :=
  let n := v.request.lane
  let before := (s.ck n).verdict
  let s := s.onCk n (fun c => c.after v)
  let s := if v.verdict = 0 ∧ s.admitting n then s.onLane n (fun l => { l with progress := l.progress ||| 4 }) else s
  let s := if v.verdict ≤ 1 ∧ s.laneIs n .admitting then
      s.standAt n { east := v.east, north := v.north, heading := field v.request.record 16 2 } else s
  (s.reportVerdict n before).policy n v.verdict

/-- Verdicts that commit at this boundary: found by 16.0 ms into the tick just ended, or late in an earlier one; released
by the mirror (R124, R427). The rest wait. -/
def State.commitVerdicts (s : State) : State :=
  if !s.released then { s with checkpoint := { s.checkpoint with found := s.checkpoint.found.map (fun v => { v with after16 := false }) } }
  else
    let go := s.checkpoint.found.filter (fun v => !v.after16)
    let wait := (s.checkpoint.found.filter (·.after16)).map (fun v => { v with after16 := false })
    go.foldl State.commitVerdict { s with checkpoint := { s.checkpoint with found := wait } }

/-- Positioning became invalid at this boundary: every lane's verdict is STALE; verdicts that passed step 1 of R121 and have not
committed are discarded, found or still to be found (R101, R126). A standby takes these marks from its active (R136). -/
def State.staleAll (s : State) : State :=
  if s.isStandby then s
  else
    let s : State := { s with checkpoint := { s.checkpoint with
      found := s.checkpoint.found.filter (fun v => v.reason = 16)
      running := s.checkpoint.running.map (fun e => (e.1, { e.2 with void := true })) } }
    (s.listed.filter (fun n => (s.lane n).occupied)).foldl (fun (t : State) n => t.stale n 16) s

/-- VERDICT_STALE_TIMEOUT (R125): the staleness limit is over and no record that arrived within it awaits its solve. STALE with
reason 16 stands (R126), and a standby takes the mark from its active (R136). -/
def verdictStaleTimeout (n : Nat) (s : State) : State :=
  let c := s.ck n
  let over' := c.arrival + s.cfg 0x230B 5 * 20000000 < s.clock.source
  let near := fun (q : CkRequest) => q.lane = n && decide (q.arrival ≤ c.arrival + s.cfg 0x230B 5 * 20000000)
  let awaits := s.checkpoint.queue.any near || s.checkpoint.running.any (fun e => near e.2) ||
    s.checkpoint.found.any (fun v => near v.request)
  if !s.isStandby ∧ (s.lane n).occupied ∧ over' ∧ !awaits ∧ !(c.verdict = 3 ∧ (c.reason = 19 ∨ c.reason = 16)) then s.stale n 19
  else s

/-- A record epoch boundary: the epoch joins the record of the last 2 s, its block still to come (R122). Positioning is that of the
boundary as it opens, on the block before (R121; log entry 139). -/
def State.holdEpoch (s : State) : State :=
  { s with checkpoint := { s.checkpoint with
    blocks := (s.checkpoint.blocks ++ [({ tick := s.clock.tick, held := false, valid := s.reference.positioning
                                          issue := s.reference.issue, sats := [] } : HeldBlock)]).filter
      (fun b => decide ((s.clock.tick - b.tick).toNat ≤ 100)) } }

/-- The block of epoch `tick` is held, with the satellites of port A that are usable and in USE (R79, R122). -/
def State.holdBlock (tick : U32) (sats : List HeldSat) (s : State) : State :=
  { s with checkpoint := { s.checkpoint with
    blocks := s.checkpoint.blocks.map (fun b => if b.tick = tick then { b with held := true, sats := sats } else b) } }

def execCheckpointSolveStart (dsp stamp : Nat) (s : State) : Host.Outcome State Fault Refusal := running (solveStart dsp stamp) s
def execCheckpointSolveDone (dsp : Nat) (out : SolveOut) (stamp : Nat) (s : State) : Host.Outcome State Fault Refusal :=
  running (solveDone dsp out stamp) s
def execCheckpointSolveLate (dsp : Nat) (s : State) : Host.Outcome State Fault Refusal := running (solveLate dsp) s
def execVerdictStaleTimeout (lane : Nat) (s : State) : Host.Outcome State Fault Refusal := running (verdictStaleTimeout lane) s

end Sys2Proof.Machine
end

