-- ==== Sys2Proof/Machine/Time.lean ====
section
/-! DEFINITION. Time: bases, discipline source, holdover, slews and steps, PTP, PPS (01 R24 to R26; 11 R340 to R363), with
PTP_MESSAGE_RECEIVE, PTP_MESSAGE_INTERVAL, ANNOUNCE_RECEIPT_TIMEOUT, RETURN_TO_TB1, PPS_OUT_EDGE, PPS_IN_EDGE and
PPS_OUT_ENABLE. -/

namespace Sys2Proof.Machine

/-! ## Bases -/

/-- Base `b`: 0 TB0, 1 TB1, 2 TB2. -/
def State.base (s : State) (b : Nat) : Base := tget (fun _ => {}) s.time.bases b

/-- The state after `f` on base `b`. -/
def State.onBase (b : Nat) (f : Base → Base) (s : State) : State :=
  { s with time := { s.time with bases := tmod (fun _ => {}) s.time.bases b f } }

/-- By how much the PTP timescale leads GPS time, ns (R343). -/
def ptpLead : Int := 315964819000000000

/-- Time of a base minus tick time, converted to the numbering base's scale (R345). -/
def State.converted (s : State) (b : Nat) (raw : Int) : Int :=
  if s.time.numbering = 0 ∧ b ≠ 0 then raw - ptpLead else if s.time.numbering ≠ 0 ∧ b = 0 then raw + ptpLead else raw

/-- Mean of a list of offsets. -/
def meanOf (l : List Int) : Int := if l.isEmpty then 0 else roundDiv l.sum l.length

/-- A base was measured against the tick (R341, R342). -/
def State.measure (b : Nat) (raw : Int) (s : State) : State :=
  s.onBase b (fun x => { x with offset := s.converted b raw, recent := (s.converted b raw :: x.recent).take 50 })

/-- A base locks or is lost at this boundary. The error it locks with is a free value: the spec gives no rule for it. -/
def State.lockBase (b : Nat) (on : Bool) (s : State) : State :=
  let x := s.base b
  if on then
    let p := s.draw
    let s := if x.locked then s else p.2
    let s := s.onBase b (fun y => { y with locked := true, ever := true, run := y.run + 1, lost := 0
                                           error := if x.locked then y.error else p.1 % 4294967295
                                           recent := if x.locked then y.recent else [y.offset] })
    s
  else s.onBase b (fun y => { y with locked := false, run := 0, lost := if y.ever then y.lost + 1 else 0 })

/-! ## PTP (R349 to R351) -/

/-- Index of a port's entries. -/
def ptpIndex (port : Nat) : Nat := 0x2103 + port

/-- Clock of port `k`. -/
def State.ptpPort (s : State) (k : Nat) : PtpPort := tget (fun _ => {}) s.time.ports k

/-- The state after `f` on the clock of port `k`. -/
def State.onPtp (k : Nat) (f : PtpPort → PtpPort) (s : State) : State :=
  { s with time := { s.time with ports := tmod (fun _ => {}) s.time.ports k f } }

/-- Role of port `k`: 0 off, 1 client TB1, 2 client TB2, 3 master. -/
def Units.ptpRole (u : Units) (k : Nat) : Nat := u.cfgNat (ptpIndex k) 1

/-- One data set is better than another: the default comparison of IEEE 1588 (R349). -/
def betterMaster (a b : Nat × Nat × Nat × Nat × Nat × Nat) : Bool :=
  decide (Prod.Lex (· < ·) (Prod.Lex (· < ·) (Prod.Lex (· < ·) (Prod.Lex (· < ·) (· < ·))))
    (a.2.1, a.2.2.1, a.2.2.2.1, a.2.2.2.2.1, a.1 + 65536 * a.2.2.2.2.2) (b.2.1, b.2.2.1, b.2.2.2.1, b.2.2.2.2.1, b.1 + 65536 * b.2.2.2.2.2))

/-- The Announce fields of a master port (R350): clockClass, clockAccuracy, timeSource. -/
def State.grandmaster (s : State) : Nat × Nat × Nat :=
  if !(s.base 0).ever then (248, 0xFE, 0xA0)
  else if s.time.step.isSome ∨ !s.time.valid then (52, 0xFE, 0xA0)
  else if s.time.discipline = 0 then (6, 0x21, 0x20)
  else (7, 0xFE, 0x20)

/-- A message of port `k` (R349 to R351): its settings and the grandmaster fields in force; stamps are on the PTP timescale. -/
def State.ptpSent (s : State) (k kind sequence : Nat) (time : Int) : PtpSent :=
  let g := s.grandmaster
  { kind := kind, sequence := sequence, domain := s.cfgNat (ptpIndex k) 2, transport := s.cfgNat (ptpIndex k) 3
    twoStep := kind = 0 && s.cfgNat (ptpIndex k) 4 = 0
    time := time, priority1 := s.cfgNat (ptpIndex k) 0x0C, priority2 := s.cfgNat (ptpIndex k) 0x0D
    clockClass := g.1, accuracy := g.2.1, timeSource := g.2.2, utcOffset := s.time.utcOffset }

/-- Corrected egress stamp of a master's message that leaves now, on the PTP timescale (R350, R351). -/
def State.ptpEgress (s : State) (k : Nat) : Int := s.now + s.cfg (ptpIndex k) 0x0A + ptpLead

/-- A Sync is complete: offset from master, and the port's base measured (R351). -/
def State.syncDone (k : Nat) (t1 t2 : Int) (s : State) : State :=
  let p := s.ptpPort k
  let offset := t2 - t1 - p.delay - s.cfg (ptpIndex k) 0x0B
  let s := s.onPtp k (fun x => { x with t1 := t1, t2 := t2, sync := none, syncAge := 0, offset := offset, state := 9 })
  s.measure (s.ptpRole k) (-offset)

/-- PTP_MESSAGE_RECEIVE (R349 to R351): other domains and unsupported messages are ignored. -/
def ptpReceive (k : Nat) (m : PtpMsg) (s : State) : State :=
  let role := s.ptpRole k
  let p := s.ptpPort k
  let stamp := m.stamp - s.cfg (ptpIndex k) 9
  if 2 ≤ k ∨ role = 0 ∨ m.domain ≠ s.cfgNat (ptpIndex k) 2 ∨ m.transport ≠ s.cfgNat (ptpIndex k) 3 then s
  else
    let client : Bool := decide (role ≠ 3)
    let own : Bool := match p.master with | some x => decide (x.1 = m.source) | none => false
    match m.kind with
    | 4 =>
      let x := (m.source, m.priority1, m.clockClass, m.accuracy, m.priority2, m.steps)
      if client then
        if own || (match p.master with | some y => betterMaster x y | none => true) then
          s.onPtp k (fun y => { y with
            master := some x, announceAge := 0, ptpScale := m.ptpScale, utcValid := m.utcValid
            state := if own ∧ y.state = 9 then 9 else 8, sync := if own then y.sync else none })
        else s
      else
        let g := s.grandmaster
        let mine := (s.address, s.cfgNat (ptpIndex k) 0x0C, g.1, g.2.1, s.cfgNat (ptpIndex k) 0x0D, 0)
        if betterMaster x mine then s.onPtp k (fun y => { y with master := some x, announceAge := 0, state := 7 }) else s
    | 0 =>
      if !client ∨ !own then s
      else if m.twoStep then s.onPtp k (fun y => { y with sync := some (m.source, m.sequence, stamp) })
      else s.syncDone k m.origin stamp
    | 1 =>
      match p.sync with
      | some (src, seq, t2) => if client ∧ src = m.source ∧ seq = m.sequence then s.syncDone k m.origin t2 else s
      | none => s
    | 3 =>
      match p.t3 with
      | some (seq, t3) =>
        if client ∧ own ∧ m.sequence = seq ∧ m.requester = s.address then
          s.onPtp k (fun y => { y with delay := roundDiv ((y.t2 - t3) + (m.origin - y.t1)) 2, t3 := none })
        else s
      | none => s
    | 2 =>
      if !client ∧ p.state = 6 then
        s.emit (.ptp k { s.ptpSent k 3 m.sequence (stamp + ptpLead) with requester := m.source })
      else s
    | _ => s

/-- PTP_MESSAGE_INTERVAL (R349, R350): kind 0 Sync, 2 Delay_Req, 4 Announce, by the port's state. -/
def ptpInterval (k kind : Nat) (s : State) : State :=
  let role := s.ptpRole k
  let p := s.ptpPort k
  let send := fun (kind : Nat) (t : State) =>
    (t.emit (.ptp k (t.ptpSent k kind p.sequence (t.ptpEgress k)))).onPtp k (fun y => { y with sequence := (p.sequence + 1) % 65536 })
  if 2 ≤ k ∨ role = 0 then s
  else if role = 3 ∧ p.state = 6 then
    if kind = 4 then send 4 s
    else if kind = 0 then
      let s := send 0 s
      if s.cfgNat (ptpIndex k) 4 = 0 then s.emit (.ptp k (s.ptpSent k 1 p.sequence (s.ptpEgress k))) else s
    else s
  else if role ≠ 3 ∧ p.state = 9 ∧ kind = 2 then
    (send 2 s).onPtp k (fun y => { y with t3 := some (p.sequence, s.now + s.cfg (ptpIndex k) 0x0A) })
  else s

/-- Ticks times 16 of an interval of 2^log seconds. -/
def intervalTicks16 (log : Int) : Nat := 50 * 2 ^ (log + 4).toNat

/-- ANNOUNCE_RECEIPT_TIMEOUT (R342, R349): a client listens again, a passive master takes over. -/
def announceTimeout (k : Nat) (s : State) : State :=
  let p := s.ptpPort k
  if 2 ≤ k ∨ s.ptpRole k = 0 ∨ 16 * p.announceAge < s.cfgNat (ptpIndex k) 8 * intervalTicks16 (s.cfg (ptpIndex k) 7) then s
  else s.onPtp k (fun y => { y with master := none, sync := none, t3 := none, announceAge := 0
                                    state := if s.ptpRole k = 3 then 6 else 4 })

/-- A port ages by a tick, and follows its role: a new role listens (R349). -/
def State.ptpTick (s : State) (k : Nat) : State :=
  let role := s.ptpRole k
  s.onPtp k (fun y =>
    if role = 0 then { sequence := y.sequence }
    else { y with syncAge := y.syncAge + 1, announceAge := y.announceAge + 1, state := if y.state = 1 then 4 else y.state })

/-- TB1 and TB2 are locked: a port of that role is SLAVE and took a Sync in the last four intervals (R342). -/
def State.ptpLocked (s : State) (b : Nat) : Bool :=
  (List.range 2).any (fun k => s.ptpRole k = b && (s.ptpPort k).state = 9 &&
    decide (16 * (s.ptpPort k).syncAge ≤ 4 * intervalTicks16 (s.cfg (ptpIndex k) 5)))

/-- The port of base `b` carries the PTP timescale flag and a valid UTC offset (R345). -/
def State.ptpUsable (s : State) (b : Nat) : Bool :=
  (List.range 2).any (fun k => s.ptpRole k = b && (s.ptpPort k).ptpScale && (s.ptpPort k).utcValid)

/-! ## Discipline (R345 to R347) -/

/-- The backup base that may serve now: R345 cases 2 and 3. -/
def State.backup (s : State) : Option Nat :=
  let tb2 := (s.base 2).locked && s.cfgOn 0x2101 2
  if s.time.numbering = 1 then (if tb2 then some 2 else none)
  else if !s.cfgOn 0x2101 3 then none
  else if (s.base 1).locked && s.ptpUsable 1 then some 1
  else if tb2 && s.ptpUsable 2 then some 2
  else none

/-- The discipline source changes (R345). -/
def State.setDiscipline (d : Nat) (s : State) : State :=
  let b := s.time.discipline
  if b = d then s
  else
    let s : State := { s with time := { s.time with discipline := d, switches := s.time.switches + 1 } }
    s.raise 0x1103 0 0 0xFF 0 (le 1 b ++ le 1 d)

/-- A seamless switch (R346): the tick keeps its phase and slews the measured offset away. -/
def State.switchTo (d : Nat) (s : State) : State :=
  (({ s with time := { s.time with remaining := meanOf (s.base d).recent, measured := none } } : State)).setDiscipline d

/-- The source is lost and nothing follows: holdover (R352). -/
def State.holdover (s : State) : State :=
  (({ s with time := { s.time with e0 := s.time.error, since := 0, remaining := 0, measured := none } } : State)).setDiscipline 3

/-- A step is declared for the milestone boundary two milestones on (R356). -/
def State.declareStep (delta : Int) (s : State) : State :=
  let tick := s.clock.tick + 100
  let s : State := { s with time := { s.time with step := some delta, declared := tick, confirmed := false, again := false, remaining := 0 } }
  (s.notice 3 0 tick).raise 0x1104 0 0 0xFF 0 (le 4 tick.toNat ++ le 8 delta)

/-- The decision at a milestone boundary about a source that has returned (R354). -/
def State.returnDecision (src : Nat) (s : State) : State :=
  match s.time.measured with
  | none => s
  | some d =>
    let s := (({ s with time := { s.time with measured := none, since := 0 } } : State)).setDiscipline src
    if d.natAbs ≤ 1000000 then { s with time := { s.time with remaining := d } } else s.declareStep d

/-- The discipline source of the tick that opens (R345 to R347, R354). -/
def State.chooseDiscipline (s : State) : State :=
  let n := s.time.numbering
  let d := s.time.discipline
  let milestone := s.milestonePos = 0
  let source := if (s.base n).locked then some n else s.backup
  let s : State := match source with
    | some b => if (s.base b).run = 50 ∧ d ≠ b then { s with time := { s.time with measured := some (meanOf (s.base b).recent) } } else s
    | none => s
  if d = 3 then
    match source with
    | some b => if milestone then s.returnDecision b else s
    | none => s
  else if d = 2 ∧ n = 1 ∧ (s.base 1).locked ∧ (s.time.goTb1 ∨ !(s.base 2).locked) then
    ({ s with time := { s.time with goTb1 := false } } : State).switchTo 1
  else if !(s.base d).locked then
    match s.backup with
    | some b => if d = n ∨ b ≠ d then s.switchTo b else s.holdover
    | none => s.holdover
  else if d ≠ n ∧ n = 0 ∧ (s.base 0).locked ∧ milestone then s.returnDecision 0
  else s

/-! ## Steps (R26, R343, R356 to R358) -/

/-- Tick numbers advance by `k` wherever the controller holds them (R358). -/
def State.shiftTicks (k : U32) (s : State) : State :=
  let shift := fun (r : EnvRun) => ({ r with first := r.first + k } : EnvRun)
  let cross := fun (c : Crossing) => ({ c with border := c.border + k, handover := c.handover + k, commit := c.commit + k } : Crossing)
  let stretch := fun (x : Stretch) => ({ x with tick := x.tick + k } : Stretch)
  { s with
    clock := { s.clock with tick := s.clock.tick + k }
    routes := tmap (fun _ => {}) (fun (r : Route) => { r with
      first := r.first + k, standstill := r.standstill + k, envelopes := shift r.envelopes
      stretches := r.stretches.map stretch, crossing := r.crossing.map cross }) s.routes
    guests := s.guests.map (fun e => (e.1, { e.2 with
      border := e.2.border + k, handover := e.2.handover + k, commit := e.2.commit + k, stretches := e.2.stretches.map stretch }))
    ledger := { s.ledger with plans := s.ledger.plans.map (fun p => { p with
      submit := p.submit + k, first := p.first + k, stretches := p.stretches.map stretch, crossing := p.crossing.map cross
      cutStretches := p.cutStretches.map stretch }) }
    keys := { s.keys with switchTick := s.keys.switchTick.map (· + k), windowEnd := s.keys.windowEnd.map (· + k) }
    halt := { s.halt with decidedAt := s.halt.decidedAt.map (fun e => (e.1, e.2 + k)) } }

/-- Full number of ticks of a step known by its 32-bit difference (R24, R343): with a new numbering base it lies around the lead of
the PTP timescale, else it is the signed difference. -/
def fullStep (numbering want : Nat) (k : U32) : Int :=
  let lead : Int := if want = numbering then 0 else if want = 1 then 15798240950 else -15798240950
  lead + (k - BitVec.ofInt 32 lead).toInt

/-- The tick source moves by Δ at this boundary: Δ = k × 20 ms + r with −20 ms < r ≤ 0; the boundary stands |r| later
(R358). -/
def State.stepBy (delta : Int) (s : State) : State :=
  let k := ceilDiv delta 20000000
  let r := delta - k * 20000000
  let s := s.shiftTicks (BitVec.ofInt 32 k)
  let s : State := { s with
    clock := { s.clock with source := s.clock.source + k * 20000000, tb3 := s.clock.tb3 + (-r).toNat, extension := 0 }
    time := { s.time with lastStep := delta, steps := s.time.steps + 1, step := none, declared := 0, confirmed := false, remaining := 0
                          bases := s.time.bases.map (fun e => (e.1, { e.2 with
                            offset := e.2.offset - delta, recent := e.2.recent.map (· - delta) })) } }
  (s.raise 0x1105 0 0 0xFF 0 (le 8 delta ++ le 4 k)).trigger 12 s.now 0xFF

/-- STEP_CONFIRM_CHECK (R357): at the ledger cutoff of the tick that would end at B the declared step is made or cancelled. -/
def State.stepCheck (s : State) : State :=
  match s.time.step with
  | none => s
  | some d =>
    if s.clock.tick + 1 ≠ s.time.declared then s
    else if s.notMoving ∧ !s.ledger.plans.any (fun p => p.submit + 1 = s.clock.tick && (p.result = some 0 || p.result = some 7)) then
      let r := d - ceilDiv d 20000000 * 20000000
      { s with time := { s.time with confirmed := true }, clock := { s.clock with extension := (-r).toNat } }
    else
      let t := s.time.declared
      let s : State := { s with time := { s.time with step := none, declared := 0, again := true, measured := some d } }
      s.raise 0x1106 0 0 0xFF 0 (le 4 t.toNat)

/-- Steps that fall at this boundary: a confirmed one; the first valid source (R26); a new numbering base at a milestone
(R343); or a cancelled one declared again (R357). -/
def State.makeSteps (s : State) : State :=
  let n := s.time.numbering
  let s := match s.time.step with
    | some d => if s.time.confirmed ∧ s.clock.tick = s.time.declared then s.stepBy d else s
    | none => s
  let s := if s.clock.provisional ∧ (s.base n).locked then
      let s := s.stepBy (s.base n).offset
      (({ s with clock := { s.clock with provisional := false } } : State)).setDiscipline n
    else s
  let want := s.cfgNat 0x2101 1
  let s : State := if want ≠ n ∧ s.milestonePos = 0 then
      let s : State := { s with time := { s.time with numbering := want } }
      if s.clock.provisional then s
      else s.stepBy (if want = 1 then ptpLead else -ptpLead)
    else s
  if s.time.again ∧ s.milestonePos = 0 ∧ s.notMoving then
    match s.time.measured with
    | some d => (({ s with time := { s.time with measured := none } } : State)).declareStep d
    | none => s
  else s

/-! ## Error and validity (R352, R353, R355) -/

/-- The estimated error of the tick source at this boundary, ns, rounded up. -/
def State.estimate (s : State) : Nat :=
  let d := s.time.discipline
  let cap := fun (n : Int) => (min n 0xFFFFFFFE).toNat
  if s.clock.provisional then 0xFFFFFFFF
  else match s.time.step with
    | some x => cap (x.natAbs + (s.base d).error)
    | none =>
      if d = 3 then
        let t : Int := s.time.since
        cap (s.time.e0 + ceilDiv (s.cfg 0x2101 6 * t * 8640000 + s.cfg 0x2101 7 * t * t) 432000000000)
      else cap ((s.base d).error + s.time.remaining.natAbs)

/-- Slew by one tick (R355): the tick shortens or lengthens by at most 2 ns. -/
def State.slew (s : State) : State :=
  let p := s.time.part + s.cfg 0x2101 5
  let a := min (p / 50) s.time.remaining.natAbs
  let m := if s.time.remaining < 0 then -a else a
  if s.time.remaining = 0 then { s with time := { s.time with part := 0 } }
  else { s with
    clock := { s.clock with tb3 := (s.clock.tb3 - m).toNat }
    time := { s.time with remaining := s.time.remaining - m, part := p % 50 } }

/-- Time quality (0x2100:04). -/
def State.quality (s : State) : Nat :=
  if s.clock.provisional then 5
  else if s.time.step.isSome then 4
  else if s.cfgNat 0x2101 4 < s.time.error then 2
  else if s.time.discipline = 3 then 1
  else if s.time.remaining ≠ 0 then 3
  else 0

/-- Validity follows the estimate (R353). -/
def State.validity (s : State) : State :=
  let e := s.estimate
  let ok := !s.clock.provisional && decide (e ≤ s.cfgNat 0x2101 4)
  let was := s.time.valid
  let s : State := { s with time := { s.time with error := e, valid := ok } }
  let s : State := { s with time := { s.time with quality := s.quality } }
  if was ∧ !ok then (s.raise 0x1101 2 7 0xFF 0 (le 4 e)).trigger 11 s.now 0xFF
  else if ok ∧ s.access.conditions.any (fun c => c.code = 0x1101) then s.raise 0x1102 3 7 0xFF 0 (le 4 e)
  else s

/-- A standby's boundary moves with its active's (R348, R423). -/
def State.followPhase (s : State) : State :=
  { s with clock := { s.clock with tb3 := (s.clock.tb3 + s.pair.adjust).toNat }, pair := { s.pair with adjust := 0 } }

/-- Time at a tick boundary: ports, bases, steps, discipline, slew, validity. A standby's tick follows its active (R348). -/
def State.timeTick (s : State) : State :=
  let s := (List.range 2).foldl State.ptpTick s
  let tb0 := 4 ≤ (s.reference.sats.filter (fun x => x.state = 0)).length ∧ s.reference.clock.isSome
  let s := ((s.lockBase 0 tb0).lockBase 1 (s.ptpLocked 1)).lockBase 2 (s.ptpLocked 2)
  let s : State := { s with time := { s.time with since := s.time.since + 1 } }
  if s.isStandby then s.followPhase.validity
  else
    let s := s.makeSteps
    let s := if s.clock.provisional then s else s.chooseDiscipline.slew
    s.validity

/-! ## PPS (R360 to R363) -/

/-- Body of a write of 0x2101:09 (R347). -/
def State.orderTb1 (value : Nat) (s : State) : State × Answer :=
  if value ≠ 1 then refuse 0x06090030 s
  else confirm { s with time := { s.time with goTb1 := s.time.discipline = 2 } }

/-- RETURN_TO_TB1: 1 written to 0x2101:09 (R347). -/
def returnToTb1 (r : Req) (value : Nat) (s : State) : State := s.serveWrite r 0x2101 9 (le 1 value) (State.orderTb1 value)

/-- Time of base `b` (0xFF: the tick source) at an instant of the tick source, modulo 1 s (R24, R345). -/
def State.secondPart (s : State) (b : Nat) (instant : Int) : Int :=
  (instant + (if b = 3 then (s.clock.tb3 : Int) - s.clock.source else if b < 3 then (s.base b).offset else 0)) % 1000000000

/-- PPS_OUT_EDGE (R360, R361): an edge where the chosen base, once it has been locked, reaches a whole second after the cable
advance, at least 500 ms after the last one. -/
def ppsOutEdge (instant : Int) (s : State) : State :=
  let b := s.cfgNat 0x2105 2
  let ready : Bool := b = 3 || (b = 255 && !s.clock.provisional) || (decide (b < 3) && (s.base b).ever)
  let near : Bool := match s.time.ppsLast with | some t => decide (instant - t < 500000000) | none => false
  if !s.cfgOn 0x2105 1 ∨ !ready ∨ near ∨ s.secondPart b (instant + s.cfg 0x2105 4) ≠ 0 then s
  else ({ s with time := { s.time with ppsLast := some instant } } : State).emit (.pulse .ppsOut (s.cfgNat 0x2105 3 * 1000000))

/-- PPS_IN_EDGE (R363): the edge's offset from the nearest whole second of the tick source; far ones are rejected. -/
def ppsInEdge (instant : Int) (s : State) : State :=
  let m := instant % 1000000000
  let o := if m < 500000000 then m else m - 1000000000
  if !s.cfgOn 0x2105 5 then s
  else if 1000000 < o.natAbs then { s with time := { s.time with ppsRejected := s.time.ppsRejected + 1, ppsIn := false } }
  else { s with time := { s.time with ppsOffset := o, ppsIn := true } }

/-- Own rule of 0x2105:01 (R362): ball 33-30 is shared with the trigger output. -/
def State.enablePps (v : Int) (s : State) : State × Answer :=
  if v = 1 ∧ s.cfgAccepted 0x2A00 4 = 1 then (s.inUse "33-30" "trigger output", .refused 0x0F000002 0)
  else s.writeItems [numberItem (key 0x2105 1) v]

/-- PPS_OUT_ENABLE: a write of 0x2105:01. -/
def ppsOutEnable (r : Req) (value : Nat) (s : State) : State :=
  s.serveWrite r 0x2105 1 (le 1 value) (State.enablePps value)

def execPtpMessageReceive (port : Nat) (msg : PtpMsg) (s : State) : Host.Outcome State Fault Refusal :=
  running (ptpReceive port msg) s
def execPtpMessageInterval (port kind : Nat) (s : State) : Host.Outcome State Fault Refusal := running (ptpInterval port kind) s
def execAnnounceReceiptTimeout (port : Nat) (s : State) : Host.Outcome State Fault Refusal := running (announceTimeout port) s
def execReturnToTb1 (r : Req) (value : Nat) (s : State) : Host.Outcome State Fault Refusal := running (returnToTb1 r value) s
def execPpsOutEdge (instant : Int) (s : State) : Host.Outcome State Fault Refusal := running (ppsOutEdge instant) s
def execPpsInEdge (instant : Int) (s : State) : Host.Outcome State Fault Refusal := running (ppsInEdge instant) s
def execPpsOutEnable (r : Req) (value : Nat) (s : State) : Host.Outcome State Fault Refusal := running (ppsOutEnable r value) s

end Sys2Proof.Machine
end

