-- ==== Sys2Proof/Machine/Pair.lean ====
section
/-! DEFINITION. The pair: link, heartbeats, right of way, mirror before air, takeover, rejoining and planned handover (14
R417 to R437), with LINK_START, START, HEARTBEAT, PAIR_PULSE_EDGE, OWN_PAIR_BEACON_RECEIVE, TAKEOVER, PAIR_STARTUP_TIMEOUT,
INPUT, DELTA, MIRROR_DELTA_START, PAIR_ACK_RECEIVE, HALT, TRANSFER, PLANNED and PLANNED_HANDOVER. -/

namespace Sys2Proof.Machine

/-! ## Roles -/

/-- Chain address of the partner (R417). -/
def State.partnerAddress (s : State) : Nat :=
  let a := s.chain.address
  if a = 0 then 0 else if a % 2 = 1 then a + 1 else a - 1

/-- The pair is formed as far as this unit sees (R417, R471): enabled, keyed, and the partner's address is claimed. -/
def State.paired (s : State) : Bool :=
  s.cfgOn 0x2601 1 && decide (s.keys.security ≠ 0) && decide (s.chain.address ≠ 0) &&
    s.chain.seen.getLsbD (s.partnerAddress - 1)

/-- This unit holds the right of way in a pair. -/
def State.isActive (s : State) : Bool := s.pair.role = 1 || s.pair.role = 4

/-- The pair role changes (R533). -/
def State.setRole (role : Nat) (s : State) : State :=
  if s.pair.role = role then s
  else ({ s with pair := { s.pair with role := role } } : State).trigger 13 s.now 0xFF

/-- Pair epoch `a` is higher than `b` as a signed 16-bit difference (R425, R432). -/
def epochAbove (a b : U16) : Bool := decide (0 < (a - b).toInt)

/-- An authenticated frame of the own pair shows a pair epoch (R425): an active loses the right of way, a standby adopts. -/
def State.hearEpoch (e : U16) (s : State) : State :=
  if !epochAbove e s.pair.epoch then s
  else if s.isActive then
    let s := s.cutVerge.emit .cutOff
    let s : State := { s with air := { s.air with
      vergeWaiting := [], pa := false, txrx := false, vgPa := false, vgTxrx := false } }
    (s.raise 0x1404 1 7 0xFF 0 (le 2 e.toNat)).setRole 3
  else if s.isStandby then { s with pair := { s.pair with epoch := e } }
  else s

/-! ## The link -/

/-- Send START (R421): it opens a link and carries no authentication. -/
def State.sendStart (s : State) : State :=
  s.emit (.link 0 (.start s.pair.ownNonce s.chain.address Config.serial Config.mirrorLow Config.mirrorHigh))

/-- LINK_START (R420): alignment is lost; a fresh nonce is drawn, sequences restart at 0, START goes out. -/
def linkStart (s : State) : State :=
  if !s.paired ∨ s.halt.silent then s
  else
    let p := s.draw
    let s := p.2
    ({ s with pair := { s.pair with
      linkUp := false, startSent := true, ownNonce := le 16 p.1, partnerStarted := false, sendSeq := 0, receiveSeq := 0
      exchange := none } } : State).sendStart

/-- The mirror protocol version both units list, the highest of them (R422). -/
def sharedVersion (low high : Nat) : Option Nat :=
  let v := min Config.mirrorHigh high
  if Config.mirrorLow ≤ v ∧ low ≤ v then some v else none

/-- START (R420 to R422): with both nonces the link key is derived and the link is up. -/
def startReceive (nonce : Bytes) (address : Nat) (serial : U64) (low high : Nat) (s : State) : State :=
  if !s.paired ∨ s.halt.silent ∨ address ≠ s.partnerAddress ∨ (s.pair.linkUp ∧ nonce = s.pair.partnerNonce) then s
  else
    let s := if s.pair.startSent ∧ !s.pair.linkUp then s else linkStart s
    let v := sharedVersion low high
    let s : State := { s with
      pair := { s.pair with
        linkUp := true, partnerStarted := true, partnerNonce := nonce, partner := address, partnerSerial := serial, version := v
        sendSeq := 0, receiveSeq := 0 }
      keys := { s.keys with pairPort := true } }
    if v.isNone then
      s.raise 0x1405 1 4 0xFF 0 (le 2 Config.mirrorLow ++ le 2 Config.mirrorHigh ++ le 2 low ++ le 2 high)
    else s

/-- A frame of the pair link (R421): one that fails its tag or complement is discarded and reported; a skipped sequence is
reported and counts as a lost DELTA; a sequence already passed is discarded. -/
def State.linkFrame (h : LinkHead) (body : State → State) (s : State) : State :=
  let s := s.stamped h.stamp
  if !s.pair.linkUp ∨ s.halt.silent then s
  else if !h.tagOk then s.raise 0x1409 1 4 0xFF 0 (le 1 0)
  else if !h.compOk then s.raise 0x1409 1 4 0xFF 0 (le 1 1)
  else if h.seq < s.pair.receiveSeq then s
  else
    let skipped := s.pair.receiveSeq < h.seq
    let s : State := { s with pair := { s.pair with
      receiveSeq := h.seq + 1, gap := s.pair.gap || decide skipped
      partnerEpoch := if epochAbove h.epoch s.pair.partnerEpoch then h.epoch else s.pair.partnerEpoch } }
    let s := if skipped then s.raise 0x1409 1 4 0xFF 0 (le 1 2) else s
    body (s.hearEpoch h.epoch)

/-- Own HEARTBEAT (R421): its transmit stamp, and the receive stamp of the previous reply (active) or of this heartbeat (standby). -/
def State.sendHeartbeat (s : State) : State :=
  s.sendLink (.heartbeat s.pair.role (BitVec.ofInt 32 s.firmware) (s.pair.version.getD 0) s.now s.pair.received (s.pair.role = 3))

/-- The standby's boundary after a HEARTBEAT with stamps t1 and t2 (R423): the path delay of the previous exchange, its own reply sent
at t3 and received at t4, as delay request-response has it, tells by how much its clock leads the active's. -/
def Pair.aligned (p : Pair) (t1 t2 t4 : Int) : Pair :=
  { p with
    adjust := match p.exchange with
      | some (u1, u2, t3) => t2 - t1 - roundDiv ((u2 - u1) + (t4 - t3)) 2
      | none => p.adjust
    exchange := some (t1, t2, t2) }

/-- A standby takes the tick number of its active (R348), and with it the source's time and the numbering base (R24, R343). -/
def State.followNumber (tick : U32) (s : State) : State :=
  let k := tick - s.clock.tick
  if !s.isStandby ∨ k = 0 then s
  else
    let s := s.shiftTicks k
    let want := s.cfgNat 0x2101 1
    { s with
      clock := { s.clock with source := s.clock.source + fullStep s.time.numbering want k * 20000000 }
      time := { s.time with numbering := want }
      pair := { s.pair with exchange := none } }

/-- HEARTBEAT (R348, R423, R429): of an active it renews the right of way and is answered. -/
def heartbeatReceive (head : LinkHead) (role : Nat) (firmware : U32) (version : Nat) (sent echo : Int) (resync : Bool) (s : State) :
    State :=
  s.linkFrame head (fun s =>
    let fromActive := role = 1 ∨ role = 4
    let s := if fromActive then s.followNumber head.tick else s
    let s : State := { s with pair := { s.pair with
      partnerRole := role, partnerFirmware := firmware, linkHeard := s.pair.linkHeard || decide fromActive, partnerVersion := version
      received := s.now, resyncAsked := if fromActive then s.pair.resyncAsked else resync } }
    let s : State := if s.isStandby ∧ fromActive then { s with pair := s.pair.aligned sent s.now echo } else s
    if s.isStandby ∧ fromActive then s.sendHeartbeat else s)

/-- A high time is within 10 µs of a width (R419). -/
def pulseIs (width w : Nat) : Bool := decide (w ≤ width + 10) && decide (width ≤ w + 10)

/-- PAIR_PULSE_EDGE (R419, R423): a pulse of an active is heard; while the link is silent it sets the tick. -/
def pairPulseEdge (width : Nat) (offset : Int) (stamp : Nat) (s : State) : State :=
  let s := s.stamped stamp
  let heard := (pulseIs width 50 || pulseIs width 150 || pulseIs width 250) && decide (offset.natAbs ≤ 100)
  if !heard ∨ s.halt.silent then s
  else if pulseIs width 50 then
    { s with pair := { s.pair with
        pulseHeard := true, adjust := if s.isStandby ∧ 0 < s.pair.linkSilent then offset * 1000 else s.pair.adjust } }
  else s

/-- A verge frame is received (R264): one whose length or CRC fails is discarded, and failures of the CRC are counted. -/
def State.vergeHeard (verge : Option Bytes) (s : State) : Bool × State :=
  match verge with
  | none => (true, s)
  | some b =>
    if !vergeLengthOk b then (false, s)
    else if vergeCrcOk b then (true, s)
    else (false, { s with air := { s.air with crcFailures := s.air.crcFailures + 1 } })

/-- OWN_PAIR_BEACON_RECEIVE (R424, R425): a beacon on a carriageway, or a verge frame as its bytes after the sync word. -/
def ownPairBeacon (verge : Option Bytes) (epoch : U16) (authentic : Bool) (stamp : Nat) (s : State) : State :=
  let p := (s.stamped stamp).vergeHeard verge
  let s := p.2
  if !p.1 ∨ !authentic ∨ s.halt.silent then s
  else
    let s := s.hearEpoch epoch
    if epoch = s.pair.epoch then { s with pair := { s.pair with airHeard := true } } else s

/-! ## Becoming active -/

/-- A new active takes its epoch and role, and starts its mirror afresh (R428, R431). -/
def State.takeRight (epoch : U16) (s : State) : State :=
  ({ s with pair := { s.pair with
    epoch := epoch, lateRun := 0, deltaSent := none, ackResult := none, facts := [], commits := [], complete := false
    parts := 0, broken := false, answered := none, gap := false, plannedIn := none, waited := 0, exchange := none } } : State).setRole 4

/-- Plans and changes a new active cannot vouch for are late; its checkpoint requests are dropped as late work is (R31, R41,
R431). -/
def State.discardWork (s : State) : State :=
  let lost := s.checkpoint.queue ++ s.checkpoint.running.map (·.2) ++ s.checkpoint.found.map (·.request)
  let s : State := { s with checkpoint := { s.checkpoint with queue := [], running := [], found := [] } }
  let s := lost.foldl (fun (t : State) q => t.solveDropped q) s
  s.ledger.plans.foldl (fun (t : State) p => t.failPlan p 2) { s with due := [], ledger := { s.ledger with plans := [] } }

/-- Counters and windows of the air start anew under the new epoch; messages not acknowledged go out again (R431). -/
def State.freshAir (s : State) : State :=
  { s with
    air := { s.air with broadcast := 0, cws := (List.range 4).foldl (fun t c => tmod (fun _ => {}) t c (fun (w : Carriageway) =>
      { w with closed := false, tries := 0, skippedNow := false })) s.air.cws }
    airLanes := tmap (fun _ => {}) (fun (a : AirLane) => { a with
      counter := 0, admissionCounter := 0, window := {}, otherWindow := {}, admissionWindow := {}, oldCounter := 0
      unacked := a.unacked.map (fun m => { m with queued := true }) }) s.airLanes }

/-- Bursts of the last second go on from where they stand (R431). -/
def State.resumeBursts (s : State) : State :=
  { s with halt := { s.halt with
    bursts := (s.halt.bursts.filter (fun b => decide (s.now - b.began ≤ 1000000000))).map (fun b =>
      { b with next := max 1 (ceilDiv (s.now - b.began) 20000000).toNat }) } }

/-- Integrity faults of lanes end with the state taken over (R19, R431). -/
def State.soundLanes (s : State) : State :=
  s.listed.foldl (fun (t : State) n =>
    if (t.lane n).integrityFault then
      (t.onLane n (fun l => { l with integrityFault := false })).raise 0x0102 3 7 n n (le 1 1)
    else t) s

/-- What a new active does at its boundary (R431): epoch, role, counters and windows, messages and bursts again. Plans
and changes it cannot vouch for are late when `discard`. -/
def State.becomeActive (epoch : U16) (discard : Bool) (s : State) : State :=
  let s := s.takeRight epoch
  let s := if discard then s.discardWork else s
  s.freshAir.resumeBursts.soundLanes

/-- All three paths have been silent for `k` ticks (R424). -/
def State.allSilent (s : State) (k : Nat) : Bool :=
  decide (k ≤ s.pair.linkSilent) && decide (k ≤ s.pair.pulseSilent) && decide (k ≤ s.pair.airSilent)

/-- Something of the active has arrived since the boundary: it counts before any timeout of its slice (R35). -/
def State.heardNow (s : State) : Bool := s.pair.linkHeard || s.pair.pulseHeard || s.pair.airHeard

/-- TAKEOVER (R35, R424, R431): at a boundary, a synchronised standby that has heard nothing for 8 ticks. -/
def takeover (s : State) : State :=
  if s.pair.role = 2 ∧ s.allSilent 8 ∧ !s.heardNow ∧ s.clock.slice = 0 ∧ !s.halt.silent then
    let e := s.pair.epoch + 1
    let s := s.becomeActive e true
    let s : State := { s with pair := { s.pair with takeovers := s.pair.takeovers + 1 } }
    s.raise 0x1408 0 0 0xFF 0 (le 2 e.toNat)
  else s

/-- PAIR_STARTUP_TIMEOUT (R434): a starting unit that hears no active partner becomes active: 50 ticks for the odd address,
8 for the even. -/
def pairStartupTimeout (s : State) : State :=
  let k := if s.chain.address % 2 = 1 then 50 else 8
  if s.pair.role = 3 ∧ k ≤ s.pair.waited ∧ s.allSilent k ∧ !s.heardNow ∧ !s.halt.silent then
    let top := if epochAbove s.pair.partnerEpoch s.pair.epoch then s.pair.partnerEpoch else s.pair.epoch
    s.becomeActive (top + 1) true
  else s

/-! ## Mirror: the standby -/

/-- Run `f` as of the instant the active stamped (R36, R426). -/
def State.asStamped (tick : U32) (stamp : Nat) (f : State → State) (s : State) : State :=
  let o := s.clock.offset
  let s := f { s with clock := { s.clock with offset := if tick = s.clock.tick then stamp else 0 } }
  { s with clock := { s.clock with offset := o } }

/-- Settings items accepted. -/
def State.acceptItems (items : List WriteItem) (s : State) : State := items.foldl State.put s

/-- A cell-link message that the active accepted, at its standby (R426, R442). -/
def State.cellInput (pair : Nat) (msg : CellMsg) (s : State) : State :=
  match msg with
  | .region vertices horizon numbering => s.noteRegion pair vertices horizon numbering
  | .permitRequest plan border handover commit lane _ run => s.acceptPermit pair plan lane border handover commit run
  | .grant plan lane keySet => s.grantPlan plan lane keySet
  | .refusal plan _ => s.refusePlan plan
  | .commitNotice plan start legs stretches =>
    (match s.guestOf pair plan with | some x => s.finalGuest x.1 x.2 start legs stretches | none => s)
  | .withdrawal plan => (match s.guestOf pair plan with | some x => s.withdrawGuest x.1 | none => s)
  | .handover msg => (match s.guestOf pair msg.planId with | some x => s.arrive x.1 msg | none => s)
  | _ => s

/-- INPUT (R426, R430, R589): the standby takes plans under the active's plan IDs, settings, and power commands. -/
def inputReceive (head : LinkHead) (stamp : Nat) (item : InputItem) (s : State) : State :=
  s.linkFrame head (fun s =>
    if !s.isStandby then s
    else
      let named := fun (plan : U32) (t : State) => ({ t with ledger := { t.ledger with nextPlan := plan } } : State)
      s.asStamped head.tick stamp (fun s =>
        match item with
        | .route lane route plan => ((named plan s).submitRoute lane route).1
        | .command lane code plan =>
          if code = 1 then (named plan s).acceptPlan lane (.hold false) none
          else if code = 2 then (named plan s).acceptPlan lane .resume none
          else s
        | .limit lane writes plan =>
          ((named plan s).storeLimits none lane (writes.map (fun x => (x.sub, unleSigned x.data)))).1
        | .closure area writes _ => (s.changeArea none area (areaItems area writes)).1
        | .settings [x] =>
          if x.index = 0x2C00 ∧ x.sub = 2 then { s with power := { s.power with powerDue := some (byteAt x.data 0) } }
          else (s.acceptItems [x]).journal [x]
        | .settings items => (s.acceptItems items).journal items
        | .cell pair msg plan => (named plan s).cellInput pair msg
        | .other _ => s))

/-- The standby's own plan that a commit record names. -/
def State.ownPlan (s : State) (c : CommitRecord) : Option Plan :=
  s.ledger.plans.find? (fun p => p.id = c.planId && (p.what.ofLane = decide (c.lane ≠ 0xFF)))

/-- The version of a plan that a commit record names (R168): cut for kind 4; a guest plan in the lane the record reserves. -/
def CommitRecord.version (c : CommitRecord) (p : Plan) : Plan :=
  { p with result := some (if c.kind = 4 then 7 else 0), lane := if c.kind = 5 then c.lane else p.lane, req := none }

/-- The content CRC the standby derives for a record: of its own plan, or of an envelope withdrawal (R169). -/
def State.ownCrc (s : State) (c : CommitRecord) : Option U32 :=
  if c.kind = 7 then some (crc32 (List.replicate (16 * s.horizon) 0))
  else (s.ownPlan c).map (fun p => (s.commitRecord (c.version p)).crc)

/-- The standby's judgement of a DELTA (R169, R421, R427): 3 sequence gap, 2 complement, 1 content CRC, 4 a part absent, 0 held; with
the plan at fault. -/
def State.judgeDelta (s : State) : Nat × U32 :=
  let bad := s.pair.commits.find? (fun c => !c.compOk)
  let wrong := s.pair.commits.find? (fun c => decide (s.ownCrc c ≠ some c.crc))
  if s.pair.gap then (3, 0)
  else match bad, wrong with
    | some c, _ => (2, c.planId)
    | none, some c => (1, c.planId)
    | none, none => if s.pair.broken then (4, 0) else (0, 0)

/-- DELTA (R169, R427): parts gather; the last one is answered with one ACK. -/
def deltaReceive (head : LinkHead) (part : Nat) (facts : List Fact) (commits : List CommitRecord) (last : Bool) (s : State) : State :=
  s.linkFrame head (fun s =>
    if !s.isStandby then s
    else
      let s : State := { s with pair := { s.pair with
        parts := part + 1, broken := s.pair.broken || decide (part ≠ s.pair.parts)
        facts := s.pair.facts ++ facts, commits := s.pair.commits ++ commits, complete := s.pair.complete || last } }
      if !last then s
      else
        let j := s.judgeDelta
        let s : State := { s with pair := { s.pair with answered := some j.1, gap := false } }
        let s := if j.1 = 1 ∨ j.1 = 2 then s.raise 0x140A 1 4 0xFF 0 (le 1 j.1 ++ le 1 0 ++ le 4 j.2.toNat) else s
        s.sendLink (.ack head.tick j.1 s.pair.commits.length))

/-- A lane record of the snapshot, its halt record as this unit holds it (R218, R435). -/
def State.holdLane (n : Nat) (l : Lane) (s : State) : State := s.onLane n (fun x => { l with haltRecord := x.haltRecord })

/-- A checkpoint record of the active's; what is not mirrored stays this unit's own (R136). -/
def State.holdCheckpoint (n : Nat) (c : CkLane) (s : State) : State :=
  s.onCk n (fun x => { c with
    complete := x.complete, incomplete := x.incomplete, dropped := x.dropped, assembly := x.assembly, counted := x.counted })

/-- A verdict that commits at the active commits here: record, events, AGREE, the place of a lane in ADMITTING (R22, R127, R136,
R149). -/
def State.holdVerdict (n : Nat) (c : CkLane) (heading : Nat) (s : State) : State :=
  let before := (s.ck n).verdict
  let s := s.holdCheckpoint n c
  let s := if c.verdict = 0 ∧ s.admitting n then s.onLane n (fun l => { l with progress := l.progress ||| 4 }) else s
  let s := if c.verdict ≤ 1 ∧ s.laneIs n .admitting then s.standAt n { east := c.east, north := c.north, heading := heading } else s
  s.reportVerdict n before

/-- The message state of a lane as its active holds it: sequences, stored acknowledgements, held and unacknowledged messages, keys
(R332, R435). Statistics, counters and replay windows stay this unit's own (R431). -/
def AirLane.holdMessages (own active : AirLane) : AirLane :=
  { own with
    expected := active.expected, next := active.next, stored := active.stored, held := active.held, unacked := active.unacked
    waiting := active.waiting, keyGeneration := active.keyGeneration, relay := active.relay, configured := active.configured
    stateHeld := active.stateHeld }

/-- One state fact becomes the standby's own (R427, R435). -/
def State.applyFact (s : State) (f : Fact) : State :=
  match f with
  | .due n what => { s with due := s.due ++ [{ lane := n, what := what }] }
  | .report n pose stand telemetry =>
    s.onLane n (fun l => { l with pose := pose, standPose := stand, telemetry := telemetry, standstill := 2 })
  | .lane n record => s.holdLane n record
  | .verdict n record heading => s.holdVerdict n record heading
  | .checkpoint n record => s.holdCheckpoint n record
  | .haltRecord k record id =>
    let s := match k with
      | 0 => ({ s with halt := { s.halt with site := record } } : State)
      | 1 => ({ s with halt := { s.halt with cell := record } } : State)
      | m + 2 => s.onLane m (fun l => { l with haltRecord := record })
    { s with halt := { s.halt with ids := if inForce record then tset s.halt.ids k id else tdel s.halt.ids k } }
  | .setting index sub value => s.settle (key index sub) value
  | .item x => s.put x
  | .msn n record => s.onAirLane n (fun a => a.holdMessages record)
  | .pendingKey generation k state switch =>
    { s with keys := { s.keys with
        pendingKey := k, storePending := k, pendingGeneration := generation, pendingState := if k.isEmpty then 0 else state
        pendingCheck := if k.isEmpty then 0 else siteCheck k
        switchTick := if state = 3 then some switch else none, windowEnd := if state = 3 then some (switch + 100) else none } }
  | .planned boundary => { s with pair := { s.pair with plannedIn := some boundary } }
  | .plan n record => s.onRoute n (fun _ => record)
  | .guest n record => { s with guests := tset s.guests n record }

/-- One commit record takes effect at the standby: the plan it names commits if the lane permits it, and a withdrawn guest's
envelopes go (R167, R169, R427). -/
def State.commitMirrored (s : State) (c : CommitRecord) : State :=
  if c.kind = 7 then s.dropGuest c.lane
  else match s.ownPlan c with
    | some p => if s.permits p then s.commitPlan (c.version p) else s.failPlan (c.version p) 6
    | none => s

/-- A plan of a standby that no DELTA can name any more. -/
def State.unnamed (s : State) (p : Plan) : Bool :=
  atOrAfter s.clock.tick (p.submit + 2 + (if p.crossing.isSome then BitVec.ofNat 32 s.permitWait else 0))

/-- The standby's boundary (R427): the DELTA it acknowledged with 0 commits here, its changes in the order of R23; the transitions
that follow from mirrored plans and cell-link messages are made in any case. -/
def State.standbyBoundary (s : State) : State :=
  let ok : Bool := s.pair.complete && decide (s.pair.answered = some 0)
  let commits := if ok then s.pair.commits else []
  let s := if ok then (s.pair.facts.foldl State.applyFact s).selfStopStep.handoverStep else s
  let s := s.dropWithdrawn.takeLanes.beginHandovers
  let s := commits.foldl State.commitMirrored s
  let s : State := { s with ledger := { s.ledger with
    plans := s.ledger.plans.filter (fun p => !s.unnamed p && !commits.any (fun c => c.planId = p.id)) } }
  let s := if ok then s.commandStep.completeStep else s
  s.mismatchedGuests

/-! ## Mirror: the active -/

/-- A lane change without the request that a host waits on: the standby answers nobody (R433). -/
def DueWhat.silent : DueWhat → DueWhat
  | .command code _ => .command code none
  | .cancel _ => .cancel none
  | w => w

/-- The pending half as a state fact (R463, R466). -/
def State.keyFact (s : State) (state : Nat) : Fact :=
  .pendingKey s.keys.pendingGeneration s.keys.pendingKey state (s.keys.switchTick.getD 0)

/-- The state facts that have arisen and that no acknowledged DELTA has carried (R27, R136, R427): lane changes that fall due,
machines at standstill, verdicts and marks, sequence numbers, keys, PLANNED. -/
def State.stateFacts (s : State) : List Fact :=
  let dues := s.due.map (fun d => Fact.due d.lane d.what.silent)
  let reports := (s.lanes.filter (fun e => decide (e.2.standstill = 1))).map (fun e => Fact.report e.1 e.2.pose e.2.standPose e.2.telemetry)
  let verdicts := (s.checkpoint.found.filter (fun v => !v.after16)).map (fun v =>
    Fact.verdict v.request.lane ((s.commitVerdict v).ck v.request.lane) (field v.request.record 16 2))
  let marks := ((s.checkpoint.sent ++ s.checkpoint.marked).eraseDups).map (fun n => Fact.verdict n (s.ck n) 0)
  let msns := (s.airLanes.filter (fun a => (s.lane a.1).occupied)).map (fun a => Fact.msn a.1 a.2)
  let keys := if s.keys.verifyDue.isSome ∨ s.keys.owed ≠ 0 then [s.keyFact (if s.keys.verifyDue.isSome then 2 else s.keys.pendingState)]
    else []
  let planned := if s.pair.plannedReq.isSome ∧ s.pair.plannedFor.isNone then [Fact.planned (s.clock.tick + 1)] else []
  marks ++ dues ++ reports ++ verdicts ++ msns ++ keys ++ planned

/-- MIRROR_DELTA_START (R427, R436): at 16.0 ms the active sends the state facts, and PLANNED if a handover is asked. -/
def mirrorDeltaStart (s : State) : State :=
  let s := s.stamped 16000000
  if !s.isActive ∨ !s.pair.linkUp ∨ s.halt.silent ∨ s.pair.version.isNone then s
  else
    let facts := s.stateFacts
    let hand := s.pair.plannedReq.isSome ∧ s.pair.plannedFor.isNone ∧ s.pair.role = 1
    let s := if hand then s.sendLink (.planned (s.clock.tick + 1)) else s
    let s := s.sendLink (.delta s.clock.tick 0 facts [] false)
    { s with
        pair := { s.pair with deltaSent := some s.clock.tick, ackResult := none
                              plannedFor := if hand then some (s.clock.tick + 1) else s.pair.plannedFor }
        keys := { s.keys with verifySent := s.keys.verifySent || s.keys.verifyDue.isSome
                              owed := if s.keys.owed = 1 then 2 else s.keys.owed }
        due := s.due.map (fun d => { d with carried := true })
        checkpoint := { s.checkpoint with sent := s.checkpoint.sent ++ s.checkpoint.marked, marked := [] }
        lanes := tmap (fun _ => {}) (fun (l : Lane) => if l.standstill = 1 then { l with standstill := 2 } else l) s.lanes }

/-- PAIR_ACK_RECEIVE (R35, R421, R427): it counts if it answers this tick's DELTA and is stamped at or before 20.0 ms. The count of records
checked that it carries decides nothing. -/
def pairAck (head : LinkHead) (tick : U32) (result : Nat) (s : State) : State :=
  s.linkFrame head (fun s =>
    if s.isActive ∧ s.pair.deltaSent = some tick ∧ tick = s.clock.tick ∧ head.stamp ≤ 20000000 ∧ s.pair.ackResult.isNone then
      { s with pair := { s.pair with ackResult := some result } }
    else s)

/-- A decision the partner made: its tick for the records it brought into force, and its burst (R218, R239). -/
def State.holdDecision (site cell : U16) (lanes : List (Nat × U16)) (d : RemoteDecision) (s : State) : State :=
  let fresh := (if inForce site then [0] else []) ++ (if inForce cell then [1] else []) ++
    (lanes.filter (fun l => inForce l.2)).map (fun l => l.1 + 2)
  { s with halt := { s.halt with
      decidedAt := fresh.foldl (fun u k => if (tfind u k).isSome then u else tset u k d.tick) s.halt.decidedAt
      bursts := s.halt.bursts ++ [{
        haltId := d.haltId, site := inForce site, cell := inForce cell
        lanes := (lanes.filter (fun l => inForce l.2)).map (·.1), next := 1, delay := 0
        began := s.clock.source + (d.tick - s.clock.tick).toInt * 20000000 + d.offset + 2000000 }] } }

/-- A received halt record, or the one held where its complement does not match: an invalid value is never used (R10, R214). -/
def heldRecord (own received : U16) : U16 := if (codeOf received).isSome then received else own

/-- A standby holds its active's halt records, IDs and decisions from receipt (R218). -/
def State.holdRecords (site cell : U16) (lanes : List (Nat × U16)) (haltId : U16) (ids : List (Nat × U16)) (decisions : List RemoteDecision)
    (s : State) : State :=
  let s : State := lanes.foldl (fun (t : State) l => t.onLane l.1 (fun x => { x with haltRecord := heldRecord x.haltRecord l.2 })) s
  let s : State := { s with halt := { s.halt with
    site := heldRecord s.halt.site site, cell := heldRecord s.halt.cell cell, haltId := haltId
    ids := (0 :: 1 :: lanes.map (fun (l : Nat × U16) => l.1 + 2)).foldl (fun u k => match ids.lookup k with | some i => tset u k i | none => tdel u k) s.halt.ids } }
  decisions.foldl (fun (t : State) d => t.holdDecision site cell lanes d) s

/-- The partner's own sources become the partner source (R211). -/
def State.hearSources (sources : U16) (s : State) : State :=
  let contact := fun (b e : Nat) (scope : Nat) => sources.getLsbD b && s.cfgOn 0x2202 (5 + b) && s.cfgNat 0x2202 e = scope
  { s with halt := { s.halt with
      partnerCell := sources.getLsbD 2 || contact 0 3 2 || contact 1 4 2
      partnerSite := sources.getLsbD 3 || contact 0 3 3 || contact 1 4 3 } }

/-- HALT (R211, R218, R421): the partner's own sources become the partner source; a standby also holds the records, IDs and
decisions from receipt. -/
def haltReceive (head : LinkHead) (site cell : U16) (lanes : List (Nat × U16)) (haltId : U16) (ids : List (Nat × U16)) (sources : U16)
    (decisions : List RemoteDecision) (s : State) : State :=
  s.linkFrame head (fun s =>
    let s := s.hearSources sources
    if s.isStandby then s.holdRecords site cell lanes haltId ids decisions else s.sourcesChanged)

/-- TRANSFER (R435): the snapshot of the active's released state, part by part; its last part completes it. -/
def transferReceive (head : LinkHead) (facts : List Fact) (generation : U32) (last : Bool) (s : State) : State :=
  s.linkFrame head (fun s =>
    if s.pair.role ≠ 3 then s
    else
      let s := facts.foldl State.applyFact s
      let s := if last then s.journalAs generation (s.settings.accepted.map (fun e => numberItem e.1 e.2)) else s
      { s with
          pair := { s.pair with restored := s.pair.restored || last } })

/-- PLANNED (R436): the boundary at which a synchronised standby becomes active. -/
def plannedReceive (head : LinkHead) (boundary : U32) (s : State) : State :=
  s.linkFrame head (fun s => if s.pair.role = 2 then { s with pair := { s.pair with plannedIn := some boundary } } else s)

/-- Body of a planned handover (R436): answered at its boundary. -/
def State.askHandover (r : Req) (value : Nat) (s : State) : State × Answer :=
  if value ≠ 1 then refuse 0x06090030 s
  else if s.pair.role ≠ 1 ∨ s.pair.partnerRole ≠ 2 ∨ s.pair.plannedReq.isSome then refuse 0x08000022 s
  else ({ s with pair := { s.pair with plannedReq := some r } }, .pending)

/-- PLANNED_HANDOVER: a write of 0x2601:06. -/
def plannedHandover (r : Req) (value : Nat) (s : State) : State := s.serveWrite r 0x2601 6 (le 1 value) (State.askHandover r value)

/-! ## Boundary -/

/-- A path is silent a tick longer, or heard again (R424). -/
def quiet (heard : Bool) (n : Nat) : Nat := if heard then 0 else min 255 (n + 1)

/-- What the pair does at a boundary before anything commits: roles at start, paths of the tick just ended (R417, R424,
R434, R595). -/
def State.pairOpens (s : State) : State :=
  let s := if s.paired ∧ s.pair.role = 0 then (if 2 ≤ s.power.deviceState then s.setRole 3 else s)
    else if !s.paired ∧ s.pair.role ≠ 0 then
      ({ s with pair := { s.pair with linkUp := false, startSent := false, restored := false } } : State).setRole 0
    else s
  { s with pair := { s.pair with
      linkSilent := quiet s.pair.linkHeard s.pair.linkSilent, pulseSilent := quiet s.pair.pulseHeard s.pair.pulseSilent
      airSilent := quiet s.pair.airHeard s.pair.airSilent, linkHeard := false, pulseHeard := false, airHeard := false
      waited := if s.pair.role = 3 ∧ 2 ≤ s.power.deviceState then s.pair.waited + 1 else 0 } }

/-- The path events of a standby (R424). -/
def State.pathEvents (s : State) : State :=
  let p := s.pair
  let link := decide (8 ≤ p.linkSilent)
  let pulse := decide (8 ≤ p.pulseSilent)
  let air := decide (8 ≤ p.airSilent)
  let standby := s.isStandby
  let s : State := { s with pair := { s.pair with
    linkRaised := (p.linkRaised && link) || (standby && link && !pulse)
    pulseRaised := (p.pulseRaised && pulse) || (standby && pulse && !link)
    airOnly := standby && link && pulse && !air } }
  let s := if s.pair.linkRaised ∧ !p.linkRaised then s.raise 0x1401 2 4 0xFF 0 (le 1 0) else s
  let s := if !s.pair.linkRaised ∧ p.linkRaised then s.raise 0x1402 3 4 0xFF 0 (le 1 0) else s
  let s := if s.pair.pulseRaised ∧ !p.pulseRaised then s.raise 0x1401 2 4 0xFF 1 (le 1 1) else s
  let s := if !s.pair.pulseRaised ∧ p.pulseRaised then s.raise 0x1402 3 4 0xFF 1 (le 1 1) else s
  if s.pair.airOnly ∧ !p.airOnly then s.raise 0x1403 1 4 0xFF 0 [] else s

/-- Planned handover at its boundary (R436), on the side of the former active. -/
def State.handOver (s : State) : State :=
  match s.pair.plannedReq, s.pair.plannedFor with
  | some r, some b =>
    if b ≠ s.clock.tick then s
    else
      let s : State := { s with pair := { s.pair with plannedReq := none, plannedFor := none } }
      match s.pair.ackResult with
      | some 0 => (s.setRole 2).answer r (.done [])
      | some _ => s.answer r (.refused 0x08000022 0)
      | none => s.answer r (.refused 0x0F00000A 0)
  | _, _ => s

/-- The acknowledgement of the DELTA just ended is counted, and the active's role follows (R428, R429, R435). -/
def State.ackCounted (s : State) : State :=
  let sent := s.pair.deltaSent = some (s.clock.tick - 1)
  if s.pair.role = 1 then
    let s : State := if s.pair.ackResult = some 0 then { s with pair := { s.pair with lateRun := 0 } }
      else { s with pair := { s.pair with lateRun := min 3 (s.pair.lateRun + 1), lateTotal := saturate s.pair.lateTotal } }
    let s : State := if s.pair.ackResult = some 0 then { s with checkpoint := { s.checkpoint with sent := [] } } else s
    if 3 ≤ s.pair.lateRun then (s.raise 0x1406 2 4 0xFF 0 []).setRole 4 else s
  else if s.pair.role = 4 ∧ sent ∧ s.pair.ackResult = some 0 ∧ s.pair.snapshotSent then
    let s : State := { s with
      pair := { s.pair with lateRun := 0, snapshotSent := false, resyncAsked := false }, checkpoint := { s.checkpoint with sent := [] } }
    (s.raise 0x1407 3 4 0xFF 0 []).setRole 1
  else s

/-- The active's released state as a snapshot for TRANSFER (R435). -/
def State.snapshotFacts (s : State) : List Fact :=
  s.lanes.map (fun e => Fact.lane e.1 e.2) ++ s.guests.map (fun g => Fact.guest g.1 g.2) ++
    s.lanes.map (fun e => Fact.haltRecord (e.1 + 2) e.2.haltRecord ((tfind s.halt.ids (e.1 + 2)).getD 0)) ++
    [Fact.haltRecord 0 s.halt.site ((tfind s.halt.ids 0).getD 0), Fact.haltRecord 1 s.halt.cell ((tfind s.halt.ids 1).getD 0)] ++
    s.checkpoint.lanes.map (fun e => Fact.checkpoint e.1 e.2) ++
    s.airLanes.map (fun e => Fact.msn e.1 e.2) ++
    s.settings.accepted.map (fun e => Fact.setting (e.1 / 256) (e.1 % 256) e.2) ++
    (if s.keys.pendingState = 0 then [] else [s.keyFact s.keys.pendingState]) ++
    s.routes.map (fun e => Fact.plan e.1 e.2)

/-- What the pair does once everything at the boundary has committed: roles, handover, snapshot, the standby's steps, pulse
and HEARTBEAT (R419, R423, R428, R429, R431, R435, R436). -/
def State.pairCloses (s : State) : State :=
  let takes := s.pair.role = 2 ∧ s.pair.plannedIn = some s.clock.tick ∧ s.pair.answered = some 0
  let held := s.pair.answered = some 0
  let s := s.handOver.ackCounted
  let s := if s.pair.role = 3 ∧ s.pair.restored ∧ held ∧ s.pair.version.isSome then s.setRole 2
    else if s.pair.role = 2 ∧ s.pair.partnerRole = 4 then
      ({ s with pair := { s.pair with restored := false } } : State).setRole 3
    else s
  let s := s.pathEvents
  let s : State := { s with
    due := s.due.map (fun d => { d with carried := false })
    pair := { s.pair with deltaSent := none, ackResult := none, facts := [], commits := [], complete := false, parts := 0
                          broken := false, answered := none } }
  let s := if takes then s.becomeActive (s.pair.epoch + 1) false else s
  let s := if s.pair.role = 4 ∧ s.pair.resyncAsked ∧ !s.pair.snapshotSent ∧ s.pair.linkUp then
      let s := s.sendLink (.transfer s.snapshotFacts s.update.generation true)
      ({ s with pair := { s.pair with snapshotSent := true } } : State)
    else s
  if s.pair.role = 0 ∨ s.halt.silent then s
  else
    let width := if s.isActive then 50000 else if s.pair.role = 2 then 150000 else 250000
    let s := s.emit (.pulse .pairPulse width)
    let s := if s.pair.startSent ∧ !s.pair.linkUp then s.sendStart else s
    if s.isActive then s.sendHeartbeat else s

def execLinkStart (s : State) : Host.Outcome State Fault Refusal := running linkStart s
def execStart (nonce : Bytes) (address : Nat) (serial : U64) (low high : Nat) (s : State) : Host.Outcome State Fault Refusal :=
  running (startReceive nonce address serial low high) s
def execHeartbeat (head : LinkHead) (role : Nat) (build : PartnerBuild) (stamps : BeatStamps) (resync : Bool) (s : State) :
    Host.Outcome State Fault Refusal :=
  running (heartbeatReceive head role build.firmware build.version stamps.sent stamps.echo resync) s
def execPairPulseEdge (pulse : Pulse) (stamp : Nat) (s : State) : Host.Outcome State Fault Refusal :=
  running (pairPulseEdge pulse.widthUs pulse.offsetUs stamp) s
def execOwnPairBeaconReceive (beacon : OwnBeacon) (stamp : Nat) (s : State) : Host.Outcome State Fault Refusal :=
  running (ownPairBeacon beacon.verge beacon.epoch beacon.authentic stamp) s
def execTakeover (s : State) : Host.Outcome State Fault Refusal := running takeover s
def execPairStartupTimeout (s : State) : Host.Outcome State Fault Refusal := running pairStartupTimeout s
def execInput (head : LinkHead) (source stamp : Nat) (item : InputItem) (s : State) : Host.Outcome State Fault Refusal :=
  running (fun t => if source ≤ 3 then inputReceive head stamp item t else t) s
def execDelta (head : LinkHead) (part : DeltaPart) (facts : List Fact) (commits : List CommitRecord) (s : State) :
    Host.Outcome State Fault Refusal := running (deltaReceive head part.index facts commits part.last) s
def execMirrorDeltaStart (s : State) : Host.Outcome State Fault Refusal := running mirrorDeltaStart s
def execPairAckReceive (head : LinkHead) (tick : U32) (result _checked : Nat) (s : State) : Host.Outcome State Fault Refusal :=
  running (pairAck head tick result) s
def execHalt (head : LinkHead) (site cell : U16) (lanes : List (Nat × U16)) (haltId : U16) (ids : List (Nat × U16)) (sources : U16)
    (decisions : List RemoteDecision) (s : State) : Host.Outcome State Fault Refusal :=
  running (haltReceive head site cell lanes haltId ids sources decisions) s
def execTransfer (head : LinkHead) (facts : List Fact) (generation : U32) (last : Bool) (s : State) : Host.Outcome State Fault Refusal :=
  running (transferReceive head facts generation last) s
def execPlanned (head : LinkHead) (boundary : U32) (s : State) : Host.Outcome State Fault Refusal :=
  running (plannedReceive head boundary) s
def execPlannedHandover (r : Req) (value : Nat) (s : State) : Host.Outcome State Fault Refusal := running (plannedHandover r value) s

end Sys2Proof.Machine
end

