-- ==== Sys2Proof/Machine/Chain.lean ====
section
/-! DEFINITION. The chain address and the CANopen slave (14 R438 to R441; 12 R377, R399), with ADDRESS_CLAIM_START, QUERY,
ANNOUNCE, ADDRESS_CLAIM_TIMEOUT, ADDRESS_CLAIM_CONFIRM, ADDRESS_CLAIM_RETRY, ADDRESS_COMMAND, NMT_COMMAND and
CAN_HEARTBEAT_PRODUCE. -/

namespace Sys2Proof.Machine

/-- Send QUERY (R438). -/
def State.sendQuery (s : State) : State := s.emit (.can 0x7C1 (le 8 Config.serial.toNat))

/-- Send ANNOUNCE of an address with its flags (R438). -/
def State.sendAnnounce (address : Nat) (stored claiming : Bool) (s : State) : State :=
  s.emit (.can 0x7C0 (le 1 address ++ le 1 ((if stored then 1 else 0) + (if claiming then 2 else 0)) ++ le 1 s.pair.role ++
    le 1 0 ++ le 8 Config.serial.toNat ++ le 4 (s.cfg 0x2500 1)))

/-- The NMT boot-up message; the controller is pre-operational after it (R377, R439). -/
def State.bootUp (s : State) : State :=
  ({ s with access := { s.access with nmt := .preOperational } } : State).emit (.can (0x700 + s.chain.address) [0])

/-- SEL_OUT is driven (R439 to R441): not while the service UART holds the ball. -/
def State.selectOut (on : Bool) (s : State) : State :=
  if s.power.svcAlt then s
  else
    let t : State := { s with chain := { s.chain with selOut := on } }
    if s.chain.selOut = on then t else t.emit (.pin .selOut on)

/-- Step 1 of R439: a QUERY goes out, and the names heard start empty. -/
def State.claim (s : State) : State :=
  ({ s with chain := { s.chain with phase := 1, named := [], claiming := 0 } } : State).sendQuery

/-- ADDRESS_CLAIM_START (R439, R441): SEL_IN has been asserted for 10 ms. -/
def addressClaimStart (s : State) : State :=
  if s.power.svcAlt then
    if s.chain.stored = 0 then s.inUse "33-23" "SVC_RXD" else s
  else
    let s : State := { s with chain := { s.chain with selIn := true } }
    if s.chain.stored = 0 ∧ s.chain.phase = 0 then s.claim else s

/-- Start-up with a stored address (R440): ANNOUNCE with the stored flag, and SEL_OUT; the boot-up follows. -/
def State.announceStored (s : State) : State :=
  if s.chain.stored = 0 then s
  else
    let s : State := { s with chain := { s.chain with address := s.chain.stored, phase := 7 } }
    (s.sendAnnounce s.chain.stored true false).selectOut true

/-- The boot-up of a unit that announced its stored address and heard no other (R440). -/
def State.chainTick (s : State) : State :=
  if s.chain.phase = 7 then ({ s with chain := { s.chain with phase := 4 } } : State).bootUp else s

/-- QUERY (R439, R440): a unit with an address answers. One from the unit that announced the same stored address shows
that the owner has made it claim again, which ends the duplicate (log entry 27). -/
def query (serial : U64) (s : State) : State :=
  if s.chain.address = 0 then s
  else
    let s := s.sendAnnounce s.chain.address (decide (s.chain.stored ≠ 0)) false
    if s.chain.phase = 5 ∧ serial = s.chain.rival then
      (({ s with chain := { s.chain with phase := 4 } } : State).raise 0x140E 3 4 0xFF s.chain.address
        (le 1 s.chain.address)).bootUp
    else s

/-- ANNOUNCE (R439, R440): recorded; a claim on the same address goes to the lower serial number; two stored addresses that
agree withhold the boot-up. -/
def announce (address : Nat) (stored _claiming : Bool) (_role : Nat) (serial : U64) (_site : U32) (s : State) : State :=
  if address = 0 ∨ 32 < address then s
  else
    let c := s.chain
    let s : State := { s with
      chain := { c with
        seen := c.seen ||| BitVec.ofNat 32 (2 ^ (address - 1))
        named := if c.phase = 1 ∨ c.phase = 2 then address :: c.named else c.named
        phase := if c.phase = 2 ∧ address = c.claiming ∧ serial < Config.serial then 3 else c.phase } }
    if stored ∧ address = c.stored ∧ (c.phase = 4 ∨ c.phase = 7) ∧ serial ≠ Config.serial then
      let s : State := { s with
        chain := { s.chain with phase := 5, rival := serial }, access := { s.access with nmt := .initialising } }
      s.raise 0x140D 2 4 0xFF address (le 1 address)
    else s

/-- The lowest address from 1 to 32 that no ANNOUNCE has named (R439). -/
def lowestFree (named : List Nat) : Option Nat := ((List.range 32).map (· + 1)).find? (fun a => !named.contains a)

/-- ADDRESS_CLAIM_TIMEOUT (R439 step 3): 200 ms after the QUERY. -/
def addressClaimTimeout (s : State) : State :=
  if s.chain.phase ≠ 1 then s
  else match lowestFree s.chain.named with
    | some a => ({ s with chain := { s.chain with phase := 2, claiming := a } } : State).sendAnnounce a false true
    | none => ({ s with chain := { s.chain with phase := 6 } } : State).raise 0x140F 1 4 0xFF 0 []

/-- ADDRESS_CLAIM_CONFIRM (R439 step 5): 100 ms after an unopposed claim. -/
def addressClaimConfirm (s : State) : State :=
  if s.chain.phase ≠ 2 then s
  else
    let a := s.chain.claiming
    let s : State := { s with chain := { s.chain with phase := 4, address := a, stored := a, claiming := 0 } }
    (s.selectOut true).bootUp

/-- ADDRESS_CLAIM_RETRY (R439 step 4): 500 ms after a lost claim. -/
def addressClaimRetry (s : State) : State := if s.chain.phase = 3 then s.claim else s

/-- Body of a write of 0x2600:03 (R410, R440). -/
def State.forgetAddress (value : Nat) (s : State) : State × Answer :=
  if value ≠ 1 then refuse 0x06090030 s
  else if !s.allVacant ∨ s.cfgAccepted 0x2601 1 = 1 then refuse 0x08000022 s
  else
    let a := s.chain.address
    let was := s.chain.phase
    let s := s.selectOut false
    let s : State := { s with
      chain := { s.chain with address := 0, stored := 0, phase := 0, selIn := false, named := [], claiming := 0 }
      access := { s.access with nmt := .initialising } }
    ((if was = 5 then s.raise 0x140E 3 4 0xFF a (le 1 a) else s), .done [])

def addressCommand (r : Req) (value : Nat) (s : State) : State :=
  s.serveWrite r 0x2600 3 (le 1 value) (State.forgetAddress value)

/-- NMT_COMMAND (R377, R399): the states of CiA 1301; the two resets end in the boot-up. A unit that has not booted up
takes none (R439, R440; log entry 28). -/
def nmtCommand (code : Nat) (s : State) : State :=
  let into := fun (n : Nmt) => ({ s with access := { s.access with nmt := n } } : State)
  if s.chain.phase ≠ 4 then s
  else match code with
    | 1 => into .operational
    | 2 => into .stopped
    | 128 => into .preOperational
    | 129 => s.bootUp
    | 130 => s.bootUp
    | _ => s

/-- The state byte of a CiA 1301 heartbeat. -/
def nmtByte : Nmt → Nat
  | .initialising => 0 | .stopped => 4 | .operational => 5 | .preOperational => 127

/-- CAN_HEARTBEAT_PRODUCE (R377, 0x1017). -/
def canHeartbeat (s : State) : State :=
  if s.access.nmt = .initialising ∨ s.cfg 0x1017 0 = 0 then s
  else s.emit (.can (0x700 + s.chain.address) (le 1 (nmtByte s.access.nmt)))

def execAddressClaimStart (s : State) : Host.Outcome State Fault Refusal := running addressClaimStart s
def execQuery (serial : U64) (s : State) : Host.Outcome State Fault Refusal := running (query serial) s
def execAnnounce (address : Nat) (stored claiming : Bool) (role : Nat) (serial : U64) (site : U32) (s : State) :
    Host.Outcome State Fault Refusal := running (announce address stored claiming role serial site) s
def execAddressClaimTimeout (s : State) : Host.Outcome State Fault Refusal := running addressClaimTimeout s
def execAddressClaimConfirm (s : State) : Host.Outcome State Fault Refusal := running addressClaimConfirm s
def execAddressClaimRetry (s : State) : Host.Outcome State Fault Refusal := running addressClaimRetry s
def execAddressCommand (r : Req) (value : Nat) (s : State) : Host.Outcome State Fault Refusal := running (addressCommand r value) s
def execNmtCommand (code : Nat) (s : State) : Host.Outcome State Fault Refusal := running (nmtCommand code) s
def execCanHeartbeatProduce (s : State) : Host.Outcome State Fault Refusal := running canHeartbeat s

end Sys2Proof.Machine
end

