-- ==== Sys2Proof/Machine/Keys.lean ====
section
/-! DEFINITION. Keys and security (15 R450 to R472; 10 R333 to R335), with PENDING_KEY_WRITE, KEY_VERIFY, KEY_ANNOUNCE,
KEY_DISCARD, ROLLOVER_WINDOW_END, DEBUG_CERTIFICATE_OPEN, DEBUG_CERTIFICATE_CLOSE, TAMPER_DETECTED, VBAT_LOST and
VBAT_RESTORED. -/

namespace Sys2Proof.Machine

/-- The state after `f` on the keys. -/
def State.onKeys (f : Keys → Keys) (s : State) : State := { s with keys := f s.keys }

/-- The pending half zeroised in register and store, state 0 (R463). -/
def Keys.dropPending (k : Keys) : Keys :=
  { k with pendingKey := [], storePending := [], pendingGeneration := 0, pendingCheck := 0, pendingState := 0, verifyDue := none
           verifySent := false, announceDue := none, switchTick := none, windowEnd := none, switched := false }

/-- The generation that follows one in force: 1 after 255, any after none (R462). -/
def followsGeneration (current next : Nat) : Bool :=
  decide (1 ≤ next) && decide (next ≤ 255) && (decide (current = 0) || decide (next = current % 255 + 1))

/-- Body of a pending-key write (R462): `k` is the unwrapped key, none where the unwrap fails. -/
def State.loadPending (generation : Nat) (reserved : Bytes) (k : Option Bytes) (check : U32) (s : State) : State × Answer :=
  if reserved.any (· ≠ 0) then refuse 0x06090030 s
  else if s.keys.pendingState ≠ 0 then refuse 0x08000022 s
  else if !followsGeneration s.keys.generation generation then refuse 0x06090030 s
  else match k with
    | none => refuse 0x06040043 s
    | some k => confirm (s.onKeys (fun x => { x with
        pendingKey := k, storePending := k, pendingGeneration := generation, pendingCheck := check, pendingState := 1 }))

/-- The bytes of a pending-key write that the length check sees (R462). -/
def pendingKeyBytes (generation : Nat) (reserved : Bytes) (check : U32) : Bytes :=
  le 1 generation ++ reserved ++ List.replicate 40 0 ++ le 4 check.toNat

/-- The key that a session wrapped under its key transport key (R456, R462); none over another transport. -/
def State.unwrapped (s : State) (o : Origin) (wrapped : Bytes) : Option Bytes :=
  match o with
  | .vap k => match tfind s.access.sessions k with | some e => Crypto.unwrap e.transport wrapped | none => none
  | _ => none

def pendingKeyWrite (r : Req) (generation : Nat) (reserved wrapped : Bytes) (check : U32) (s : State) : State :=
  s.serveWrite r 0x2700 5 (pendingKeyBytes generation reserved check) (fun s =>
    if reserved.length ≠ 3 ∨ wrapped.length ≠ 40 then refuse 0x06070010 s
    else s.loadPending generation reserved (s.unwrapped r.origin wrapped) check)

/-- Body of key command 1 (R463): the check value is compared; the command is confirmed at a boundary. -/
def State.verifyKey (r : Req) (s : State) : State × Answer :=
  if s.keys.pendingState ≠ 1 ∨ s.keys.verifyDue.isSome then refuse 0x08000022 s
  else if siteCheck s.keys.pendingKey ≠ s.keys.pendingCheck then refuse 0x06040043 (s.onKeys Keys.dropPending)
  else (s.onKeys (fun k => { k with verifyDue := some r, verifySent := false }), .pending)

/-- Body of key command 2 (R335, R463): it waits for the next milestone boundary. -/
def State.announceKey (r : Req) (s : State) : State × Answer :=
  if s.keys.pendingState ≠ 2 ∨ s.keys.announceDue.isSome then refuse 0x08000022 s
  else (s.onKeys (fun k => { k with announceDue := some r }), .pending)

/-- Body of key command 3 (R463). -/
def State.discardKey (s : State) : State × Answer :=
  if (s.keys.pendingState ≠ 1 ∧ s.keys.pendingState ≠ 2) ∨ s.keys.announceDue.isSome then refuse 0x08000022 s
  else confirm ((s.answerOpt s.keys.verifyDue (.refused 0x08000022 0)).onKeys (fun k => { k.dropPending with owed := 1 }))

/-- Body of a key command (R463): codes other than 1 to 3 are refused. -/
def State.keyOrder (r : Req) (code : Nat) (s : State) : State × Answer :=
  match code with
  | 1 => s.verifyKey r
  | 2 => s.announceKey r
  | 3 => s.discardKey
  | _ => refuse 0x06090030 s

/-- A key command over any transport. -/
def keyCommand (r : Req) (code : Nat) (s : State) : State := s.serveWrite r 0x2700 6 (le 1 code) (State.keyOrder r code)

/-- Key command 1 at a boundary (R463): state 2 once the DELTA that carries the half is released, at once outside a pair. -/
def State.verifyBoundary (s : State) : State :=
  let carried := s.pair.role ≠ 1 || s.keys.verifySent
  let s := match s.keys.verifyDue with
    | some r =>
      if s.released ∧ carried then
        (s.onKeys (fun k => { k with pendingState := 2, verifyDue := none, verifySent := false })).answer r (.done [])
      else s.onKeys (fun k => { k with verifySent := false })
    | none => s
  s.onKeys (fun k => { k with owed := if s.pair.role ≠ 1 then 0 else if k.owed = 2 then (if s.released then 0 else 1) else k.owed })

/-- Every lane not VACANT. -/
def State.occupiedLanes (s : State) : List Nat := s.listed.filter (fun n => (s.lane n).occupied)

/-- The roll-over of R333 begins at milestone M: notice, deliveries with the pending set, switch and window-end ticks. -/
def State.beginRollover (s : State) : State :=
  let switch := s.clock.tick + 100
  let s := s.onKeys (fun k => { k with
    pendingState := 3, switchTick := some switch, windowEnd := some (s.clock.tick + 200), announceDue := none, owed := 1 })
  let s := s.notice 1 s.keys.pendingGeneration switch
  s.occupiedLanes.foldl (fun (t : State) n =>
    t.tell n 0x19 (le 1 1 ++ le 1 0 ++ t.keySet t.keys.pendingKey n t.keys.pendingGeneration 1 switch)) s

/-- The pending half becomes current, the old half is zeroised (R463, R464). -/
def Keys.promote (k : Keys) : Keys :=
  { k.dropPending with
    current := k.pendingKey, storeCurrent := k.pendingKey, generation := k.pendingGeneration, check := k.pendingCheck
    security := if k.security = 0 then 1 else k.security, owed := 1, interrupted := false }

/-- Key command 2 at a milestone boundary (R463). -/
def State.announceMilestone (s : State) : State :=
  match s.keys.announceDue with
  | none => s
  | some r => (if s.keys.generation = 0 then s.onKeys Keys.promote else s.beginRollover).answer r (.done [])

/-- The switch of R333 and R464: from its tick on the ports send under the new generation, counters from 0. -/
def State.rolloverSwitch (s : State) : State :=
  match s.keys.switchTick with
  | some t =>
    if s.keys.pendingState = 3 ∧ !s.keys.switched ∧ atOrAfter s.clock.tick t then
      let s := s.onKeys (fun k => { k with switched := true })
      { s with
          air := { s.air with broadcast := 0 }
          airLanes := tmap (fun _ => {}) (fun (a : AirLane) => { a with
            oldCounter := a.counter, counter := 0, admissionCounter := 0, otherWindow := a.window, window := {} }) s.airLanes }
    else s
  | none => s

/-- The window ends (R333, R464): lanes that never acknowledged the new set are reported, one event each. -/
def State.endRollover (s : State) : State :=
  let g := s.keys.pendingGeneration
  let behind := s.occupiedLanes.filter (fun n => (s.airLane n).keyGeneration ≠ g)
  let s := behind.foldl (fun (t : State) n =>
    ({ t with air := { t.air with incomplete := t.air.incomplete + 1 } } : State).raise 0x1002 1 4 n 0 (le 1 g)) s
  let s := s.onKeys Keys.promote
  { s with airLanes := tmap (fun _ => {}) (fun (a : AirLane) => { a with otherWindow := {} }) s.airLanes }

/-- ROLLOVER_WINDOW_END (R464). -/
def rolloverWindowEnd (s : State) : State :=
  match s.keys.windowEnd with
  | some t => if s.keys.pendingState = 3 ∧ atOrAfter s.clock.tick t then s.rolloverSwitch.endRollover else s
  | none => s

/-- A single unit that restarted in state 3 completes the roll-over at its first milestone boundary ready for lanes
(R466). -/
def State.rolloverAfterStart (s : State) : State :=
  if s.keys.interrupted ∧ s.keys.pendingState = 3 ∧ s.pair.role = 0 ∧ s.power.deviceState = 2 then s.rolloverSwitch.endRollover
  else s

/-- Which kind of debug certificate. -/
def debugBytes (kind version : Nat) (serial : U64) (count : U32) : Bytes :=
  le 1 version ++ le 1 kind ++ le 2 0 ++ le 8 serial.toNat ++ le 4 count.toNat ++ List.replicate 96 0

/-- Both register halves, every key port and both store halves are zeroised (R468, R469). -/
def Keys.zeroise (k : Keys) : Keys :=
  { k.dropPending with
    current := [], storeCurrent := [], generation := 0, check := 0, owed := 0, linkPort := false, networkPort := false
    pairPort := false, sealPort := false }

/-- Body of a debug certificate (R467 to R469, R471). The reset follows at the next boundary. -/
def State.debugCertificate (opens : Bool) (version : Nat) (serial : U64) (count : U32) (sigOk : Bool) (s : State) : State × Answer :=
  if version ≠ 1 then refuse 0x06090030 s
  else if s.power.state ≠ 1 ∨ (opens ∧ s.keys.security = 2) ∨ (!opens ∧ (s.keys.security ≠ 2 ∨ s.keys.development)) then
    refuse 0x0F000007 s
  else if !sigOk ∨ serial ≠ Config.serial ∨ count ≠ s.power.resets then refuse 0x06040043 s
  else
    let s := s.onKeys (fun k => { k.zeroise with security := if opens then 2 else 0, debugDue := some opens })
    confirm { s with power := { s.power with resetDue := true } }

def debugCertificate (opens : Bool) (r : Req) (version : Nat) (serial : U64) (count : U32) (sigOk : Bool) (s : State) : State :=
  s.serveWrite r 0x2700 7 (debugBytes (if opens then 1 else 2) version serial count)
    (State.debugCertificate opens version serial count sigOk)

/-- TAMPER_DETECTED (R472): counted and reported, at the next start where the unit does not run; nothing is zeroised. -/
def tamperDetected (s : State) : State :=
  let s := s.onKeys (fun k => { k with tamper := k.tamper + 1 })
  if s.power.phase = .running then s.raise 0x1501 1 7 0xFF 0 []
  else { s with power := { s.power with tamperOwed := s.power.tamperOwed + 1 } }

/-- VBAT_LOST (R472, R471): with the rails up the keeper domain runs from VDD_IO_A; without them it keeps nothing. -/
def vbatLost (s : State) : State :=
  if !s.power.vbatPresent then s
  else
    let s : State := { s with power := { s.power with vbatPresent := false } }
    match s.power.phase with
    | .running => s.raise 0x1503 1 2 0xFF 0 []
    | .off => { s with power := { s.power with rtcValid := false } }
    | .standby => { s with power := { s.power with phase := .off, rtcValid := false, standbyFlag := false, pwrEn := true } }
    | _ => s

/-- VBAT_RESTORED (R472): the RTC is invalid, and the unobserved tamper interval is reported. -/
def vbatRestored (unobserved : Nat) (s : State) : State :=
  if s.power.vbatPresent then s
  else
    let s : State := { s with power := { s.power with vbatPresent := true, rtcValid := false } }
    if s.power.phase = .running then s.raise 0x1504 0 0 0xFF 0 (le 4 unobserved)
    else { s with power := { s.power with unobserved := some unobserved } }

def execPendingKeyWrite (r : Req) (generation : Nat) (reserved wrapped : Bytes) (check : U32) (s : State) :
    Host.Outcome State Fault Refusal := running (pendingKeyWrite r generation reserved wrapped check) s
def execKeyVerify (r : Req) (s : State) : Host.Outcome State Fault Refusal := running (keyCommand r 1) s
def execKeyAnnounce (r : Req) (s : State) : Host.Outcome State Fault Refusal := running (keyCommand r 2) s
def execKeyDiscard (r : Req) (s : State) : Host.Outcome State Fault Refusal := running (keyCommand r 3) s
def execRolloverWindowEnd (s : State) : Host.Outcome State Fault Refusal := running rolloverWindowEnd s
def execDebugCertificateOpen (r : Req) (version : Nat) (serial : U64) (count : U32) (sigOk : Bool) (s : State) :
    Host.Outcome State Fault Refusal := running (debugCertificate true r version serial count sigOk) s
def execDebugCertificateClose (r : Req) (version : Nat) (serial : U64) (count : U32) (sigOk : Bool) (s : State) :
    Host.Outcome State Fault Refusal := running (debugCertificate false r version serial count sigOk) s
def execTamperDetected (s : State) : Host.Outcome State Fault Refusal := .next (tamperDetected s.begin)
def execVbatLost (s : State) : Host.Outcome State Fault Refusal := .next (vbatLost s.begin)
def execVbatRestored (unobserved : Nat) (s : State) : Host.Outcome State Fault Refusal := .next (vbatRestored unobserved s.begin)

end Sys2Proof.Machine
end

