-- ==== Sys2Proof/Machine/Gnss.lean ====
section
/-! DEFINITION. The GNSS signal path: antenna ports, AGC, channels, trackers, acquisition (02 R45 to R84), with
TRACKER_INTEGRATION_BOUNDARY, TRACKER_LOOP_UPDATE, REACQUISITION_GIVE_UP, L5_HANDOVER_TIMEOUT, ACQUISITION_SEARCH_START and
ACQUISITION_SEARCH_DONE. -/

namespace Sys2Proof.Machine

/-! ## Antenna ports (R48 to R50) -/

/-- Port 0 A or 1 B. -/
def State.port (s : State) (k : Nat) : Port := if k = 0 then s.gnss.portA else s.gnss.portB

/-- The state after `f` on port `k`. -/
def State.onPort (k : Nat) (f : Port → Port) (s : State) : State :=
  if k = 0 then { s with gnss := { s.gnss with portA := f s.gnss.portA } }
  else { s with gnss := { s.gnss with portB := f s.gnss.portB } }

/-- Port `k` is enabled. -/
def Units.portOn (u : Units) (k : Nat) : Bool := u.cfgOn 0x2301 (k + 1)

/-- The port's bias is asked for: port and bias enabled, not cut by the short policy (R48, R50). -/
def State.biasWanted (s : State) (k : Nat) : Bool := s.portOn k && s.cfgOn 0x2302 (6 + k) && !(s.port k).shortOff

/-- ANT_A_BIAS_EN and ANT_B_BIAS_EN follow. -/
def State.driveBias (k : Nat) (s : State) : State :=
  let on := s.biasWanted k
  if (s.port k).bias = on then s
  else (s.onPort k (fun p => { p with bias := on })).emit (.pin (if k = 0 then .antBiasA else .antBiasB) on)

/-- Port states that set ANT_FAULT (R49). -/
def portFault (state : Nat) : Bool := state = 1 || state = 2 || state = 3

/-- The port takes a state: events, recorder trigger, short policy (R48, R50). -/
def State.portState (k new : Nat) (s : State) : State :=
  let p := s.port k
  if p.state = new then s
  else
    let s := s.onPort k (fun x => { x with state := new, candidate := new, run := 0 })
    let s := s.raise 0x0205 0 0 0xFF 0 (le 1 k ++ le 1 p.state ++ le 1 new)
    let s := if portFault new then s.raise 0x0203 2 1 0xFF k (le 1 k ++ le 1 new ++ le 2 p.current)
      else if new = 0 ∧ s.access.conditions.any (fun c => c.code = 0x0203 && c.key = k) then
        s.raise 0x0204 3 1 0xFF k (le 1 k ++ le 1 0 ++ le 2 p.current)
      else s
    if p.state = 0 then s.trigger 19 s.now 0xFF else s

/-- ANTENNA_BIAS_SAMPLE (R48): ten agreeing samples change the state; a SHORT under policy 1 cuts the bias at once (R50). -/
def State.portSample (k current : Nat) (s : State) : State :=
  let sample := if !s.portOn k then 4 else if !s.biasWanted k then 3
    else if current < 10 * s.cfgNat 0x2302 (1 + 2 * k) then 1
    else if 10 * s.cfgNat 0x2302 (2 + 2 * k) < current then 2
    else 0
  let s := s.onPort k (fun p => { p with
    current := current, candidate := sample, run := if p.candidate = sample then min 10 (p.run + 1) else 1 })
  let s := if 10 ≤ (s.port k).run then s.portState k sample else s
  let s := if (s.port k).state = 2 ∧ s.cfg 0x2302 5 = 1 then
      ((s.onPort k (fun p => { p with shortOff := true })).driveBias k).portState k 3
    else s
  s.driveBias k

/-! ## RF chains (R45, R46) -/

/-- Chain `c`. -/
def State.rfChain (s : State) (c : Nat) : RfChain := tget (fun _ => {}) s.gnss.chains c

/-- Slices of one hour. -/
def hourSlices : Nat := 3600000

/-- The history with one more slice at a gain, cut to an hour. -/
def pushGain (g : Nat) (l : List (Nat × Nat)) : List (Nat × Nat) :=
  let l := match l with
    | (h, n) :: t => if h = g then (h, n + 1) :: t else (g, 1) :: (h, n) :: t
    | [] => [(g, 1)]
  (l.foldl (fun (p : List (Nat × Nat) × Nat) e =>
    if hourSlices ≤ p.2 then p else ((e.1, min e.2 (hourSlices - p.2)) :: p.1, p.2 + e.2)) ([], 0)).1.reverse

/-- Slices of the history at or below a gain. -/
def atOrBelow (g : Nat) (l : List (Nat × Nat)) : Nat := ((l.filter (fun e => decide (e.1 ≤ g))).map (·.2)).sum

/-- Median gain of the history: the least gain with at least half the slices at or below it. -/
def medianGain (l : List (Nat × Nat)) : Option Nat :=
  (List.range 141).find? (fun g => decide ((l.map (·.2)).sum ≤ 2 * atOrBelow g l) && !l.isEmpty)

/-- The chain's gain is held from the first captured sample to the last: while an IF snapshot fills from it, the slice of its trigger
included, and while an acquisition capture does (R45, R531). -/
def State.gainHeld (s : State) (c : Nat) : Bool :=
  s.gnss.captures.any (fun e => e.2.chain = c && decide (0 < e.2.left)) ||
    (List.range 4).any (fun u => s.cfgNat (0x2A10 + u) 2 = 5 && s.tripMask u / 16777216 % 4 = c &&
      ((s.tripUnit u).state = 3 || ((s.tripUnit u).state = 2 && !(s.tripUnit u).fired.isEmpty)))

/-- One step of 0.5 dB towards an RMS of 5.0 level units on I and on Q (R45); where they lie on opposite sides of it the gain stays
(log entry 122). -/
def agcStep (gain : Nat) (rms : Nat × Nat) : Nat :=
  if rms.1 ≤ 50 ∧ rms.2 ≤ 50 ∧ rms.1 + rms.2 < 100 then min 140 (gain + 1)
  else if 50 ≤ rms.1 ∧ 50 ≤ rms.2 ∧ 100 < rms.1 + rms.2 then max 20 (gain - 1)
  else gain

/-- The interference counts of a chain at a gain against the median (R46): slices more than 6 dB below, slices within 6 dB. -/
def RfChain.judge (x : RfChain) (gain : Nat) : RfChain :=
  match medianGain x.history with
  | none => { x with low := 0, within := min 100 (x.within + 1) }
  | some m =>
    { x with low := if gain + 12 < m then min 10 (x.low + 1) else 0
             within := if gain + 12 < m ∨ m + 12 < gain then 0 else min 100 (x.within + 1) }

/-- AGC_UPDATE of one chain, with interference detection (R45, R46). -/
def State.agc (c : Nat) (rms : Nat × Nat) (s : State) : State :=
  let x := s.rfChain c
  if !s.portOn (c / 2) then s
  else
    let gain := if s.gainHeld c then x.gain else agcStep x.gain rms
    let x := x.judge gain
    let was := x.interference
    let now' : Bool := if 10 ≤ x.low then true else if 100 ≤ x.within then false else was
    let x := { x with gain := gain, history := pushGain gain x.history, interference := now' }
    let s : State := { s with gnss := { s.gnss with chains := tput (fun _ => {}) s.gnss.chains c x } }
    if !was ∧ now' then s.raise 0x0201 2 7 0xFF c (le 1 c ++ le 1 gain)
    else if was ∧ !now' then s.raise 0x0202 3 7 0xFF c (le 1 c ++ le 1 gain)
    else s

/-- The acquisition captures fill by a slice (R54). -/
def State.captureSlice (s : State) : State :=
  { s with gnss := { s.gnss with captures := s.gnss.captures.map (fun e => (e.1, { e.2 with left := e.2.left - 1 })) } }

/-! ## Signals (R51) -/

/-- PRNs of a system. -/
def prnOk (system prn : Nat) : Bool :=
  match system with
  | 0 => decide (1 ≤ prn ∧ prn ≤ 32)
  | 1 => decide (1 ≤ prn ∧ prn ≤ 36)
  | 2 => decide (19 ≤ prn ∧ prn ≤ 63)
  | 3 => decide (193 ≤ prn ∧ prn ≤ 202)
  | _ => false

/-- Signal code of a system and band (R51, R77): 0 L1 C/A, 1 L1C, 2 E1, 3 B1C, 8 L5, 9 E5a, 10 B2a. -/
def State.signalCode (s : State) (system : Nat) (l5 : Bool) : Nat :=
  match system, l5 with
  | 1, false => 2 | 1, true => 9 | 2, false => 3 | 2, true => 10
  | _, false => if s.cfg 0x2303 2 = 1 then 1 else 0
  | _, true => 8

/-- The tracked component is a pilot: every signal but L1 C/A. -/
def pilotSignal (signal : Nat) : Bool := signal ≠ 0

/-- The tracked component is BOC(1,1). -/
def bocSignal (signal : Nat) : Bool := signal = 1 || signal = 2 || signal = 3

/-- Chips of the code tracked, its rate in chips per second, and its period in ms. -/
def codeLength (signal : Nat) : Nat := match signal with | 0 => 1023 | 2 => 4092 | _ => 10230
def chipRate (signal : Nat) : Nat := if 8 ≤ signal then 10230000 else 1023000
def codePeriod (signal : Nat) : Nat := match signal with | 0 => 1 | 1 => 10 | 2 => 4 | 3 => 10 | _ => 1

/-! ## Channels and trackers -/

/-- Channel `c`. -/
def State.channel (s : State) (c : Nat) : TrackChannel := tget (fun _ => {}) s.gnss.channels c

/-- The state after `f` on channel `c`. -/
def State.onChannel (c : Nat) (f : TrackChannel → TrackChannel) (s : State) : State :=
  { s with gnss := { s.gnss with channels := tmod (fun _ => {}) s.gnss.channels c f } }

/-- Tracker of a channel and band. -/
def TrackChannel.tracker (x : TrackChannel) (l5 : Bool) : Tracker := if l5 then x.l5 else x.l1

/-- The channel with `f` on the tracker of a band. -/
def TrackChannel.on (x : TrackChannel) (l5 : Bool) (f : Tracker → Tracker) : TrackChannel :=
  if l5 then { x with l5 := f x.l5 } else { x with l1 := f x.l1 }

/-- One cycle or chip in units of an NCO's phase (R67). -/
def ncoOne : Int := 281474976710656

/-- The code NCO after a change in 2^-48 chip (R67). -/
def CodeNco.advance (n : CodeNco) (length : Nat) (change : Int) : CodeNco :=
  let total := n.chip * ncoOne + n.phase.toNat + change
  { phase := BitVec.ofInt 48 total, chip := (total / ncoOne % length).toNat
    epochs := n.epochs + BitVec.ofInt 32 (total / ncoOne / length) }

/-- The carrier NCO after a change in 2^-48 cycle (R67). -/
def CarrierNco.advance (n : CarrierNco) (change : Int) : CarrierNco :=
  let total := n.phase.toNat + change
  { phase := BitVec.ofInt 48 total, cycles := n.cycles + BitVec.ofInt 32 (total / ncoOne) }

/-- A carrier NCO as one number modulo 2^80. -/
def CarrierNco.total (n : CarrierNco) : BitVec 80 := n.cycles ++ n.phase

/-- Code rate word of a signal at a carrier rate word: nominal rate and aiding by the carrier (R67, R70). -/
def codeRateOf (signal : Nat) (carrierRate : Int) : Int :=
  roundDiv (chipRate signal * ncoOne) 65000000 + roundDiv carrierRate (if 8 ≤ signal then 115 else 1540)

/-- Number of the sample at or after an instant of TB3, ns (65 samples each microsecond). -/
def sampleAt (ns : Nat) : Nat := (65 * ns + 999) / 1000

/-- The NCOs interpolated to an instant of TB3, ns (R74). -/
def Tracker.ncosAt (t : Tracker) (signal : Nat) (ns : Int) : CodeNco × CarrierNco :=
  let d := 65 * ns - 1000 * t.sample
  (t.code.advance (codeLength signal) (t.codeRate.toNat * d / 1000), t.carrier.advance (t.carrierRate.toInt * d / 1000))

/-- Code periods of one coherent integration (R68): one, or 20 ms on pilots where 0x2304:07 is set. -/
def Tracker.periods (t : Tracker) (signal : Nat) : Nat :=
  if t.loop.coherent ∧ pilotSignal signal then 20 / codePeriod signal else 1

/-- Samples to the code-period epoch that ends the integration (R68). -/
def Tracker.samplesLeft (t : Tracker) (signal : Nat) : Nat :=
  (ceilDiv ((t.periods signal * codeLength signal - t.code.chip : Int) * ncoOne - t.code.phase.toNat) t.codeRate.toNat).toNat

/-- The seven taps of R65 with the sums they gave, in 1/128 chip. -/
def Tracker.placed (t : Tracker) (signal : Nat) (x : TapSums) (y : SideSums) : List CorrTap :=
  let d : Int := t.loop.spacing
  let v : Int := if bocSignal signal then 64 else 2 * d
  let at' := fun (offset : Int) (sum : Int × Int) => ({ offset := offset + t.sweep, data := false, sum := sum } : CorrTap)
  [at' (-v) x.ve, at' (-d) x.e, at' 0 x.p, at' d x.l, at' v x.vl,
    { offset := t.sweep + (if pilotSignal signal then 0 else t.roving), data := pilotSignal signal, sum := y.pd }, at' 3840 y.n]

/-- Rates of a tracker in reacquisition (R61): those at the loss, extrapolated with the predicted Doppler rate of its band. -/
def extrapolated (rate : Int) (l5 : Bool) (lost : BitVec 48 × BitVec 48 × Nat) (sample : Nat) : BitVec 48 × BitVec 48 :=
  let change := roundDiv (rate * (sample - lost.2.2 : Int) * ncoOne) (1000 * 65000000 * 65000000)
  let change := if l5 then roundDiv (115 * change) 154 else change
  (lost.1 + BitVec.ofInt 48 (roundDiv change (if l5 then 115 else 1540)), lost.2.1 + BitVec.ofInt 48 change)

/-- Loop options in force (R70, R84). -/
def Units.loopSet (u : Units) : LoopSet :=
  { pllOrder := u.cfgNat 0x2304 1, pllBand := u.cfgNat 0x2304 2, fllOrder := u.cfgNat 0x2304 3, fllBand := u.cfgNat 0x2304 4
    dllBand := u.cfgNat 0x2304 5, spacing := u.cfgNat 0x2304 6, coherent := u.cfgOn 0x2304 7 }

/-- The tracker after an integration boundary (R61, R65, R67, R68): the NCOs have run to it, the taps are delivered, rates written for the
integration before take effect, and loop options that have changed. -/
def Tracker.boundary (t : Tracker) (signal : Nat) (l5 : Bool) (rate : Int) (sums : TapSums) (sides : SideSums) (loop : LoopSet) (roving sweep : Int) : Tracker :=
  let n := t.samplesLeft signal
  let rates := match t.phase, t.lost with
    | 4, some x => extrapolated rate l5 x (t.sample + n)
    | _, _ => t.written.getD (t.codeRate, t.carrierRate)
  { t with
    code := t.code.advance (codeLength signal) (t.codeRate.toNat * n), carrier := t.carrier.advance (t.carrierRate.toInt * n)
    sample := t.sample + n, integration := t.integration + 1, taps := t.placed signal sums sides, written := none, codeRate := rates.1
    carrierRate := rates.2, loop := loop, roving := roving, sweep := sweep }

/-- TRACKER_INTEGRATION_BOUNDARY (R65, R67, R68). The roving offset, from -2 to +2 chips, and the sweep of a reacquisition are free
values: the spec gives neither pattern (log entry 123). -/
def integrationBoundary (c : Nat) (l5 : Bool) (sums : TapSums) (sides : SideSums) (s : State) : State :=
  let x := s.channel c
  match x.sat with
  | none => s
  | some v =>
    let t := x.tracker l5
    if 80 ≤ c ∨ t.phase = 0 then s
    else
      let signal := s.signalCode v.system l5
      let a := s.draw
      let b := a.2.draw
      let sweep : Int := if t.phase = 4 then b.1 else 0
      b.2.onChannel c (fun y => y.on l5 (fun t => t.boundary signal l5 v.rate sums sides s.loopSet ((a.1 % 513 : Nat) - 256) sweep))

/-- Transmit time of a code NCO's value, in units of 2^-48 chip since code epoch 0 (R76). -/
def CodeNco.sent (n : CodeNco) (length : Nat) : Int := (n.epochs.toNat * length + n.chip : Nat) * ncoOne + n.phase.toNat

/-- The L5-band tracker starts from the L1-band one (R73): code phase aligned to the L1-band code epoch, both codes starting on whole
milliseconds of transmit time, and carrier Doppler times 115/154. -/
def TrackChannel.startL5 (x : TrackChannel) (signal tries : Nat) (loop : LoopSet) : TrackChannel :=
  let t := x.l1
  let sent := t.code.sent (codeLength signal)
  let carrier := roundDiv (t.carrierRate.toInt * 115) 154
  { x with l5 := { phase := 1, sample := t.sample, loop := loop, tries := tries
                   code := ({} : CodeNco).advance 10230 (10 * (sent % (1023 * ncoOne)))
                   tow := t.tow.map (· + sent / (1023 * ncoOne) * 1000000)
                   carrierRate := BitVec.ofInt 48 carrier, codeRate := BitVec.ofInt 48 (codeRateOf 8 carrier) } }

/-- What one loop update in time does to its tracker (R60, R61, R71, R72, R80). -/
def Tracker.update (t : Tracker) (o : LoopOut) : Tracker :=
  let high := if 800 ≤ o.indicator then t.high + o.elapsed else 0
  let weak := if o.cn0 < 2200 then t.weak + o.elapsed else 0
  let code := if 2200 ≤ o.cn0 then true else if 100 ≤ weak then false else t.codeLock
  let phaseLock := code && (if o.indicator < 600 then false else if 200 ≤ high then true else t.phaseLock)
  let lost := t.codeLock && !code
  let locks := phaseLock && !t.phaseLock
  let phase := if lost then 4
    else if t.phase = 4 then (if code then 3 else 4)
    else if t.phase = 1 then (if o.freqError < 100 then 2 else 1)
    else if phaseLock then 3 else if o.indicator < 600 then 2 else t.phase
  { t with
      written := some (BitVec.ofInt 48 o.codeRate, BitVec.ofInt 48 o.carrierRate), high := high, weak := weak, codeLock := code
      phaseLock := phaseLock, restarted := t.restarted || locks, lockNew := t.lockNew || locks, accNew := t.accNew || locks
      lockTicks := if phaseLock then t.lockTicks else 0, phase := phase, cn0 := o.cn0, fll := t.fll || decide (phase = 1 ∨ phase = 2)
      tow := if t.tow.isSome then t.tow else o.tow, half := t.half && o.polarity.isNone
      flip := t.flip || (t.half && decide (o.polarity = some true)), age := if lost then 0 else t.age
      lost := if lost then some (t.codeRate, t.carrierRate, t.sample) else if code then none else t.lost }

/-- What the navigation message gave: the ephemeris in place of an older one of its satellite, the almanac (R58, R78). -/
def Gnss.learn (g : Gnss) (o : LoopOut) : Gnss :=
  { g with
    cache := match o.eph with
      | some e => g.cache.filter (fun x => !(x.system = e.system && x.prn = e.prn)) ++ [e]
      | none => g.cache
    almanac := g.almanac || o.almanac }

/-- TRACKER_LOOP_UPDATE (R68, R69, R72, R73): rates for an integration already past are discarded and counted. -/
def loopUpdate (c : Nat) (l5 : Bool) (o : LoopOut) (s : State) : State :=
  let x := s.channel c
  let t := x.tracker l5
  if 80 ≤ c ∨ t.phase = 0 then s
  else if o.integration < t.integration then
    s.onChannel c (fun y => ({ y with late := saturate y.late } : TrackChannel).on l5 (fun t => { t with late := true }))
  else
    let u := t.update o
    let s := s.onChannel c (fun y => y.on l5 (fun _ => u))
    let s : State := { s with
      gnss := s.gnss.learn o, time := { s.time with utcOffset := if o.leap.isSome then o.leap.map (· + 19) else s.time.utcOffset } }
    match x.sat with
    | some v =>
      if !l5 ∧ u.phaseLock ∧ !t.phaseLock ∧ v.l5 ∧ x.l5.phase = 0 ∧ x.l5.tries = 0 then
        s.onChannel c (fun y => y.startL5 (s.signalCode v.system false) 1 s.loopSet)
      else s
    | none => s

/-! ## Acquisition (R53 to R62) -/

/-- Two views are of one satellite. -/
def sameSat (v w : SatView) : Bool := v.system = w.system && v.prn = w.prn

/-- The channel that holds a satellite on a port. -/
def State.channelOf (s : State) (v : SatView) (portB : Bool) : Option Nat :=
  (List.range 80).find? (fun c => (s.channel c).portB = portB && (s.channel c).sat.any (sameSat v))

/-- Place of a search in the order of R57: port A first; higher elevation first; unknown ones last, by system and PRN. -/
def SearchReq.key (r : SearchReq) : Int :=
  (if r.portB then 10000000000 else 0) +
    (match r.sat.elev with | some e => (900 - e) * 100000 | none => 1000000000) + r.sat.system * 1000 + r.sat.prn

/-- Two searches are for one satellite on one port. -/
def SearchReq.same (r q : SearchReq) : Bool := sameSat r.sat q.sat && r.portB = q.portB

/-- A satellite waits for a search, once. -/
def State.queueSearch (r : SearchReq) (s : State) : State :=
  if s.gnss.searches.any r.same ∨ s.gnss.units.any (fun e => r.same e.2.req) then s
  else { s with gnss := { s.gnss with searches := s.gnss.searches ++ [r] } }

/-- GPS time of the tick boundary by the tick source, ns. -/
def Units.gpsTick (u : Units) : Int := u.clock.source - (if u.time.numbering = 1 then ptpLead else 0)

/-- The ephemeris held for a satellite. -/
def Units.ephOf (u : Units) (v : SatView) : Option Eph := u.gnss.cache.find? (fun e => e.system = v.system && e.prn = v.prn)

/-- An ephemeris is not older than its curve-fit interval (R78, R96). -/
def ephCurrent (e : Eph) (t : Int) : Bool := decide (t - e.toe ≤ e.fit)

/-- Time aiding to 10 us (R58): TB1, or PPS_IN while TB1 or a valid holdover numbers its seconds (R363). -/
def State.fineTime (s : State) : Bool :=
  bit (s.cfgNat 0x2305 1) 0 && ((s.base 1).locked || (s.time.ppsIn && s.time.discipline = 3 && s.time.valid))

/-- Time aiding to 2 s (R58, R579). -/
def State.coarseTime (s : State) : Bool :=
  bit (s.cfgNat 0x2305 1) 0 && s.power.rtcValid && (match s.power.offsetsAt with
    | some t => decide (s.power.rtc - t ≤ 86400000)
    | none => false)

/-- Position aiding (R58): a reference in force, or a configured position. -/
def State.placeKnown (s : State) : Bool :=
  bit (s.cfgNat 0x2305 1) 1 && (s.reference.state = 2 || s.reference.state = 3 || (s.settings.positionSet && s.cfg 0x2306 1 = 0))

/-- Ephemeris aiding for a satellite (R58). -/
def State.ephKnown (s : State) (v : SatView) : Bool :=
  bit (s.cfgNat 0x2305 1) 2 && (s.ephOf v).any (fun e => ephCurrent e s.gpsTick)

/-- Search mode by the aiding held (R58, R579): 0 cold, 1 warm, 2 aided. -/
def State.searchMode (s : State) (v : SatView) : Nat :=
  let aid := s.cfgNat 0x2305 1
  let osc2 := bit aid 3 && (s.power.refLocked || decide (3000 ≤ (s.base 1).run))
  let osc1 := bit aid 3 && s.power.offsetsAt.isSome
  let orbit := (bit aid 2 && s.gnss.almanac) || s.ephKnown v
  if s.fineTime && s.placeKnown && s.ephKnown v && osc2 then 2
  else if (s.fineTime || s.coarseTime) && s.placeKnown && orbit && (osc2 || osc1) then 1
  else 0

/-- Block length of the search of a signal in ms, its resampled rate in 0.1 ksps, and its code-phase step in 0.0001 chip (R55). -/
def blockMs (signal : Nat) : Nat := match signal with | 0 => 2 | 1 => 10 | 2 => 4 | 3 => 10 | _ => 1
def searchRate (signal : Nat) : Nat := match signal with | 0 => 163840 | 1 => 32768 | 2 => 81920 | 3 => 32768 | _ => 327680
def codeStep (signal : Nat) : Nat := match signal with | 0 => 625 | 2 => 1250 | _ => 3122

/-- Doppler bin in 0.1 mHz: 1 / (2T) (R55). -/
def dopplerBin (signal : Nat) : Nat := 5000000 / blockMs signal

/-- Doppler uncertainty of a mode in 0.1 mHz: the satellite term and the oscillator term at the band's carrier (R58). -/
def dopplerSpan (mode : Nat) (l5 : Bool) : Nat :=
  (match mode with | 0 => 42000000 | 1 => 1100000 | _ => 10000) +
    (match mode, l5 with | 0, false => 39385500 | 0, true => 29411250 | 1, false => 7877100 | 1, true => 5882250
                         | _, false => 315084 | _, true => 235290)

/-- Doppler bins searched. -/
def dopplerBins (mode signal : Nat) : Nat :=
  (2 * dopplerSpan mode (decide (8 ≤ signal)) + dopplerBin signal - 1) / dopplerBin signal

/-- Blocks of the dwell (R58): 16, 8 or 4 ms of them, at least one. -/
def dwellBlocks (mode signal : Nat) : Nat := max 1 ((match mode with | 0 => 16 | 1 => 8 | _ => 4) / blockMs signal)

/-- Code bins tested at each Doppler bin (R58): one code period, or in aided mode the window of 10.033 us to either side. -/
def codeBins (mode signal : Nat) : Nat :=
  if mode = 2 then
    let chips := 2 * ((10033 * chipRate signal + 999999999) / 1000000000)
    (chips * 10000 + codeStep signal - 1) / codeStep signal
  else searchRate signal * codePeriod signal / 10

/-- Chain of a search: 0 A-L1, 1 A-L5, 2 B-L1, 3 B-L5. -/
def SearchReq.chain (r : SearchReq) : Nat := (if r.portB then 2 else 0) + (if r.l5 then 1 else 0)

/-- A capture serves a search: its chain, signal and mode, and the satellite not yet searched in it. -/
def Capture.serves (k : Capture) (r : SearchReq) (signal mode : Nat) : Bool :=
  k.chain = r.chain && k.signal = signal && k.mode = mode && !k.searched.contains (r.sat.system, r.sat.prn)

/-- The buffer a search reads, and whether it captures anew (R54): one that serves it, else one that no running search reads. -/
def Gnss.buffer (g : Gnss) (r : SearchReq) (signal mode : Nat) : Option (Nat × Bool) :=
  match g.captures.find? (fun e => e.2.serves r signal mode) with
  | some e => some (e.1, false)
  | none => ((List.range 4).find? (fun b => !g.units.any (fun u => u.2.buffer = b))).map (·, true)

/-- A search starts on a unit (R53 to R55, R59): its capture, and its FFT passes, forward ones for a new capture. -/
def State.beginSearch (unit : Nat) (r : SearchReq) (s : State) : State :=
  let signal := s.signalCode r.sat.system r.l5
  let mode := s.searchMode r.sat
  match s.gnss.buffer r signal mode with
  | none => s
  | some (b, fresh) =>
    let bins := dopplerBins mode signal
    let blocks := dwellBlocks mode signal
    let k : Capture := { chain := r.chain, signal := signal, mode := mode, left := blocks * blockMs signal }
    let k := if fresh then k else (tfind s.gnss.captures b).getD k
    let s : State := { s with gnss := { s.gnss with
      searches := s.gnss.searches.filter (fun q => !r.same q), mode := mode
      units := tset s.gnss.units unit { req := r, mode := mode, bins := bins, blocks := blocks, cells := codeBins mode signal, buffer := b }
      captures := tset s.gnss.captures b { k with searched := k.searched ++ [(r.sat.system, r.sat.prn)] }
      firstFrom := if s.gnss.firstFrom.isNone then some (s.clock.tb3 + s.clock.offset) else s.gnss.firstFrom } }
    s.count 0xA00 (bins * blocks * (if fresh then 2 else 1))

/-- ACQUISITION_SEARCH_START (R53, R57 to R59): the next search in order takes a free FFT unit. -/
def searchStart (s : State) : State :=
  match s.gnss.searches, (List.range 4).find? (fun u => (tfind s.gnss.units u).isNone) with
  | h :: t, some u => s.beginSearch u (t.foldl (fun a b => if b.key < a.key then b else a) h)
  | _, _ => s

/-- The tracker a detection is handed to (R60, R72). -/
def detectionTracker (d : Detection) (signal mode sample : Nat) (loop : LoopSet) : Tracker :=
  { phase := 1, code := ({} : CodeNco).advance (codeLength signal) d.codePhase, carrierRate := BitVec.ofInt 48 d.carrierRate
    codeRate := BitVec.ofInt 48 (codeRateOf signal d.carrierRate), sample := sample, loop := loop
    tow := if 1 ≤ mode then some d.epoch else none, half := signal = 0 }

/-- Channels in use: in Quiet 16, on port A (R588). -/
def Units.channelCount (u : Units) : Nat := if u.power.state = 1 then 16 else 80

/-- The lowest-numbered free channel: the spec does not say which a satellite gets (log entry 124). -/
def State.freeChannel (s : State) : Option Nat := (List.range s.channelCount).find? (fun c => (s.channel c).sat.isNone)

/-- A detection is handed to the satellite's channel, or to a free one (R60, R62, R72). A thrice failed L5-band tracker stays idle until
the channel is reassigned (R73). -/
def State.handDetection (q : Search) (d : Detection) (s : State) : State :=
  let r := q.req
  let signal := s.signalCode r.sat.system r.l5
  let t := detectionTracker d signal q.mode (sampleAt (s.clock.tb3 + s.clock.offset)) s.loopSet
  match s.channelOf r.sat r.portB with
  | some c => s.onChannel c (fun x =>
      if r.l5 then { x with l5 := t } else { x with l1 := t, l5 := if 3 ≤ x.l5.tries then x.l5 else {} })
  | none => match s.freeChannel with
    | some c => s.onChannel c (fun x => { sat := some r.sat, portB := r.portB, late := x.late, l1 := if r.l5 then {} else t
                                          l5 := if r.l5 then t else {} })
    | none => s

/-- The search that follows a vain one (R56): the L5-band signal directly, where the L1-band tracker holds no code lock and time, position
and ephemeris aiding are all valid; else the L1-band signal. -/
def State.searchAgain (r : SearchReq) (s : State) : State :=
  match s.channelOf r.sat r.portB with
  | none => s
  | some c =>
    let direct := !r.l5 && r.sat.l5 && !(s.channel c).l1.codeLock && (s.fineTime || s.coarseTime) && s.placeKnown && s.ephKnown r.sat
    s.queueSearch { r with l5 := direct }

/-- ACQUISITION_SEARCH_DONE (R55, R56, R60, R72): the unit is free; a detection is handed on, a search that finds nothing waits
again. -/
def searchDone (unit : Nat) (found : Option Detection) (s : State) : State :=
  match tfind s.gnss.units unit with
  | none => s
  | some q =>
    let s : State := { s with gnss := { s.gnss with units := tdel s.gnss.units unit } }
    match found with
    | some d => s.handDetection q d
    | none => s.searchAgain q.req

/-- A channel given up or released keeps its counter. -/
def TrackChannel.cleared (x : TrackChannel) : TrackChannel := { late := x.late }

/-- REACQUISITION_GIVE_UP (R62): 10 s after the loss the tracker gives up its channel, and the satellite is searched. -/
def reacquisitionGiveUp (c : Nat) (l5 : Bool) (s : State) : State :=
  let x := s.channel c
  let t := x.tracker l5
  if 80 ≤ c ∨ t.phase ≠ 4 ∨ t.age < 10000 then s
  else match x.sat with
    | some v => (s.onChannel c TrackChannel.cleared).queueSearch { sat := v, portB := x.portB }
    | none => s

/-- L5_HANDOVER_TIMEOUT (R73): no L5-band code lock within 200 ms; the third failure is reported. The 1 s to the next attempt runs on from
the start of this one (log entry 125). -/
def l5Timeout (c : Nat) (s : State) : State :=
  let x := s.channel c
  if 80 ≤ c ∨ x.l5.codeLock ∨ !(x.l5.phase = 1 || x.l5.phase = 2) ∨ x.l5.age < 200 then s
  else
    let s := s.onChannel c (fun y => { y with l5 := { tries := y.l5.tries, age := y.l5.age } })
    if x.l5.tries < 3 then s
    else match x.sat with
      | some v => s.raise 0x0206 1 7 0xFF 0 (le 1 c ++ le 1 v.system ++ le 1 v.prn)
      | none => s

/-! ## Tick boundary -/

/-- Systems enabled. -/
def Units.systemOn (u : Units) (k : Nat) : Bool := bit (u.cfgNat 0x2303 1) k

/-- A channel keeps its satellite (R64): port and system on, not known to lie more than 1 degree below the mask. -/
def State.keepsSat (s : State) (view : List SatView) (x : TrackChannel) : Bool :=
  match x.sat with
  | none => true
  | some v => s.portOn (if x.portB then 1 else 0) && s.systemOn v.system &&
      view.any (fun w => sameSat w v && (match w.elev with | some e => decide (s.cfg 0x2303 3 - 10 ≤ e) | none => true))

/-- One satellite goes before another (R57, R64): known elevations descending, then system and PRN. -/
def satBefore (v w : SatView) : Bool :=
  match v.elev, w.elev with
  | some a, some b => decide (b < a)
  | some _, none => true
  | none, some _ => false
  | none, none => decide (v.system * 1000 + v.prn < w.system * 1000 + w.prn)

/-- Insert in that order. -/
def insertSat (v : SatView) : List SatView → List SatView
  | [] => [v]
  | w :: t => if satBefore v w then v :: w :: t else w :: insertSat v t

/-- Satellites in that order. -/
def byElevation (l : List SatView) : List SatView := l.foldl (fun t v => insertSat v t) []

/-- A satellite takes a free channel of a port and waits for a search, unless it has one (R64). -/
def State.assignSat (v : SatView) (portB : Bool) (s : State) : State :=
  if (s.channelOf v portB).isSome then s
  else match s.freeChannel with
    | some c => (s.onChannel c (fun y => { sat := some v, portB := portB, late := y.late })).queueSearch { sat := v, portB := portB }
    | none => s

/-- CHANNEL_ASSIGNMENT (R57, R64, R588): releases below the mask, then assigns in descending elevation, port A before port B. Satellites
whose elevation is not known, of which a cold start has nothing else, come after the others (log entry 124). -/
def State.assignChannels (view : List SatView) (s : State) : State :=
  let s : State := (List.range 80).foldl (fun (t : State) c =>
    let x := t.channel c
    let t := if t.keepsSat view x && decide (c < t.channelCount) && !(t.power.state = 1 && x.portB) then t
      else t.onChannel c TrackChannel.cleared
    t.onChannel c (fun y => { y with sat := y.sat.map (fun v => (view.find? (sameSat v)).getD v) })) s
  let wanted := (byElevation view).filter (fun v => prnOk v.system v.prn && s.systemOn v.system &&
    (match v.elev with | some e => decide (s.cfg 0x2303 3 < e) | none => true))
  let s := if s.portOn 0 then wanted.foldl (fun (t : State) v => t.assignSat v false) s else s
  if s.portOn 1 && s.power.state ≠ 1 then wanted.foldl (fun (t : State) v => t.assignSat v true) s else s

/-- A tracker ages by a tick: times of reacquisition and handover, lock time (R61, R62, R73, R77). -/
def Tracker.tick (t : Tracker) : Tracker :=
  { t with age := t.age + 20, lockNew := false
           lockTicks := if t.phaseLock && !t.lockNew then min 65535 (t.lockTicks + 1) else 0 }

/-- A chain that a settings change restarts: its trackers reacquire (R84). -/
def Tracker.reacquire (t : Tracker) : Tracker :=
  if t.phase = 0 then t
  else { t with phase := 4, codeLock := false, phaseLock := false, age := 0, high := 0, weak := 0
                lost := some (t.codeRate, t.carrierRate, t.sample) }

/-- Trackers of a channel whose chain restarts (R84). -/
def TrackChannel.restartOn (x : TrackChannel) (chains : List Nat) : TrackChannel :=
  let c := if x.portB then 2 else 0
  { x with l1 := if chains.contains c then x.l1.reacquire else x.l1, l5 := if chains.contains (c + 1) then x.l5.reacquire else x.l5 }

/-! ## The latch (R74, R76, R80) -/

/-- Speed of light, m/s. -/
def lightSpeed : Int := 299792458

/-- Carrier frequency of a band, Hz (R42). -/
def carrierHz (l5 : Bool) : Int := if l5 then 1176450000 else 1575420000

/-- Pseudorange of a code NCO whose epoch 0 was sent at `tow`, at receiver time `t`: c times the difference, um (R76). -/
def pseudorange (signal : Nat) (code : CodeNco) (tow t : Int) : Int :=
  roundDiv (lightSpeed * ((t - tow) * chipRate signal * ncoOne - code.sent (codeLength signal) * 1000000000))
    (1000 * chipRate signal * ncoOne)

/-- The phase of one latch (R76, R81): minus the carrier cycles run since the last; at lock its integer part is that of the pseudorange in
wavelengths; an inverted half-cycle adds half a cycle (R80). -/
def Tracker.accumulate (t : Tracker) (range : Option Int) (l5 : Bool) (carrier : CarrierNco) : Tracker :=
  let next := t.acc - (carrier.total - t.carrierWas.total).toInt
  let whole := match range with | some r => roundDiv (r * carrierHz l5) (lightSpeed * 1000000) | none => 0
  let half := if t.flip then ncoOne / 2 else 0
  { t with
    acc := (if t.accNew then whole * ncoOne + next % ncoOne else next) + half, accWas := if t.accNew then none else some t.acc
    carrierWas := carrier, accNew := false }

/-- A tracker latched at a boundary instant of TB3 and receiver time, ns (R74). -/
def Tracker.latch (t : Tracker) (signal : Nat) (l5 : Bool) (ns time : Int) : Tracker :=
  if t.phase = 0 then t
  else
    let n := t.ncosAt signal ns
    t.accumulate (t.tow.map (fun tow => pseudorange signal n.1 tow time)) l5 n.2

/-- Carrier phase of a band in um (R80). -/
def phaseMicrons (acc : Int) (l5 : Bool) : Int := roundDiv (acc * lightSpeed * 1000000) (carrierHz l5 * ncoOne)

/-- A channel latched: its phases, and the geometry-free combination of a channel that tracks both bands (R80). -/
def TrackChannel.latch (x : TrackChannel) (signal1 signal5 : Nat) (ns time : Int) : TrackChannel :=
  let a := x.l1.latch signal1 false ns time
  let b := x.l5.latch signal5 true ns time
  { x with
    l1 := a, l5 := b, gf1 := x.gf, gf2 := x.gf1
    gf := if a.phaseLock ∧ b.phaseLock ∧ a.accWas.isSome ∧ b.accWas.isSome then
        some (phaseMicrons a.acc false - phaseMicrons b.acc true) else none }

/-- What the block of the latch shows of a tracker: its NCOs at the boundary. -/
def Tracker.shown (t : Tracker) (signal : Nat) (ns : Int) : Tracker :=
  if t.phase = 0 then t else let n := t.ncosAt signal ns; { t with code := n.1, carrier := n.2 }

/-- The latch of a tick boundary (R74): flags of the tick just ended go with it (R69, R78). -/
def State.latchTick (s : State) : State :=
  let ns : Int := s.clock.tb3
  let time := s.gpsTick
  let signal := fun (x : TrackChannel) (l5 : Bool) => match x.sat with | some v => s.signalCode v.system l5 | none => 0
  let chans := s.gnss.channels.map (fun e => (e.1, e.2.latch (signal e.2 false) (signal e.2 true) ns time))
  let copy := chans.map (fun e => (e.1, { e.2 with
    l1 := e.2.l1.shown (signal e.2 false) ns, l5 := e.2.l5.shown (signal e.2 true) ns }))
  let live := chans.map (fun e => (e.1, { e.2 with
    l1 := { e.2.l1 with fll := decide (e.2.l1.phase = 1 ∨ e.2.l1.phase = 2), late := false, flip := false }
    l5 := { e.2.l5 with fll := decide (e.2.l5.phase = 1 ∨ e.2.l5.phase = 2), late := false, flip := false } }))
  let dropped := s.gnss.latched.isSome
  { s with gnss := { s.gnss with
    channels := live, latched := some { tick := s.clock.tick, time := time, channels := copy }, gap := s.gnss.gap || dropped } }

/-- The GNSS part of a tick boundary (R64, R73, R74, R84): the trackers age, chains restart, channels are assigned, handovers are tried
again, and the array latches. -/
def State.gnssTick (view : List SatView) (s : State) : State :=
  let chains := s.gnss.restart
  let s : State := { s with gnss := { s.gnss with restart := [], channels := s.gnss.channels.map (fun e =>
    (e.1, ({ e.2 with l1 := e.2.l1.tick, l5 := e.2.l5.tick } : TrackChannel).restartOn chains)) } }
  let s := s.assignChannels view
  let again := fun (x : TrackChannel) =>
    match x.sat with
    | some v => if x.l5.phase = 0 ∧ 0 < x.l5.tries ∧ x.l5.tries < 3 ∧ 1000 ≤ x.l5.age ∧ x.l1.phaseLock then
        x.startL5 (s.signalCode v.system false) (x.l5.tries + 1) s.loopSet else x
    | none => x
  ({ s with gnss := { s.gnss with channels := s.gnss.channels.map (fun e => (e.1, again e.2)) } } : State).latchTick

def execTrackerIntegrationBoundary (channel : Nat) (l5 : Bool) (taps : TapSums) (sides : SideSums) (s : State) :
    Host.Outcome State Fault Refusal := running (integrationBoundary channel l5 taps sides) s
def execTrackerLoopUpdate (channel : Nat) (l5 : Bool) (out : LoopOut) (s : State) : Host.Outcome State Fault Refusal :=
  running (loopUpdate channel l5 out) s
def execReacquisitionGiveUp (channel : Nat) (l5 : Bool) (s : State) : Host.Outcome State Fault Refusal :=
  running (reacquisitionGiveUp channel l5) s
def execL5HandoverTimeout (channel : Nat) (s : State) : Host.Outcome State Fault Refusal := running (l5Timeout channel) s
def execAcquisitionSearchStart (s : State) : Host.Outcome State Fault Refusal := running searchStart s
def execAcquisitionSearchDone (result : SearchResult) (s : State) : Host.Outcome State Fault Refusal :=
  running (searchDone result.unit result.found) s

end Sys2Proof.Machine
end

