-- ==== Sys2Proof/Machine/Rtcm.lean ====
section
/-! DEFINITION. RTCM 3 transport frames and the messages of R112 (03 R111 to R114). The spec names RTCM 10403.3 for the layout; what
stands here of that standard, message fields, scales, signal numbers and invalid values, is PRESUMED (log entry 126). -/

namespace Sys2Proof.Machine

/-! ## Frames (R111) -/

/-- Fields of a message: width in bits and value, first bit first. -/
abbrev Fields := List (Nat × Int)

/-- The bits of fields as one number. -/
def packBits (l : Fields) : Nat := l.foldl (fun n f => n * 2 ^ f.1 + (f.2 % 2 ^ f.1).toNat) 0

/-- Bytes of a number, highest first. -/
def bigEndian : Nat → Nat → Bytes
  | 0, _ => []
  | n + 1, v => BitVec.ofNat 8 (v / 256 ^ n) :: bigEndian n v

/-- The bytes of a message: its fields, filled up with zero bits to whole bytes. -/
def messageBytes (l : Fields) : Bytes :=
  let bits := (l.map (·.1)).sum
  let n := (bits + 7) / 8
  bigEndian n (packBits l * 2 ^ (8 * n - bits))

/-- One bit of the CRC-24Q register, polynomial 0x1864CFB. -/
def crc24Bit (c : Nat) : Nat := if c / 8388608 % 2 = 1 then (2 * c % 16777216) ^^^ 0x864CFB else 2 * c % 16777216

/-- CRC-24Q of bytes. -/
def crc24 (b : Bytes) : Nat :=
  b.foldl (fun c x => (List.range 8).foldl (fun c _ => crc24Bit c) (c ^^^ (x.toNat * 65536))) 0

/-- A transport frame: preamble 0xD3, six zero bits, a 10-bit length, the message, CRC-24Q. -/
def transportFrame (message : Bytes) : Bytes :=
  let head := BitVec.ofNat 8 0xD3 :: bigEndian 2 (message.length % 1024) ++ message
  head ++ bigEndian 3 (crc24 head)

/-- One transport frame on the corrections-out stream (R111). -/
def State.rtcm (l : Fields) (s : State) : State := s.push 4 1 (transportFrame (messageBytes l))

/-! ## Station messages (R112, R114) -/

/-- Message 1005, or 1006 with the antenna height (R112). -/
def State.stationMessage (s : State) (height : Bool) : Fields :=
  let p := s.reference.position
  let sys := fun (k : Nat) => if s.systemOn k then 1 else 0
  [(12, if height then 1006 else 1005), (12, s.cfg 0x2402 1), (6, 0), (1, sys 0), (1, 0), (1, sys 1), (1, 0), (38, p.1), (1, 1), (1, 0),
    (38, p.2.1), (2, 0), (38, p.2.2)] ++ (if height then [(16, s.cfg 0x2306 5)] else [])

/-- A counted text. -/
def textFields (b : Bytes) : Fields := (8, (b.length : Int)) :: b.map (fun x => (8, (x.toNat : Int)))

/-- The firmware version as 0x100A shows it. -/
def versionText (v : Nat) : Bytes :=
  ascii (toString (v / 16777216) ++ "." ++ toString (v / 65536 % 256) ++ "." ++ toString (v % 65536))

/-- Message 1033 (R114): antenna descriptor, setup ID and serial number, receiver type, firmware version, serial number. -/
def State.descriptorMessage (s : State) : Fields :=
  [(12, 1033), (12, s.cfg 0x2402 1)] ++ textFields s.settings.antenna ++ [(8, s.cfg 0x2402 0x0C)] ++ textFields s.settings.antennaSerial ++
    textFields (ascii "VL-4192") ++ textFields (versionText s.firmware.toNat) ++ textFields (ascii (toString Config.serial.toNat))

/-- Station messages and descriptors of a milestone (R112): 1005 and 1006 while a reference is valid, for without one there is no ARP to
send; intervals count milestones since start (log entry 127). -/
def State.rtcmMilestone (s : State) : State :=
  let m := s.reference.milestones
  let due := fun (n : Nat) => decide (n ≠ 0) && m % n = 0
  let known : Bool := s.reference.state = 2 || s.reference.state = 3
  let s := if known ∧ due (s.cfgNat 0x2402 8) then
      (match s.cfgNat 0x2402 7 with | 1 => s.rtcm (s.stationMessage false) | 2 => s.rtcm (s.stationMessage true) | _ => s) else s
  if due (s.cfgNat 0x2402 9) then s.rtcm s.descriptorMessage else s

/-! ## MSM (R112, R113) -/

/-- What a multiple signal message carries of one record: PRN, L5 band, pseudorange in um, phase in 2^-48 cycle, Doppler in mHz, C/N0 in
0.01 dB-Hz, lock time in ticks, HALF_UNRESOLVED. -/
structure Cell where
  prn : Nat
  l5 : Bool
  range : Int
  phase : Int
  doppler : Int
  cn0 : Nat
  lock : Nat
  half : Bool

/-- Micrometres that light runs in a millisecond. -/
def microsPerMs : Int := 299792458000

/-- Base message number of a system's MSM. -/
def msmBase (system : Nat) : Nat := match system with | 0 => 1070 | 1 => 1090 | 2 => 1120 | _ => 1110

/-- Signal number of a signal code (R113): 1C, 1L, 5Q; 1C, 5Q; 1P, 5P. -/
def msmSignal (signal : Nat) : Nat := match signal with | 1 => 31 | 3 => 31 | 8 => 23 | 9 => 23 | 10 => 23 | _ => 2

/-- Whole seconds by which a system's time lies behind GPS time. -/
def systemLag (system : Nat) : Int := if system = 2 then 14 else 0

/-- A signed field of `n` bits, or the invalid value where it does not fit. -/
def fineField (n : Nat) (v : Int) : Nat × Int := (n, if -(2 ^ (n - 1)) < v ∧ v < 2 ^ (n - 1) then v else -(2 ^ (n - 1)))

/-- Lock time indicator of 4 bits, of milliseconds. -/
def lockShort (ms : Nat) : Nat := ((List.range 16).filter (fun i => decide (0 < i ∧ 32 * 2 ^ (i - 1) ≤ ms))).length

/-- Lock time indicator of 10 bits, of milliseconds. -/
def lockLong (ms : Nat) : Nat :=
  let k := ((List.range 21).filter (fun i => decide (64 * 2 ^ i ≤ ms))).length
  if 67108864 ≤ ms then 704 else if ms < 64 then ms else ms / 2 ^ k + 32 * k

/-- Rough range of a satellite in 1/1024 ms, from its first cell. -/
def roughRange (l : List Cell) (prn : Nat) : Int :=
  match l.find? (fun x => x.prn = prn) with
  | some x => roundDiv (x.range * 1024) microsPerMs
  | none => 0

/-- Range rate of a cell in 0.1 mm/s: positive as the range grows. -/
def cellRate (x : Cell) : Int := roundDiv (-x.doppler * lightSpeed * 10) (carrierHz x.l5)

/-- Rough range rate of a satellite, m/s. -/
def roughRate (l : List Cell) (prn : Nat) : Int :=
  match l.find? (fun x => x.prn = prn) with
  | some x => roundDiv (cellRate x) 10000
  | none => 0

/-- Range of a cell's phase in um. -/
def cellPhase (x : Cell) : Int := phaseMicrons x.phase x.l5

/-- Satellite fields of MSM4 (short) or MSM7. -/
def satFields (full : Bool) (l : List Cell) (prns : List Nat) : Fields :=
  prns.map (fun p => let r := roughRange l p; (8, if r < 0 ∨ 255 * 1024 ≤ r then 255 else r / 1024)) ++
    (if full then prns.map (fun _ => (4, (0 : Int))) else []) ++ prns.map (fun p => (10, roughRange l p % 1024)) ++
    (if full then prns.map (fun p => fineField 14 (roughRate l p)) else [])

/-- Signal fields of MSM4 or MSM7. -/
def cellFields (full : Bool) (l : List Cell) : Fields :=
  if full then
    l.map (fun x => fineField 20 (roundDiv (x.range * 536870912) microsPerMs - roughRange l x.prn * 524288)) ++
      l.map (fun x => fineField 24 (roundDiv (cellPhase x * 2147483648) microsPerMs - roughRange l x.prn * 2097152)) ++
      l.map (fun x => (10, (lockLong (20 * x.lock) : Int))) ++ l.map (fun x => (1, if x.half then 1 else 0)) ++
      l.map (fun x => (10, roundDiv (x.cn0 * 16) 100)) ++ l.map (fun x => fineField 15 (cellRate x - 10000 * roughRate l x.prn))
  else
    l.map (fun x => fineField 15 (roundDiv (x.range * 16777216) microsPerMs - roughRange l x.prn * 16384)) ++
      l.map (fun x => fineField 22 (roundDiv (cellPhase x * 536870912) microsPerMs - roughRange l x.prn * 524288)) ++
      l.map (fun x => (4, (lockShort (20 * x.lock) : Int))) ++ l.map (fun x => (1, if x.half then 1 else 0)) ++
      l.map (fun x => (6, roundDiv x.cn0 100))

/-- An MSM of a system (R113): kind 4 or 7, GPS time of the epoch in ns, whether further ones of the epoch follow, its cells in the order of
satellites and, within one, of bands. -/
def State.msmMessage (s : State) (system kind : Nat) (time : Int) (more : Bool) (l : List Cell) : Fields :=
  let first := if system = 3 then 192 else 0
  let prns := (l.map (·.prn)).dedup
  let signals := [s.signalCode system false, s.signalCode system true].filter (fun g => l.any (fun x => x.l5 = decide (8 ≤ g)))
  let mask := fun (n : Nat) (b : List Nat) => (n, (b.map (fun k => (2 : Int) ^ (n - k))).sum)
  let lag := systemLag system
  let l := l.map (fun x => ({ x with range := x.range - lag * 299792458000000 } : Cell))
  ([(12, ((msmBase system + kind : Nat) : Int)), (12, s.cfg 0x2402 1), (30, (time - lag * 1000000000) / 1000000 % 604800000), (1, if more then 1 else 0),
    (3, 0), (7, 0), (2, 0), (2, if s.power.refSel ∧ s.power.refLocked then 1 else 0), (1, 0), (3, 0), mask 64 (prns.map (· - first)),
    mask 32 (signals.map msmSignal)] : Fields) ++
    prns.flatMap (fun p => signals.map (fun g => (1, if l.any (fun x => x.prn = p && x.l5 = decide (8 ≤ g)) then 1 else 0))) ++
    satFields (kind = 7) l prns ++ cellFields (kind = 7) l

/-- The MSM of an epoch: one for each system that is set and has cells, the multiple-message bit set on all but the last (R112, R113). -/
def State.msm (time : Int) (cells : Nat → List Cell) (s : State) : State :=
  let due := (List.range 4).filter (fun k => decide (s.cfgNat 0x2402 (2 + k) ≠ 0) && !(cells k).isEmpty)
  due.foldl (fun (t : State) k =>
    t.rtcm (t.msmMessage k (t.cfgNat 0x2402 (2 + k)) time (decide (due.getLast? ≠ some k)) (cells k))) s

end Sys2Proof.Machine
end

