-- ==== Sys2Proof/Machine/Reference.lean ====
section
/-! DEFINITION. Observables, integrity, positioning, the reference position, surveys and Gnoez messages (02 R74 to
R81; 03 R85 to R110), with OBSERVABLES_READY, OBSERVABLES_LATE, SURVEY_COMMAND_START and SURVEY_COMMAND_ABORT. -/

namespace Sys2Proof.Machine

/-! ## Observable records (R77 to R81) -/

/-- One record of a block: its tracker as latched, its observables (pseudorange in um, phase in 2^-48 cycle), its quality flags, what the
DSPs measured. -/
structure Rec where
  channel : Nat
  l5 : Bool
  sat : SatView
  portB : Bool
  tracker : Tracker
  range : Int
  flags : Nat
  raw : Option RawObs

/-- The phase changed by more than 0.25 cycle beside what the Doppler predicts (R80). -/
def phaseSlip (t : Tracker) (o : Option RawObs) : Bool :=
  match t.accWas, o.bind (·.predicted) with
  | some was, some p => decide (ncoOne < 4 * (t.acc - was - p).natAbs)
  | _, _ => false

/-- The geometry-free combination left its linear prediction by more than 0.05 m (R80). -/
def geometrySlip (x : TrackChannel) : Bool :=
  match x.gf, x.gf1, x.gf2 with
  | some g, some a, some b => decide (50000 < (g - (2 * a - b)).natAbs)
  | _, _, _ => false

/-- SLIP on a record (R80, R81): phase change, geometry-free change on a dual-band channel, inverted half-cycle, or relock. -/
def slipOf (x : TrackChannel) (t : Tracker) (o : Option RawObs) : Bool :=
  phaseSlip t o || geometrySlip x || t.flip || t.restarted

/-- The multipath flag after a tick (R66). -/
def Tracker.multi (t : Tracker) (asymmetry : Nat) : Tracker :=
  if 150 < asymmetry then { t with multipath := true, mpRun := 0 }
  else if t.multipath then (if 49 ≤ t.mpRun then { t with multipath := false, mpRun := 0 } else { t with mpRun := t.mpRun + 1 })
  else t

/-- Number of a set of flags, highest bit 15 first. -/
def flagBits (l : List Bool) : Nat := l.foldl (fun n b => 2 * n + (if b then 1 else 0)) 0

/-- Quality flags of a record (R78). -/
def State.quality78 (s : State) (v : SatView) (portB : Bool) (t : Tracker) (slip : Bool) (time : Int) : Nat :=
  flagBits [t.codeLock, t.phaseLock, t.tow.isSome, (s.ephOf v).any (fun e => ephCurrent e time), t.half, slip, t.restarted, t.fll,
    v.elev.any (fun e => decide (e < s.cfg 0x2303 3 + 50)), decide (t.cn0 < 3200), t.multipath,
    portFault (s.port (if portB then 1 else 0)).state, t.late, false, false, false]

/-- The record of one tracker that holds code lock (R76 to R81). While the transmit time is not resolved its pseudorange is a free
value. -/
def State.recordOf (s : State) (k : Latch) (out : ObsOut) (c : Nat) (l5 : Bool) : Option Rec :=
  let x := tget (fun _ => ({} : TrackChannel)) k.channels c
  let t := x.tracker l5
  match x.sat with
  | none => none
  | some v =>
    if !t.codeLock then none
    else
      let o := out.records.find? (fun o => o.channel = c && o.l5 = l5)
      let slip := slipOf x t o
      let t := match o with | some m => t.multi m.asymmetry | none => t
      let t := { t with slips := if slip then (t.slips + 1) % 256 else t.slips }
      let range := match t.tow with
        | some tow => pseudorange (s.signalCode v.system l5) t.code tow k.time
        | none => Config.free (s.free + 2 * c + (if l5 then 1 else 0))
      some { channel := c, l5 := l5, sat := v, portB := x.portB, tracker := t, range := range
             flags := s.quality78 v x.portB t slip k.time, raw := o }

/-- Doppler of a tracker, mHz: positive for an approaching satellite (R76). -/
def Tracker.doppler (t : Tracker) : Int := roundDiv (t.carrierRate.toInt * 65000000000) ncoOne

/-- The 32 bytes of a record (R77). -/
def State.obsBytes (s : State) (r : Rec) : Bytes :=
  le 1 (r.sat.system * 16 + s.signalCode r.sat.system r.l5) ++ le 1 r.sat.prn ++ le 1 r.channel ++
    le 1 ((if r.l5 then 2 else 0) + (if r.portB then 1 else 0)) ++ le 8 r.range ++ le 8 (roundDiv r.tracker.acc 65536) ++
    le 4 r.tracker.doppler ++ le 2 r.tracker.cn0 ++ le 2 r.tracker.lockTicks ++ le 2 r.flags ++ le 1 r.tracker.slips ++ le 1 0

/-- A flag of a record, by its bit. -/
def Rec.flag (r : Rec) (b : Nat) : Bool := bit r.flags b

/-- The observable is usable (R79). -/
def Rec.usable (r : Rec) : Bool :=
  r.flag 15 && r.flag 14 && r.flag 13 && r.flag 12 && !r.flag 11 && !r.flag 6 && !r.flag 4 && decide (50 ≤ r.tracker.lockTicks)

/-- The observable block (R77). -/
def State.obsBlock (s : State) (tick : U32) (l : List Rec) : Bytes :=
  let itf := fun c => (s.rfChain c).interference
  let flags := flagBits [s.time.valid, s.clock.provisional, s.gnss.gap, itf 3, itf 2, itf 1, itf 0, false]
  le 4 tick.toNat ++ le 8 s.clock.source ++ le 4 (s.reference.clock.getD (-2147483648)) ++ le 1 l.length ++ le 1 flags ++
    le 1 (s.rfChain 0).gain ++ le 1 (s.rfChain 1).gain ++ le 1 (s.rfChain 2).gain ++ le 1 (s.rfChain 3).gain ++ le 10 0 ++
    l.flatMap s.obsBytes

/-! ## Integrity (R96, R97) -/

/-- The reference is valid. -/
def Reference.valid (r : Reference) : Bool := r.state = 2 || r.state = 3

/-- The owner excludes the satellite (0x2308:08 to :0B). -/
def State.excluded (s : State) (v : SatView) : Bool :=
  let first := match v.system with | 0 => 1 | 1 => 1 | 2 => 19 | _ => 193
  decide (first ≤ v.prn) && bit (s.cfgNat 0x2308 (8 + v.system)) (v.prn - first)

/-- c times the receiver clock of a system, 0.1 mm (R95). -/
def Reference.clockOf (r : Reference) (system : Nat) : Int := ((r.clocks.find? (fun e => e.1 = system)).map (·.2)).getD 0

/-- Pseudorange of a record, and its phase less whole cycles of alignment, 0.1 mm. -/
def Rec.codeRange (r : Rec) : Int := roundDiv r.range 100
def Rec.phaseRange (r : Rec) (align : Int) : Int :=
  roundDiv ((r.tracker.acc + align * ncoOne) * lightSpeed * 10000) (carrierHz r.l5 * ncoOne)

/-- Residual of a range of a record, 0.1 mm (R108): less the system's receiver clock, less the geometric range with the satellite clock. -/
def State.residual (s : State) (r : Rec) (range : Int) : Int :=
  range - s.reference.clockOf r.sat.system - (r.raw.map (·.range)).getD 0

/-- The ionosphere-free combination (R93): 23,716 and 13,225 parts of 10,491. -/
def ionoFree (x1 x5 : Int) : Int := roundDiv (23716 * x1 - 13225 * x5) 10491

/-- The record of a channel and band. -/
def recOn (l : List Rec) (c : Nat) (l5 : Bool) : Option Rec := l.find? (fun r => r.channel = c && r.l5 = l5)

/-- The IF carrier residual of a satellite (R96): both bands hold phase lock. -/
def State.ifCarrier (s : State) (r1 r5 : Option Rec) : Option Int :=
  match r1, r5 with
  | some a, some b =>
    if a.flag 14 ∧ b.flag 14 then some (ionoFree (s.residual a (a.phaseRange 0)) (s.residual b (b.phaseRange 0))) else none
  | _, _ => none

/-- Code less carrier of a band with phase lock, 0.1 mm (R96). -/
def codeLessCarrier (r : Option Rec) : Option Int :=
  match r with
  | some a => if a.flag 14 then some (a.codeRange - a.phaseRange 0) else none
  | none => none

/-- The change between two ticks, none where a tick has no value. -/
def stepOf (was now' : Option Int) : Nat := match was, now' with | some a, some b => (b - a).natAbs | _, _ => 0

/-- The smoothed IF code after a tick (R93, R94): only with both bands usable; the window of 100 s restarts on SLIP or PHASE_RESET. -/
def smoothed (old : Option Smooth) (r1 r5 : Option Rec) : Option Smooth :=
  match r1, r5 with
  | some a, some b =>
    if !a.usable ∨ !b.usable then none
    else
      let code := ionoFree a.codeRange b.codeRange
      let carrier := ionoFree (a.phaseRange 0) (b.phaseRange 0)
      let fresh := a.flag 10 || a.flag 9 || b.flag 10 || b.flag 9
      match old with
      | some x =>
        if fresh then some { count := 1, code := code, carrier := carrier }
        else
          let n := min 5000 (x.count + 1)
          some { count := n, code := roundDiv (code + (n - 1 : Nat) * (x.code + carrier - x.carrier)) n, carrier := carrier }
      | none => some { count := 1, code := code, carrier := carrier }
  | _, _ => none

/-- Causes present for a satellite of port A in this tick (R96, R341): `old` is what the last tick left, `step` the change of the IF carrier
residual and `rate1`, `rate5` those of code less carrier, 0.1 mm. -/
def State.causesNow (s : State) (v : SatView) (time : Int) (r1 r5 : Option Rec) (step rate1 rate5 monitor : Nat) : List Nat :=
  let on := fun (f : Rec → Bool) => (match r1 with | some r => f r | none => false) || (match r5 with | some r => f r | none => false)
  let use := fun (r : Option Rec) => match r with | some x => x.usable | none => false
  let ref := s.reference.valid
  let eph := s.ephOf v
  let mark := fun (n : Nat) (b : Bool) => if b then [n] else []
  mark 1 (!use r1) ++ mark 2 (eph.any (·.unhealthy)) ++ mark 3 (eph.any (fun e => !ephCurrent e time)) ++ mark 4 (portFault s.gnss.portA.state) ++
    mark 5 (ref && on (fun r => r.raw.any (fun o => decide (s.cfgNat 0x2308 2 < o.codeRes)))) ++
    mark 6 (decide (10 * s.cfgNat 0x2308 3 < step)) ++ mark 7 (ref && decide (3 ≤ monitor)) ++
    mark 8 (s.excluded v) ++ mark 16 (!use r5) ++ mark 17 (v.elev.any (fun e => decide (e < s.cfg 0x2308 1))) ++
    mark 18 (on (fun r => r.flag 10 || r.flag 9)) ++ mark 19 (on (·.flag 5)) ++
    mark 20 ((s.rfChain 0).interference || (s.rfChain 1).interference) ++
    mark 21 (decide (10 * s.cfgNat 0x2308 4 < 50 * max rate1 rate5))

/-! ## The monitor antenna (R99) -/

/-- Double differences against a pivot, in one band: those of the other satellites. -/
def doubleDifferences (l : List (Nat × Nat × Int)) (pivot : Nat × Nat × Int) : List (Nat × Nat × Nat) :=
  (l.filter (fun x => !(x.1 = pivot.1 && x.2.1 = pivot.2.1))).map (fun x => (x.1, x.2.1, (x.2.2 - pivot.2.2).natAbs))

/-- The greatest of a list of residuals. -/
def largest : List (Nat × Nat × Nat) → Option (Nat × Nat × Nat)
  | [] => none
  | x :: t => match largest t with | some y => if x.2.2 < y.2.2 then some y else some x | none => some x

/-- Satellites marked in one band: those above the limit; where all of several others would be, so that the pivot itself is at fault, the
one with the greatest residual against the next pivot (log entry 128). -/
def monitorMarks (limit : Nat) (l pivots : List (Nat × Nat × Int)) : List (Nat × Nat) :=
  match pivots with
  | [] => []
  | p :: rest =>
    let d := doubleDifferences l p
    let bad := d.filter (fun x => decide (limit < x.2.2))
    if 2 ≤ d.length ∧ bad.length = d.length then
      match rest with
      | q :: _ => match largest (doubleDifferences l q) with
        | some x => if limit < x.2.2 then [(x.1, x.2.1)] else []
        | none => []
      | [] => bad.map (fun x => (x.1, x.2.1))
    else bad.map (fun x => (x.1, x.2.1))

/-- Satellites above the monitor limit in a band of this tick: single differences of port A's records, pivots the USE satellites by
descending elevation. -/
def State.monitorBand (s : State) (l : List Rec) (l5 : Bool) : List (Nat × Nat) :=
  let rs := l.filter (fun r => !r.portB && r.l5 = l5)
  let all := rs.filterMap (fun r => (r.raw.bind (·.single)).map (fun d => (r.sat.system, r.sat.prn, d)))
  let pivots := (byElevation (rs.map (·.sat))).filterMap (fun v =>
    if s.reference.sats.any (fun x => x.system = v.system && x.prn = v.prn && x.state = 0) then
      all.find? (fun x => x.1 = v.system && x.2.1 = v.prn) else none)
  monitorMarks (10 * s.cfgNat 0x2308 0x0D) all pivots

/-- The monitor baseline is found where a fixed solution passes the ratio test of 3.0 (R99). -/
def State.findBaseline (ratio : Option Nat) (s : State) : State :=
  if s.reference.baselineDue ∧ s.cfgOn 0x2308 0x0C ∧ s.portOn 1 ∧ ratio.any (fun n => decide (30 ≤ n)) then
    { s with reference := { s.reference with baseline := true, baselineDue := false } }
  else s

/-- Causes held after a tick: each ends after the hold-off without its condition (R97). -/
def holdCauses (hold : Nat) (old : List Cause) (now' : List Nat) : List Cause :=
  let kept := (old.map (fun c => if c.number ∈ now' then { c with absent := 0 } else { c with absent := c.absent + 1 })).filter
    (fun c => decide (c.absent < hold))
  kept ++ ((now'.filter (fun n => !old.any (fun c => c.number = n))).map (fun n => { number := n, absent := 0 }))

/-- State and reported cause of a list of causes (R96). -/
def stateOf (l : List Cause) : Nat × Nat :=
  let low := fun (m : List Cause) => (m.map (·.number)).foldl min 63
  let bad := l.filter (fun c => decide (c.number < 16))
  if !bad.isEmpty then (2, low bad) else if !l.isEmpty then (1, low l) else (0, 0)

/-- One satellite of port A after a tick (R96, R97, R99). The continuity counters of one that was not there start at 0 (log entry
129). -/
def State.integrityOf (s : State) (l : List Rec) (time : Int) (above : List (Nat × Nat)) (c : Nat) (v : SatView) : Integrity :=
  let old : Integrity := (s.reference.sats.find? (fun x => x.system = v.system && x.prn = v.prn)).getD { system := v.system, prn := v.prn }
  let r1 := recOn l c false
  let r5 := recOn l c true
  let monitor := if above.contains (v.system, v.prn) then min 3 (old.monitor + 1) else 0
  let carrier := s.ifCarrier r1 r5
  let cmc1 := codeLessCarrier r1
  let cmc5 := codeLessCarrier r5
  let causes := holdCauses (s.cfgNat 0x2308 5) old.causes
    (s.causesNow v time r1 r5 (stepOf old.carrier carrier) (stepOf old.cmc1 cmc1) (stepOf old.cmc5 cmc5) monitor)
  let st := stateOf causes
  let slip := fun (r : Option Rec) => r.any (fun r => r.flag 10 || r.flag 9)
  { old with causes := causes, state := st.1, cause := st.2, monitor := monitor, slip1 := old.slip1 || slip r1, slip5 := old.slip5 || slip r5
             carrier := carrier, cmc1 := cmc1, cmc5 := cmc5, smooth := smoothed old.smooth r1 r5, elev := v.elev }

/-- INTEGRITY_EVALUATION: every satellite on port A, in descending elevation (R96, R97, R99, R115). -/
def State.integrity (l : List Rec) (time : Int) (s : State) : State :=
  let watch := s.cfgOn 0x2308 0x0C && s.portOn 1 && s.reference.baseline
  let above := if watch then s.monitorBand l false ++ s.monitorBand l true else []
  let views := (List.range 80).filterMap (fun c =>
    match (s.channel c).sat with | some v => if (s.channel c).portB then none else some v | none => none)
  let sats := (byElevation views).map (fun v => s.integrityOf l time above ((s.channelOf v false).getD 80) v)
  { s with reference := { s.reference with sats := sats } }

/-- Satellites in a state. -/
def Reference.inState (r : Reference) (k : Nat) : Nat := (r.sats.filter (fun x => x.state = k)).length

/-! ## Positioning (R100 to R102) -/

/-- Correction state (R102). -/
def Reference.correctionState (r : Reference) : Nat := if !r.valid then 0 else if r.positioning then 1 else 2

/-- POSITIONING_VALIDITY at a tick (R100). -/
def State.positioningTick (s : State) : State :=
  let r := s.reference
  let use := r.inState 0
  let ok := r.valid ∧ s.gnss.portA.state = 0 ∧ s.cfgNat 0x2308 6 ≤ use ∧ r.rms ≤ s.cfgNat 0x2308 7
  let good := if ok then min 50 (r.good + 1) else 0
  let now' : Bool := if ok then r.positioning || decide (50 ≤ good) else false
  let r := { r with good := good, positioning := now' }
  let s : State := { s with reference := { r with correction := r.correctionState } }
  let params := le 1 use ++ le 2 r.rms
  if s.shown.reference.positioning ∧ !now' ∧ !s.access.conditions.any (fun c => c.code = 0x0303) then s.raise 0x0303 2 7 0xFF 0 params
  else if now' ∧ s.access.conditions.any (fun c => c.code = 0x0303) then s.raise 0x0304 3 7 0xFF 0 params
  else s

/-! ## Gnoez (R104 to R110) -/

/-- Signed 24-bit field of three bytes. -/
def le3 (v : Int) : Bytes := (le 4 v).take 3

/-- Code and phase residual fields and C/N0 of a band (R107, R108): mm, 0.1 mm, 0.5 dB-Hz. -/
def State.gnoezBand (s : State) (r : Rec) (align : Int) : Bytes :=
  le3 (roundDiv (s.residual r r.codeRange) 10) ++ le 4 (s.residual r (r.phaseRange align)) ++ le 1 (r.tracker.cn0 / 50)

/-- Block of one satellite (R107, R108). -/
def State.gnoezBlock (s : State) (x : Integrity) (r1 : Rec) (r5 : Option Rec) : Bytes :=
  let issue := match s.ephOf r1.sat with | some e => e.issue % 256 | none => 0
  le 1 (x.system * 64 + (if pilotSignal (s.signalCode x.system false) then 32 else 0) + (if r5.isSome then 16 else 0)) ++ le 1 x.prn ++
    le 1 issue ++ le 1 (x.state * 64 + x.cause) ++ le 1 (x.c1 * 16 + (if r5.isSome then x.c5 else 0)) ++ s.gnoezBand r1 x.align1 ++
    (match r5 with | some r => s.gnoezBand r x.align5 | none => [])

/-- GPS time of the tick boundary less the receiver clock offset (R106): whole GPS time, ns. -/
def State.gpsTime (s : State) : Int := s.gpsTick - s.reference.clock.getD 0

/-- A week, ns. -/
def weekNs : Int := 604800000000000

/-- A phase residual fits its 32-bit field (R110). -/
def fits32 (v : Int) : Bool := decide (-2147483648 ≤ v) && decide (v ≤ 2147483647)

/-- A band's continuity counter and alignment at an epoch (R110): the counter rises on a slip, and where the phase residual would leave its
range, which whole cycles then bring next to 0 (log entry 130). -/
def State.continuity (s : State) (r : Option Rec) (c : Nat) (slip : Bool) (align : Int) : Nat × Int :=
  match r with
  | none => (if slip then (c + 1) % 16 else c, align)
  | some r =>
    let v := s.residual r (r.phaseRange align)
    if fits32 v then (if slip then (c + 1) % 16 else c, align)
    else ((c + 1) % 16, align - roundDiv (v * carrierHz r.l5) (lightSpeed * 10000))

/-- Satellites of port A in descending elevation with their records: those with an L1-band record (R107). -/
def State.gnoezSats (s : State) (l : List Rec) : List (Integrity × Rec × Option Rec) :=
  let chans := l.filter (fun r => !r.portB && !r.l5)
  (byElevation (chans.map (·.sat))).filterMap (fun v =>
    match chans.find? (fun r => r.sat.system = v.system && r.sat.prn = v.prn),
      s.reference.sats.find? (fun x => x.system = v.system && x.prn = v.prn) with
    | some r, some x => some (x, r, l.find? (fun q => q.channel = r.channel && q.l5))
    | _, _ => none)

/-- A satellite's counters and alignments at an epoch (R103, R110). -/
def State.countEpoch (s : State) (l : List Rec) (x : Integrity) : Integrity :=
  let on := fun (b : Bool) => l.find? (fun r => r.sat.system = x.system && r.sat.prn = x.prn && !r.portB && r.l5 = b)
  let a := s.continuity (on false) x.c1 x.slip1 x.align1
  let b := s.continuity (on true) x.c5 x.slip5 x.align5
  { x with c1 := a.1, align1 := a.2, c5 := b.1, align5 := b.2, slip1 := false, slip5 := false }

/-- The observation message of the epoch whose block is ready (R105 to R108, R110); counters move on. -/
def State.buildGnoez (l : List Rec) (s : State) : State :=
  let s : State := { s with reference := { s.reference with sats := s.reference.sats.map (s.countEpoch l) } }
  let sats := (s.gnoezSats l).take 64
  let t := s.gpsTime
  let head := le 1 1 ++ le 1 1 ++ le 2 (s.clock.tick.toNat % 65536) ++ le 8 (t % weekNs) ++ le 2 (t / weekNs) ++ le 1 s.reference.issue ++
    le 1 sats.length
  { s with reference := { s.reference with message := head ++ sats.flatMap (fun x => s.gnoezBlock x.1 x.2.1 x.2.2) } }

/-- The reference message (R106): 42 bytes. -/
def State.referenceMessage (s : State) : Bytes :=
  let r := s.reference
  le 1 2 ++ le 1 1 ++ le 1 r.issue ++ le 1 (if r.state = 3 then 1 else 0) ++ le 8 r.position.1 ++ le 8 r.position.2.1 ++ le 8 r.position.2.2 ++
    r.offsets.flatMap (le 2) ++ le 2 (if r.state = 3 then r.sigma else 0)

/-- Cells of a system's MSM: port A's records of satellites not DO_NOT_USE, in the order of PRN and band (R113). -/
def State.msmCells (s : State) (l : List Rec) (system : Nat) : List Cell :=
  let rs := l.filter (fun r => !r.portB && r.sat.system = system && s.reference.sats.any (fun x =>
    x.system = system && x.prn = r.sat.prn && decide (x.state ≠ 2)))
  (List.range 203).flatMap (fun p => [false, true].filterMap (fun b =>
    (rs.find? (fun r => r.sat.prn = p && r.l5 = b)).map (fun r =>
      { prn := p, l5 := b, range := r.range, phase := r.tracker.acc, doppler := r.tracker.doppler, cn0 := r.tracker.cn0
        lock := r.tracker.lockTicks, half := r.flag 11 })))

/-- A stage boundary is an epoch at a rate in Hz (R105, R113). -/
def State.epochAt (s : State) (rate : Nat) : Bool := decide (rate ≠ 0) && s.stageInMilestone % (10 / max 1 rate) = 0

/-! ## The commands -/

/-- Time to first acquisition (R59): four satellites locked with time of week in both bands. -/
def State.firstAcquisition (l : List Rec) (s : State) : State :=
  let locked := fun (r : Rec) => r.flag 15 && r.flag 14 && r.flag 13
  let full := (l.filter (fun r => !r.l5 && locked r && l.any (fun q => q.channel = r.channel && q.l5 && locked q))).map
    (fun r => (r.sat.system, r.sat.prn))
  match s.gnss.firstFrom with
  | some t =>
    if s.gnss.firstDone ∨ full.dedup.length < 4 then s
    else { s with gnss := { s.gnss with firstDone := true, first := BitVec.ofNat 32 ((s.clock.tb3 - t) / 1000000) } }
  | none => s

/-- What the live tracker keeps of a record built from its latch. -/
def Tracker.keep (t x : Tracker) : Tracker :=
  { t with slips := x.slips, multipath := x.multipath, mpRun := x.mpRun, restarted := t.restarted && !x.restarted }

/-- The records of a latch, by channel, the L1 band before the L5 band: the spec gives no order (log entry 131). -/
def State.obsRecords (s : State) (k : Latch) (out : ObsOut) : List Rec :=
  (List.range 80).flatMap (fun c => [false, true].filterMap (s.recordOf k out c))

/-- The clock solution of a tick (R95): GPS receiver clock in ns, c times every system's clock, RMS once the reference is valid. -/
def State.clockSolved (out : ObsOut) (s : State) : State :=
  let gps := (out.clocks.find? (fun e => e.1 = 0)).map (fun e => roundDiv (e.2 * 100000) lightSpeed)
  { s with reference := { s.reference with
      clock := gps, clocks := out.clocks, rms := if s.reference.valid then out.rms else s.reference.rms, tb0 := out.tb0 } }

/-- Satellites of port A in USE with a usable band, and their records (R122). -/
def State.heldSats (s : State) (l : List Rec) : List HeldSat :=
  (s.gnoezSats l).filterMap (fun x =>
    if x.1.state = 0 ∧ (x.2.1.usable ∨ x.2.2.any (·.usable)) then
      some { system := x.1.system, prn := x.1.prn, l1 := x.2.1.usable, l5 := x.2.2.any (·.usable), record1 := s.obsBytes x.2.1
             record5 := (x.2.2.map s.obsBytes).getD [] }
    else none)

/-- OBSERVABLES_READY (R74 to R81, R95 to R100): the tick's block, in time; in Quiet MSM goes at 1 Hz at most (R588). -/
def observablesReady (out : ObsOut) (s : State) : State :=
  match s.gnss.latched with
  | none => s
  | some k =>
    let l := s.obsRecords k out
    let s : State := { s with free := s.free + 160 }
    let s := (s.tripSample 4 0xFF s.clock.source (s.obsBlock k.tick l)).count 0x420 1
    let s : State := l.foldl (fun (t : State) r => t.onChannel r.channel (fun x => x.on r.l5 (fun t => t.keep r.tracker))) s
    let s : State := { s with gnss := { s.gnss with latched := none, gap := false } }
    let s := (((s.clockSolved out).firstAcquisition l).findBaseline out.ratio).integrity l k.time
    let s := s.positioningTick.measure 0 (out.tb0 - s.cfg 0x2101 8)
    let s := s.holdBlock k.tick (s.heldSats l)
    let s := if s.reference.epoch = some k.tick ∧ s.reference.positioning then s.buildGnoez l else s
    if s.stagePos = 0 ∧ s.reference.positioning ∧ s.epochAt (if s.power.state = 1 then 1 else s.cfgNat 0x2402 6) then
      s.msm s.gpsTime (s.msmCells l) else s

/-- OBSERVABLES_LATE (R31, R33, R74): the tick's observables are dropped. -/
def observablesLate (s : State) : State :=
  if s.gnss.latched.isSome then { s with gnss := { s.gnss with latched := none, gap := true } } else s

/-! ## The reference (R87 to R92) -/

/-- Start or restart a survey (R89), in the mode that then stands; in mode 0 it runs as in mode 1. -/
def State.startSurvey (s : State) : State :=
  { s with reference := { s.reference with
      running := true, elapsed := 0, surveySigma := 0xFFFF, sums := (0, 0, 0), weight := 0
      surveyMode := if s.cfg 0x2306 1 = 2 then 2 else 1, state := if s.reference.valid then s.reference.state else 1 } }

/-- Own rule of 0x2307:05 (R89, R91): 0 aborts a running survey; while none runs it changes nothing. A result held for adoption stays
held (log entry 139). -/
def State.surveyCommand (v : Nat) (s : State) : State × Answer :=
  if 1 < v then refuse 0x06090030 s
  else if !s.notMoving then refuse 0x08000022 s
  else if v = 1 then confirm s.startSurvey
  else if !s.reference.running then confirm s
  else confirm { s with reference := { s.reference with running := false, state := if s.reference.valid then s.reference.state else 0 } }

/-- The position in force changes (R92). -/
def State.newReference (state : Nat) (p : Int × Int × Int) (o : List Int) (s : State) : State :=
  let changed := p ≠ s.reference.position ∨ o ≠ s.reference.offsets
  { s with reference := { s.reference with
      state := state, position := p, offsets := o, sigma := s.reference.surveySigma
      issue := if changed then (s.reference.issue + 1) % 256 else s.reference.issue
      fresh := s.reference.fresh || decide changed } }

/-- Offsets in the settings. -/
def Units.offsetsSet (u : Units) : List Int := (List.range 6).map (fun k => u.cfg 0x2306 (6 + k))

/-- The entries a completed survey writes (R90). -/
def surveyItems (p : Int × Int × Int) : List WriteItem :=
  [numberItem (0x2306 * 256 + 2) p.1, numberItem (0x2306 * 256 + 3) p.2.1, numberItem (0x2306 * 256 + 4) p.2.2, numberItem (0x2306 * 256 + 1) 0]

/-- A completed survey is adopted (R90): written as configuration exactly as the owner's batch would be, or as a surveyed reference. A
batch that the store refuses (R493) writes nothing and nothing is adopted (log entry 132). -/
def State.adoptSurvey (s : State) : State :=
  let p := s.reference.result
  if s.cfgOn 0x2307 4 then
    if s.storeFull (surveyItems p) then s
    else
      let s := (s.writeItems (surveyItems p)).1
      let s := (((s.settle (0x2306 * 256 + 2) p.1).settle (0x2306 * 256 + 3) p.2.1).settle (0x2306 * 256 + 4) p.2.2).settle (0x2306 * 256 + 1) 0
      s.newReference 2 p s.offsetsSet
  else if s.cfg 0x2306 1 ≠ 0 then s.newReference 3 p s.offsetsSet
  else s

/-- One second of a survey: its elapsed time, its sigma, and the solution joins the weighted mean (R87, R94). -/
def State.surveySecond (o : Option SurveyOut) (s : State) : State :=
  let r := s.reference
  { s with reference := match o with
      | some x => { r with
          elapsed := r.elapsed + 1, surveySigma := min 65535 x.sigma, weight := r.weight + x.weight
          sums := (r.sums.1 + x.weight * x.x, r.sums.2.1 + x.weight * x.y, r.sums.2.2 + x.weight * x.z) }
      | none => { r with elapsed := r.elapsed + 1 } }

/-- The position estimate (R94): the weighted mean of the solutions. -/
def Reference.mean (r : Reference) : Int × Int × Int :=
  if r.weight = 0 then (0, 0, 0) else (roundDiv r.sums.1 r.weight, roundDiv r.sums.2.1 r.weight, roundDiv r.sums.2.2 r.weight)

/-- The survey meets the end of its mode (R87, R88). -/
def State.surveyMet (s : State) : Bool :=
  if s.reference.surveyMode = 2 then decide (300 ≤ s.reference.elapsed ∧ s.reference.surveySigma ≤ s.cfgNat 0x2307 2)
  else decide (s.cfgNat 0x2307 1 ≤ s.reference.elapsed)

/-- The survey is complete: its result is adopted or held where adoption is asked for (R90, R91); the monitor's baseline is then found
(R99). -/
def State.surveyEnds (s : State) : State :=
  let s : State := { s with reference := { s.reference with running := false, result := s.reference.mean, baselineDue := true } }
  let wants := s.cfgOn 0x2307 4 || decide (s.cfg 0x2306 1 ≠ 0)
  let now' := wants && s.notMoving
  let s := if now' then s.adoptSurvey else ({ s with reference := { s.reference with held := wants } } : State)
  s.raise 0x0302 0 0 0xFF 0 (le 1 (if now' then 1 else 0) ++ le 2 s.reference.surveySigma)

/-- A survey by accuracy fails at its time limit (R88). -/
def State.surveyLimit (s : State) : State :=
  if s.reference.surveyMode = 2 ∧ s.cfgNat 0x2307 3 ≤ s.reference.elapsed then
    let s : State := { s with reference := { s.reference with
      running := false, state := if s.reference.valid then s.reference.state else 4 } }
    s.raise 0x0301 1 7 0xFF 0 (le 4 s.reference.elapsed ++ le 2 s.reference.surveySigma)
  else s

/-- The survey at a milestone boundary (R87, R88, R90, R94): a survey with no solution at all does not end with a result. -/
def State.surveyTick (o : Option SurveyOut) (s : State) : State :=
  if !s.reference.running then s
  else
    let s := s.surveySecond o
    if s.surveyMet ∧ 0 < s.reference.weight then s.surveyEnds else s.surveyLimit

/-- The reference at a milestone boundary (R87, R91, R92): a held result is adopted, a configured position or an offset takes
effect; at start-up only once the tick source is valid (R595). -/
def State.referenceMilestone (s : State) : State :=
  let s : State := { s with reference := { s.reference with milestones := s.reference.milestones + 1 } }
  let s : State := if s.reference.held ∧ s.notMoving then
      ({ s with reference := { s.reference with held := false } } : State).adoptSurvey else s
  let p := (s.cfg 0x2306 2, s.cfg 0x2306 3, s.cfg 0x2306 4)
  let o := s.offsetsSet
  let s := if s.cfg 0x2306 1 = 0 ∧ s.settings.positionSet ∧ !s.clock.provisional ∧ (s.reference.state ≠ 2 ∨ p ≠ s.reference.position ∨ o ≠ s.reference.offsets) then
      let s := s.newReference 2 p o
      ({ s with reference := { s.reference with baselineDue := true } } : State)
    else if o ≠ s.reference.offsets then s.newReference s.reference.state s.reference.position o
    else s
  { s with reference := { s.reference with correction := s.reference.correctionState } }

/-- The milestone's survey and reference (R87 to R92): the extra reference message is due only where the issue changes now (R106). -/
def State.referenceOpens (o : Option SurveyOut) (s : State) : State :=
  (({ s with reference := { s.reference with fresh := false } } : State).surveyTick o).referenceMilestone

/-- A Gnoez epoch ends its account at stage position 2 (R105). -/
def State.gnoezAccount (s : State) : State :=
  match s.reference.epoch with
  | none => s
  | some _ =>
    if s.stagePos ≠ 2 then s
    else { s with reference := { s.reference with
      epoch := none, copies := 0, message := [], sent := if 0 < s.reference.copies then s.reference.sent + 1 else s.reference.sent
      notSent := if 0 < s.reference.copies then s.reference.notSent else s.reference.notSent + 1 } }

/-- A Gnoez epoch opens at a stage boundary (R105). -/
def State.gnoezOpen (s : State) : State :=
  if s.stagePos = 0 ∧ s.epochAt (s.cfgNat 0x2401 1) then
    { s with reference := { s.reference with epoch := some s.clock.tick, copies := 0, message := [] } }
  else s

/-- Positioning and the correction state changed in the tick just ended (R101, R126, R533). -/
def State.positioningBoundary (s : State) : State :=
  let was := s.shown.reference
  let s := if was.positioning ∧ !s.reference.positioning then s.staleAll else s
  if was.correction = 1 ∧ s.reference.correction ≠ 1 then s.trigger 10 s.now 0xFF else s

def surveyCommand (r : Req) (v : Nat) (s : State) : State := s.serveWrite r 0x2307 5 (le 1 v) (State.surveyCommand v)

def execObservablesReady (out : ObsOut) (s : State) : Host.Outcome State Fault Refusal := running (observablesReady out) s
def execObservablesLate (s : State) : Host.Outcome State Fault Refusal := running observablesLate s
def execSurveyCommandStart (r : Req) (s : State) : Host.Outcome State Fault Refusal := running (surveyCommand r 1) s
def execSurveyCommandAbort (r : Req) (s : State) : Host.Outcome State Fault Refusal := running (surveyCommand r 0) s

end Sys2Proof.Machine
end

