-- ==== Sys2Proof/Machine/Boot.lean ====
section
/-! DEFINITION. Reset, ROM boot, handover, migration, reverts (16 R485 to R497; 20 R593 to R595; 13 R407), with ROM_BOOT,
RESET_RELEASE, RST_N_ASSERT, RESET_COMMAND, WATCHDOG_RESET, START_TIMER_EXPIRE, RAIL_OUT_OF_TOLERANCE and POWER_ON. -/

namespace Sys2Proof.Machine

/-! ## Reset -/

/-- A frame counter after a restart: above every value used, at the next reservation of 4,096 (R324, R472; log entry 32). -/
def resumeCounter (c : U64) : U64 := if c = 0 then 0 else BitVec.ofNat 64 ((c.toNat / 4096 + 1) * 4096)

/-- What a reset leaves (R593): MRAM, the keeper domain and the levels of the inputs; `power` tells a power-on. -/
def Units.persisted (u : Units) (cause : Nat) : Units :=
  let tb3 := if cause = 0 then 0 else u.clock.tb3
  { clock := { tb3 := tb3, source := (tb3 / tickNs : Nat) * tickNs, tick := BitVec.ofNat 32 (tb3 / tickNs) }
    time := { bases := if cause = 0 then [] else
      u.time.bases.foldl (fun t e => tput (fun _ => {}) t e.1 { ever := e.2.ever }) [] }
    gnss := { cache := u.gnss.cache, almanac := u.gnss.almanac }
    update := { u.update with
      verifying := false, activateDue := none, confirmDue := none, activated := false, started := false, lastSeq := none, lastReply := none, lastId := none
      lastAnswer := none
      endDue := none
      offset := 0, total := 0, receiving := false, partRecord := [], tftp := false, tftpPeer := { address := 0, port := 0 }, block := 1, tftpPart := [] }
    air := { broadcast := resumeCounter u.air.broadcast }
    airLanes := tmap (fun _ => {}) (fun (a : AirLane) => {
      admissionWindow := a.admissionWindow, oldCounter := resumeCounter a.oldCounter, counter := resumeCounter a.counter
      admissionCounter := resumeCounter a.admissionCounter }) u.airLanes
    pair := { epoch := u.pair.epoch }
    chain := { stored := u.chain.stored }
    keys := { u.keys with
      current := [], pendingKey := [], verifyDue := none, announceDue := none, verifySent := false, owed := 0, interrupted := false
      linkPort := false, networkPort := false, pairPort := false, sealPort := false, debugDue := none }
    trip := { retained := u.trip.retained, archive := u.trip.archive }
    panel := { plug := u.panel.plug, wake := u.panel.wake }
    power := { u.power with
      phase := .inReset, state := 0, feedA := {}, feedB := {}, alone := none, testAsked := false, testDue := false
      postponed := false, deviceState := 0, cause := cause, resetDue := false, powerDue := none, beacons := false
      refLocked := false, vbatLow := 0, pwrEn := true } }

/-- The part resets: outputs are released or low (R593). -/
def State.restart (cause : Nat) (s : State) : State :=
  let u := s.persisted cause
  let s : State := { s with toUnits := u, shown := u }
  (((s.emit .cutOff).emit (.pin .siteHaltN true)).emit (.pin .feedAGate true)).emit (.pin .feedBGate true)

/-- A reset whose cause 0x2000:0B names none: the value is free (log entry 33). -/
def State.restartFree (s : State) : State := let p := s.draw; p.2.restart (p.1 % 5)

/-! ## Trial and revert -/

/-- A revert (R489, R496): the other slot runs, trial state 2, the reverted image stays as a verified download; the pinned
area comes in force again and the trial's area is quarantined. Cause: 0 limit, 1 watchdog, 2 failed start. -/
def State.revert (cause : Nat) (s : State) : State :=
  let u := s.update
  let a := u.area
  let back := u.other.role = 2
  let u := if back then u.setAreas { a with role := 3 } { u.other with role := 1 } else u
  let last := if back then u.area.last else u.generation
  { s with update := { u with
      running := 1 - u.running, trial := 2, download := 2, manifest := tfind u.slots u.running
      generation := last
      reverted := some (cause, if back then a.base else 0, if back then a.last else 0) } }

/-- A start of the present image failed (R487, R489). -/
def State.startFailed (cause : Nat) (s : State) : State :=
  let s : State := { s with update := { s.update with failedBoots := s.update.failedBoots + 1 } }
  if s.update.trial = 1 then s.revert cause else s

/-! ## Handover -/

/-- The area in force was written by another firmware version (R494). -/
def State.foreignArea (s : State) : Bool := s.update.area.writerNo ≠ s.image.version

/-- Migration at the first start of an image (R494): a new base in the other area, one above the last generation; the old
area is pinned on trial, free otherwise. -/
def State.migrate (s : State) : State :=
  let a := s.update.area
  let g := s.update.generation + 1
  let new : Area := { a with
    role := 1, schema := some s.image.schema, writer := some s.image.version, base := g, last := g, baseBytes := a.content, journal := 0 }
  { s with update := { s.update.setAreas { a with role := if s.update.trial = 1 then 2 else 0 } new with generation := g } }

/-- The settings of the area in force become the settings (R492). -/
def State.loadSettings (s : State) : State :=
  let a := s.update.area
  { s with settings := { accepted := a.values, inForce := a.values, antenna := a.antenna, antennaSerial := a.antennaSerial
                         credentials := a.credentials, positionSet := a.positionSet } }

/-- The security core unwraps the store halves and checks them (R453, R472). -/
def State.loadKeys (s : State) : State :=
  let k := s.keys
  let bad := k.generation ≠ 0 ∧ siteCheck k.storeCurrent ≠ k.check
  let badPending := k.pendingState ≠ 0 ∧ siteCheck k.storePending ≠ k.pendingCheck
  let s : State := { s with keys := { k with
    current := if bad then [] else k.storeCurrent, pendingKey := k.storePending
    generation := if bad then 0 else k.generation, check := if bad then 0 else k.check
    security := if bad ∧ k.security = 1 then 0 else k.security
    testRoot := decide (k.security = 2) || k.development, interrupted := decide (k.pendingState = 3) } }
  let s := if bad then s.raise 0x1502 1 7 0xFF 0 (le 1 0) else s
  if badPending then (s.onKeys Keys.dropPending).raise 0x1502 1 7 0xFF 0 (le 1 1) else s

/-- Events that what came before the start owes (R472, R495, R496). -/
def State.owedEvents (s : State) : State :=
  let s := match s.update.reverted with
    | some (c, a, b) => s.raise 0x1605 1 7 0xFF 0 (le 1 c ++ le 4 a.toNat ++ le 4 b.toNat)
    | none => s
  let s := match s.update.failed with
    | some n => s.raise 0x1606 1 7 0xFF 0 (le 2 n)
    | none => s
  let s := (List.range s.power.tamperOwed).foldl (fun (t : State) _ => t.raise 0x1501 1 7 0xFF 0 []) s
  let s := match s.power.unobserved with
    | some n => s.raise 0x1504 0 0 0xFF 0 (le 4 n)
    | none => s
  { s with
      update := { s.update with reverted := none, failed := none }
      power := { s.power with tamperOwed := 0, unobserved := none } }

/-- A capture header with its flag bit 1 set: a re-exported retained copy (R540, R543). -/
def markAgain (i : Nat × Bytes) : Nat × Bytes := if i.1 = 1 then (1, i.2.set 7 (i.2.getD 7 0 ||| 2)) else i

/-- Items of every retained capture, to be exported again (R543). -/
def Trip.again (t : Trip) : List (Nat × Bytes) := t.retained.flatten.map markAgain

/-- The running slot takes over (R486, R494, R595): settings, keys, events owed; a unit woken by the plug is in Quiet. -/
def State.handOverTo (s : State) : State :=
  let s : State := { s with power := { s.power with
    phase := .running, state := if s.power.startQuiet then 1 else 0, startQuiet := false } }
  let s : State := { s with
    trip := { s.trip with reexport := s.trip.again }
    update := { s.update with age := if s.power.rtcValid then s.update.age else 0
                              verifying := decide (s.update.download = 1) && s.update.manifest.any (fun m =>
                                decide (s.update.bits + 1 = 2 ^ (m.count + 1))) } }
  s.loadSettings.loadKeys.owedEvents

/-- ROM_BOOT (R486, R495, R501): recovery, a failed verification, a failed migration, or handover. -/
def romBoot (verified migrates : Bool) (s : State) : State :=
  if s.power.phase ≠ .rom then s
  else if s.power.recover ∨ 3 ≤ s.update.failedBoots then { s with power := { s.power with phase := .recovery } }
  else if !verified then (s.startFailed 2).restartFree
  else
    let n := s.update.area.schemaNo
    let can := migrates && decide (s.image.low ≤ n) && decide (n ≤ s.image.high)
    if !s.foreignArea then s.handOverTo
    else if can then s.migrate.handOverTo
    else
      let s : State := { s with update := { s.update with
        trial := 3, unmigrated := (tfind s.update.slots s.update.running).map (·.id), running := 1 - s.update.running
        failed := some n } }
      s.restartFree

/-- The start succeeds (R487, R595): device state 1 at the first boundary after the handover. -/
def State.started (s : State) : State :=
  if s.power.deviceState ≠ 0 then s
  else
    let s : State := { s with
      power := { s.power with deviceState := 1 }, update := { s.update with failedBoots := 0, started := true } }
    let s := if (s.cfg 0x2306 1 = 1 ∨ s.cfg 0x2306 1 = 2) then s.startSurvey else s
    s.announceStored

/-! ## The commands -/

/-- RESET_RELEASE (R593, R594): the straps are sampled; the ROM runs. -/
def resetRelease (recoverHigh refSel svcAlt : Bool) (s : State) : State :=
  if s.power.phase = .inReset then
    { s with power := { s.power with
        phase := .rom, recover := !recoverHigh, refSel := refSel, svcAlt := svcAlt, resets := s.power.resets + 1 } }
  else s

/-- The part is powered and out of reset. -/
def Phase.alive : Phase → Bool
  | .rom => true | .recovery => true | .running => true | _ => false

/-- RST_N_ASSERT (R593): low for at least 10 µs. -/
def rstNAssert (lowUs : Nat) (s : State) : State := if s.power.phase.alive ∧ 10 ≤ lowUs then s.restart 1 else s

/-- Body of the reset command (R406, R407). -/
def State.orderReset (value : Nat) (s : State) : State × Answer :=
  if value ≠ 0xA55A then refuse 0x06090030 s
  else if !s.notMoving then refuse 0x08000022 s
  else confirm { s with power := { s.power with resetDue := true } }

def resetCommand (r : Req) (value : Nat) (s : State) : State := s.serveWrite r 0x2001 1 (le 2 value) (State.orderReset value)

/-- WATCHDOG_RESET (R487, R489): it reverts a trial; before success it counts a failed start. -/
def watchdogReset (s : State) : State :=
  let s := if !s.update.started then s.startFailed 1 else if s.update.trial = 1 then s.revert 1 else s
  s.restart 3

/-- START_TIMER_EXPIRE (R487): device state 1 was not reached within 60 s. -/
def startTimerExpire (s : State) : State := if s.update.started then s else (s.startFailed 2).restartFree

/-- RAIL_OUT_OF_TOLERANCE (R472, R576): held in reset, everything volatile lost. -/
def railOutOfTolerance (rail : Nat) (s : State) : State :=
  if s.power.phase = .standby ∨ s.power.phase = .off ∨ 7 ≤ rail then s
  else
    let t := s.restart 0
    { t with power := { t.power with phase := .off } }

/-- POWER_ON (R577, R595): the rails come up while PWR_EN is high. How long the part was off is a free value (log entry 34). -/
def powerOn (s : State) : State :=
  if s.power.phase = .off ∧ s.power.pwrEn then
    let p := s.draw
    let s := p.2
    { s with
        power := { s.power with
          phase := .inReset, cause := 0, rtc := if s.power.vbatPresent then s.power.rtc + p.1 else 0
          sinceTest := s.power.sinceTest + p.1 }
        update := { s.update with age := s.update.age + p.1 } }
  else s

def execRomBoot (verified migrates : Bool) (s : State) : Host.Outcome State Fault Refusal := .next (romBoot verified migrates s.begin)
def execResetRelease (recoverHigh refSel svcAlt : Bool) (s : State) : Host.Outcome State Fault Refusal :=
  .next (resetRelease recoverHigh refSel svcAlt s.begin)
def execRstNAssert (lowUs : Nat) (s : State) : Host.Outcome State Fault Refusal := .next (rstNAssert lowUs s.begin)
def execResetCommand (r : Req) (value : Nat) (s : State) : Host.Outcome State Fault Refusal := running (resetCommand r value) s
def execWatchdogReset (s : State) : Host.Outcome State Fault Refusal := running watchdogReset s
def execStartTimerExpire (s : State) : Host.Outcome State Fault Refusal := running startTimerExpire s
def execRailOutOfTolerance (rail : Nat) (s : State) : Host.Outcome State Fault Refusal := .next (railOutOfTolerance rail s.begin)
def execPowerOn (s : State) : Host.Outcome State Fault Refusal := .next (powerOn s.begin)

end Sys2Proof.Machine
end

