-- ==== Sys2Proof/Machine/Power.lean ====
section
/-! DEFINITION. Feeds, power states, the keeper domain and the reference clock (20 R578 to R592; 13 R416; 19 R552, R560), with
FEED_QUALIFY_RUN_END, FEED_TEST, FEED_TEST_DUE, FEED_TEST_RUN_END, FEED_COMPARATOR_RELEASE, POWER_COMMAND_RUN,
POWER_COMMAND_QUIET, POWER_COMMAND_STANDBY, STANDBY_CONTACT_STROBE, STANDBY_WAKE, VBAT_LOW, TEMPERATURE_HIGH, REF10M_LOST
and REF10M_LOCKED. -/

namespace Sys2Proof.Machine

/-! ## Feeds -/

/-- Feed `k`: 0 A, 1 B. -/
def State.feed (s : State) (k : Nat) : Feed := if k = 0 then s.power.feedA else s.power.feedB

/-- The state after `f` on feed `k`. -/
def State.onFeed (k : Nat) (f : Feed → Feed) (s : State) : State :=
  { s with power := { s.power with
      feedA := if k = 0 then f s.power.feedA else s.power.feedA
      feedB := if k = 0 then s.power.feedB else f s.power.feedB } }

/-- Class of a sense voltage in mV (R580): 0 absent, 1 out of window, 2 in window. -/
def senseClass (mv : Nat) : Nat := if mv < 300 then 0 else if 900 ≤ mv ∧ mv ≤ 1100 then 2 else 1

/-- Pin that gates feed `k`. -/
def gatePin (k : Nat) : Pin := if k = 0 then .feedAGate else .feedBGate

/-- Drive or release the gate of feed `k` (R581). -/
def State.driveGate (k : Nat) (low : Bool) (s : State) : State :=
  if (s.feed k).gate = low then s else (s.onFeed k (fun f => { f with gate := low })).emit (.pin (gatePin k) (!low))

/-- Feed `k` begins a run alone (R582, R583): the other gate is driven low; state 3. -/
def State.runAlone (k cause : Nat) (s : State) : State :=
  let s := s.onFeed k (fun f => { f with state := 3 })
  let s : State := { s with power := { s.power with alone := some { feed := k, cause := cause, before := (s.feed k).sense } } }
  s.driveGate (1 - k) true

/-- The next run alone that is due outside a test (R584): qualification at start, feed A first; then requalification. -/
def State.nextRun (s : State) : State :=
  if s.power.alone.isSome then s
  else
    let both := s.power.feedA.cls = 2 ∧ s.power.feedB.cls = 2
    let start := fun (k : Nat) => (s.feed k).state = 3 && !(s.feed k).judged
    let again := fun (k : Nat) => decide ((s.feed k).state = 2 ∨ (s.feed k).state = 0) && decide ((s.feed k).cls = 2) &&
      decide (10000 ≤ (s.feed k).back.getD 0) && decide ((s.feed (1 - k)).state = 1) && decide (s.cfg 0x2C00 5 ≠ 0)
    if !both then s
    else if start 0 then s.runAlone 0 0
    else if start 1 then s.runAlone 1 0
    else if again 0 then s.runAlone 0 1
    else if again 1 then s.runAlone 1 1
    else s

/-- A condition is raised. -/
def Access.raised (a : Access) (code key : Nat) : Bool := a.conditions.any (fun c => c.code = code && c.key = key)

/-- A feed takes a new class (R584). -/
def State.feedClass (k c : Nat) (s : State) : State :=
  let f := s.feed k
  let s := s.onFeed k (fun f => { f with cls := c, back := if c = 2 ∧ f.judged then some 0 else none })
  if c = 2 then
    let s := if f.judged then s else s.onFeed k (fun f => { f with state := 3 })
    if s.access.raised 0x2001 k then s.raise 0x2002 3 2 0xFF k (le 1 k ++ le 1 0 ++ le 2 f.sense) else s
  else
    let t := s.onFeed k (fun f => { f with state := if c = 1 then 2 else 0 })
    if f.state = 1 ∨ (f.state = 3 ∧ f.judged) then t.raise 0x2001 2 2 0xFF k (le 1 k ++ le 1 c ++ le 2 f.sense) else t

/-- FEED_SAMPLE of feed `k` (R580): 10 agreeing samples change the class. -/
def State.feedSample (k mv : Nat) (s : State) : State :=
  let c := senseClass mv
  let s := s.onFeed k (fun f => { f with
    sense := mv, candidate := c, run := if c = f.candidate then min 10 (f.run + 1) else 1
    back := f.back.map (fun n => min 10000 (n + 1)) })
  if 10 ≤ (s.feed k).run ∧ c ≠ (s.feed k).cls then s.feedClass k c else s

/-- The feeds of one slice (R580, R584, R586). A feed whose partner is not in window cannot be qualified, which is
reported once (log entry 37). -/
def State.feedSlice (a b : Nat) (s : State) : State :=
  let lost := senseClass s.power.feedA.sense = 2 ∧ senseClass s.power.feedB.sense = 2 ∧ senseClass a ≠ 2 ∧ senseClass b ≠ 2
  let s := if lost then s.raise 0x2006 1 2 0xFF 0 (le 2 a ++ le 2 b) else s
  let s := ((s.feedSample 0 a).feedSample 1 b).nextRun
  let single := fun (k : Nat) => (s.feed k).state = 3 && !(s.feed k).judged && decide ((s.feed (1 - k)).cls ≠ 2) &&
    decide (10 ≤ (s.feed (1 - k)).run)
  if (single 0 ∨ single 1) ∧ !s.power.postponed then
    let s : State := { s with power := { s.power with postponed := true } }
    s.raise 0x2005 0 0 0xFF 0 (le 1 s.power.feedA.state ++ le 1 s.power.feedB.state)
  else s

/-- A run alone ends (R583): gate released, the feed passes or fails, with its event. -/
def State.endRun (x : RunAlone) (passed : Bool) (lowest : Nat) (s : State) : State :=
  let s := s.driveGate (1 - x.feed) false
  let s : State := { s with power := { s.power with alone := none } }
  let f := s.feed x.feed
  let state := if passed then 1 else if f.cls = 2 ∨ f.state = 3 then 2 else f.state
  let s := s.onFeed x.feed (fun f => { f with state := state, judged := true, back := none })
  if passed then s.raise 0x2003 0 0 0xFF 0 (le 1 x.feed ++ le 1 x.cause)
  else s.raise 0x2004 1 2 0xFF 0 (le 1 x.feed ++ le 1 x.cause ++ le 2 lowest)

/-- The sense stayed in window and sagged by at most 50 mV (R583). -/
def RunAlone.passes (x : RunAlone) (stayed : Bool) (lowest : Nat) : Bool := stayed && decide (x.before ≤ lowest + 50)

/-- FEED_QUALIFY_RUN_END (R584). -/
def feedQualifyRunEnd (feed : Nat) (stayed : Bool) (lowest : Nat) (s : State) : State :=
  match s.power.alone with
  | some x => if x.feed = feed ∧ x.cause < 2 then (s.endRun x (x.passes stayed lowest) lowest).nextRun else s
  | none => s

/-- FEED_TEST_RUN_END (R585): a pass of feed A is followed by feed B's run; a pass of both restarts the interval. -/
def feedTestRunEnd (feed : Nat) (stayed : Bool) (lowest : Nat) (s : State) : State :=
  match s.power.alone with
  | some x =>
    if x.feed = feed ∧ 2 ≤ x.cause then
      let ok := x.passes stayed lowest
      let s := s.endRun x ok lowest
      if !ok then s
      else if feed = 0 then (if s.power.feedB.state = 1 then s.runAlone 1 x.cause else s)
      else { s with power := { s.power with sinceTest := 0 } }
    else s
  | none => s

/-- FEED_COMPARATOR_RELEASE (R582, R583): the sense left the window; the other gate is released and the feed fails. -/
def feedComparatorRelease (feed : Nat) (s : State) : State :=
  match s.power.alone with
  | some x => if x.feed = feed then s.endRun x false (s.feed feed).sense else s
  | none => s

/-- Body of a write of 0x2C00:06 (R416, R585). -/
def State.askFeedTest (value : Nat) (s : State) : State × Answer :=
  if value ≠ 1 then refuse 0x06090030 s
  else if s.power.feedA.state ≠ 1 ∨ s.power.feedB.state ≠ 1 ∨ s.power.powerDue = some 3 then refuse 0x08000022 s
  else confirm { s with power := { s.power with testAsked := true } }

def feedTest (r : Req) (value : Nat) (s : State) : State := s.serveWrite r 0x2C00 6 (le 1 value) (State.askFeedTest value)

/-- FEED_TEST_DUE (R585): the interval of 0x2C00:05, in days, has passed since the last passed test. -/
def feedTestDue (s : State) : State :=
  if s.cfg 0x2C00 5 ≠ 0 ∧ s.cfgNat 0x2C00 5 * 86400000 ≤ s.power.sinceTest ∧ !s.power.testDue then
    { s with power := { s.power with testDue := true, postponed := false } }
  else s

/-- The feed test at a milestone boundary (R585): asked for, or due; it waits for both feeds, reported once. -/
def State.feedMilestone (s : State) : State :=
  let ready := s.power.feedA.state = 1 ∧ s.power.feedB.state = 1 ∧ s.power.alone.isNone
  if !(s.power.testAsked || s.power.testDue) then s
  else if ready then
    let cause := if s.power.testAsked then 3 else 2
    let s : State := { s with power := { s.power with testAsked := false, testDue := false, postponed := false } }
    s.runAlone 0 cause
  else if s.power.testDue ∧ !s.power.postponed then
    let s : State := { s with power := { s.power with postponed := true } }
    s.raise 0x2005 0 0 0xFF 0 (le 1 s.power.feedA.state ++ le 1 s.power.feedB.state)
  else s

/-! ## Power commands -/

/-- A feed is under test, or a test has been asked for (R416). -/
def State.feedsTested (s : State) : Bool :=
  decide (s.power.feedA.state = 3) || decide (s.power.feedB.state = 3) || s.power.testAsked

/-- Body of a power command (R416, R471, R589): codes 2 and 3 are mirrored to the standby. -/
def State.orderPower (code : Nat) (s : State) : State × Answer :=
  if code < 1 ∨ 3 < code then refuse 0x06090030 s
  else if 2 ≤ code ∧ !s.allVacant then refuse 0x08000022 s
  else if code = 3 ∧ (s.feedsTested ∨ s.keys.pendingState = 3) then refuse 0x08000022 s
  else
    let s : State := { s with power := { s.power with powerDue := some code } }
    confirm (if 2 ≤ code then s.mirror 0 (.settings [{ index := 0x2C00, sub := 2, data := le 1 code }]) else s)

/-- A power command over any transport. -/
def powerCommand (r : Req) (code : Nat) (s : State) : State := s.serveWrite r 0x2C00 2 (le 1 code) (State.orderPower code)

/-- All transmission of the radios ends (R588). -/
def State.radiosOff (s : State) : State :=
  let s := s.cutVerge.emit .cutOff
  { s with
      air := { s.air with vergeWaiting := [], txrx := false, pa := false, lna0 := false, lna1 := false, vgTxrx := false, vgPa := false
                          vgLna := false }
      power := { s.power with beacons := false }
      keys := { s.keys with linkPort := false } }

/-- Standby (R472, R590): MRAM writes completed, keys zeroised, line and gates released, PWR_EN lowered. -/
def State.enterStandby (s : State) : State :=
  let t := s.restart s.power.cause
  let t : State := { t with power := { t.power with phase := .standby, pwrEn := false, standbyFlag := true } }
  t.emit (.pin .pwrEn false)

/-- Resets and power commands that wait for this boundary (R407, R484, R589, R590); none where the part stays up. -/
def State.powerBoundary (s : State) : Option State :=
  if s.power.resetDue then some (if s.keys.debugDue.isSome then s.restartFree else s.restart 2)
  else if s.power.powerDue = some 3 then some s.enterStandby
  else none

/-- Power commands 1 and 2 at their boundary (R588, R589). -/
def State.powerStep (s : State) : State :=
  let due := s.power.powerDue
  let s : State := { s with power := { s.power with powerDue := none } }
  match due with
  | some 1 => { s with power := { s.power with state := 0 } }
  | some 2 => ({ s with power := { s.power with state := 1 } } : State).radiosOff
  | _ => s

/-! ## Standby -/

/-- A wake source starts the part as at power-on (R591). The time asleep is a free value (log entry 34). -/
def State.wake (quiet : Bool) (s : State) : State :=
  let p := s.draw
  let s := p.2
  let s : State := { s with
    power := { s.power with
      phase := .inReset, pwrEn := true, standbyFlag := false, cause := 0, startQuiet := quiet, rtc := s.power.rtc + p.1
      sinceTest := s.power.sinceTest + p.1 }
    clock := {}
    time := {}
    panel := { s.panel with strobe1 := 0, strobe2 := 0 }
    update := { s.update with age := s.update.age + p.1 } }
  s.emit (.pin .pwrEn true)

/-- STANDBY_CONTACT_STROBE (R552): two strobes in a row that read a channel A open wake the part. -/
def standbyStrobe (open1 open2 : Bool) (s : State) : State :=
  if s.power.phase ≠ .standby then s
  else
    let a := if open1 then s.panel.strobe1 + 1 else 0
    let b := if open2 then s.panel.strobe2 + 1 else 0
    let s : State := { s with panel := { s.panel with strobe1 := a, strobe2 := b } }
    if 2 ≤ a ∨ 2 ≤ b then s.wake false else s

/-- STANDBY_WAKE (R591): 0 contact, 1 SITE_HALT_N, 2 SVC_DET_N, 3 WAKE. -/
def standbyWake (source : Nat) (s : State) : State :=
  if s.power.phase = .standby ∧ source ≤ 3 then
    let s : State := { s with panel := { s.panel with
      plug := s.panel.plug || decide (source = 2), wake := s.panel.wake || decide (source = 3) } }
    s.wake (decide (source = 2))
  else s

/-! ## Monitors -/

/-- VBAT_LOW (R592): below 2,500 mV for 10 s raises the condition; 2,550 mV ends it. -/
def vbatLow (mv elapsed : Nat) (s : State) : State :=
  let low := if mv < 2500 then s.power.vbatLow + elapsed else 0
  let s : State := { s with power := { s.power with vbat := mv, vbatLow := low } }
  if 10000 ≤ low ∧ !s.access.raised 0x200B 0 then s.raise 0x200B 2 2 0xFF 0 (le 2 mv)
  else if 2550 ≤ mv ∧ s.access.raised 0x200B 0 then s.raise 0x200C 3 2 0xFF 0 (le 2 mv)
  else s

/-- TEMPERATURE_HIGH (R592): above 145 °C raises the condition; below 140 °C ends it. -/
def temperatureHigh (die : Nat) (temp : Int) (s : State) : State :=
  if 1 < die then s
  else
    let s : State := { s with power := { s.power with
      dieTemp := if die = 0 then temp else s.power.dieTemp
      rfTemp := if die = 0 then s.power.rfTemp else temp } }
    if 1450 < temp ∧ !s.access.raised 0x2009 die then s.raise 0x2009 2 3 0xFF die (le 1 die ++ le 2 temp)
    else if temp < 1400 ∧ s.access.raised 0x2009 die then s.raise 0x200A 3 3 0xFF die (le 1 die ++ le 2 temp)
    else s

/-- REF10M_LOST (R578): the loop holds its last correction. -/
def ref10mLost (cause : Nat) (s : State) : State :=
  if s.power.refSel ∧ s.power.refLocked then
    ({ s with power := { s.power with refLocked := false } } : State).raise 0x2007 2 7 0xFF 0 (le 1 cause)
  else s

/-- REF10M_LOCKED (R578). -/
def ref10mLocked (s : State) : State :=
  if s.power.refSel ∧ !s.power.refLocked then
    ({ s with power := { s.power with refLocked := true } } : State).raise 0x2008 3 7 0xFF 0 []
  else s

/-- A tick of the keeper domain, and the stored offsets of a milestone while TB0 is locked (R579, R585). -/
def State.keeperTick (s : State) : State :=
  { s with power := { s.power with rtc := s.power.rtc + 20, sinceTest := s.power.sinceTest + 20 } }

/-- OSCILLATOR_OFFSET_STORE (R579). -/
def State.storeOffsets (osc rtc : Int) (s : State) : State :=
  if (tget (fun _ => ({} : Base)) s.time.bases 0).locked then
    { s with power := { s.power with oscOffset := osc, rtcOffset := rtc, offsetsAt := some s.power.rtc, rtcValid := true } }
  else s

def execFeedQualifyRunEnd (feed : Nat) (stayed : Bool) (lowest : Nat) (s : State) : Host.Outcome State Fault Refusal :=
  running (feedQualifyRunEnd feed stayed lowest) s
def execFeedTest (r : Req) (value : Nat) (s : State) : Host.Outcome State Fault Refusal := running (feedTest r value) s
def execFeedTestDue (s : State) : Host.Outcome State Fault Refusal := running feedTestDue s
def execFeedTestRunEnd (feed : Nat) (stayed : Bool) (lowest : Nat) (s : State) : Host.Outcome State Fault Refusal :=
  running (feedTestRunEnd feed stayed lowest) s
def execFeedComparatorRelease (feed : Nat) (s : State) : Host.Outcome State Fault Refusal := running (feedComparatorRelease feed) s
def execPowerCommandRun (r : Req) (s : State) : Host.Outcome State Fault Refusal := running (powerCommand r 1) s
def execPowerCommandQuiet (r : Req) (s : State) : Host.Outcome State Fault Refusal := running (powerCommand r 2) s
def execPowerCommandStandby (r : Req) (s : State) : Host.Outcome State Fault Refusal := running (powerCommand r 3) s
def execStandbyContactStrobe (open1 open2 : Bool) (s : State) : Host.Outcome State Fault Refusal :=
  .next (standbyStrobe open1 open2 s.begin)
def execStandbyWake (source : Nat) (s : State) : Host.Outcome State Fault Refusal := .next (standbyWake source s.begin)
def execVbatLow (mv elapsedMs : Nat) (s : State) : Host.Outcome State Fault Refusal := running (vbatLow mv elapsedMs) s
def execTemperatureHigh (die : Nat) (temp : Int) (s : State) : Host.Outcome State Fault Refusal := running (temperatureHigh die temp) s
def execRef10mLost (cause : Nat) (s : State) : Host.Outcome State Fault Refusal := running (ref10mLost cause) s
def execRef10mLocked (s : State) : Host.Outcome State Fault Refusal := running ref10mLocked s

end Sys2Proof.Machine
end

