-- ==== Sys2Proof/Machine/Snapshots.lean ====
section
/-! DEFINITION. The counter bank at slices and boundaries, and snapshots (17 R514 to R522), with SNAPSHOT_NOW,
SNAPSHOT_AT_NEXT_BOUNDARY, SNAPSHOT_AT_TIME, SNAPSHOT_INSTANT and SNAPSHOT. -/

namespace Sys2Proof.Machine

/-! ## Counter events -/

/-- Queue numbers of the queue table. -/
def knownQueue (q : Nat) : Bool :=
  decide (q ≤ 5) || (decide (8 ≤ q) && decide (q ≤ 0xC)) || (decide (0x10 ≤ q) && decide (q ≤ 0x18)) || q = 0x20

/-- Event selects the table of R516 lists; 0 selects none. -/
def knownSelect (e : Nat) : Bool :=
  let c := e / 256
  let i := e % 256
  e = 0 || ((c = 1 || c = 2 || c = 3) && decide (i < 20)) || ((c = 4 || c = 5) && knownQueue i) || (c = 7 && decide (i < 4)) ||
    ((c = 6 || c = 8 || c = 9 || c = 0xA || c = 0xB) && i = 0)

/-- Events with an occupancy (R516). -/
def hasOccupancy (e : Nat) : Bool :=
  let c := e / 256
  knownSelect e && (c = 4 || c = 6 || c = 7 || c = 8 || c = 9 || c = 0xA)

/-- Own rule of an event select or mode write of counter `c`, given the select and the mode it leaves (R516). -/
def counterRefused (select mode : Nat) : Option Nat :=
  if !knownSelect select then some 0x06090030
  else if mode = 2 ∧ !hasOccupancy select then some 0x06040043
  else none

/-- Occupancy that stands now; a free value where the spec gives no measure of it (log entry 20). -/
def State.standing (s : State) (e : Nat) : Nat × State :=
  if e = 0x800 then (s.checkpoint.queue.length, s)
  else if e / 256 = 4 ∧ e % 256 ≤ 5 then ((s.stream (e % 256)).fill, s)
  else if e / 256 = 4 then s.draw
  else (0, s)

/-- A counter of engine cycles at a slice boundary: the cycles busy in the slice are free (log entry 20). -/
def State.cycleCount (s : State) (c : Nat) : State :=
  let p := s.draw
  p.2.addCounter p.1 c

/-- A counter in mode 2 at a slice boundary (R516): per slice its peak against N; per clock cycle a free number of cycles,
none where N is at or above the greatest occupancy. -/
def State.thresholdCount (s : State) (c : Nat) : State :=
  let e := s.counterSelect c
  let n := s.counterThreshold c
  if e = 0x600 ∨ e = 0xA00 then (if (if e = 0x600 then 16 else 4) ≤ n then s else s.cycleCount c)
  else
    let p := s.standing e
    if n < max p.1 (tget (fun _ => 0) s.counters.peaks e) then p.2.addCounter 1 c else p.2

/-- Counting of a slice (R516): slices, engine cycles, thresholds; peaks start again from what stands. -/
def State.sliceCounters (s : State) : State :=
  let s := s.count 0xB00 1
  let s := ((s.countersIn 1).filter (fun c => s.counterSelect c / 256 = 1)).foldl State.cycleCount s
  let s := (s.countersIn 2).foldl State.thresholdCount s
  let s : State := { s with counters := { s.counters with peaks := [] } }
  let s := s.occupy 0x800 s.checkpoint.queue.length
  (List.range 6).foldl (fun (t : State) q => t.occupy (0x400 + q) (t.stream q).fill) s

/-- Counters whose configuration changed start again at 0 (R515). -/
def State.counterTick (s : State) : State :=
  { s with counters := { s.counters with
      live := s.counters.changed.foldl (fun t c => tput (fun _ => 0) t c 0) s.counters.live, changed := [] } }

/-! ## Snapshots -/

/-- Lane item of a snapshot (R521), without its number: from the lane banks of a boundary (R517). -/
def Units.laneItem (u : Units) (flags n : Nat) : Bytes :=
  let k := tget (fun _ => ({} : CkLane)) u.checkpoint.lanes n
  let a := tget (fun _ => ({} : AirLane)) u.airLanes n
  let w : List U32 := [k.complete, k.incomplete, k.dropped, a.received, a.missed, a.barred, a.selfStops, a.contention, a.otherEpoch,
    a.earlierPair, a.authenticated, a.micFailures, a.tooOld, a.repeated, a.complement, a.executed, a.duplicates, a.outOfWindow,
    a.sent, a.retransmitted, a.undelivered]
  le 1 n ++ le 1 flags ++ le 2 (tget (fun _ => ({} : Lane)) u.lanes n).epoch.toNat ++ w.flatMap (fun v => le 4 v.toNat)

/-- The snapshot is taken: counters and the lane banks of `u` (R518, R521). -/
def State.takeSnap (u : Units) (instant : Int) (atStep : Bool) (x : Snap) (s : State) : State :=
  let flags : Nat := (if s.time.valid then 0 else 1) + (if atStep then 2 else 0)
  let lanes := (u.lanes.filter (fun e => e.2.occupied)).map (fun e => le 4 x.number.toNat ++ u.laneItem flags e.1)
  { s with counters := { s.counters with
      snap := some { x with taken := some (instant, s.clock.tick, flags), values := s.counters.live, lanes := lanes } } }

/-- Device item of a snapshot (R521). -/
def State.deviceItem (s : State) (x : Snap) (t : Int × U32 × Nat) : Bytes :=
  le 4 x.number.toNat ++ le 1 s.chain.address ++ le 1 x.code ++ le 1 t.2.2 ++ le 1 0 ++ le 4 t.2.1.toNat ++ le 4 x.lanes.length ++
    le 8 t.1 ++ (List.range 256).flatMap (fun c => let v : Nat := tget (fun _ => 0) x.values c; le 6 v)

/-- One item of stream 0x5005, which source 7 of the trip recorder samples too (R520, R529). -/
def State.pushSnap (typ : Nat) (instant : Int) (s : State) (body : Bytes) : State :=
  (s.push 5 typ body).tripSample 7 0xFF instant (le 1 typ ++ le 1 0 ++ body)

/-- SNAPSHOT_PUBLISH (R520): at the first tick boundary after the instant. -/
def State.publishSnap (s : State) : State :=
  match s.counters.snap with
  | none => s
  | some x => match x.taken with
    | none => s
    | some t =>
      let s : State := { s with counters := { s.counters with shadow := x.values, number := x.number, snap := none } }
      x.lanes.foldl (State.pushSnap 2 t.1) (s.pushSnap 1 t.1 (s.deviceItem x t))

/-- A snapshot of code 2 is taken at the boundary (R518), which leaves the lane banks as they now stand (R517). -/
def State.boundarySnap (s : State) : State :=
  match s.counters.snap with
  | some x => if x.code = 2 ∧ x.taken = none then s.takeSnap s.toUnits s.now false x else s
  | none => s

/-- Body of a snapshot command (R413, R518, R521). -/
def State.snapshotCommand (code : Nat) (s : State) : State × Answer :=
  let x : Snap := { number := s.counters.number + 1, code := code, time := s.now }
  let at2 := s.cfgAccepted 0x2900 2
  if code = 0 ∨ 3 < code then refuse 0x06090030 s
  else if s.counters.snap.isSome then refuse 0x0F000002 (s.inUse "shadows" "snapshot")
  else if code = 1 then confirm (s.takeSnap s.shown s.now false x)
  else if code = 2 then confirm { s with counters := { s.counters with snap := some x } }
  else if at2 - s.now < 100000000 ∨ 3600000000000 < at2 - s.now then refuse 0x08000022 s
  else
    let s : State := { s with counters := { s.counters with snap := some { x with time := at2 } } }
    confirm (s.emit (.can 0x7C2 (le 4 x.number.toNat ++ le 8 at2 ++ le 1 s.chain.address ++ le 3 0)))

def snapshotCommand (r : Req) (code : Nat) (s : State) : State := s.serveWrite r 0x2900 1 (le 1 code) (State.snapshotCommand code)

/-- SNAPSHOT_INSTANT (R518, R519): the first instant at or after the scheduled time, or a step that moves past it. -/
def snapshotInstant (instant : Int) (atStep : Bool) (s : State) : State :=
  match s.counters.snap with
  | none => s
  | some x =>
    if (x.code = 3 ∨ x.code = 4) ∧ x.taken = none ∧ x.time ≤ instant then
      let s := s.takeSnap s.shown instant atStep x
      if atStep then s.raise 0x1703 0 0 0xFF 0 (le 4 x.number.toNat ++ le 8 x.time) else s
    else s

/-- SNAPSHOT (R521): a unit of the chain joins, unless a snapshot is pending or the time is within 20 ms. -/
def snapshotFrame (number : U32) (time : Int) (sender : Nat) (s : State) : State :=
  let no := fun (cause : Nat) => s.raise 0x1702 0 0 0xFF 0 (le 4 number.toNat ++ le 1 sender ++ le 1 cause)
  if s.counters.snap.isSome then no 0
  else if time - s.now ≤ 20000000 then no 1
  else { s with counters := { s.counters with snap := some { number := number, code := 4, time := time } } }

def execSnapshotNow (r : Req) (s : State) : Host.Outcome State Fault Refusal := running (snapshotCommand r 1) s
def execSnapshotAtNextBoundary (r : Req) (s : State) : Host.Outcome State Fault Refusal := running (snapshotCommand r 2) s
def execSnapshotAtTime (r : Req) (s : State) : Host.Outcome State Fault Refusal := running (snapshotCommand r 3) s
def execSnapshotInstant (instant : Int) (atStep : Bool) (s : State) : Host.Outcome State Fault Refusal :=
  running (snapshotInstant instant atStep) s
def execSnapshot (number : U32) (time : Int) (sender : Nat) (s : State) : Host.Outcome State Fault Refusal :=
  running (snapshotFrame number time sender) s

end Sys2Proof.Machine
end

