-- ==== Sys2Proof/Machine/Rules.lean ====
section
/-! DEFINITION. The rule of its own that each rw entry adds to type, range and role: guards and conflicts with other
settings (02 R44, R82, R83; 03 R91; 05 R148, R171; 08 R242, R243, R274, R275; 11 R343, R350, R362; 12 R367, R400; 13 R404, R413,
R415; 15 R471; 17 R516; 18 R528). -/

namespace Sys2Proof.Machine

/-- A refusal without a resource. -/
def plainly (code : Nat) : Ruling := { code := code }

/-- The rulings of a list in order, each a condition with its refusal: the first that holds. -/
def firstRuling : List (Bool × Ruling) → Option Ruling
  | [] => none
  | (b, r) :: t => if b then some r else firstRuling t

/-! ## Regions (R171) -/

/-- The accepted region of the cell; no vertices stand for the whole site frame. -/
def Units.regionSet (u : Units) : List Point :=
  (List.range (u.cfgAccepted 0x2012 1).toNat).map (fun k => (u.cfgAccepted 0x2012 (0x10 + 2 * k), u.cfgAccepted 0x2012 (0x11 + 2 * k)))

/-- The region overlaps a region received from a listed neighbour (R171). -/
def Units.regionOverlaps (u : Units) (region : List Point) : Bool :=
  u.neighbourPairs.any (fun p =>
    let n := tget (fun _ => ({} : Neighbour)) u.ledger.neighbours p
    n.known && (region.isEmpty || n.vertices.isEmpty || polygonsOverlap region n.vertices))

/-! ## Rules by index -/

/-- Value of an entry after the write, among the accepted settings. -/
def Units.after (u : Units) (index sub : Nat) (v : Int) (i k : Nat) : Int := if i = index ∧ k = sub then v else u.cfgAccepted i k

/-- Carriageways enabled by an assignment of channel indices (R242). -/
def channelsClash (l : List Int) : Bool :=
  let on := l.filter (· ≠ 255)
  (List.range on.length).any (fun i => (List.range i).any (fun j => decide ((on.getD i 0 - on.getD j 0).natAbs < 2)))

/-- Rules of 0x2300 to 0x2303 (R44, R82, R83). -/
def State.rule2300 (s : State) (index sub : Nat) (v : Int) : Option Ruling :=
  let a := s.after index sub v
  let wide := bit (a 0x2303 1).toNat 1 || bit (a 0x2303 1).toNat 2 ||
    (a 0x2303 2 = 1 && (bit (a 0x2303 1).toNat 0 || bit (a 0x2303 1).toNat 3))
  firstRuling [
    ((index = 0x2301 || (index = 0x2303 && decide (sub ≤ 2))) && !s.notMoving, plainly 0x08000022),
    (index = 0x2301 && sub = 3 && v = 0 && wide, plainly 0x08000022),
    (index = 0x2302 && (sub = 1 || sub = 2) && decide (a 0x2302 2 ≤ a 0x2302 1), plainly 0x06040043),
    (index = 0x2302 && (sub = 3 || sub = 4) && decide (a 0x2302 4 ≤ a 0x2302 3), plainly 0x06040043)]

/-- Rules of 0x2101, 0x2103 to 0x2105 (R343, R350, R362). -/
def State.rule2100 (s : State) (index sub : Nat) (v : Int) : Option Ruling :=
  let a := s.after index sub v
  let masters := a 0x2103 1 = 3 || a 0x2104 1 = 3
  let client := fun (i : Nat) => a i 1 = 1 || a i 1 = 2
  let same := a 0x2103 2 = a 0x2104 2
  firstRuling [
    (index = 0x2101 && sub = 1 && decide (v ≠ s.cfgAccepted 0x2101 1) && (!s.allVacant || masters), plainly 0x08000022),
    ((index = 0x2103 || index = 0x2104) && sub = 1 && v = 3 && decide (s.cfgAccepted 0x2101 1 ≠ 0), plainly 0x08000022),
    ((index = 0x2103 || index = 0x2104) && decide (sub ≤ 2) && same &&
      ((a 0x2103 1 = 3 && client 0x2104) || (a 0x2104 1 = 3 && client 0x2103)), plainly 0x08000022),
    (index = 0x2105 && sub = 1 && v = 1 && decide (s.cfgAccepted 0x2A00 4 = 1), inUseBy "33-30" "trigger output")]

/-- Rules of 0x2010 to 0x2013 (R148, R171). -/
def State.rule2010 (s : State) (index sub : Nat) (v : Int) : Option Ruling :=
  let t : State := { s with settings := s.settings.accept index sub v }
  firstRuling [
    (index = 0x2011 && sub = 2 && (List.range 192).any (fun n => decide (16383 < topTail (s.limitsAccepted n) v.toNat)),
      plainly 0x06090030),
    (index = 0x2012 && decide (t.regionSet ≠ s.regionSet) && s.regionOverlaps t.regionSet, plainly 0x08000022)]

/-- Rules of 0x2500 to 0x2506 (R242, R243, R274, R275, R276, R471). -/
def State.rule2500 (s : State) (index sub : Nat) (v : Int) : Option Ruling :=
  let a := s.after index sub v
  let k := sub - 1
  let cw := index = 0x2501 && decide (1 ≤ sub) && decide (sub ≤ 4)
  let guarded := (index = 0x2500) || (index = 0x2501 && decide (sub ≤ 6)) || (index = 0x2502 && sub = 1)
  let used := s.lanes.any (fun e => decide (e.1 % 4 = k) && (e.2.occupied || e.2.reserved))
  let owner := s.spectrumOwner 4 k
  firstRuling [
    (index = 0x2506 && s.keys.security = 0, plainly 0x0F000007),
    (cw && decide (14 < v) && decide (v < 255), plainly 0x06090030),
    (guarded && !s.allVacant, plainly 0x08000022),
    (cw && v = 255 && used, plainly 0x08000022),
    (cw && channelsClash ((List.range 4).map (fun j => a 0x2501 (j + 1))), plainly 0x06040043),
    (cw && decide (v ≠ 255) && decide (s.cfgAccepted 0x2501 sub = 255) && owner.isSome,
      inUseBy ("channeliser " ++ cwName k) (unitName (owner.getD 0))),
    (index = 0x2503 && decide (a 0x2503 1 ≤ a 0x2503 2), plainly 0x06040043)]

/-- Rules of the counter entries (R516): the select and mode a write leaves. -/
def State.rule2900 (s : State) (index sub : Nat) (v : Int) : Option Ruling :=
  let b := index % 8
  let a := s.after index sub v
  if index = 0x2900 ∧ sub = 2 then (if s.counters.snap.isSome then some (inUseBy "shadows" "snapshot") else none)
  else if 0x2910 ≤ index ∧ index ≤ 0x291F then
    (counterRefused (a (0x2910 + b) sub).toNat (a (0x2918 + b) sub).toNat).map plainly
  else none

/-- Rules of the trip recorder entries (R362, R367, R528). -/
def State.rule2A00 (s : State) (index sub : Nat) (v : Int) : Option Ruling :=
  if index = 0x2A00 ∧ sub = 4 ∧ v = 1 ∧ s.cfgAccepted 0x2105 1 = 1 then some (inUseBy "33-30" "PPS_OUT")
  else if 0x2A10 ≤ index ∧ sub = 3 ∧ v.toNat / 2097152 % 8 ≠ 0 then some (plainly 0x06090030)
  else if 0x2A10 ≤ index ∧ sub = 1 ∧ v = 1 ∧ s.cfgAccepted index 1 = 0 then s.tripRule (index - 0x2A10)
  else none

/-- Rule of the lamp masks (R415): a channel another engine's mask claims. -/
def State.rule2B10 (s : State) (index sub : Nat) (v : Int) : Option Ruling :=
  let owner := (List.range 4).find? (fun p => decide (0x2B10 + p ≠ index) &&
    (List.range 32).any (fun c => bit v.toNat c && bit (s.cfgAccepted (0x2B10 + p) 3).toNat c))
  if sub ≠ 3 then none
  else owner.map (fun p => inUseBy "lamp channel" ("PE" ++ toString p))

/-- Rule of a stream's multicast enable (R393). -/
def State.rule5000 (s : State) (index sub : Nat) (v : Int) : Option Ruling :=
  let t := s.stream (index - 0x5000)
  if sub = 6 ∧ v = 1 ∧ t.reader ≠ 0 ∧ t.reader ≠ 0xFF000000 then
    some (inUseBy ("reader of stream " ++ toString (index - 0x5000)) ("reader " ++ toString t.reader.toNat))
  else none

/-- The rule of its own of an rw entry, other than those of areas and lanes. -/
def State.ownRule (s : State) (index sub : Nat) (v : Int) : Option Ruling :=
  if index = 0x1017 then (if 0 < v ∧ v < 20 then some (plainly 0x06090030) else none)
  else if index < 0x2010 then none
  else if index < 0x2020 then s.rule2010 index sub v
  else if index < 0x2100 then none
  else if index < 0x2200 then s.rule2100 index sub v
  else if index < 0x2300 then none
  else if index < 0x2306 then s.rule2300 index sub v
  else if index = 0x2306 then (if sub ≤ 0xB ∧ !s.notMoving then some (plainly 0x08000022) else none)
  else if index < 0x2500 then none
  else if index < 0x2600 then s.rule2500 index sub v
  else if index = 0x2601 then (if s.keys.security = 0 then some (plainly 0x0F000007) else none)
  else if index < 0x2900 then none
  else if index < 0x2A00 then s.rule2900 index sub v
  else if index < 0x2B00 then s.rule2A00 index sub v
  else if index < 0x2B10 then none
  else if index < 0x2B20 then s.rule2B10 index sub v
  else if 0x5000 ≤ index ∧ index ≤ 0x5005 then s.rule5000 index sub v
  else none

/-- The guard of an entry and its own rule (R404). 0x2101:01 carries its guard in its rule: only a change is refused
(R343). -/
def State.ruling (s : State) (index sub : Nat) (v : Int) : Option Ruling :=
  match lookup index sub with
  | .entry e =>
    if !(index = 0x2101 && sub = 1) && s.guarded e.guard index v then some (plainly 0x08000022) else s.ownRule index sub v
  | _ => none

/-- Refuse under a ruling: a resource in use raises its event (R400). -/
def State.rule (k : Ruling) (s : State) : State × Answer :=
  refuse k.code (match k.names with | some n => s.inUse n.1 n.2 | none => s)

end Sys2Proof.Machine
end

