-- ==== Sys2Proof/Machine/Update.lean ====
section
/-! DEFINITION. Delivery of an image, activation, trial, the service port and ROM recovery (16 R473 to R505), with IMAGE_CHUNK,
DOWNLOAD_VERIFIED, DOWNLOAD_EXPIRE, ACTIVATE, CONFIRM_TRIAL, DISCARD_DOWNLOAD, TRIAL_LIMIT_EXPIRE, IDENTIFY, IMAGE_BEGIN,
IMAGE_BLOCK, IMAGE_END, STATUS, SERVICE_RESET, LEAVE_RECOVERY, SERVICE_FRAME_GAP, TFTP_WRITE_REQUEST and
TFTP_DATA_BLOCK. -/

namespace Sys2Proof.Machine

/-! ## Records -/

/-- The tag of a body record holds under the image key, over its header and ciphertext (R474). -/
def recordValid (b : Bytes) : Bool :=
  let id := (b.drop 8).take 8
  let data := b.drop 32
  let n := data.length - 16
  decide (Crypto.gcmTag (kdf Config.classKey "VL image" id 256) (id ++ (b.drop 6).take 2 ++ [0, 0]) (b.take 32) (data.take n) = data.drop n)

/-- The record that bytes spell (R473, R476). -/
def imageRecordOf (b : Bytes) : ImageRecord :=
  let m := b.drop 32
  { magicOk := field b 0 4 = 0x4D494C56 && byteAt b 4 = 1, kind := byteAt b 5, index := field b 6 2, imageId := field b 8 8
    dataLen := field b 16 2, tagOk := recordValid b, sigOk := Crypto.p384.verifies Config.imageAuthority (Crypto.sha384 (m.take 112)) ((m.drop 112).take 96)
    manifestOk := field m 0 4 = 0x464D4C56 && byteAt m 4 = 1, variants := byteAt m 5, stepping := byteAt m 6
    version := BitVec.ofNat 32 (field m 16 4), length := field m 20 4, count := field m 24 2, schema := field m 26 2
    lowSchema := field m 28 2, highSchema := field m 30 2
    digest := (m.drop 64).take 48, data := m
    reserved := field b 18 14 ≠ 0 || (byteAt b 5 = 0 && (4 ≤ byteAt m 5 || byteAt m 7 ≠ 0 || field m 36 28 ≠ 0)) }

/-- The whole records at the front of container bytes, and what is left (R473); `n` bounds their number. -/
def splitRecords : Nat → Bytes → List Bytes × Bytes
  | 0, b => ([], b)
  | n + 1, b =>
    let k := 32 + field b 16 2
    if b.length < 32 ∨ b.length < k then ([], b)
    else let p := splitRecords n (b.drop k); (b.take k :: p.1, p.2)

/-- Container bytes after a part received earlier: their records, and the part of the next one (R500). -/
def recordsIn (earlier data : Bytes) : List ImageRecord × Bytes :=
  let p := splitRecords ((earlier.length + data.length) / 32 + 1) (earlier ++ data)
  (p.1.map imageRecordOf, p.2)

/-- Plaintext of a stored image (R474). -/
def Image.plain (m : Image) : Bytes :=
  let key := kdf Config.classKey "VL image" (le 8 m.id) 256
  (List.range m.count).flatMap (fun k =>
    let b := (tfind m.bodies (k + 1)).getD []
    Crypto.gcmCipher key (le 8 m.id ++ le 2 (k + 1) ++ [0, 0]) (b.take (b.length - 16)))

/-- The digest of the manifest is that of the plaintext (R476). -/
def Image.intact (m : Image) : Bool := decide (Crypto.sha384 m.plain = m.digest)

/-- The part's variant bit is set (R476). -/
def variantOk (development : Bool) (variants : Nat) : Bool := bit variants (if development then 1 else 0)

/-- The checks of R476 on a manifest, by a part of the variant. -/
def manifestAccepted (development : Bool) (x : ImageRecord) : Bool :=
  x.magicOk && x.manifestOk && x.sigOk && variantOk development x.variants && decide (x.stepping ≤ Config.stepping) &&
    decide (x.index = 0) && decide (x.dataLen = 208) && decide (1 ≤ x.length) && decide (x.length ≤ 6225920) &&
    decide (x.count = (x.length + 4095) / 4096)

/-- The image a manifest names. -/
def manifestImage (x : ImageRecord) : Image :=
  { id := x.imageId, version := x.version, length := x.length, count := x.count, schema := x.schema, low := x.lowSchema
    high := x.highSchema, digest := x.digest }

/-- Data length of body record `k` (R473, R474). -/
def bodyLength (m : Image) (k : Nat) : Nat := (if k < m.count then 4096 else m.length - 4096 * (m.count - 1)) + 16

/-- Every bit of the bitmap is set (R478, R481). -/
def Update.full (u : Update) : Bool := u.manifest.any (fun m => decide (u.bits + 1 = 2 ^ (m.count + 1)))

/-- The store is busy (R480). -/
def Update.busy (u : Update) : Bool := decide (u.trial = 1) || u.verifying

/-- An event of a running image; the ROM has no event stream (R375, R501). -/
def State.raiseRunning (code cls reg : Nat) (params : Bytes) (s : State) : State :=
  if s.power.phase = .running then s.raise code cls reg 0xFF 0 params else s

/-- A download is discarded and reported with a cause (R479, R481, R482). -/
def State.reportDiscard (cause : Nat) (s : State) : State :=
  match s.update.manifest with
  | some m => s.raiseRunning 0x1603 0 0 (le 1 cause ++ le 8 m.id)
  | none => s

/-- A manifest is accepted (R479): it takes the place of an earlier download. -/
def State.takeManifest (m : Image) (s : State) : State :=
  let s := if s.update.download = 1 ∨ s.update.download = 2 then s.reportDiscard 0 else s
  { s with update := { s.update with
      manifest := some m, bits := 1, download := 1, age := 0, slots := tset s.update.slots (1 - s.update.running) m } }

/-- Handling of a manifest record (R476, R479, R503). -/
def State.takeManifestRecord (x : ImageRecord) (s : State) : State × Option Nat :=
  let u := s.update
  let n := u.area.schemaNo
  if (u.download = 1 ∨ u.download = 2) ∧ u.manifest.any (fun m => m.id = x.imageId) then (s, none)
  else if !manifestAccepted s.keys.development x then (s, some 0x06040043)
  else if s.power.phase = .recovery ∧ ¬(x.lowSchema ≤ n ∧ n ≤ x.highSchema) then (s, some 0x0F000009)
  else (s.takeManifest (manifestImage x), none)

/-- The image in the slot that does not run: the manifest where none is stored. -/
def Update.target (u : Update) : Image := (tfind u.slots (1 - u.running)).getD (u.manifest.getD { id := 0, version := 0, length := 0, count := 0, schema := 0, low := 0, high := 0 })

/-- The image with the data of a body record stored (R475). -/
def Image.store (m : Image) (k : Nat) (data : Bytes) : Image := { m with bodies := tset m.bodies k data }

/-- The slot of a download is given up, unless it holds the image to fall back to (R480 to R482). -/
def Update.dropSlot (u : Update) : Update :=
  if u.trial ≠ 1 ∧ (u.download = 1 ∨ u.download = 2) then
    { u with slots := tdel u.slots (1 - u.running), emptied := u.emptied || decide (u.running = 1) }
  else u

/-- Handling of a body record (R474, R478, R479, R481): the last bit starts the verification. -/
def State.takeBodyRecord (x : ImageRecord) (s : State) : State × Option Nat :=
  let u := s.update
  match u.manifest with
  | none => (s, some 0x08000022)
  | some m =>
    if (u.download ≠ 1 ∧ u.download ≠ 2) ∨ m.id ≠ x.imageId then (s, some 0x08000022)
    else if x.index = 0 ∨ m.count < x.index ∨ x.dataLen ≠ bodyLength m x.index then (s, some 0x06090030)
    else if bit u.bits x.index then (s, none)
    else if !x.magicOk ∨ !x.tagOk then (s, some 0x06040043)
    else
      let u := { u with bits := u.bits + 2 ^ x.index, slots := tset u.slots (1 - u.running) ((u.target).store x.index x.data) }
      ({ s with update := { u with verifying := u.full } }, none)

/-- Handling of a record by the rows of R479, after the feed condition of recovery (R503); none where it is confirmed. One that sets
a reserved bit is refused (R9; its code: log entry 120). -/
def State.takeRecord (x : ImageRecord) (s : State) : State × Option Nat :=
  if x.reserved then (s, some 0x06090030)
  else if s.power.phase = .recovery ∧ ¬(s.power.feedA.state = 1 ∧ s.power.feedB.state = 1) then (s, some 0x08000022)
  else if s.update.busy then (s, some 0x0F000008)
  else if x.kind = 0 then s.takeManifestRecord x
  else s.takeBodyRecord x

/-- Records in order up to the first refused. -/
def State.takeRecords (s : State) : List ImageRecord → State × Option Nat
  | [] => (s, none)
  | x :: t => let p := s.takeRecord x; if p.2.isSome then p else p.1.takeRecords t

/-- The body of an image chunk write (R477, R479). -/
def State.writeChunk (x : ImageRecord) (s : State) : State × Answer :=
  let p := s.takeRecord x
  (p.1, match p.2 with | some c => .refused c 0 | none => .done [])

def imageChunk (r : Req) (x : ImageRecord) (s : State) : State :=
  s.serveWrite r 0x2800 1 (List.replicate (32 + x.dataLen) 0) (State.writeChunk x)

/-! ## Activation and trial -/

/-- Checks 3 to 8 of R483 that fail, bit 0 for check 3. -/
def State.failingChecks (s : State) : Nat :=
  let m := s.update.manifest
  let n := s.update.area.schemaNo
  (if m.any (fun m => s.update.unmigrated = some m.id) then 1 else 0) +
    (if s.cfg 0x2800 5 ≠ 0 then 2 else 0) +
    (if s.isStandby || s.notMoving then 0 else 4) +
    (if s.power.feedA.state = 1 ∧ s.power.feedB.state = 1 then 0 else 8) +
    (if 2500 ≤ s.power.vbat then 0 else 16) +
    (if m.any (fun m => decide (m.low ≤ n) && decide (n ≤ m.high)) then 0 else 32)

/-- An activation meets its checks (R483, R484): none where it is confirmed. -/
def State.activateNow (s : State) : State × Option Nat :=
  if s.update.download ≠ 2 ∨ s.update.trial = 1 then (s, some 0x08000022)
  else if s.failingChecks ≠ 0 then (s.raise 0x1604 0 0 0xFF 0 (le 1 s.failingChecks), some 0x0F000009)
  else ({ s with update := { s.update with activated := true } }, none)

/-- The activation that waits for step 6 (R483). -/
def State.activateStep (s : State) : State :=
  match s.update.activateDue with
  | none => s
  | some r =>
    let p := s.activateNow
    ({ p.1 with update := { p.1.update with activateDue := none } } : State).answer r
      (match p.2 with | some c => .refused c 0 | none => .done [])

/-- The reset that follows an activation (R484): plans in flight are late, the update record is written. -/
def State.activationReset (s : State) : State :=
  let plans := s.ledger.plans
  let s : State := { s with ledger := { s.ledger with plans := [] } }
  let s := plans.foldl (fun (t : State) p => match p.what with | .settings _ _ => t | _ => t.failPlan p 2) s
  let s : State := { s with update := { s.update with
    running := 1 - s.update.running, trial := 1, trialSeconds := 0, failedBoots := 0 } }
  s.restart 2

/-- A confirmation at its boundary (R490): the pinned area becomes free; the download is used up (log entry 38). -/
def State.confirmStep (s : State) : State :=
  if s.update.confirmDue.isNone then s
  else
    let u := s.update
    let o := u.other
    let u := u.setAreas u.area (if o.role = 2 then { o with role := 0 } else o)
    { s with update := { u with confirmDue := none, trial := 0, download := 0, manifest := none, bits := 0 } }

/-- Body of update command 1 (R483). -/
def State.askActivation (r : Req) (s : State) : State × Answer :=
  if s.update.activateDue.isSome then refuse 0x08000022 s
  else ({ s with update := { s.update with activateDue := some r } }, .pending)

/-- Body of update command 2 (R488, R490). -/
def State.askConfirmation (r : Req) (s : State) : State × Answer :=
  if s.update.trial ≠ 1 then refuse 0x08000022 s
  else confirm { s with update := { s.update with confirmDue := some r } }

/-- Body of update command 3 (R481). -/
def State.discardDownload (s : State) : State × Answer :=
  let s := if s.update.download = 0 then s else s.reportDiscard 2
  confirm { s with update := { s.update.dropSlot with download := 0, manifest := none, bits := 0, verifying := false } }

/-- Body of a write of 0x2800:06. -/
def State.updateOrder (r : Req) (code : Nat) (s : State) : State × Answer :=
  match code with
  | 1 => s.askActivation r
  | 2 => s.askConfirmation r
  | 3 => s.discardDownload
  | _ => refuse 0x06090030 s

/-- A write of 0x2800:06. -/
def updateCommand (r : Req) (code : Nat) (s : State) : State := s.serveWrite r 0x2800 6 (le 1 code) (State.updateOrder r code)

/-- The image recovered is set running on trial (R504). -/
def State.recovered (s : State) : State :=
  let u := s.update
  let o := u.other
  let u := u.setAreas u.area (if o.role = 2 then { o with role := 3 } else o)
  ({ s with update := { u with running := 1 - u.running, trial := 1, trialSeconds := 0, failedBoots := 0 } } : State).restart 4

/-- A verification ends (R476, R481, R504): the tags have passed, the digest decides. -/
def State.verified (s : State) : State :=
  match s.update.manifest with
  | none => s
  | some m =>
    if s.update.target.intact then
      let s : State := { s with update := { s.update with verifying := false, download := 2 } }
      if s.power.phase = .recovery then s else s.raiseRunning 0x1601 0 0 (le 8 m.id)
    else
      ({ s with update := { s.update.dropSlot with verifying := false, download := 4, bits := 0 } } : State).raiseRunning 0x1602 1 7 (le 8 m.id)

/-- DOWNLOAD_EXPIRE (R482): the days of 0x2800:04 have passed on the RTC since the manifest. -/
def downloadExpire (s : State) : State :=
  if s.update.download = 1 ∧ s.cfgNat 0x2800 4 * 86400000 ≤ s.update.age then
    let s := s.reportDiscard 1
    { s with update := { s.update.dropSlot with download := 3, bits := 0, verifying := false } }
  else s

/-- TRIAL_LIMIT_EXPIRE (R488, R489). -/
def trialLimitExpire (s : State) : State :=
  if s.update.trial = 1 ∧ s.cfgNat 0x2800 7 ≤ s.update.trialSeconds ∧ s.update.confirmDue.isNone then (s.revert 0).restart 2 else s

/-- A second of the trial (R488), and the age of a download (R482). -/
def State.trialSecond (s : State) : State :=
  { s with update := { s.update with trialSeconds := if s.update.trial = 1 then s.update.trialSeconds + 1 else s.update.trialSeconds } }

/-! ## Service port -/

/-- The service port is served: plug detected, image running or recovery (R498, R501). -/
def State.servicePort (s : State) : Bool :=
  s.panel.plug && (decide (s.power.phase = .running) || decide (s.power.phase = .recovery))

/-- CRC-16 of a frame of the service port (R498): over length, command, sequence and payload. -/
def serviceCrc (command seq : Nat) (payload : Bytes) : Nat := crc16 (le 2 payload.length ++ le 1 command ++ le 1 seq ++ payload)

/-- A frame of the service port (R498). -/
def serviceFrame (command seq : Nat) (payload : Bytes) : Bytes :=
  [0xA5] ++ le 2 payload.length ++ le 1 command ++ le 1 seq ++ payload ++ le 2 (serviceCrc command seq payload)

/-- The reply frame to a service request (R498): bit 7 of the command set; status and abort code, then data. -/
def replyFrame (seq command code : Nat) (data : Bytes) : Bytes :=
  serviceFrame (command + 128) seq (le 1 (if code = 0 then 0 else 1) ++ le 4 code ++ data)

/-- A reply to a service request, kept for a repetition (R499). -/
def State.reply (seq command code : Nat) (data : Bytes) (s : State) : State :=
  ({ s with update := { s.update with lastReply := some (replyFrame seq command code data) } } : State).emit
    (.service (replyFrame seq command code data))

/-- A service request (R498, R499): a frame whose CRC fails is discarded; one whose sequence equals the last one's is answered from
store. -/
def State.service (f : ServiceHead) (command : Nat) (payload : Bytes) (body : State → State) (s : State) : State :=
  if !s.servicePort ∨ f.crc.toNat ≠ serviceCrc command f.seq payload then s
  else if s.update.lastSeq = some f.seq then
    match s.update.lastReply, s.update.lastAnswer with
    | some b, _ => s.emit (.service b)
    | none, some a => s.emit (.response .service (s.update.lastId.getD 0) a)
    | none, none => s
  else body { s with update := { s.update with lastSeq := some f.seq, lastReply := none, lastId := none, lastAnswer := none } }

/-- Version of slot `k`, 0 of an empty one (0x2800:09, :0A). -/
def State.slotVersion (k : Nat) (s : State) : Nat :=
  match tfind s.update.slots k with
  | some m => m.version.toNat
  | none => if k = 0 ∧ !s.update.emptied then Config.firmware.toNat else 0

/-- IDENTIFY (R498). -/
def identify (f : ServiceHead) (s : State) : State :=
  s.service f 0x01 [] (fun s =>
    s.reply f.seq 0x01 0 (ascii "VL-4192" ++ [0] ++ le 8 Config.serial.toNat ++ le 1 Config.stepping ++
      le 1 (if s.power.phase = .recovery then 1 else 0) ++ le 4 s.firmware ++ le 4 (s.slotVersion 0) ++ le 4 (s.slotVersion 1) ++ le 1 s.update.download ++
      le 1 s.update.trial ++ le 1 s.update.failedBoots ++ le 1 s.power.feedA.state ++ le 1 s.power.feedB.state))

/-- IMAGE_BEGIN (R498, R500). -/
def imageBegin (f : ServiceHead) (length : Nat) (s : State) : State :=
  s.service f 0x10 (le 4 length) (fun s =>
    ({ s with update := { s.update with receiving := true, offset := 0, total := length, partRecord := [] } } : State).reply f.seq 0x10 0 [])

/-- IMAGE_BLOCK (R500): records that end in the block are handled in order. The spec names the code of another offset and none for a
wrong size, a block with no transfer open or past the container's length: the codes are the model's choice (log entry 120). -/
def imageBlock (f : ServiceHead) (offset : Nat) (data : Bytes) (s : State) : State :=
  s.service f 0x11 (le 4 offset ++ data) (fun s =>
    if !s.update.receiving then s.reply f.seq 0x11 0x08000022 []
    else if data.isEmpty ∨ 1024 < data.length then s.reply f.seq 0x11 0x06070010 []
    else if offset ≠ s.update.offset ∨ s.update.total < offset + data.length then s.reply f.seq 0x11 0x08000020 []
    else
      let x := recordsIn s.update.partRecord data
      let p := s.takeRecords x.1
      match p.2 with
      | some c => p.1.reply f.seq 0x11 c []
      | none =>
        ({ p.1 with update := { p.1.update with offset := offset + data.length, partRecord := x.2 } } : State).reply f.seq 0x11 0 [])

/-- The reply of Image end once nothing is being verified (R483, R500). -/
def State.endReply (seq flags : Nat) (s : State) : State :=
  let p := if bit flags 0 ∧ s.power.phase = .running then s.activateNow else (s, none)
  p.1.reply seq 0x12 (p.2.getD 0) (le 1 p.1.update.download)

/-- IMAGE_END (R499, R500): a verification in progress is waited for. The code for reserved flags is the model's choice (log entry 120). -/
def imageEnd (f : ServiceHead) (flags : Nat) (s : State) : State :=
  s.service f 0x12 (le 1 flags) (fun s =>
    let s : State := { s with update := { s.update with receiving := false, partRecord := [] } }
    if 2 ≤ flags then s.reply f.seq 0x12 0x06090030 (le 1 s.update.download)
    else if s.update.verifying then { s with update := { s.update with endDue := some (f.seq, flags) } }
    else s.endReply f.seq flags)

/-- DOWNLOAD_VERIFIED (R481, R504): the verification ends, with the outcome that the bytes give. -/
def downloadVerified (s : State) : State :=
  if !s.update.verifying then s
  else
    let due := s.update.endDue
    let s := s.verified
    let s : State := { s with update := { s.update with endDue := none } }
    let s := match due with | some (q, f) => s.endReply q f | none => s
    if s.power.phase = .recovery ∧ s.update.download = 2 then s.recovered else s

/-- Number of set bits below `n`. -/
def bitsSet (v : Nat) (n : Nat) : Nat := ((List.range n).filter (fun k => bit v k)).length

/-- STATUS (R498). -/
def status (f : ServiceHead) (s : State) : State :=
  s.service f 0x13 [] (fun s =>
    let n : Nat := match s.update.manifest with | some m => m.count + 1 | none => 0
    s.reply f.seq 0x13 0 (le 1 s.update.download ++ le 2 ((n + 7) / 8) ++ le 2 (bitsSet s.update.bits n)))

/-- SERVICE_RESET (R498): the reset follows the reply. The code for another word is the model's choice (log entry 120). -/
def serviceReset (f : ServiceHead) (word : Nat) (s : State) : State :=
  s.service f 0x20 (le 2 word) (fun s =>
    if word ≠ 0xA55A then s.reply f.seq 0x20 0x06090030 [] else (s.reply f.seq 0x20 0 []).restart 2)

/-- LEAVE_RECOVERY (R505): only in recovery. The codes outside recovery and for another word are the model's choice (log entry 120). -/
def leaveRecovery (f : ServiceHead) (word : Nat) (s : State) : State :=
  s.service f 0x21 (le 2 word) (fun s =>
    if s.power.phase ≠ .recovery then s.reply f.seq 0x21 0x05040001 []
    else if word ≠ 0xA55A then s.reply f.seq 0x21 0x06090030 []
    else
      let s := s.reply f.seq 0x21 0 []
      ({ s with update := { s.update with failedBoots := 0 } } : State).restart 4)

/-- SERVICE_FRAME_GAP (R498): the frame under way is discarded; a frame reaches the model only whole. -/
def serviceFrameGap (s : State) : State := s

/-! ## Recovery transfer -/

/-- The address the ROM answers on (R502): that of the update record, or 169.254.41.92. -/
def State.romAddress (s : State) : Nat := s.update.ipv4.getD 0xA9FE295C

/-- A TFTP answer (R502). -/
def State.tftpSay (opcode number : Nat) (text : Bytes) (s : State) : State := s.emit (.tftp s.romAddress opcode number text)

/-- An abort code as text, eight hexadecimal digits (R502). -/
def hexText (code : Nat) : Bytes :=
  ascii "0x" ++ (List.range 8).map (fun i => let d := code / 16 ^ (7 - i) % 16; BitVec.ofNat 8 (if d < 10 then 48 + d else 55 + d))

/-- A letter as its lower case. -/
def lowered (b : BitVec 8) : BitVec 8 := if 65 ≤ b.toNat ∧ b.toNat ≤ 90 then b + 32 else b

/-- The one file and mode that the ROM takes, the mode in letters of either case (R502, log entry 40). -/
def tftpTaken (f : TftpFile) : Bool := f.name = ascii "vl4192.img" && f.mode.map lowered = ascii "octet"

/-- TFTP_WRITE_REQUEST (R502): one transfer at a time. -/
def tftpWrite (peer : TftpPeer) (file : TftpFile) (s : State) : State :=
  if s.power.phase ≠ .recovery then s
  else if s.update.tftp then s.tftpSay 5 2 []
  else if !tftpTaken file then s.tftpSay 5 0 []
  else ({ s with update := { s.update with tftp := true, tftpPeer := peer, block := 1, tftpPart := [] } } : State).tftpSay 4 0 []

/-- TFTP_DATA_BLOCK (R502 to R504): the expected block is written and acknowledged; a repeated one is acknowledged again; a block of another
client than the transfer's is answered with error 5 (log entry 40). -/
def tftpData (peer : TftpPeer) (number : Nat) (data : Bytes) (s : State) : State :=
  if s.power.phase ≠ .recovery ∨ !s.update.tftp then s
  else if peer ≠ s.update.tftpPeer then s.tftpSay 5 5 []
  else if number % 65536 = (s.update.block + 65535) % 65536 then s.tftpSay 4 (number % 65536) []
  else if number % 65536 ≠ s.update.block % 65536 then s
  else
    let x := recordsIn s.update.tftpPart data
    let p := s.takeRecords x.1
    match p.2 with
    | some c => ({ p.1 with update := { p.1.update with tftp := false } } : State).tftpSay 5 0 (hexText c)
    | none =>
      let s : State := { p.1 with update := { p.1.update with
        block := p.1.update.block + 1, tftp := decide (512 ≤ data.length), tftpPart := x.2 } }
      let s := s.tftpSay 4 (number % 65536) []
      if s.update.verifying then
        let t := s.verified
        if t.update.download = 2 then t.recovered else t
      else s

/-- Work of a running unit or of the ROM in recovery. -/
def serving (f : State → State) (s : State) : Host.Outcome State Fault Refusal :=
  .next (if s.power.phase = .running ∨ s.power.phase = .recovery then f s.begin else s.begin)

def execImageChunk (r : Req) (rec : ImageRecord) (s : State) : Host.Outcome State Fault Refusal := running (imageChunk r rec) s
def execDownloadVerified (stamp : Nat) (s : State) : Host.Outcome State Fault Refusal := serving (fun t => downloadVerified (t.stamped stamp)) s
def execDownloadExpire (s : State) : Host.Outcome State Fault Refusal := running downloadExpire s
def execActivate (r : Req) (s : State) : Host.Outcome State Fault Refusal := running (updateCommand r 1) s
def execConfirmTrial (r : Req) (s : State) : Host.Outcome State Fault Refusal := running (updateCommand r 2) s
def execDiscardDownload (r : Req) (s : State) : Host.Outcome State Fault Refusal := running (updateCommand r 3) s
def execTrialLimitExpire (s : State) : Host.Outcome State Fault Refusal := running trialLimitExpire s
def execIdentify (f : ServiceHead) (s : State) : Host.Outcome State Fault Refusal := serving (identify f) s
def execImageBegin (f : ServiceHead) (length : Nat) (s : State) : Host.Outcome State Fault Refusal := serving (imageBegin f length) s
def execImageBlock (seq : Nat) (crc : U16) (offset : Nat) (data : Bytes) (s : State) : Host.Outcome State Fault Refusal :=
  serving (imageBlock { seq := seq, crc := crc } offset data) s
def execImageEnd (f : ServiceHead) (flags : Nat) (s : State) : Host.Outcome State Fault Refusal := serving (imageEnd f flags) s
def execStatus (f : ServiceHead) (s : State) : Host.Outcome State Fault Refusal := serving (status f) s
def execServiceReset (f : ServiceHead) (word : Nat) (s : State) : Host.Outcome State Fault Refusal := serving (serviceReset f word) s
def execLeaveRecovery (f : ServiceHead) (word : Nat) (s : State) : Host.Outcome State Fault Refusal := serving (leaveRecovery f word) s
def execServiceFrameGap (s : State) : Host.Outcome State Fault Refusal := serving serviceFrameGap s
def execTftpWriteRequest (peer : TftpPeer) (file : TftpFile) (s : State) : Host.Outcome State Fault Refusal := serving (tftpWrite peer file) s
def execTftpDataBlock (address port number : Nat) (data : Bytes) (s : State) : Host.Outcome State Fault Refusal :=
  serving (tftpData { address := address, port := port } number data) s

end Sys2Proof.Machine
end

