-- ==== Sys2Proof/Machine/Writes.lean ====
section
/-! DEFINITION. Dictionary writes and batches (12 R366 to R372, R385 to R388, R398, R405), with DICTIONARY_WRITE, BATCH,
ACKNOWLEDGE_EVENTS, CLEAR_ERROR_LIST, COUNTER_CONFIGURE, CAPTURE_UNIT_ENABLE, TRIGGER_OUTPUT_ENABLE and
STREAM_MULTICAST_ENABLE. -/

namespace Sys2Proof.Machine

/-! ## Single writes -/

/-- Value of a write item under the type of its entry. -/
def itemValue (x : WriteItem) : Int :=
  match lookup x.index x.sub with | .entry e => valueOf e.ty x.data | _ => 0

/-- The abort codes of R401. -/
def abortCodes : List Nat :=
  [0x05040000, 0x05040001, 0x05040005, 0x06010001, 0x06010002, 0x06020000, 0x06040043, 0x06070010, 0x06090011, 0x06090030, 0x08000000,
   0x08000020, 0x08000022, 0x0F000001, 0x0F000002, 0x0F000003, 0x0F000004, 0x0F000005, 0x0F000006, 0x0F000007, 0x0F000008, 0x0F000009,
   0x0F00000A]

/-- A refusal for which the spec names no abort code: which of R401 is free (log entry 45). -/
def State.refuseFreely (s : State) : State × Answer :=
  let p := s.draw
  (p.2, .refused (abortCodes.getD (p.1 % 23) 0) 0)

/-- Body of an acknowledgement (R398). -/
def State.acknowledgeEvents (value : Nat) (s : State) : State × Answer :=
  if value ≠ 1 then refuse 0x06090030 s else confirm s.acknowledge

/-- Body of a clearing of the error list (R405). -/
def State.clearErrors (value : Int) (s : State) : State × Answer :=
  if value ≠ 0 then refuse 0x06090030 s else confirm { s with access := { s.access with errors := [] } }

/-- A write of an rw entry after the checks of every write: its own rule, then storage (R371, R372, R404). -/
def State.writeSetting (r : Req) (x : WriteItem) (s : State) : State × Answer :=
  let v := itemValue x
  if x.index = 0x1003 then s.clearErrors v
  else if 0x3000 ≤ x.index ∧ x.index < 0x3400 then s.changeArea (some r) (x.index - 0x3000) [(x.sub, v)]
  else if 0x4100 ≤ x.index ∧ x.index < 0x41C0 then s.changeLimit r (x.index - 0x4100) x.sub v
  else match s.ruling x.index x.sub v with
    | some k => s.rule k
    | none => s.writeItems [x]

/-- A write of a wo entry: the command it is. -/
def State.writeCommand (r : Req) (x : WriteItem) (s : State) : State × Answer :=
  let v := unle x.data
  let w := BitVec.ofNat 32 v
  match x.index, x.sub with
  | 0x2001, 1 => s.orderReset v
  | 0x2002, 1 => s.acknowledgeEvents v
  | 0x2101, 9 => s.orderTb1 v
  | 0x2201, 1 => if (haltFields w).1 = 2 then s.restoreHalt (s.roles r.origin) w else s.assertHalt w
  | 0x2201, 2 => s.resumeHalt r w
  | 0x2307, 5 => s.surveyCommand v
  | 0x2600, 3 => s.forgetAddress v
  | 0x2601, 6 => s.askHandover r v
  | 0x2700, 6 => s.keyOrder r v
  | 0x2800, 6 => s.updateOrder r v
  | 0x2900, 1 => s.snapshotCommand v
  | 0x2A00, 5 => s.forceTrigger v
  | 0x2C00, 2 => s.orderPower v
  | 0x2C00, 6 => s.askFeedTest v
  | i, 0x10 => s.orderLane r (i - 0x4000) v
  | i, _ => s.routeCommand r (i - 0x4200) v

/-- A write of one entry by operation 0x02: DOMAIN entries are written only by segments (R366). -/
def State.writeEntry (r : Req) (x : WriteItem) (s : State) : State × Answer :=
  match lookup x.index x.sub with
  | .entry e => if e.ty.isDomain then s.refuseFreely else if e.acc = .wo then s.writeCommand r x else s.writeSetting r x
  | _ => refuse 0x06020000 s

def dictionaryWrite (r : Req) (x : WriteItem) (s : State) : State := s.serveWrite r x.index x.sub x.data (State.writeEntry r x)

/-! ## Batches -/

/-- A write that no batch may hold (R385). -/
def notForBatch (x : WriteItem) : Bool :=
  match lookup x.index x.sub with
  | .entry e => e.safety || e.acc = .wo || e.ty.isDomain
  | _ => false

/-- Position, counted from 1, of the first write that makes a batch not valid (R385; log entry 46). -/
def badItem : Nat → List (Nat × Nat) → List WriteItem → Option Nat
  | _, _, [] => none
  | k, seen, x :: t => if notForBatch x || seen.contains (x.index, x.sub) then some k else badItem (k + 1) ((x.index, x.sub) :: seen) t

/-- One write of a batch against the writes before it (R386). -/
def State.batchRuling (s : State) (r : Req) (x : WriteItem) : Option Ruling :=
  match s.commandCheck r x.index x.sub x.data with
  | some c => some (plainly c)
  | none =>
    let n := x.index - 0x4100
    if 0x4100 ≤ x.index ∧ x.index < 0x41C0 then
      (if s.frozen n then some (plainly 0x08000022) else (s.limitRefused n x.sub (itemValue x)).map plainly)
    else if 0x3000 ≤ x.index ∧ x.index < 0x3400 then none
    else s.ruling x.index x.sub (itemValue x)

/-- The first refusal of a batch in item order (R386). -/
def State.batchRefusal (r : Req) : Nat → List WriteItem → State → Option (Ruling × Nat)
  | _, [], _ => none
  | k, x :: t, s => match s.batchRuling r x with
    | some c => some (c, k)
    | none => State.batchRefusal r (k + 1) t { s with settings := s.settings.put x }

/-- Areas and lanes whose limits a batch writes. -/
def batchAreas (items : List WriteItem) : List Nat :=
  ((items.filter (fun x => decide (0x3000 ≤ x.index) && decide (x.index < 0x3400))).map (fun x => x.index - 0x3000)).eraseDups
def batchLanes (items : List WriteItem) : List Nat :=
  ((items.filter (fun x => decide (0x4100 ≤ x.index) && decide (x.index < 0x41C0))).map (fun x => x.index - 0x4100)).eraseDups

/-- The writes of a batch to one index, as numbers. -/
def itemsOf (index : Nat) (items : List WriteItem) : List (Nat × Int) :=
  (items.filter (fun x => x.index = index)).map (fun x => (x.sub, itemValue x))

/-- Position of the last write of an area, which completes its content (R155, R386; log entry 46). -/
def lastOf (index : Nat) (items : List WriteItem) : Nat :=
  ((List.range items.length).reverse.find? (fun k => (items[k]?).any (fun x => x.index = index))).getD 0 + 1

/-- The first area whose content the batch leaves unfit (R155, R158). -/
def State.batchAreaRefusal (s : State) (items : List WriteItem) : Option (Nat × Nat) :=
  (batchAreas items).findSome? (fun a =>
    match s.areaChange a (itemsOf (0x3000 + a) items) with
    | .refused c => some (c, lastOf (0x3000 + a) items)
    | _ => none)

/-- Areas of a batch that need a ledger check, and lanes whose limits need a plan (R158, R196, R387). -/
def State.checkedAreas (s : State) (items : List WriteItem) : List Nat :=
  (batchAreas items).filter (fun a => s.areaChange a (itemsOf (0x3000 + a) items) = .checked)
def State.plannedLanes (s : State) (items : List WriteItem) : List Nat :=
  (batchLanes items).filter (fun n => s.laneIs n .moving && !s.otherPlan n &&
    (itemsOf (0x4100 + n) items).any (fun x => decide (x.1 ≤ 5) || x.1 = 9))

/-- The entry is held as a number. -/
def numeric (x : WriteItem) : Bool :=
  match lookup x.index x.sub with | .entry e => (match e.ty with | .text _ => false | .domain _ => false | _ => true) | _ => false

/-- Accept a batch that needs ledger checks: a plan for each, and one that holds the rest with them (R387). -/
def State.acceptBatch (r : Req) (areas lanes : List Nat) (items : List WriteItem) (s : State) : State :=
  let t := items.foldl State.put s
  let t : State := areas.foldl (fun (t : State) a =>
    let w := itemsOf (0x3000 + a) items
    let all := (2, t.cfgAccepted (0x3000 + a) 2) :: (1, t.cfgAccepted (0x3000 + a) 1) :: (3, t.cfgAccepted (0x3000 + a) 3) ::
      w.filter (fun x => x.1 ≠ 1 && x.1 ≠ 2 && x.1 ≠ 3)
    t.acceptPlan 0xFF (.closure a all) (some r)) t
  let t : State := lanes.foldl (fun (t : State) n =>
    t.acceptPlan n (.limit ((itemsOf (0x4100 + n) items).map (fun x => (x.1, s.cfgAccepted (0x4100 + n) x.1)))) (some r)) t
  let rest := items.filter (fun x => !(areas.any (fun a => x.index = 0x3000 + a) || lanes.any (fun n => x.index = 0x4100 + n)))
  let t := if rest.isEmpty then t
    else t.acceptPlan 0xFF (.settings ((rest.filter numeric).map (fun x => (key x.index x.sub, itemValue x)))
      ((rest.filter (fun x => !numeric x)).map s.present)) (some r)
  t.onPlans (fun p => p.req = some r && p.submit = t.window) (fun p => { p with batch := true })

/-- Body of a batch (R385 to R387). -/
def State.doBatch (r : Req) (items : List WriteItem) (s : State) : State × Answer :=
  if items.isEmpty ∨ 64 < items.length ∨ 1384 < (items.map itemBytes).sum then refuse 0x0F000004 s
  else match badItem 1 [] items with
    | some k => (s, .refused 0x0F000004 k)
    | none => match State.batchRefusal r 1 items s with
      | some (c, k) => ((s.rule c).1, .refused c.code k)
      | none => match s.batchAreaRefusal items with
        | some (c, k) => (s, .refused c k)
        | none =>
          let areas := s.checkedAreas items
          let lanes := s.plannedLanes items
          if s.storeFull items then refuse 0x0F000008 s
          else if areas.isEmpty ∧ lanes.isEmpty then s.writeItems items
          else (s.acceptBatch r areas lanes items, .pending)

def batchWrite (r : Req) (items : List WriteItem) (s : State) : State := s.serve r (State.doBatch r items)

/-! ## Writes with rows of their own -/

/-- Subindex and index of a counter's entry (R413): field 0 select, 1 mode, 2 threshold. -/
def counterItem (c f v : Nat) : WriteItem :=
  { index := (match f with | 0 => 0x2910 | 1 => 0x2918 | _ => 0x2920) + c / 32, sub := c % 32 + 1
    data := le (match f with | 0 => 2 | 1 => 1 | _ => 4) v }

/-- A BOOLEAN or one-byte write. -/
def byteItem (index sub v : Nat) : WriteItem := { index := index, sub := sub, data := le 1 v }

/-- COUNTER_CONFIGURE (R413, R515, R516): counters 0 to 255. -/
def counterConfigure (r : Req) (counter f v : Nat) (s : State) : State := dictionaryWrite r (counterItem (counter % 256) f v) s

def execDictionaryWrite (r : Req) (item : WriteItem) (s : State) : Host.Outcome State Fault Refusal := running (dictionaryWrite r item) s
def execBatch (r : Req) (items : List WriteItem) (s : State) : Host.Outcome State Fault Refusal := running (batchWrite r items) s
def execAcknowledgeEvents (r : Req) (value : Nat) (s : State) : Host.Outcome State Fault Refusal :=
  running (dictionaryWrite r (byteItem 0x2002 1 value)) s
def execClearErrorList (r : Req) (value : Nat) (s : State) : Host.Outcome State Fault Refusal :=
  running (dictionaryWrite r (byteItem 0x1003 0 value)) s
def execCounterConfigure (r : Req) (counter field value : Nat) (s : State) : Host.Outcome State Fault Refusal :=
  running (counterConfigure r counter field value) s
def execCaptureUnitEnable (r : Req) (unit value : Nat) (s : State) : Host.Outcome State Fault Refusal :=
  running (dictionaryWrite r (byteItem (0x2A10 + unit) 1 value)) s
def execTriggerOutputEnable (r : Req) (value : Nat) (s : State) : Host.Outcome State Fault Refusal :=
  running (dictionaryWrite r (byteItem 0x2A00 4 value)) s
def execStreamMulticastEnable (r : Req) (stream value : Nat) (s : State) : Host.Outcome State Fault Refusal :=
  running (dictionaryWrite r (byteItem (0x5000 + stream) 6 value)) s

end Sys2Proof.Machine
end

