-- ==== Sys2Proof/Machine/Reads.lean ====
section
/-! DEFINITION. Dictionary reads: what each entry shows (12 R366, R369, R402; 13 R404 to R416; the entry table of each
chapter). Read-only entries show the units as of the last tick boundary, rw entries the value most recently accepted. -/

namespace Sys2Proof.Machine

/-- One of a boolean. -/
def one (b : Bool) : Int := if b then 1 else 0

/-- A mask of lanes: bit `b` of subindex `k` for lane 32 × (k − 1) + b. -/
def laneWord (k : Nat) (c : Nat → Bool) : Int :=
  (((List.range 32).map (fun b => if c (32 * (k - 1) + b) then 2 ^ b else 0)).sum : Nat)

/-! ## Read-only entries by index -/

/-- 0x1001 to 0x1018 (R405). -/
def Units.show1000 (u : Units) (i sub : Nat) : Int :=
  match i with
  | 0x1001 => u.access.register.toNat
  | 0x1003 => if sub = 0 then u.access.errors.length else (u.access.errors.getD (sub - 1) 0).toNat
  | 0x1014 => 0x80 + u.chain.address
  | 0x1018 => (match sub with | 1 => 0x0C1E | 2 => 0x4192 | 3 => Config.stepping * 16777216 + u.firmware / 256 | _ => Config.serial.toNat % 4294967296)
  | _ => 0

/-- 0x2000 to 0x2022 (R179, R402, R406). -/
def Units.show2000 (u : Units) (i sub : Nat) : Int :=
  match i, sub with
  | 0x2000, 1 => Config.serial.toNat
  | 0x2000, 2 => Config.stepping
  | 0x2000, 3 => one u.keys.development
  | 0x2000, 4 => u.firmware
  | 0x2000, 5 => if u.halt.silent then 3 else u.power.deviceState
  | 0x2000, 6 => u.clock.tick.toNat
  | 0x2000, 7 => one u.clock.provisional
  | 0x2000, 8 => u.lanesInUse
  | 0x2000, 9 => u.lanesMoving
  | 0x2000, 10 => u.power.resets.toNat
  | 0x2000, 11 => u.power.cause
  | 0x2011, 0x10 => u.ledger.checked.toNat
  | 0x2011, 0x11 => u.ledger.committed.toNat
  | 0x2011, 0x12 => u.ledger.conflicts.toNat
  | 0x2011, 0x13 => u.ledger.late.toNat
  | 0x2011, 0x14 => u.ledger.testsLast
  | 0x2011, 0x15 => u.ledger.testsPeak
  | 0x2011, 0x16 => u.ledger.excursions.toNat
  | 0x2011, 0x17 => u.ledger.stopping.toNat
  | 0x2013, 0x10 => u.ledger.requested.toNat
  | 0x2013, 0x11 => u.ledger.granted.toNat
  | 0x2013, 0x12 => u.ledger.refused.toNat
  | 0x2013, 0x13 => u.ledger.expired.toNat
  | 0x2013, 0x14 => u.lanesReserved
  | 0x2022, 4 => u.access.sessions.length
  | 0x2022, 5 => u.access.discarded.toNat
  | 0x2022, 6 => u.access.failed.toNat
  | 0x2022, 7 => u.access.duplicates.toNat
  | 0x2022, 8 => u.access.suppressed.toNat
  | _, _ => 0

/-- Growth of a base's error since it was lost, as that of the tick in holdover (R352). -/
def Units.baseError (u : Units) (b : Nat) : Int :=
  let x := tget (fun _ => ({} : Base)) u.time.bases b
  let t : Int := x.lost
  if !x.ever then 0xFFFFFFFF
  else if x.locked then x.error
  else min 0xFFFFFFFE (x.error + ceilDiv (u.cfg 0x2101 6 * t * 8640000 + u.cfg 0x2101 7 * t * t) 432000000000)

/-- A time-base record (R365): TB3 runs free. -/
def Units.showBase (u : Units) (b sub : Nat) : Int :=
  let x := tget (fun _ => ({} : Base)) u.time.bases b
  if b = 3 then
    (match sub with | 1 => 4 | 2 => u.clock.tb3 | 3 => 0xFFFFFFFF | _ => u.clock.tb3 - u.clock.source)
  else match sub with
    | 1 => if x.locked then 1 else if !x.ever then 0 else if u.baseError b ≤ u.cfg 0x2101 4 then 2 else 3
    | 2 => u.clock.source + x.offset +
        (if u.time.numbering = 0 ∧ b ≠ 0 then 315964819000000000 else if u.time.numbering ≠ 0 ∧ b = 0 then -315964819000000000 else 0)
    | 3 => u.baseError b
    | _ => x.offset

/-- 0x2100 to 0x2211 (R239, R365). -/
def Units.show2100 (u : Units) (i sub : Nat) : Int :=
  let port := fun (k : Nat) => tget (fun _ => ({} : PtpPort)) u.time.ports k
  match i, sub with
  | 0x2100, 1 => one u.time.valid
  | 0x2100, 2 => u.time.discipline
  | 0x2100, 3 => u.time.error
  | 0x2100, 4 => u.time.quality
  | 0x2100, 5 => u.time.declared.toNat
  | 0x2100, 6 => u.time.lastStep
  | 0x2100, 7 => u.time.steps.toNat
  | 0x2100, 8 => u.time.switches.toNat
  | 0x2103, 0x10 => (port 0).state
  | 0x2103, 0x11 => (port 0).offset
  | 0x2103, 0x12 => (port 0).delay
  | 0x2104, 0x10 => (port 1).state
  | 0x2104, 0x11 => (port 1).offset
  | 0x2104, 0x12 => (port 1).delay
  | 0x2105, 6 => u.time.ppsOffset
  | 0x2105, 7 => u.time.ppsRejected.toNat
  | 0x2210, 1 => u.halt.site.toNat
  | 0x2210, 2 => u.halt.cell.toNat
  | 0x2210, 3 => u.halt.sources (u.cfgOn 0x2202 7)
  | 0x2210, 4 => ((List.range 4).map (fun c => if (tget (fun _ => ({} : Channel)) u.panel.channels c).closed then 2 ^ c else 0)).sum
  | 0x2210, 5 => u.halt.haltId.toNat
  | 0x2210, 6 => u.halt.latency
  | 0x2210, 7 => u.halt.decided.toNat
  | 0x2210, 8 => u.halt.lateWork.toNat
  | 0x2210, 9 => u.halt.lineFaults.toNat
  | 0x2210, 0xA => one u.halt.silent
  | 0x2211, k => laneWord k (fun n => inForce (tget (fun _ => ({} : Lane)) u.lanes n).haltRecord)
  | j, k => if 0x2110 ≤ j ∧ j ≤ 0x2113 then u.showBase (j - 0x2110) k else 0

/-- Satellite integrity of a channel of port A (R115): system, PRN, state, cause. -/
def Units.showIntegrity (u : Units) (k : Nat) : Int :=
  match u.reference.sats[k]? with
  | none => 0
  | some x => x.system * 16777216 + x.prn % 256 * 65536 + x.state * 256 + x.cause

/-- 0x2302 to 0x2401 (R82, R115, R139). -/
def Units.show2300 (u : Units) (i sub : Nat) : Int :=
  let r := u.reference
  let sats := fun (st : Nat) => ((r.sats.filter (fun x => x.state = st)).length : Int)
  match i, sub with
  | 0x2302, 8 => u.gnss.portA.state
  | 0x2302, 9 => u.gnss.portA.current
  | 0x2302, 0xA => u.gnss.portB.state
  | 0x2302, 0xB => u.gnss.portB.current
  | 0x2305, 2 => u.gnss.mode
  | 0x2305, 3 => u.gnss.first.toNat
  | 0x2306, 0xC => r.state
  | 0x2306, 0xD => r.issue
  | 0x2307, 6 => r.elapsed
  | 0x2307, 7 => r.surveySigma
  | 0x2307, 8 => r.result.1
  | 0x2307, 9 => r.result.2.1
  | 0x2307, 0xA => r.result.2.2
  | 0x2307, 0xB => one r.running
  | 0x2309, 1 => one r.positioning
  | 0x2309, 2 => sats 0
  | 0x2309, 3 => sats 1
  | 0x2309, 4 => sats 2
  | 0x2309, 5 => r.rms
  | 0x230A, k => u.showIntegrity (k - 1)
  | 0x230B, 6 => u.checkpoint.completed.toNat
  | 0x230B, 7 => u.checkpoint.dropped.toNat
  | 0x230B, 8 => u.checkpoint.queue.length
  | 0x230C, k => (tget (fun _ => ({} : TrackChannel)) u.gnss.channels (k - 1)).late.toNat
  | 0x2401, 2 => r.correction
  | 0x2401, 3 => r.sent.toNat
  | 0x2401, 4 => r.notSent.toNat
  | _, _ => 0

/-- Verge duty account of the units, ms (R301). -/
def Units.duty (u : Units) : Int :=
  (((u.air.duty.filter (fun e => decide ((u.clock.source + u.clock.offset) / 1000000000 - 3600 < e.1))).map (·.2)).sum / 1000 : Nat)

/-- Lanes not VACANT that have not acknowledged the announced generation, 0x2507:06 (R333, R339). -/
def Units.rolloverPending (u : Units) : Nat :=
  if u.keys.pendingState ≠ 3 then 0
  else (u.lanes.filter (fun e => e.2.occupied && (tget (fun _ => ({} : AirLane)) u.airLanes e.1).keyGeneration ≠ u.keys.pendingGeneration)).length

/-- A carriageway's counters by row of 0x2505 (R305). -/
def Carriageway.show (c : Carriageway) (k : Nat) : Int :=
  match k with
  | 0 => c.sent.toNat
  | 1 => c.deferred.toNat
  | 2 => c.skipped.toNat
  | 3 => c.carried.toNat
  | 4 => c.contention.toNat
  | _ => c.late.toNat

/-- 0x2501 to 0x2507 (R275, R305, R339). -/
def Units.show2500 (u : Units) (i sub : Nat) : Int :=
  let cw := fun (k : Nat) => tget (fun _ => ({} : Carriageway)) u.air.cws k
  match i with
  | 0x2501 => (cw (sub - 0x10)).headerErrors.toNat
  | 0x2502 => if sub = 3 then u.air.hop else u.air.crcFailures.toNat
  | 0x2504 => (match sub with
    | 3 => u.duty
    | 4 => u.air.withheldHalts.toNat
    | 5 => u.air.withheldNotices.toNat
    | 6 => u.air.gaps.toNat
    | _ => u.air.exceeded.toNat)
  | 0x2505 => (cw ((sub - 1) % 4)).show ((sub - 1) / 4)
  | 0x2507 => (match sub with
    | 3 => u.air.broadcast.toNat % 4294967296
    | 4 => u.air.broadcast.toNat / 4294967296
    | 5 => u.air.unknown.toNat
    | 6 => u.rolloverPending
    | _ => u.air.incomplete.toNat)
  | _ => 0

/-- 0x2600 to 0x2800 (R410 to R412). -/
def Units.show2600 (u : Units) (i sub : Nat) : Int :=
  match i, sub with
  | 0x2600, 1 => u.chain.address
  | 0x2600, 2 => u.pairNumber
  | 0x2600, 4 => one u.chain.selIn
  | 0x2600, 5 => u.chain.seen.toNat
  | 0x2601, 2 => u.pair.role
  | 0x2601, 3 => (complemented u.pair.epoch).toNat
  | 0x2601, 4 => 8
  | 0x2601, 5 => one (decide (u.pair.linkSilent < 8)) + 2 * one (decide (u.pair.pulseSilent < 8))
  | 0x2601, 7 => u.pair.lateRun
  | 0x2601, 8 => u.pair.lateTotal.toNat
  | 0x2601, 9 => u.pair.takeovers.toNat
  | 0x2601, 0xA => u.pair.partnerFirmware.toNat
  | 0x2602, 2 => u.cells.sent.toNat
  | 0x2602, 3 => u.cells.received.toNat
  | 0x2602, 4 => u.cells.failed.toNat
  | 0x2700, 1 => u.keys.security
  | 0x2700, 2 => u.keys.generation
  | 0x2700, 3 => u.keys.check.toNat
  | 0x2700, 4 => u.keys.pendingState
  | 0x2700, 8 => u.keys.tamper.toNat
  | 0x2800, 3 => u.update.download
  | 0x2800, 8 => u.update.running
  | 0x2800, 0xB => u.update.trial
  | 0x2800, 0xC => u.image.schema
  | 0x2800, 0xD => u.update.generation.toNat
  | 0x2800, 0xE => one (decide (u.update.other.role = 3))
  | 0x2800, 0xF => u.update.failedBoots
  | _, _ => 0

/-- 0x2900 to 0x2C00 (R413 to R416). -/
def Units.show2900 (u : Units) (i sub : Nat) : Int :=
  let unit := fun (k : Nat) => tget (fun _ => ({} : TripUnit)) u.trip.units k
  let health := fun (c : Nat → Bool) => (((List.range 32).filter (fun k => c (tget (fun _ => ({} : LampChannel)) u.lamps.channels k).health)).length : Int)
  let c := (i % 8) * 32 + sub - 1
  if i = 0x2900 then (if sub = 3 then u.counters.number.toNat else one u.counters.snap.isSome)
  else if i < 0x2938 then (tget (fun _ => 0) u.counters.live c : Nat)
  else if i < 0x2940 then (tget (fun _ => 0) u.counters.shadow c : Nat)
  else if i < 0x2960 then (tget (fun _ => ({} : Task)) u.disp.tasks c).late
  else match i, sub with
    | 0x2A00, 1 => ((List.range 4).map (fun k => partSize (unit k).pre + partSize (unit k).post)).sum
    | 0x2A00, 2 => (u.trip.retained.map retainedBytes).sum
    | 0x2B00, 1 => u.keysTouched
    | 0x2B00, 8 => one u.panel.plug
    | 0x2B00, 9 => one u.panel.wake
    | 0x2B01, 1 => u.lamps.drivers
    | 0x2B01, 5 => health (fun h => h = 4)
    | 0x2B01, 6 => health (fun h => h = 2 || h = 3)
    | 0x2B01, 7 => u.lamps.late.toNat
    | 0x2C00, 1 => u.power.state
    | 0x2C00, 3 => u.power.feedA.state
    | 0x2C00, 4 => u.power.feedB.state
    | 0x2C00, 7 => u.power.vbat
    | 0x2C00, 8 => u.power.dieTemp
    | 0x2C00, 9 => u.power.rfTemp
    | j, 8 => (unit (j - 0x2A10)).state
    | j, _ => (unit (j - 0x2A10)).captures.toNat

/-- Lane whose envelope meets junction area `a` at the present tick; 0xFF none (R179). -/
def Units.holder (u : Units) (a : Nat) : Int :=
  match (u.areasOf 2).find? (fun x => x.1 = a) with
  | none => 0xFF
  | some x => match u.routes.find? (fun r => envelopeMeets (r.2.envelopes.envAt u.clock.tick) x.2) with
    | some r => r.1
    | none => 0xFF

/-- Lane-state record (R408). -/
def Units.showLane (u : Units) (n sub : Nat) : Int :=
  let l := tget (fun _ => ({} : Lane)) u.lanes n
  match sub with
  | 1 => l.state.toNat
  | 2 => (complemented l.epoch).toNat
  | 3 => l.haltRecord.toNat
  | 4 => l.atHalt.toNat
  | 5 => l.lastTransition.toNat
  | 6 => l.progress.toNat
  | 7 => l.identity.toNat
  | 8 => one l.integrityFault
  | 9 => one l.reserved
  | 0xB => l.resultCode
  | _ => l.resultPlan.toNat

/-- Effective limits (R180) and the route record (R210) of lane `n`. -/
def Units.showRoute (u : Units) (i n sub : Nat) : Int :=
  let r := tget (fun _ => ({} : Route)) u.routes n
  if i < 0x4200 then
    (match sub with
      | 0x11 => r.effective.top | 0x12 => r.effective.acc | 0x13 => r.effective.dec | 0x14 => r.effective.jerk
      | 0x15 => one r.effective.reversal | 0x16 => r.effective.dwell | _ => one r.deferred)
  else match sub with
    | 3 => r.planId.toNat | 4 => r.first.toNat | 5 => r.standstill.toNat | 6 => r.east | 7 => r.north | 8 => r.heading
    | 9 => r.refused.toNat | _ => r.lastAccepted.toNat

/-- Checkpoint results of lane `n` (R139). -/
def Units.showCheckpoint (u : Units) (n sub : Nat) : Int :=
  let k := tget (fun _ => ({} : CkLane)) u.checkpoint.lanes n
  match sub with
  | 1 => k.verdict | 2 => k.reason | 3 => k.epochTick.toNat | 4 => k.horizontal | 5 => k.vertical | 6 => k.ratio | 7 => k.used
  | 8 => k.disagree | 9 => k.east | 0xA => k.north | 0xB => k.up | 0xC => k.complete.toNat | 0xD => k.incomplete.toNat
  | 0xE => k.dropped.toNat | _ => one k.refuses

/-- Air statistics of lane `n` (R306, R339). -/
def Units.showAir (u : Units) (n sub : Nat) : Int :=
  let a := tget (fun _ => ({} : AirLane)) u.airLanes n
  match sub with
  | 1 => a.received.toNat | 2 => a.missed.toNat | 3 => a.barred.toNat | 4 => a.consecutive | 5 => a.selfStops.toNat
  | 6 => a.contention.toNat | 7 => a.otherEpoch.toNat | 8 => a.earlierPair.toNat
  | 0x10 => a.authenticated.toNat | 0x11 => a.micFailures.toNat | 0x12 => a.tooOld.toNat | 0x13 => a.repeated.toNat
  | 0x14 => a.complement.toNat | 0x15 => a.executed.toNat | 0x16 => a.duplicates.toNat | 0x17 => a.outOfWindow.toNat
  | 0x18 => a.sent.toNat | 0x19 => a.retransmitted.toNat | 0x1A => a.undelivered.toNat | 0x1B => a.expected | 0x1C => a.next
  | 0x1D => a.keyGeneration | 0x1E => one a.relay | _ => a.lastCounter.toNat

/-- Stream record (R392). -/
def Units.showStream (u : Units) (q sub : Nat) : Int :=
  let t := u.stream q
  match sub with | 2 => t.fill | 3 => t.lost.toNat | 4 => t.resets.toNat | _ => t.reader.toNat

/-- What a read-only or const entry of fixed size shows. -/
def Units.showEntry (u : Units) (i sub : Nat) : Int :=
  if i < 0x2000 then u.show1000 i sub
  else if i < 0x2100 then u.show2000 i sub
  else if i < 0x2300 then u.show2100 i sub
  else if i < 0x2500 then u.show2300 i sub
  else if i < 0x2600 then u.show2500 i sub
  else if i < 0x2900 then u.show2600 i sub
  else if i < 0x3000 then u.show2900 i sub
  else if i < 0x3400 then (if sub = 6 then u.holder (i - 0x3000) else (tget (fun _ => 0) u.ledger.conflictsOf (i - 0x3000)).toNat)
  else if i < 0x4100 then u.showLane (i - 0x4000) sub
  else if i < 0x4300 then u.showRoute i (i % 0x100) sub
  else if i < 0x4400 then u.showCheckpoint (i - 0x4300) sub
  else if i < 0x4500 then u.showAir (i - 0x4400) sub
  else u.showStream (i - 0x5000) sub

/-! ## Reads -/

/-- A decimal text. -/
def decimal (n : Nat) : String := toString n

/-- Text entries (R405). -/
def State.showText (s : State) (i sub : Nat) : Bytes :=
  match i with
  | 0x1008 => ascii "VL-4192"
  | 0x1009 => [BitVec.ofNat 8 Config.stepping]
  | 0x100A =>
    let v := s.shown.firmware.toNat
    ascii (decimal (v / 16777216) ++ "." ++ decimal (v / 65536 % 256) ++ "." ++ decimal (v % 65536))
  | _ => if sub = 0x0A then s.settings.antenna else s.settings.antennaSerial

/-- A read of an entry that is not a DOMAIN: its data, or an abort code (R369, R373, R413). -/
def State.readEntry (roles i sub : Nat) (s : State) : State × Answer :=
  match lookup i sub with
  | .noIndex => refuse 0x06020000 s
  | .noSub => refuse 0x06090011 s
  | .entry e =>
    if e.acc = .wo then refuse 0x06010001 s
    else if !permitted roles (roleO + roleP + roleL + roleW + roleS) then refuse 0x0F000001 s
    else if 0x2930 ≤ i ∧ i ≤ 0x293F ∧ sub ≠ 0 ∧ !permitted roles (roleW + roleS) ∧ !(permitted roles roleO && s.cfgOn 0x2900 5) then
      refuse (if permitted roles roleO then 0x0F000006 else 0x0F000001) s
    else match e.ty with
      | .domain _ => s.refuseFreely
      | .text _ => (s, .done (s.showText i sub))
      | t =>
        let n := t.size.getD 0
        if e.acc = .rw ∧ !(i = 0x1003) then (s, .done (le n (s.cfgAccepted i sub)))
        else if sub = 0 ∧ i ≠ 0x1001 ∧ i ≠ 0x1003 ∧ i ≠ 0x1014 ∧ i ≠ 0x1000 then (s, .done (le n (highestSub i)))
        else if i = 0x2800 ∧ (sub = 9 ∨ sub = 0xA) then
          (s, .done (le n (s.slotVersion (sub - 9))))
        else (s, .done (le n (s.shown.showEntry i sub)))

/-- The committed released route in the route layout, start kind 0 (R184, R210). -/
def Route.bytes (r : Route) : Bytes :=
  if r.legs.isEmpty then []
  else le 1 1 ++ le 1 0 ++ le 2 r.legs.length ++ le 4 r.start.east ++ le 4 r.start.north ++ le 2 r.start.heading ++ le 2 0 ++
    le 4 r.tag ++ le 4 r.earliest ++ le 8 0 ++
    r.legs.flatMap (fun g => le 1 g.kind ++ le 1 g.flags ++ le 2 g.speed ++ le 4 g.length ++ le 4 g.k0 ++ le 4 g.k1 ++
      le 4 g.final.east ++ le 4 g.final.north ++ le 2 g.final.heading ++ le 6 0)

/-- Content of a readable DOMAIN entry other than a stream (R391). -/
def State.domainBytes (s : State) (i sub : Nat) : Bytes :=
  if i = 0x2701 then (tfind s.settings.credentials sub).getD []
  else if i = 0x2702 then identityKey s.keys.testRoot
  else if i = 0x2800 then (match s.shown.update.manifest with | some m => le ((m.count + 7) / 8) s.shown.update.bits | none => [])
  else if 0x4000 ≤ i ∧ i < 0x4100 then
    (match (tget (fun _ => ({} : Lane)) s.shown.lanes (i - 0x4000)).result with | some r => recordBytes r | none => [])
  else if 0x4200 ≤ i ∧ i < 0x4300 then (tget (fun _ => ({} : Route)) s.shown.routes (i - 0x4200)).bytes
  else []

end Sys2Proof.Machine
end

