-- ==== Sys2Proof/Machine/Access.lean ====
section
/-! DEFINITION. Segmented transfers of DOMAIN entries (12 R366, R377, R378, R385, R389 to R391, R394; 15 R462, R467; 16 R473,
R477), with DOMAIN_DOWNLOAD_SEGMENT, DOMAIN_UPLOAD_SEGMENT and TRANSFER_SEGMENT_TIMEOUT. -/

namespace Sys2Proof.Machine

/-! ## Content of a finished download -/

/-- Write items spelled by bytes (R385): index, subindex, a reserved byte, data length, data; none where they do not fit.
`n` bounds their number. -/
def parseItems : Nat → Bytes → Option (List WriteItem)
  | _, [] => some []
  | 0, _ => none
  | n + 1, b =>
    let size := field b 4 2
    if b.length < 6 + size then none
    else (parseItems n (b.drop (6 + size))).map
      ({ index := field b 0 2, sub := byteAt b 2, data := (b.drop 6).take size } :: ·)

/-- The reserved byte of some item is set. -/
def itemReserved : Nat → Bytes → Bool
  | _, [] => false
  | 0, _ => false
  | n + 1, b => byteAt b 3 ≠ 0 || itemReserved n (b.drop (6 + field b 4 2))

/-- A batch by segments (R385). The codes for a list that does not fit and for a reserved byte that is set (R9) are the model's
choice (log entry 120). -/
def State.batchBytes (r : Req) (b : Bytes) (s : State) : State × Answer :=
  match parseItems b.length b with
  | none => refuse 0x06070010 s
  | some items => if itemReserved b.length b then refuse 0x06090030 s else s.doBatch r items

/-- A pending key by segments (R462): only over a VAP session. -/
def State.pendingBytes (r : Req) (b : Bytes) (s : State) : State × Answer :=
  if b.length ≠ 48 then refuse 0x06070010 s
  else match r.origin with
    | .vap k => s.loadPending (byteAt b 0) ((b.drop 1).take 3) (s.unwrapped (.vap k) ((b.drop 4).take 40)) (BitVec.ofNat 32 (field b 44 4))
    | _ => refuse 0x0F000001 s

/-- A debug certificate by segments (R467). -/
def State.certificateBytes (b : Bytes) (s : State) : State × Answer :=
  if b.length ≠ 112 then refuse 0x06070010 s
  else if (byteAt b 1 ≠ 1 ∧ byteAt b 1 ≠ 2) ∨ field b 2 2 ≠ 0 then refuse 0x06090030 s
  else s.debugCertificate (byteAt b 1 = 1) (byteAt b 0) (BitVec.ofNat 64 (field b 4 8)) (BitVec.ofNat 32 (field b 12 4))
    (Crypto.p384.verifies Config.debugAuthority (Crypto.sha384 (b.take 16)) (b.drop 16))

/-- An image record by segments (R473, R477). -/
def State.chunkBytes (b : Bytes) (s : State) : State × Answer :=
  if b.length < 32 ∨ b.length ≠ 32 + field b 16 2 then refuse 0x06070010 s else s.writeChunk (imageRecordOf b)

/-- A credential by segments (R410): empty, or 65 bytes of key, roles and two reserved bytes. -/
def State.credentialBytes (k : Nat) (b : Bytes) (s : State) : State × Answer :=
  if b.length ≠ 0 ∧ b.length ≠ 68 then refuse 0x06070010 s
  else if 15 < byteAt b 65 ∨ field b 66 2 ≠ 0 then refuse 0x06090030 s
  else s.writeItems [{ index := 0x2701, sub := k, data := b }]

/-- A finished download takes effect (R390): the content is checked only now. -/
def State.applyDomain (r : Req) (i sub : Nat) (b : Bytes) (s : State) : State × Answer :=
  match s.commandCheck r i sub b with
  | some c => refuse c s
  | none =>
    if i = 0x2020 then s.batchBytes r b
    else if i = 0x2700 ∧ sub = 5 then s.pendingBytes r b
    else if i = 0x2700 then s.certificateBytes b
    else if i = 0x2701 then s.credentialBytes sub b
    else if i = 0x2800 then s.chunkBytes b
    else s.submitRoute (i - 0x4200) b

/-! ## Downloads -/

/-- The transfer under way on an entry (R391). -/
def Units.transfer (u : Units) (i sub : Nat) : Option Transfer := u.access.transfers.find? (fun t => t.index = i && t.sub = sub)

/-- The state without the transfer on an entry. -/
def State.endTransfer (i sub : Nat) (s : State) : State :=
  { s with access := { s.access with transfers := s.access.transfers.filter (fun t => !(t.index = i && t.sub = sub)) } }

/-- The state with a transfer in place of the one on its entry. -/
def State.holdTransfer (t : Transfer) (s : State) : State :=
  let s := s.endTransfer t.index t.sub
  { s with access := { s.access with transfers := s.access.transfers ++ [t] } }

/-- CAN client nodes with a transfer under way. -/
def Units.canClients (u : Units) : List Nat :=
  (u.access.transfers.filterMap (fun t => match t.origin with | .can n => some n | _ => none)).eraseDups

/-- A new transfer is refused (R377, R378, R391). -/
def State.transferRefused (s : State) (r : Req) (i sub : Nat) : Option Nat :=
  if (s.transfer i sub).isSome then some 0x0F000005
  else match r.origin with
    | .can n =>
      if s.canClients.contains n then some 0x0F000005
      else if 8 ≤ s.canClients.length then some 0x05040005
      else none
    | _ => none

/-- Greatest length of a DOMAIN entry. -/
def domainMax (i sub : Nat) : Nat :=
  match lookup i sub with | .entry e => (match e.ty with | .domain m => m | _ => 0) | _ => 0

/-- The transfer of a download to which a segment belongs: a new one for a first segment, else the one under way. -/
def State.downloadOf (r : Req) (i sub : Nat) (first : Bool) (total : Nat) (s : State) : Except Nat Transfer :=
  if first then
    match s.transferRefused r i sub with
    | some c => .error c
    | none => match s.commandCheck r i sub (List.replicate (min total (domainMax i sub + 1)) 0) with
      | some c => .error c
      | none => .ok { index := i, sub := sub, origin := r.origin, upload := false, total := total, data := [], idle := 0 }
  else match s.transfer i sub with
    | none => .error 0x08000020
    | some t => if t.origin ≠ r.origin ∨ t.upload then .error 0x0F000005 else .ok t

/-- A segment joins its transfer (R366, R389, R390): offsets are consecutive, a segment holds at most 1,024 bytes, and the last
one completes the announced length. -/
def State.joinSegment (r : Req) (t : Transfer) (last : Bool) (offset : Nat) (data : Bytes) (s : State) : State × Answer :=
  let got := t.data ++ data
  if offset ≠ t.data.length then refuse 0x08000020 (s.endTransfer t.index t.sub)
  else if 1024 < data.length ∨ t.total < got.length ∨ (last ∧ got.length ≠ t.total) then refuse 0x06070010 (s.endTransfer t.index t.sub)
  else if last then (s.endTransfer t.index t.sub).applyDomain r t.index t.sub got
  else confirm (s.holdTransfer { t with data := got, idle := 0 })

/-- Body of a download segment: the entry must exist and be a DOMAIN. -/
def State.downloadSegment (r : Req) (i sub : Nat) (first last : Bool) (offset total : Nat) (data : Bytes) (s : State) :
    State × Answer :=
  match lookup i sub with
  | .noIndex => refuse 0x06020000 s
  | .noSub => refuse 0x06090011 s
  | .entry e =>
    if !e.ty.isDomain then s.refuseFreely
    else match s.downloadOf r i sub first total with
      | .error c => refuse c s
      | .ok t => s.joinSegment r t last offset data

def domainDownload (r : Req) (i sub : Nat) (first last : Bool) (offset total : Nat) (data : Bytes) (s : State) : State :=
  s.serve r (State.downloadSegment r i sub first last offset total data)

/-! ## Uploads -/

/-- Items of a stream whose sequence lies before a number. -/
def itemsBefore (n : U32) (l : List Item) : Nat := (l.takeWhile (fun i => later n i.seq)).length

/-- Snapshot of a stream at the first segment (R394): over CAN all whole items, else the oldest one; the idle item of an empty
queue. -/
def streamSnapshot (can : Bool) (t : Stream) : Bytes × Option U32 :=
  let l := if can then t.items else t.items.take 1
  match l.getLast? with
  | none => (t.idleItem, none)
  | some i => (l.flatMap Item.bytes, some (i.seq + 1))

/-- The first segment of a stream upload (R393, R394): a CAN client claims the stream with it, any other reader must hold it. -/
def State.openStream (r : Req) (q : Nat) (s : State) : State × Except Answer (Bytes × Option U32) :=
  let me := BitVec.ofNat 32 (readerOf r.origin)
  let can : Bool := match r.origin with | .can _ => true | _ => false
  match s.streamRefused (s.roles r.origin) q with
  | some c => (s, .error (.refused c 0))
  | none =>
    if !can ∧ (s.stream q).reader = 0 then let p := s.refuseFreely; (p.1, .error p.2)
    else
      let p := s.claimReader q me
      match p.2 with
      | some c => (p.1, .error (.refused c 0))
      | none =>
        let a := p.1.readQueue q
        if !a.2 then (a.1, .ok ((a.1.stream q).idleItem, none)) else (a.1, .ok (streamSnapshot can (a.1.stream q)))

/-- The first segment of an upload: the snapshot of R391. -/
def State.openUpload (r : Req) (i sub : Nat) (s : State) : State × Except Answer (Bytes × Option U32) :=
  match lookup i sub with
  | .noIndex => (s, .error (.refused 0x06020000 0))
  | .noSub => (s, .error (.refused 0x06090011 0))
  | .entry e =>
    if e.acc = .wo then (s, .error (.refused 0x06010001 0))
    else if !permitted (s.roles r.origin) (roleO + roleP + roleL + roleW + roleS) then (s, .error (.refused 0x0F000001 0))
    else if !e.ty.isDomain then let p := s.refuseFreely; (p.1, .error p.2)
    else match s.transferRefused r i sub with
      | some c => (s, .error (.refused c 0))
      | none => if 0x5000 ≤ i then s.openStream r (i - 0x5000) else (s, .ok (s.domainBytes i sub, none))

/-- The items of a finished stream upload are removed (R394); a stream-3 reader that made room lets captures drain (R539). -/
def State.takeUploaded (i : Nat) (upTo : Option U32) (s : State) : State :=
  match upTo with
  | none => s
  | some n =>
    let q := i - 0x5000
    let s := s.onStream q (fun x => { x.took (itemsBefore n x.items) with idle := 0 })
    if q = 3 then s.drainAll else s

/-- The next segment of an upload, at most 1,024 bytes (R391). -/
def State.sendSegment (t : Transfer) (s : State) : State × Answer :=
  let part := t.data.take 1024
  let rest := t.data.drop 1024
  let s := if 0x5000 ≤ t.index then s.onStream (t.index - 0x5000) (fun x => { x with idle := 0 }) else s
  if rest.isEmpty then ((s.endTransfer t.index t.sub).takeUploaded t.index t.upTo, .done part)
  else (s.holdTransfer { t with data := rest, idle := 0 }, .done part)

/-- Body of an upload segment. -/
def State.uploadSegment (r : Req) (i sub : Nat) (first : Bool) (s : State) : State × Answer :=
  if first then
    let p := s.openUpload r i sub
    match p.2 with
    | .error a => (p.1, a)
    | .ok x => p.1.sendSegment { index := i, sub := sub, origin := r.origin, upload := true, total := x.1.length, data := x.1, idle := 0
                                 upTo := x.2 }
  else match s.transfer i sub with
    | none => refuse 0x08000020 s
    | some t => if t.origin ≠ r.origin ∨ !t.upload then refuse 0x0F000005 s else s.sendSegment t

def domainUpload (r : Req) (i sub : Nat) (first : Bool) (s : State) : State := s.serve r (State.uploadSegment r i sub first)

/-! ## Timeout -/

/-- An abort that no request asked for: request ID 0 to the origin of the transfer. -/
def State.abortTransfer (t : Transfer) (s : State) : State := (s.endTransfer t.index t.sub).emit (.response t.origin 0 (.refused 0x05040000 0))

/-- TRANSFER_SEGMENT_TIMEOUT (R378, R390): 1,000 ms without a segment. -/
def transferTimeout (i sub : Nat) (s : State) : State :=
  match s.transfer i sub with
  | some t => if 50 ≤ t.idle then s.abortTransfer t else s
  | none => s

/-- Transfers and handshakes age by a tick, sessions since their last record. -/
def State.accessTick (s : State) : State :=
  { s with access := { s.access with
      transfers := s.access.transfers.map (fun t => { t with idle := t.idle + 1 })
      sessions := s.access.sessions.map (fun e => (e.1, { e.2 with idle := e.2.idle + 1 }))
      handshakes := s.access.handshakes.map (fun e => (e.1, { e.2 with age := e.2.age + 1 })) } }

def execDomainDownloadSegment (r : Req) (index sub : Nat) (first last : Bool) (offset total : Nat) (data : Bytes) (s : State) :
    Host.Outcome State Fault Refusal := running (domainDownload r index sub first last offset total data) s
def execDomainUploadSegment (r : Req) (index sub : Nat) (first : Bool) (s : State) : Host.Outcome State Fault Refusal :=
  running (domainUpload r index sub first) s
def execTransferSegmentTimeout (index sub : Nat) (s : State) : Host.Outcome State Fault Refusal := running (transferTimeout index sub) s

end Sys2Proof.Machine
end

