-- ==== Sys2Proof/Machine/Dispatcher.lean ====
section
/-! DEFINITION. The dispatcher: waking, running, dropping and yielding of tasks, and the trace (17 R506 to R513), with
the commands TASK_WAKE_ON_FLAGS, TASK_DELAY_EXPIRY, TASK_DEADLINE_DROP and TASK_YIELD. -/

namespace Sys2Proof.Machine

/-- Engine a task context is bound to (R506). -/
def engineOf (t : Nat) : Nat :=
  if t < 0x60 then t / 0x18
  else if t < 0x70 then 4
  else if t < 0xB0 then 5 + (t - 0x70) / 0x10
  else if t < 0xC0 then 9 + (t - 0xB0) / 4
  else if t < 0xE0 then 13 + (t - 0xC0) / 8
  else if t < 0xF0 then 17
  else if t < 0xF8 then 18
  else 19

/-- The tasks with fixed numbers that carry the work of R33 (R507), the halt decision apart. -/
def fixedTask (t : Nat) : Bool :=
  t = 0x02 || t = 0x03 || (decide (0x70 ≤ t) && decide (t < 0xB0) && decide (t % 0x10 < 2)) ||
    (decide (0xB0 ≤ t) && decide (t < 0xC0) && decide (t % 4 = 0)) ||
    (decide (0xC0 ≤ t) && decide (t < 0xE0) && decide (t % 8 = 0)) ||
    (decide (0xE0 ≤ t) && decide (t < 0xE4)) || t = 0xF8

/-- The halt decision task (R507), which is never dropped (R32, R511). -/
def haltTask : Nat := 0x60

/-- A task that nothing has started, with its fixed priority from 0 to 7 (R510; log entry 17). -/
def freshTask (t : Nat) : Task := { priority := Config.taskPriority t % 8 }

/-- Task `t`. -/
def State.task (s : State) (t : Nat) : Task := tget freshTask s.disp.tasks t

/-- The state after `f` on task `t`. -/
def State.onTask (t : Nat) (f : Task → Task) (s : State) : State :=
  { s with disp := { s.disp with tasks := tmod freshTask s.disp.tasks t f } }

/-- The flags meet the masks (R508). -/
def Task.met (t : Task) : Bool :=
  decide (t.flags &&& t.any ≠ 0) || (decide (t.all ≠ 0) && decide (t.flags &&& t.all = t.all))

/-- Number of the lowest flag in A or B that is set (R512). -/
def Task.wakingFlag (t : Task) : Nat :=
  ((List.range 32).find? (fun k => (t.flags &&& (t.any ||| t.all)).getLsbD k)).getD 0xFF

/-- A task becomes ready, woken by a flag or by its delay; its delay is cancelled (R508, R509). -/
def State.makeReady (t : Nat) (flag : Option Nat) (s : State) : State :=
  let s := s.onTask t (fun k => { k with status := .ready, delay := none, woken := flag, order := s.disp.order })
  { s with disp := { s.disp with order := s.disp.order + 1 } }

/-- The task an engine runs. -/
def State.runningOn (s : State) (e : Nat) : Option Nat := tfind s.disp.running e

/-- Ready tasks of an engine. -/
def State.readyOn (s : State) (e : Nat) : List Nat :=
  (s.disp.tasks.map (·.1)).filter (fun t => engineOf t = e && (s.task t).status = .ready)

/-- Of two tasks the one to run: higher priority, then the earlier to become ready (R510). -/
def State.better (s : State) (a b : Nat) : Bool :=
  decide ((s.task b).priority < (s.task a).priority) ||
    (decide ((s.task a).priority = (s.task b).priority) && decide ((s.task a).order < (s.task b).order))

/-- The highest-priority ready task of an engine, the earliest of equals (R510). -/
def State.bestReady (s : State) (e : Nat) : Option Nat :=
  (s.readyOn e).foldl (fun b t => match b with
    | none => some t
    | some x => if s.better t x then some t else some x) none

/-- Record one decision: counted, and traced while tracing is on for the engine (R512, R516). -/
def State.decision (e reason out into flag outState : Nat) (s : State) : State :=
  let s := s.count (0x200 + e) 1
  if s.cfgOn 0x2901 1 && bit (s.cfgNat 0x2901 2) e then
    { s with disp := { s.disp with trace := s.disp.trace ++ [le 4 s.clock.tick.toNat ++ le 4 s.clock.offset ++ le 1 e ++
        le 1 reason ++ le 2 out ++ le 2 into ++ le 1 flag ++ le 1 outState] } }
  else s

/-- Task `t` starts to run on its engine: the flags in its masks are cleared (R508). -/
def State.dispatch (t : Nat) (s : State) : State :=
  let s := s.onTask t (fun k => { k with status := .running, flags := k.flags &&& ~~~ (k.any ||| k.all) })
  { s with disp := { s.disp with running := tset s.disp.running (engineOf t) t } }

/-- Number of a running task in the trace, 0xFFFF for none. -/
def taskField (t : Option Nat) : Nat := t.getD 0xFFFF

/-- A newly ready task runs at once on an idle engine, and pre-empts a task of lower priority (R510, R512). -/
def State.tryRun (t : Nat) (s : State) : State :=
  let e := engineOf t
  let k := s.task t
  match s.runningOn e with
  | none =>
    let reason := if k.woken = none then 2 else 1
    (s.decision e reason 0xFFFF t (if reason = 1 then k.woken.getD 0xFF else 0xFF) 3).dispatch t
  | some cur =>
    if (s.task cur).priority < k.priority then
      let s := s.onTask cur (fun c => { c with status := .ready, order := s.disp.order })
      let s := { s with disp := { s.disp with order := s.disp.order + 1 } }
      (s.decision e 4 cur t 0xFF 0).dispatch t
    else s

/-- The engine's task has left it: the best ready task follows, or the engine goes idle (R510, R512). -/
def State.follow (e reason out outState : Nat) (s : State) : State :=
  let s := { s with disp := { s.disp with running := tdel s.disp.running e } }
  match s.bestReady e with
  | some t => (s.decision e reason out t 0xFF outState).dispatch t
  | none => s.decision e reason out 0xFFFF 0xFF outState

/-- TASK_WAKE_ON_FLAGS: flags are set on a waiting task; where they meet its masks it becomes ready (R508). The access
to the queue that set them compares its pointers (R525): streams 0 to 5 are compared here. -/
def wakeOnFlags (t : Nat) (f : U32) (s : State) : State :=
  let s := (List.range 6).foldl (fun s q => s.checkQueue q) s
  let s := s.onTask t (fun k => { k with flags := k.flags ||| f })
  let k := s.task t
  if k.status = .waiting ∧ k.met then (s.makeReady t (some k.wakingFlag)).tryRun t else s

/-- TASK_DELAY_EXPIRY: every task of the engine whose delay has expired becomes ready (R509). -/
def delayExpiry (e : Nat) (s : State) : State :=
  (s.disp.tasks.map (·.1)).foldl (fun s t => if engineOf t = e ∧ (s.task t).status = .waiting ∧ (s.task t).delay = some 0 then
    (s.makeReady t none).tryRun t else s) s

/-- Late halt work: completed, reported and counted (R32). Work 0 decision, 1 frame, 2 state change. -/
def State.lateHalt (work lateUs : Nat) (s : State) : State :=
  let s := { s with halt := { s.halt with lateWork := saturate s.halt.lateWork } }
  s.raise 0x0701 1 7 0xFF 0 (le 1 work ++ le 4 lateUs)

/-- The downlink of carriageway `c` was not assembled by slice 0: only its tick beacon, and halts, go out (R32, R33). -/
def State.assemblyLate (c : Nat) (s : State) : State :=
  { s with air := { s.air with cws := tmod (fun _ => {}) s.air.cws c (fun (w : Carriageway) =>
      { w with late := saturate w.late, beaconOnly := true }) } }

/-- Halt work that task `t` carries (R32, R507): a halt decision on task 0x60; on another task of the safety pair nothing (0), a
halt frame (1) or a halt state change (2), which the spec leaves to the firmware: a free value (log entry 121). -/
def State.haltWork (t : Nat) (s : State) : Option Nat × State :=
  if t = haltTask then (some 0, s)
  else if engineOf t = 4 then
    let p := s.draw
    (if p.1 % 3 = 0 then none else some (p.1 % 3), p.2)
  else (none, s)

/-- TASK_DEADLINE_DROP: an unfinished task is removed at its deadline, its late counter incremented, its flags cleared;
a task with halt work runs on and is reported (R31, R32, R511). -/
def deadlineDrop (t lateUs : Nat) (s : State) : State :=
  let k := s.task t
  if k.status = .ended then s
  else
    let w := s.haltWork t
    let s := w.2
    match w.1 with
    | some work => (s.onTask t (fun k => { k with late := saturateNat k.late })).lateHalt work lateUs
    | none =>
    let s := s.onTask t (fun k => { k with late := saturateNat k.late, flags := 0, delay := none, woken := none, status := .waiting })
    let s := s.count (0x300 + engineOf t) 1
    let s := if fixedTask t then s.trigger 18 s.now 0xFF else s
    let s := if 0xE0 ≤ t ∧ t ≤ 0xE3 then s.assemblyLate (t - 0xE0) else s
    if k.status = .running then s.follow (engineOf t) 3 t 4 else s

/-- TASK_YIELD: the running task begins to wait on masks, with or without a delay, or ends its period (R509, R510,
R512). A task whose masks are met already is ready again at once (R508). -/
def yieldTask (e : Nat) (kind : YieldKind) (any all : U32) (s : State) : State :=
  match s.runningOn e with
  | none => s
  | some t =>
    let out := match kind with | .waitFlags => 1 | .delayed _ => 2 | .periodOver => 3
    let s := s.onTask t (fun k => match kind with
      | .waitFlags => { k with status := .waiting, any := any, all := all, delay := none }
      | .delayed n => { k with status := .waiting, any := any, all := all, delay := some (max 1 (min n 65535)) }
      | .periodOver => { k with status := .ended, any := any, all := all, delay := none })
    let k := s.task t
    let s := if k.status = .waiting ∧ k.met then s.makeReady t (some k.wakingFlag) else s
    s.follow e 5 t out

/-- Delays run down by one slice (R509). -/
def State.runDelays (s : State) : State :=
  (s.disp.tasks.filter (fun p => p.2.delay.isSome)).foldl
    (fun s p => s.onTask p.1 (fun k => { k with delay := k.delay.map (· - 1) })) s

/-- Lists of at most 64 entries (R513). -/
def chunks64 (fuel : Nat) (l : List Bytes) : List (List Bytes) :=
  match fuel with
  | 0 => []
  | n + 1 => if l.isEmpty then [] else l.take 64 :: chunks64 n (l.drop 64)

/-- At the end of a slice its decisions go to the trace stream, 1 to 64 in an item (R513). -/
def State.flushTrace (s : State) : State :=
  let l := chunks64 s.disp.trace.length s.disp.trace
  let s := { s with disp := { s.disp with trace := [] } }
  l.foldl (fun s c => s.push 2 1 c.flatten) s

/-- The dispatcher works while the image runs. -/
def State.whileRunning (f : State → State) (s : State) : State := if s.power.phase = .running then f s else s

def execTaskWakeOnFlags (task : Nat) (flags : U32) (s : State) : Host.Outcome State Fault Refusal :=
  .next (s.begin.whileRunning (wakeOnFlags task flags))

def execTaskDelayExpiry (engine : Nat) (s : State) : Host.Outcome State Fault Refusal :=
  .next (s.begin.whileRunning (delayExpiry engine))

def execTaskDeadlineDrop (task lateUs : Nat) (s : State) : Host.Outcome State Fault Refusal :=
  .next (s.begin.whileRunning (deadlineDrop task lateUs))

def execTaskYield (engine : Nat) (kind : YieldKind) (any all : U32) (s : State) : Host.Outcome State Fault Refusal :=
  .next (s.begin.whileRunning (yieldTask engine kind any all))

end Sys2Proof.Machine
end

