-- ==== Sys2Proof/Machine/Downlink.lean ====
section
/-! DEFINITION. The carriageway downlinks and the verge beacon: assessment, content and assembly, acknowledgements that fail to come,
route updates and lane configurations (06 R206, R207; 08 R256, R259, R268, R272; 09 R282 to R285, R290, R294, R295; 10 R310, R314
to R318, R329, R331), with CCA_OBSERVATION_DONE, VERGE_STAGE_BEACON, VERGE_TRANSMISSION_END and DOWNLINK_RETRANSMIT. -/

namespace Sys2Proof.Machine

/-- Carriageway `c`, and the state after `f` on it. -/
def Units.cw (u : Units) (c : Nat) : Carriageway := tget (fun _ => {}) u.air.cws c
def State.onCw (c : Nat) (f : Carriageway → Carriageway) (s : State) : State :=
  { s with air := { s.air with cws := tmod (fun _ => {}) s.air.cws c f } }

/-- Lanes of carriageway `c` (R278). -/
def lanesOf (c : Nat) : List Nat := (List.range 48).map (fun i => 4 * i + c)

/-! ## Route updates and lane configurations (R206, R207, R318) -/

/-- A leg record (R206). -/
def legRecord (i : Nat) (g : Leg) : Bytes :=
  le 2 i ++ le 2 0 ++ le 1 g.kind ++ le 1 g.flags ++ le 2 g.speed ++ le 4 g.length ++ le 4 g.k0 ++ le 4 g.k1 ++ le 4 g.final.east ++
    le 4 g.final.north ++ le 2 g.final.heading ++ le 6 0

/-- A stretch record (R206). -/
def stretchRecord (x : Stretch) : Bytes :=
  le 2 (x.tick.toNat % 65536) ++ le 2 x.offset ++ le 4 x.duration ++ le 4 x.s0 ++ le 4 x.v0 ++ le 4 x.a0 ++ le 4 x.jerk

/-- A route update body over leg and stretch records (R206). -/
def routeBody (r : Route) (legs stretches : List Bytes) : Bytes :=
  le 4 r.planId.toNat ++ le 2 (r.first.toNat % 65536) ++ le 2 r.legs.length ++ le 4 r.start.east ++ le 4 r.start.north ++
    le 2 r.start.heading ++ le 1 legs.length ++ le 1 stretches.length ++ legs.flatten ++ stretches.flatten

/-- Bodies that carry given records, at most 8 legs and 16 stretches each (log entry 49); `n` bounds their number. -/
def routeBodies (r : Route) : Nat → List Bytes → List Bytes → List Bytes
  | 0, _, _ => []
  | n + 1, legs, stretches =>
    if legs.isEmpty ∧ stretches.isEmpty then []
    else routeBody r (legs.take 8) (stretches.take 16) :: routeBodies r n (legs.drop 8) (stretches.drop 16)

/-- Stretches of a route due on air: those whose downlink is that of this tick or an earlier one (R207). -/
def Route.stretchesDue (r : Route) (now : U32) : Nat := (r.stretches.takeWhile (fun x => atOrAfter now (x.tick - 50))).length

/-- What lane `n` is due of its committed plan is queued; the configuration goes first where the limits delivered differ (R207,
R318). -/
def State.routeUpdate (n : Nat) (s : State) : State :=
  let r := s.route n
  let k := r.stretchesDue s.clock.tick
  let legs := max r.sentLegs (legsReached r.first r.legs r.stretches k)
  if k ≤ r.sentStretches then s
  else
    let s := if (s.airLane n).configured = s.configuration n r.effective then s else s.configure n r.effective
    let l := ((List.range legs).drop r.sentLegs).filterMap (fun i => (r.legs[i]?).map (legRecord i))
    let x := ((r.stretches.take k).drop r.sentStretches).map stretchRecord
    let s := (routeBodies r (l.length + x.length) l x).foldl (fun (t : State) b => t.tell n 0x1B b) s
    s.onRoute n (fun q => { q with sentStretches := k, sentLegs := legs })

/-- The lane's relay bit changed since its configuration was delivered (R318). -/
def State.relayUpdate (n : Nat) (s : State) : State :=
  let a := s.airLane n
  let relay : Nat := if bit (s.cfgNat 0x2203 (n / 32 + 1)) (n % 32) then 1 else 0
  if a.configured.isEmpty ∨ byteAt a.configured 2 = relay then s
  else
    let b := a.configured.set 2 (BitVec.ofNat 8 relay)
    (s.tell n 0x1A b).onAirLane n (fun x => { x with configured := b })

/-- Before the downlinks of a tick: what each lane in use is due. -/
def State.lanesDue (s : State) : State :=
  if !s.onAir then s
  else s.listed.foldl (fun (t : State) n => if (t.lane n).occupied then (t.routeUpdate n).relayUpdate n else t) s

/-! ## Downlink content (R283) -/

/-- What an item is: a Gnoez message (true: an observation), a notice, an admission response, an acknowledgement, messages by
MSN, or a lane status alone. -/
inductive DownKind where
  | gnoez (observation : Bool)
  | notice
  | response
  | ack (msn result : Nat)
  | messages (msns : List Nat)
  | status
  deriving DecidableEq, Repr

/-- One item: its lane (0xFF in the broadcast frame), kind and elements. -/
structure DownItem where
  lane : Nat
  kind : DownKind
  elements : Bytes
  deriving DecidableEq, Repr

/-- Waiting messages of a lane take numbers while fewer than 8 are unacknowledged (R329); `n` bounds the loop. -/
def AirLane.number : Nat → AirLane → AirLane
  | 0, a => a
  | n + 1, a =>
    match a.waiting with
    | [] => a
    | (typ, value) :: t =>
      if 8 ≤ a.unacked.length then a
      else AirLane.number n { a with
        waiting := t, next := (a.next + 1) % 256, unacked := a.unacked ++ [{ msn := a.next, typ := typ, value := value }] }

/-- Bytes of a queued message. -/
def DownMsg.bytes (m : DownMsg) : Bytes := elementBytes m.typ (some m.msn) m.value

/-- Items of the queued messages of a lane: a lane configuration followed by a route update goes with it in one item (R318). -/
def messageItems (n : Nat) : List DownMsg → List (Nat × DownItem)
  | [] => []
  | m :: t =>
    let rest := messageItems n t
    let own := fun (k : Nat) => (k, ({ lane := n, kind := .messages [m.msn], elements := m.bytes } : DownItem))
    match m.typ, t.head? with
    | 0x1A, some x =>
      if x.typ = 0x1B then
        (5, { lane := n, kind := .messages [m.msn, x.msn], elements := m.bytes ++ x.bytes }) :: rest.drop 1
      else own 7 :: rest
    | 0x19, _ => own 4 :: rest
    | 0x1B, _ => own 5 :: rest
    | _, _ => own 7 :: rest

/-- An admission response is due: in the downlink of tick position 1 of the stage after the request, or the next one sent after it
(R290). -/
def State.responseDue (s : State) (x : Nat × Int) : Bool := decide (x.2 < s.stageNumber) || (decide (x.2 = s.stageNumber) && decide (1 ≤ s.stagePos))

/-- Lanes with messages of their own. -/
def State.messagesOf (s : State) (n : Nat) : List (Nat × DownItem) := messageItems n ((s.airLane n).unacked.filter (·.queued))

/-- The lane's state differs from what its machine last reported to hold (R310). -/
def State.statusDue (s : State) (n : Nat) : Bool := (s.lane n).occupied && decide ((s.airLane n).stateHeld ≠ (s.lane n).state)

/-- Gnoez items of the tick (R105, R106). -/
def State.gnoezItems (s : State) : List DownItem :=
  let first := s.milestonePos < 5
  let item := fun (o : Bool) (b : Bytes) => ({ lane := 0xFF, kind := .gnoez o, elements := elementBytes 0x13 none b } : DownItem)
  if s.stagePos = 1 then
    (if first ∧ s.reference.fresh then [item false s.referenceMessage] else []) ++
      (if s.reference.epoch.isSome ∧ !s.reference.message.isEmpty then [item true s.reference.message] else [])
  else if s.stagePos = 2 ∧ first ∧ s.reference.valid then [item false s.referenceMessage]
  else []

/-- Everything that waits for the downlink of carriageway `c`, in the order of R283 from order 4 on. -/
def State.downItems (s : State) (c : Nat) : List DownItem :=
  let lanes := lanesOf c
  let msgs := lanes.flatMap s.messagesOf
  let order := fun (k : Nat) => (msgs.filter (fun x => x.1 = k)).map (·.2)
  let responses := lanes.flatMap (fun n => ((s.airLane n).responses.filter s.responseDue).map (fun x =>
    ({ lane := n, kind := .response, elements := elementBytes 3 none (le 1 0 ++ le 1 x.1) } : DownItem)))
  let acks := lanes.flatMap (fun n => (s.airLane n).acks.map (fun a =>
    ({ lane := n, kind := .ack a.1 a.2, elements := elementBytes 3 none (le 1 a.1 ++ le 1 a.2) } : DownItem)))
  let notices := (s.cw c).notices.map (fun b => ({ lane := 0xFF, kind := .notice, elements := elementBytes 0x14 none b } : DownItem))
  let status := (lanes.filter s.statusDue).map (fun n => ({ lane := n, kind := .status, elements := [] } : DownItem))
  responses ++ order 4 ++ acks ++ order 5 ++ s.gnoezItems ++ order 7 ++ notices ++ status

/-- A PSDU of a length fits a downlink that starts `delta` µs after the boundary (R256, R283). -/
def fitsDownlink (mcs delta length : Nat) : Bool := decide (length ≤ 4095) && decide (ppduMicros mcs length + delta ≤ 6000)

/-- Bytes of header, MIC and lane status of a unicast frame (R310, R314). -/
def unicastOverhead : Nat := 34

/-- The longest run of items from the front that fits: items are left out from the end (R283). -/
def fitting' (mcs delta : Nat) : Nat → List Nat → List DownItem → List DownItem
  | _, _, [] => []
  | size, seen, x :: t =>
    let size := size + x.elements.length + (if x.lane = 0xFF ∨ seen.contains x.lane then 0 else unicastOverhead)
    if fitsDownlink mcs delta size then x :: fitting' mcs delta size (x.lane :: seen) t else []

/-! ## Sending -/

/-- A halt copy is due on carriageway `c` (R315). -/
def Carriageway.haltDue (w : Carriageway) : Bool := w.haltOwed || !w.covered.isEmpty

/-- The elements of the broadcast frame that are never left out (R283, R314); a payload not assembled in time keeps beacon and
halt (R33). -/
def State.fixedElements (s : State) (c delta : Nat) : Bytes :=
  let w := s.cw c
  elementBytes 0x10 none (s.tickBeacon c delta) ++
    (if w.haltDue then elementBytes 0x12 none (s.haltElement c w.covered) else []) ++
    (if s.stagePos = 0 ∧ !w.beaconOnly then elementBytes 0x11 none s.air.stageBody else [])

/-- The unicast frames of the items sent, a frame for each lane in the order of its first item (R310). -/
def State.unicasts (items : List DownItem) (s : State) : Bytes × State :=
  ((items.map (·.lane)).filter (· ≠ 0xFF)).eraseDups.foldl (fun (p : Bytes × State) n =>
    let own := items.filter (fun x => x.lane = n)
    let body := elementBytes 0x18 none (le 2 (p.2.lane n).state.toNat) ++ own.flatMap (·.elements)
    let delivery := (p.2.airLane n).unacked.any (fun m => m.typ = 0x19 && own.any (fun x =>
      match x.kind with | .messages l => l.contains m.msn | _ => false))
    let which := p.2.unicastKey n delivery
    (p.1 ++ p.2.unicastFrame n which body, p.2.drawUnicast n which)) ([], s)

/-- A message went out: its first transmission, or one more (R331, R339). -/
def AirLane.sentMessage (msn : Nat) (a : AirLane) : AirLane :=
  let first := a.unacked.any (fun m => m.msn = msn && m.sent = 0)
  { a with
    sent := if first then a.sent + 1 else a.sent
    retransmitted := if first then a.retransmitted else a.retransmitted + 1
    unacked := a.unacked.map (fun m => if m.msn = msn then { m with sent := m.sent + 1, slots := 0, queued := false } else m) }

/-- An item went out on carriageway `c`. -/
def State.sentItem (c : Nat) (s : State) (x : DownItem) : State :=
  match x.kind with
  | .gnoez o => if o then { s with reference := { s.reference with copies := s.reference.copies + 1 } } else s
  | .notice => s.onCw c (fun w => { w with notices := w.notices.drop 1 })
  | .response => s.onAirLane x.lane (fun a => { a with responses := a.responses.drop 1 })
  | .ack m r => s.onAirLane x.lane (fun a => { a with acks := a.acks.erase (m, r) })
  | .messages l => l.foldl (fun (t : State) m => t.onAirLane x.lane (AirLane.sentMessage m)) s
  | .status => s

/-- Items carried to the next downlink: those left out other than Gnoez messages, and messages that wait for a number (R283,
R329). -/
def State.carriedItems (s : State) (c : Nat) (left : List DownItem) : Nat :=
  (left.filter (fun x => match x.kind with | .gnoez _ => false | .status => false | _ => true)).length +
    ((lanesOf c).map (fun n => (s.airLane n).waiting.length)).sum

/-- The downlink of carriageway `c` starts `delta` µs after the boundary (R282 to R284, R310). The scrambler starts from a non-zero state,
a free value (R249). -/
def State.transmit (c delta : Nat) (s : State) : State :=
  let s := (lanesOf c).foldl (fun (t : State) n => t.onAirLane n (fun a => a.number a.waiting.length)) s
  let mcs := s.cfgNat 0x2501 5
  let fixed := s.fixedElements c delta
  let all := s.downItems c
  let items := if (s.cw c).beaconOnly then [] else fitting' mcs delta (28 + fixed.length) [] all
  let u := s.unicasts items
  let wide := (items.filter (fun x => x.lane = 0xFF)).flatMap (·.elements)
  let psdu := s.broadcastFrame (fixed ++ wide) ++ u.1
  let carried := s.carriedItems c (all.drop items.length)
  let copy : Bool := decide (s.stagePos = 0) && !(s.cw c).beaconOnly
  let s := items.foldl (State.sentItem c) u.2.drawBroadcast
  let skipped := (s.cw c).skipRun
  let retried := (s.cw c).tries ≠ 0
  let s := s.onCw c (fun w => { w with
    closed := true, sent := w.sent + 1, deferred := if retried then w.deferred + 1 else w.deferred
    carried := w.carried + BitVec.ofNat 32 carried, skipRun := 0, covered := [], haltOwed := false })
  let t0 := s.clock.source + 1000 * delta
  let te := t0 + 1000 * ppduMicros mcs psdu.length
  let s := if s.air.txrx then s else s.linesOpen .cwLna0En .cwTxRxSel .cwPaEn t0
  let s : State := { s with air := { s.air with
    delivered := s.air.delivered || copy, txrx := true, pa := true, lna0 := false, lna1 := true
    downEnd := if s.air.txrx then max s.air.downEnd te else te } }
  let p := s.draw
  let s := p.2.emit (.downlink c mcs delta psdu (ppdu mcs (p.1 % 127 + 1) psdu))
  let s := ((s.count (0x700 + c) 1).count (0x414 + c) 1).occupy (0x700 + c) (min 1000 (ppduMicros mcs psdu.length))
  if skipped = 0 then s else s.raise 0x0904 3 4 0xFF c (le 1 c ++ le 3 0 ++ le 4 skipped.toNat)

/-- The downlink of this tick is skipped on carriageway `c` (R281, R284): its owned slots of the tick are barred. -/
def State.skip (c : Nat) (s : State) : State :=
  let first := (s.cw c).skipRun = 0
  let s := s.onCw c (fun w => { w with closed := true, skippedNow := true, skipped := w.skipped + 1, skipRun := w.skipRun + 1 })
  let s := ((lanesOf c).filter (fun n => n / 4 / 10 = s.stagePos)).foldl (fun (t : State) n =>
    if (t.lane n).occupied then t.onAirLane n (fun a => { a with slotBarred := true }) else t) s
  let s := if first then s.raise 0x0903 2 4 0xFF c (le 1 c) else s
  s.trigger 14 s.now 0xFF

/-- The channel is busy: energy in 0.01 dBm above TL = −43 − P + G dBm (R259). -/
def State.busy (s : State) (energy : Int) : Bool := decide (100 * (-43 - s.cfg 0x2501 8 + s.cfg 0x2501 9) < energy)

/-- CCA_OBSERVATION_DONE (R282): an assessment ends; its instant is that which the draws of this tick give, so that a downlink
starts as long after the boundary as it ends after the first assessment (log entry 50). -/
def ccaDone (c : Nat) (energy : Int) (s : State) : State :=
  let w := s.cw c
  if 4 ≤ c ∨ !s.onAir ∨ w.closed ∨ s.cfg 0x2501 (c + 1) = 255 then s
  else
    let s := s.stamped (w.wait * 1000)
    if !s.busy energy then s.transmit c w.wait
    else if w.tries < 3 then
      let p := s.draw
      p.2.onCw c (fun w => { w with tries := w.tries + 1, wait := w.wait + p.1 % 16 * 20 + 20 })
    else s.skip c

/-! ## Acknowledgements that do not come (R331) -/

/-- DOWNLINK_RETRANSMIT: the acknowledgement is absent from the slots of 0x2507:02; after the transmissions of 0x2507:01 the message
is given up. -/
def downlinkRetransmit (n msn : Nat) (s : State) : State :=
  match (s.airLane n).unacked.find? (fun m => m.msn = msn) with
  | none => s
  | some m =>
    if m.queued ∨ m.slots < s.cfgNat 0x2507 2 then s
    else if m.sent < s.cfgNat 0x2507 1 then
      s.onAirLane n (fun a => { a with unacked := a.unacked.map (fun x => if x.msn = msn then { x with queued := true } else x) })
    else
      (s.onAirLane n (fun a => { a with
        unacked := a.unacked.filter (fun x => x.msn ≠ msn), undelivered := a.undelivered + 1 })).raise 0x1001 1 4 n 0
        (le 1 msn ++ le 1 m.typ)

/-! ## The verge channel (R268, R294, R295) -/

/-- Microseconds after the stage boundary at which the verge beacon starts (R294). -/
def State.beaconStart (s : State) : Nat := 300 + 6000 * s.cfgNat 0x2504 1

/-- VERGE_STAGE_BEACON (R294): once in a stage, in the tick its start falls in. -/
def vergeBeacon (s : State) : State :=
  let us := s.beaconStart
  if !s.onAir ∨ s.air.beaconDone ∨ s.stagePos ≠ us / 20000 ∨ s.air.stageBody.isEmpty then s
  else
    let s : State := ({ s with air := { s.air with beaconDone := true } } : State).stamped (us % 20000 * 1000)
    s.sendVerge 8 (le 1 s.hopIndex ++ s.air.stageBody)

/-- The retune of a stage, or that which the end of a frame lets follow (R267, R268). -/
def State.retune (s : State) : State := { s with air := { s.air with hop := s.hopIndex } }

/-- The next frame that waits starts 0.3 ms after the end of one (R295); a stage beacon on the channel of its own stage. -/
def State.nextVerge (s : State) : State :=
  match s.air.vergeWaiting with
  | [] => s.retune
  | f :: t =>
    let s : State := ({ s with air := { s.air with vergeWaiting := t } } : State).stamped (s.clock.offset + 300000)
    let s := s.retune
    if f.code = 8 ∧ s.cfg 0x2502 1 = 1 then
      ({ s with air := { s.air with hop := ((f.began / 100000000) % 64).toNat } } : State).beginVerge f.code f.payload
    else s.beginVerge f.code f.payload

/-- VERGE_TRANSMISSION_END (R268, R273, R295, R301): the frame counts for the time it was on air. -/
def vergeEnd (us : Nat) (s : State) : State :=
  match s.air.verge with
  | none => s
  | some f =>
    let s := s.stamped (f.began + 1000 * us - s.clock.source).toNat
    let s := s.linesClose .vgLnaEn .vgTxRxSel .vgPaEn (f.began + 1000 * us)
    let s := (({ s with air := { s.air with verge := none } } : State).vergeLines false).addDuty us
    if s.onAir then s.nextVerge else s

def execCcaObservationDone (cw : Nat) (energy : Int) (s : State) : Host.Outcome State Fault Refusal := running (ccaDone cw energy) s
def execVergeStageBeacon (s : State) : Host.Outcome State Fault Refusal := running vergeBeacon s
def execDownlinkRetransmit (lane msn : Nat) (s : State) : Host.Outcome State Fault Refusal := running (downlinkRetransmit lane msn) s
def execVergeTransmissionEnd (durationUs : Nat) (s : State) : Host.Outcome State Fault Refusal := running (vergeEnd durationUs) s

end Sys2Proof.Machine
end

