-- ==== Sys2Proof/Machine/Sessions.lean ====
section
/-! DEFINITION. VAP sessions and dictionary requests over the service port (12 R379 to R383, R393; 15 R470; 16 R498), with HELLO,
CLIENT_PROOF, SESSION_ESTABLISH_TIMEOUT, SESSION_IDLE_TIMEOUT, KEEPALIVE, CLOSE and DICTIONARY_REQUEST. -/

namespace Sys2Proof.Machine

/-! ## Establishing -/

/-- Unprovisioned and no credential stored: the handshake of R470. -/
def State.firstCredential (s : State) : Bool := s.keys.security = 0 && s.settings.credentials.isEmpty

/-- The session ID after one given (R379): IDs stay clear of the reader numbers of R392 and of the multicast IDs (log entry
42). -/
def nextId (k : Nat) : Nat := if 0xFF000000 ≤ k + 1 then 0x10000 else k + 1

/-- A hello that cannot be served: kind 6 and the reason (R382). -/
def State.reject (port reason : Nat) (s : State) : State := s.emit (.vap port 6 (vapDatagram 6 0 0 none (le 1 reason)))

/-- The reason a hello cannot be served (R382, R470). -/
def State.helloRefused (s : State) (version slot : Nat) : Option Nat :=
  if version ≠ 1 then some 4
  else if 8 ≤ s.access.sessions.length + s.access.handshakes.length then some 1
  else if s.firstCredential then (if slot = 1 then none else some 2)
  else if (tfind s.settings.credentials slot).isNone then some 2
  else none

/-- Payload of the controller hello (R381): ephemeral key, nonce, session ID, serial number, and the signature by the device identity
key over both payloads up to it. -/
def greeting (test : Bool) (client : Bytes) (id d k : Nat) (nonce : Bytes) : Bytes :=
  let b := Crypto.p256.bytes (Crypto.p256.mul d (some Crypto.p256.g)) ++ nonce ++ le 4 id ++ le 8 Config.serial.toNat
  b ++ Crypto.p256.signs (identityScalar test) k (Crypto.sha256 (client ++ b))

/-- A hello is answered with the controller's own (R381); its ephemeral scalar, nonce and the secret number of its signature are free
values. -/
def State.greet (port slot roles : Nat) (key nonce : Bytes) (s : State) : State :=
  let id := s.access.nextSession
  let a := s.freeBytes 48
  let b := a.2.freeBytes 16
  let c := b.2.freeBytes 48
  let s := c.2
  let client := key ++ nonce ++ le 1 slot ++ le 1 roles
  let d := Crypto.p256.scalar a.1
  let own := greeting s.keys.testRoot client id d (Crypto.p256.scalar c.1) b.1
  let h : Handshake := { id := id, port := port, slot := slot, roles := roles, key := key, nonce := nonce, scalar := d, ownNonce := b.1
                         digest := Crypto.sha256 (client ++ own), age := 0 }
  let s : State := { s with access := { s.access with nextSession := nextId id, handshakes := tset s.access.handshakes id h } }
  s.emit (.vap port 2 (vapDatagram 2 id 0 none own))

/-- HELLO (R379, R381, R382): a port that is not enabled answers nothing. -/
def hello (port version slot roles : Nat) (key nonce : Bytes) (s : State) : State :=
  if 1 < port ∨ !s.cfgOn 0x2022 (2 + port) then s
  else match s.helloRefused version slot with
    | some reason => s.reject port reason
    | none => s.greet port slot roles key nonce

/-- Roles of a credential, none where its slot is empty; under R470 all four. -/
def State.credentialRoles (s : State) (slot : Nat) : Option Nat :=
  if s.firstCredential then some 15 else (tfind s.settings.credentials slot).map (fun b => byteAt b 65 % 16)

/-- The roles granted (R381, R470). -/
def State.grantedRoles (s : State) (h : Handshake) (carried : Nat) : Nat :=
  if s.firstCredential then 15 else (BitVec.ofNat 8 h.roles &&& BitVec.ofNat 8 carried).toNat

/-- A key of a session from the secret of its handshake (R456). -/
def Handshake.derive (h : Handshake) (secret : Bytes) (info : String) (size : Nat) : Bytes :=
  Crypto.hkdf secret (h.nonce ++ h.ownNonce) (ascii info) size

/-- The key whose proof a handshake needs (R381, R470): that of the credential, or the one the hello carries. -/
def State.proofKey (s : State) (h : Handshake) : Bytes :=
  if s.firstCredential then h.key else ((tfind s.settings.credentials h.slot).getD []).take 65

/-- A handshake ends with a session (R381, R456); its count 0 is the controller hello's, so the accept has count 1. -/
def State.accept (h : Handshake) (secret : Bytes) (roles : Nat) (s : State) : State :=
  let e : Session := { id := h.id, port := h.port, roles := roles, slot := if s.firstCredential then 0 else h.slot, idle := 0
                       window := {}, sent := 2, up := h.derive secret "VL vap up" 16, down := h.derive secret "VL vap down" 16
                       transport := h.derive secret "VL key transport" 32, answers := [] }
  let s : State := { s with
    access := { s.access with handshakes := tdel s.access.handshakes h.id, sessions := tset s.access.sessions h.id e }
    keys := { s.keys with networkPort := true } }
  s.emit (.vap h.port 4 (vapDatagram 4 h.id 1 (some e.down) (le 1 roles ++ le 2 (s.cfg 0x2022 1) ++ le 2 1408)))

/-- The proof holds (R381, R470): a signature of both payloads' digest under the key of the slot. -/
def State.proves (s : State) (h : Handshake) (signature : Bytes) : Bool := Crypto.p256.verifies (s.proofKey h) h.digest signature

/-- CLIENT_PROOF (R381, R382): a failed proof ends the handshake silently; so does an ephemeral key that is no point of the curve. -/
def clientProof (k : Nat) (signature : Bytes) (s : State) : State :=
  match tfind s.access.handshakes k with
  | none => s
  | some h =>
    match s.credentialRoles h.slot, (if s.proves h signature then Crypto.p256.shared h.scalar h.key else none) with
    | some carried, some secret => s.accept h secret (s.grantedRoles h carried)
    | _, _ => { s with access := { s.access with handshakes := tdel s.access.handshakes k, failed := s.access.failed + 1 } }

/-- SESSION_ESTABLISH_TIMEOUT (R381): 2 s after the hello. -/
def establishTimeout (k : Nat) (s : State) : State :=
  match tfind s.access.handshakes k with
  | some h => if 100 ≤ h.age then { s with access := { s.access with handshakes := tdel s.access.handshakes k } } else s
  | none => s

/-! ## Closing -/

/-- A session closes: its stream readers and transfers go with it (R382, R390, R393). -/
def State.closeSession (k : Nat) (s : State) : State :=
  let s := s.releaseReader (BitVec.ofNat 32 k)
  { s with access := { s.access with
      sessions := tdel s.access.sessions k, transfers := s.access.transfers.filter (fun t => t.origin ≠ .vap k) } }

/-- SESSION_IDLE_TIMEOUT (R382): idle for longer than 0x2022:01. -/
def idleTimeout (k : Nat) (s : State) : State :=
  match tfind s.access.sessions k with
  | some e => if s.cfgNat 0x2022 1 * 50 < e.idle then s.closeSession k else s
  | none => s

/-- Sessions on a port that is no longer enabled close. -/
def State.portTick (s : State) : State :=
  (s.access.sessions.filter (fun e => !s.cfgOn 0x2022 (2 + e.2.port))).foldl (fun (t : State) e => t.closeSession e.1) s

def keepalive (r : Req) (s : State) : State := s.serve r confirm

/-- What an origin holds is given up (R393). -/
def State.leave (o : Origin) (s : State) : State :=
  match o with
  | .vap k => s.closeSession k
  | _ =>
    let s := s.releaseReader (BitVec.ofNat 32 (readerOf o))
    { s with access := { s.access with transfers := s.access.transfers.filter (fun t => t.origin ≠ o) } }

/-- CLOSE (R383, R393): the answer goes out, then the session is closed. -/
def close (r : Req) (s : State) : State :=
  match s.admitted r with
  | .closed t => t
  | .go t => (t.answer r (.done [])).leave r.origin

/-! ## Service port -/

/-- Data that one response carries (R383). -/
def responseRoom : Nat := 1396

/-- The stream an index names; 6 names none. -/
def streamOf (index : Nat) : Nat := if 0x5000 ≤ index then index - 0x5000 else 6

/-- A request by its operation code (R383): segments carry their offset, the first the total length too (R389). -/
def State.operation (r : Req) (op flags index sub : Nat) (data : Bytes) (s : State) : State × Answer :=
  let first := bit flags 0
  match op with
  | 1 => s.readEntry (s.roles r.origin) index sub
  | 2 => s.checkedWrite r index sub data (State.writeEntry r { index := index, sub := sub, data := data })
  | 3 => s.batchBytes r data
  | 4 => s.downloadSegment r index sub first (bit flags 1) (field data 0 4) (field data 4 4) (data.drop (if first then 8 else 4))
  | 5 => s.uploadSegment r index sub first
  | 6 => s.pullStream r (streamOf index) responseRoom
  | 7 => s.claimStream r (streamOf index)
  | 8 => s.releaseStream r (streamOf index)
  | 9 => s.giveStreamKey r (streamOf index)
  | 0xA => confirm s
  | 0xB => confirm (s.leave r.origin)
  | _ => refuse 0x05040001 s

/-- A request as bytes (R383). -/
def requestBytes (id op flags index sub : Nat) (data : Bytes) : Bytes :=
  le 4 id ++ le 1 op ++ le 1 flags ++ le 2 index ++ le 1 sub ++ le 1 0 ++ le 2 data.length ++ data

/-- DICTIONARY_REQUEST (R383, R498): a request under role S. It is not served in recovery (R375). -/
def dictionaryRequest (f : ServiceHead) (id op flags index sub : Nat) (data : Bytes) (s : State) : State :=
  let r : Req := { origin := .service, id := id, stamp := s.clock.offset, sequence := 0, tagOk := true }
  s.service f 0x40 (requestBytes id op flags index sub data) (fun s =>
    ({ s with update := { s.update with lastId := some id } } : State).serve r (State.operation r op flags index sub data))

def execHello (port version slot roles : Nat) (share : HelloShare) (s : State) : Host.Outcome State Fault Refusal :=
  running (hello port version slot roles share.key share.nonce) s
def execClientProof (session : Nat) (signature : Bytes) (s : State) : Host.Outcome State Fault Refusal :=
  running (clientProof session signature) s
def execSessionEstablishTimeout (session : Nat) (s : State) : Host.Outcome State Fault Refusal := running (establishTimeout session) s
def execSessionIdleTimeout (session : Nat) (s : State) : Host.Outcome State Fault Refusal := running (idleTimeout session) s
def execKeepalive (r : Req) (s : State) : Host.Outcome State Fault Refusal := running (keepalive r) s
def execClose (r : Req) (s : State) : Host.Outcome State Fault Refusal := running (close r) s
def execDictionaryRequest (f : ServiceHead) (id op flags : Nat) (entry : EntryName) (data : Bytes) (s : State) : Host.Outcome State Fault Refusal :=
  serving (dictionaryRequest f id op flags entry.index entry.sub data) s

end Sys2Proof.Machine
end

