-- ==== Sys2Proof/Machine/Uplink.lean ====
section
/-! DEFINITION. Uplink frames: the PPDU header, the steps of a receiver, elements, message sequences, admission, telemetry, the
classes of owned slots (01 R21; 05 R154; 08 R248, R256; 09 R277, R278, R281, R289 to R291; 10 R307 to R319, R325 to R331, R339;
15 R461), with UPLINK_FRAME_RECEIVE. -/

namespace Sys2Proof.Machine

/-! ## Slots -/

/-- Start of uplink slot `k`, and its length, ns (R277). -/
def slotStart (k : Nat) : Nat := 6000000 + 1400000 * k
def slotNs : Nat := 1400000

/-- The uplink slot an instant of the tick falls in (R277). -/
def slotAt (ns : Nat) : Option Nat := if slotStart 0 ≤ ns ∧ ns < slotStart 10 then some ((ns - slotStart 0) / slotNs) else none

/-- The lane that owns slot `k` of this tick on carriageway `c`; none in a contention slot (R278). -/
def State.ownerOf (s : State) (c k : Nat) : Option Nat :=
  let slot := s.stagePos * 10 + k
  if slot < 48 then some (4 * slot + c) else none

/-- The PPDU is discarded without decoding (R248): parity, MCS, length, or an end past its slot. -/
def headerBad (p : Ppdu) (slot : Nat) : Bool :=
  !p.parityOk || decide (7 ≤ p.mcs) || p.length = 0 ||
    decide (slotStart slot + slotNs < p.start + 1000 * ppduMicros p.mcs p.length)

/-! ## Elements (R312, R313) -/

/-- What an uplink element is: 1 telemetry, 2 observation segment, 3 acknowledgement, 4 admission request, 5 self-stop report;
0 unknown, and whether it is malformed (R313). An admission request exists only under generation 0. -/
def elementKind (generation : Nat) (e : Element) : Nat × Bool :=
  let n := e.value.length
  match e.typ with
  | 1 => (1, e.ack || n ≠ 64)
  | 2 => (2, e.ack || decide (n < 4) || decide (80 < n))
  | 3 => (3, e.ack || n ≠ 2)
  | 4 => if generation = 0 then (4, !e.ack || n ≠ 12) else (0, false)
  | 5 => (5, !e.ack || n ≠ 4)
  | _ => (0, false)

/-- The frame's only element is an admission request (R311, R327). -/
def requestOnly (f : AirFrame) : Bool :=
  f.generation = 0 && (match f.elements with | [e] => e.typ = 4 | _ => false)

/-! ## Telemetry (R154, R317) -/

/-- An excursion (R154). -/
def State.excursion (n : Nat) (east north : Int) (s : State) : State :=
  let e := (s.route n).envelopes.envAt s.clock.tick
  let d := e.outside east north
  if e.kind = 0 ∨ d = 0 then s
  else
    let s : State := { s with ledger := { s.ledger with excursions := s.ledger.excursions + 1 } }
    (s.raise 0x0504 1 7 n 0 (le 4 s.clock.tick.toNat ++ le 4 d)).trigger 7 s.now n

/-- A telemetry element (R317, R396): its sample tick is the tick in which the frame is sent. A reported lane state that fails its
complement is counted and not taken (R308). -/
def State.telemetry (n : Nat) (v : Bytes) (s : State) : State :=
  if field v 0 2 ≠ s.clock.tick.toNat % 65536 then s
  else
    let pose := (telemetryPose v).1
    let rest := (telemetryPose v).2
    let s := s.onLane n (fun l => { l with
      pose := some pose, standPose := if rest then some pose else none, telemetry := v, standstill := if rest then max 1 l.standstill else 0 })
    let held : U16 := BitVec.ofNat 16 (field v 32 2)
    let s := s.onAirLane n (fun a =>
      if (codeOf held).isSome then { a with stateHeld := held } else { a with complement := a.complement + 1 })
    let s := s.pushTelemetry 1 n (le 1 n ++ le 1 0 ++ le 2 (s.lane n).epoch.toNat ++ le 4 s.clock.tick.toNat ++ v)
    s.excursion n pose.east pose.north

/-! ## Acknowledgements (R331) -/

/-- Key sets of a key delivery as pair, lane, generation and use (R318). -/
def deliverySets (v : Bytes) : List (Nat × Nat × Nat × Nat) :=
  (List.range (byteAt v 0)).map (fun i =>
    let b := v.drop (2 + 52 * i)
    (byteAt b 0, byteAt b 1, byteAt b 2, byteAt b 3))

/-- A key delivery is acknowledged with result 0 (R318, R319, R339, R445): the latest own set counts; the first one of an admission
completes its key condition and is followed by the lane configuration; a handover set tells the crossing. -/
def State.keysAcked (n : Nat) (v : Bytes) (s : State) : State :=
  let sets := deliverySets v
  let own := sets.filter (fun x => x.1 = s.pairNumber && x.2.1 = n && x.2.2.2 ≠ 2)
  let admitted := (s.airLane n).keyGeneration = 0
  let s := match own.getLast? with
    | none => s
    | some x =>
      let s := s.onAirLane n (fun a => { a with keyGeneration := x.2.2.1 })
      if admitted then ({ s with due := s.due ++ [{ lane := n, what := .keyAck }] } : State).configure n (s.limitsIn n) else s
  if sets.any (fun x => x.2.2.2 = 2) then
    s.onRoute n (fun r => { r with crossing := r.crossing.map (fun c => { c with keyAcked := true }) })
  else s

/-- A machine acknowledges downlink message `msn` with a result: its retransmission ends (R331). -/
def State.acknowledged (n msn result : Nat) (s : State) : State :=
  match (s.airLane n).unacked.find? (fun m => m.msn = msn && decide (0 < m.sent)) with
  | none => s
  | some m =>
    let s := s.onAirLane n (fun a => { a with unacked := a.unacked.filter (fun x => x.msn ≠ msn) })
    if result ≠ 0 then s
    else match m.typ with
      | 0x19 => s.keysAcked n m.value
      | 0x1A => s.onAirLane n (fun a => { a with relay := bit (byteAt m.value 2) 0 })
      | 0x1C => { s with due := s.due ++ [{ lane := n, what := .releaseAck }] }
      | _ => s

/-! ## Uplink messages (R330) -/

/-- A self-stop report is accepted (R21, R298): counted, reported, and applied at step 3 of the next boundary. -/
def State.selfStopReport (n : Nat) (v : Bytes) (s : State) : State :=
  let s := s.onAirLane n (fun a => { a with selfStops := a.selfStops + 1 })
  let s := s.raise 0x0103 1 7 n 0 (le 2 (field v 0 2) ++ le 1 (byteAt v 2))
  { s with due := s.due ++ [{ lane := n, what := .selfStop (s.fullTick (field v 0 2)) (byteAt v 2) }] }

/-- Execute a message: its result (R313): 4 of an unknown type, 2 malformed, 0 executed. -/
def State.executeMessage (n generation : Nat) (e : Element) (s : State) : State × Nat :=
  match elementKind generation e with
  | (0, _) => (s, 4)
  | (_, true) => (s, 2)
  | (5, false) => (s.selfStopReport n e.value, 0)
  | _ => (s, 0)

/-- Execute the message expected next: its acknowledgement is stored and queued (R330). -/
def State.nextMessage (n generation : Nat) (e : Element) (s : State) : State :=
  let p := s.executeMessage n generation e
  p.1.onAirLane n (fun a =>
    let stored := a.stored ++ [(e.msn, p.2)]
    { a with expected := (a.expected + 1) % 256, executed := a.executed + 1, acks := a.acks ++ [(e.msn, p.2)]
             stored := stored.drop (stored.length - 8) })

/-- Held messages whose turn has come (R330); `k` bounds the loop. -/
def State.heldMessages (n generation : Nat) : Nat → State → State
  | 0, s => s
  | k + 1, s =>
    match (s.airLane n).held.find? (fun e => e.msn = (s.airLane n).expected) with
    | none => s
    | some e => State.heldMessages n generation k
        ((s.onAirLane n (fun a => { a with held := a.held.filter (fun x => x.msn ≠ e.msn) })).nextMessage n generation e)

/-- An element that asks for an acknowledgement, by its sequence number (R330). -/
def State.message (n generation : Nat) (e : Element) (s : State) : State :=
  let a := s.airLane n
  let d := (e.msn + 256 - a.expected) % 256
  if d = 0 then (s.nextMessage n generation e).heldMessages n generation 7
  else if d ≤ 7 then
    (if a.held.any (fun x => x.msn = e.msn) then s else s.onAirLane n (fun x => { x with held := x.held ++ [e] }))
  else if 248 ≤ d then
    s.onAirLane n (fun x => { x with
      duplicates := x.duplicates + 1, acks := x.acks ++ x.stored.filter (fun y => y.1 = e.msn) })
  else s.onAirLane n (fun x => { x with outOfWindow := x.outOfWindow + 1 })

/-! ## Admission (R290, R291, R296) -/

/-- Lane `n` is enabled for admission (R305). -/
def Units.admissionOn (u : Units) (n : Nat) : Bool := bit (u.cfgNat 0x2506 (n / 32 + 1)) (n % 32)

/-- Response code of a request for lane `n` other than one already answered (R290). -/
def State.admissionCode (s : State) (n : Nat) : Nat :=
  if s.power.deviceState ≠ 2 then 3
  else if (s.lane n).reserved then 4
  else if !s.laneIs n .vacant ∨ s.due.any (fun d => d.lane = n && (match d.what with | .admission _ => true | _ => false)) then 2
  else if s.admissionOn n then 0 else 1

/-- An admission request (R291): the machine that holds the lane in ADMITTING gets the stored response again. The response goes in
the stage that follows (R290). -/
def State.admissionRequest (n : Nat) (v : Bytes) (s : State) : State :=
  let identity : U64 := BitVec.ofNat 64 (field v 0 8)
  let say := fun (code : Nat) (t : State) => t.onAirLane n (fun a => { a with responses := a.responses ++ [(code, s.stageNumber + 1)] })
  if s.laneIs n .admitting ∧ (s.lane n).identity = identity then
    say 0 (s.onAirLane n (fun a => { a with duplicates := a.duplicates + 1 }))
  else
    let code := s.admissionCode n
    if code = 0 then say 0 { s with due := s.due ++ [{ lane := n, what := .admission identity }] }
    else say code s

/-! ## The steps of a receiver (R327) -/

/-- One element of an authenticated frame; telemetry and segments count only in the lane's own slot (R117, R286). -/
def State.element (n generation : Nat) (own : Bool) (s : State) (e : Element) : State :=
  match elementKind generation e with
  | (4, false) => s.admissionRequest n e.value
  | (1, false) => if own then s.telemetry n e.value else s
  | (2, false) => if own then s.segment n e.value else s
  | (3, false) => s.acknowledged n (byteAt e.value 0) (byteAt e.value 1)
  | _ => if e.ack ∧ (s.lane n).occupied then s.message n generation e else s

/-- Generations the controller accepts (R311, R333): the one in force, and in a changeover window the pending one. -/
def State.acceptsGeneration (s : State) (n : Nat) (f : AirFrame) : Bool :=
  if f.generation = 0 then s.laneIs n .admitting || requestOnly f
  else f.generation = s.sendGeneration || (s.keys.switched && f.generation = s.keys.generation)

/-- The window a frame is judged by (R325): admission key, key sent under, other key. -/
def State.windowOf (s : State) (n generation : Nat) : Window :=
  let a := s.airLane n
  if generation = 0 then a.admissionWindow else if generation = s.sendGeneration then a.window else a.otherWindow

/-! ## Reading a frame (R310, R312, R322, R323) -/

/-- Elements of a body; reading ends where what is left holds none. `n` bounds their number. -/
def elementsOf : Nat → Bytes → List Element
  | 0, _ => []
  | n + 1, b =>
    let size := field b 2 2
    if b.length < 4 ∨ b.length < 4 + size then []
    else { typ := byteAt b 0 % 128, ack := bit (byteAt b 0) 7, msn := byteAt b 1, value := (b.drop 4).take size } ::
      elementsOf n (b.drop (4 + size))

/-- Keys an uplink frame of a generation may be under, in the order they are tried: the lane key of the generation, or the admission
keys of the generation in force and, in a changeover window, of the other (R311, R461). -/
def State.uplinkKeys (s : State) (n generation : Nat) : List Bytes :=
  let old := kdf (s.laneRoot s.keys.current n) "VL lane" (le 2 s.pair.epoch.toNat) 128
  let oldAdmission := kdf s.keys.current ("VL adm" ++ "it") (s.domain ++ le 1 s.pairNumber ++ le 1 n) 128
  if generation = 0 then s.admissionKey n :: (if s.keys.switched then [oldAdmission] else [])
  else if generation = s.sendGeneration then [s.laneKey n] else [old]

/-- What a PSDU holds (R310): header, the body opened under the first key whose MIC holds, or else under the first key tried, with the
rollover count that the replay window gives (R322, R323, R325). None where the header does not fit. -/
def State.readFrame (s : State) (psdu : Bytes) : Option AirFrame :=
  let size := field psdu 18 2
  if psdu.length ≠ 28 + size then none
  else
    let generation := byteAt psdu 1
    let sender := field psdu 2 2
    let n := sender % 256
    let counter : U32 := BitVec.ofNat 32 (field psdu 14 4)
    let nonce := s.nonce sender (BitVec.ofInt 64 ((s.windowOf n generation).extend counter)) 6
    let body := (psdu.drop 20).take size
    let opened := (s.uplinkKeys n generation).map (fun k =>
      let plain := Crypto.ccmCipher k nonce body
      (decide (Crypto.ccmTag k nonce (psdu.take 20) plain 8 = psdu.drop (20 + size)), plain))
    let best := (opened.find? (·.1)).getD (opened.headD (false, []))
    some { frameType := byteAt psdu 0, generation := generation, sender := sender, dest := field psdu 4 2
           pairEpoch := BitVec.ofNat 16 (field psdu 6 2), pairComp := BitVec.ofNat 16 (field psdu 8 2)
           laneEpoch := BitVec.ofNat 16 (field psdu 10 2), laneComp := BitVec.ofNat 16 (field psdu 12 2)
           counter := counter, bodyLength := size, authentic := best.1, elements := elementsOf best.2.length best.2 }

/-- The window with a count marked. -/
def State.markWindow (n generation : Nat) (x : Int) (s : State) : State :=
  let current := generation = s.sendGeneration
  s.onAirLane n (fun a =>
    if generation = 0 then { a with admissionWindow := a.admissionWindow.mark x }
    else if current then { a with window := a.window.mark x }
    else { a with otherWindow := a.otherWindow.mark x })

/-- An owned slot was heard (R281): messages sent and not yet acknowledged count it (R331). -/
def State.heardSlot (n : Nat) (s : State) : State :=
  s.onAirLane n (fun a =>
    if a.heard then a
    else { a with heard := true, unacked := a.unacked.map (fun m => if 0 < m.sent ∧ !m.queued then { m with slots := m.slots + 1 } else m) })

/-- Step 8: the window is marked, elements are processed in order (R312). -/
def State.takeFrame (n : Nat) (f : AirFrame) (x : Int) (owned : Option Nat) (contention : Bool) (c : Nat) (s : State) : State :=
  let s := (s.markWindow n f.generation x).onAirLane n (fun a => { a with
    authenticated := a.authenticated + 1, lastCounter := if f.generation = 0 then a.lastCounter else f.counter
    contention := if contention then a.contention + 1 else a.contention })
  let s := if contention then s.onCw c (fun w => { w with contention := w.contention + 1 }) else s
  let own := owned = some n
  let s := (s.count (0x410 + c) 1).mirror 1 (.other (f.elements.flatMap (fun e =>
    elementBytes e.typ (if e.ack then some e.msn else none) e.value)))
  let s := f.elements.foldl (State.element n f.generation own) s
  if own then s.heardSlot n else s

/-- Steps 4 to 7 (R309, R325, R326). -/
def State.judgeFrame (n : Nat) (f : AirFrame) (owned : Option Nat) (contention : Bool) (c : Nat) (s : State) : State :=
  let w := s.windowOf n f.generation
  let x := w.extend f.counter
  let v := w.judge x
  if epochAbove s.pair.epoch f.pairEpoch then s.onAirLane n (fun a => { a with earlierPair := a.earlierPair + 1 })
  else if f.pairEpoch ≠ s.pair.epoch then (if f.authentic then s.hearEpoch f.pairEpoch else s)
  else if !requestOnly f ∧ f.laneEpoch ≠ (s.lane n).epoch then s.onAirLane n (fun a => { a with otherEpoch := a.otherEpoch + 1 })
  else if v = .tooOld ∨ (requestOnly f ∧ v = .accept ∧ x ≤ w.high) then s.onAirLane n (fun a => { a with tooOld := a.tooOld + 1 })
  else if v = .repeated then s.onAirLane n (fun a => { a with repeated := a.repeated + 1 })
  else if !f.authentic then s.onAirLane n (fun a => { a with micFailures := a.micFailures + 1 })
  else s.takeFrame n f x owned contention c

/-- Steps 1 to 3: header, complements, sender; a frame to another destination is skipped (R307, R308, R310, R311). -/
def State.uplinkFrame (c slot : Nat) (p : Ppdu) (f : AirFrame) (s : State) : State :=
  let n := f.sender % 256
  let ours : Bool := decide (f.sender / 256 = s.pairNumber) && decide (n < 192)
  let known : Bool := ours && ((s.lane n).occupied || requestOnly f)
  let owned := s.ownerOf c slot
  if f.frameType ≠ 3 ∨ p.length ≠ 28 + f.bodyLength ∨ f.dest ≠ s.address then s
  else if f.pairComp ≠ ~~~ f.pairEpoch ∨ f.laneComp ≠ ~~~ f.laneEpoch then
    (if ours then s.onAirLane n (fun a => { a with complement := a.complement + 1 }) else s)
  else if !known then { s with air := { s.air with unknown := s.air.unknown + 1 } }
  else if !s.acceptsGeneration n f then s.onAirLane n (fun a => { a with micFailures := a.micFailures + 1 })
  else s.judgeFrame n f owned owned.isNone c

/-- UPLINK_FRAME_RECEIVE (R248, R327): a unit that sends its cell's beacons receives in its uplink slots. -/
def uplinkReceive (c : Nat) (p : Ppdu) (psdu : Bytes) (s : State) : State :=
  if 4 ≤ c ∨ !s.onAir ∨ s.cfg 0x2501 (c + 1) = 255 then s
  else match slotAt p.start with
    | none => s
    | some slot =>
      let s := s.stamped p.stamp
      if headerBad p slot then s.onCw c (fun w => { w with headerErrors := w.headerErrors + 1 })
      else
        let s := (s.count (0x700 + c) 1).occupy (0x700 + c) (min 1000 (ppduMicros p.mcs p.length))
        match s.readFrame psdu with
        | none => s
        | some f => s.uplinkFrame c slot p f

/-! ## Owned slots (R281) -/

/-- The owned slot of lane `n` in the stage just ended is classed. -/
def State.classifySlot (n : Nat) (s : State) : State :=
  let a := s.airLane n
  let t := s.onAirLane n (fun x => { x with heard := false, slotBarred := false })
  if a.heard then
    let t := t.onAirLane n (fun x => { x with received := x.received + 1, consecutive := 0, silent := false })
    if a.silent then t.raise 0x0902 3 4 n n [] else t
  else if a.slotBarred then t.onAirLane n (fun x => { x with barred := x.barred + 1 })
  else
    let k := min 255 (a.consecutive + 1)
    let t := t.onAirLane n (fun x => { x with missed := x.missed + 1, consecutive := k })
    if !a.silent ∧ s.cfgNat 0x2504 2 ≤ k then
      ((t.onAirLane n (fun x => { x with silent := true })).raise 0x0901 2 4 n n (le 1 k)).trigger 16 t.now n
    else t

/-- At a stage boundary every lane in use is classed. -/
def State.classifySlots (s : State) : State :=
  if !s.onAir then s else s.occupiedLanes.foldl (fun (t : State) n => t.classifySlot n) s

def execUplinkFrameReceive (cw : Nat) (ppdu : Ppdu) (psdu : Bytes) (s : State) : Host.Outcome State Fault Refusal :=
  running (uplinkReceive cw ppdu psdu) s

end Sys2Proof.Machine
end

