-- ==== Sys2Proof/Machine/Boundary.lean ====
section
/-! DEFINITION. The boundaries that put everything in order: the tick boundary with the stage and milestone boundaries that fall on it
(01 R23 to R27; 09 R293, R300; 13 R404; 20 R589, R595), the slice boundary (R27) and the ledger cutoff, with TICK_BOUNDARY,
SLICE_BOUNDARY and LEDGER_CUTOFF. -/

namespace Sys2Proof.Machine

/-! ## Settings come in force (R404) -/

/-- When an accepted write takes effect. -/
inductive Effect where
  | tick | stage | milestone
  deriving DecidableEq, Repr

/-- When an entry takes effect: R105 and R305 (0x2401:01, 0x2402), R276 (0x2500:01, 0x2501:01 to :06, 0x2502:01) and R305
(0x2504:01) name their own boundaries, R404 the next tick boundary for the rest. The numbering base waits for its milestone in the
step it makes (R343). -/
def effectOf (index sub : Nat) : Effect :=
  if (index = 0x2401 ∧ sub = 1) ∨ index = 0x2402 ∨ (index = 0x2500 ∧ sub = 1) ∨ (index = 0x2501 ∧ 1 ≤ sub ∧ sub ≤ 6) ∨
    (index = 0x2502 ∧ sub = 1) then .milestone
  else if index = 0x2504 ∧ sub = 1 then .stage
  else .tick

/-- The effect is due at a boundary that opens a stage, or a milestone, or neither. -/
def Effect.due (e : Effect) (stage milestone : Bool) : Bool :=
  match e with | .tick => true | .stage => stage | .milestone => milestone

/-- Numbers of the settings that a plan not yet resolved holds back (R158, R387). -/
def Plan.holds (p : Plan) : List Nat :=
  match p.what with
  | .closure a items => items.map (fun x => key (0x3000 + a) x.1)
  | .settings items _ => items.map (·.1)
  | _ => []

/-- Numbers of the settings that differ from what is in force and whose boundary this is. -/
def State.settingsDue (stage milestone : Bool) (s : State) : List Nat :=
  let held := s.ledger.plans.flatMap Plan.holds
  ((s.settings.accepted ++ s.settings.inForce).map (·.1)).filter (fun k =>
    decide (tget settingDefault s.settings.accepted k ≠ tget settingDefault s.settings.inForce k) &&
      !held.contains k && (effectOf (k / 256) (k % 256)).due stage milestone)

/-- Accepted settings come in force; a changed region is sent to the neighbours (R171), and halt inputs enabled or disabled count
at once (R212). -/
def State.settingsTick (stage milestone : Bool) (s : State) : State :=
  let due := s.settingsDue stage milestone
  let s : State := { s with settings := { s.settings with
    inForce := due.foldl (fun t k => tput settingDefault t k (tget settingDefault s.settings.accepted k)) s.settings.inForce } }
  let s := if due.any (fun k => k / 256 = 0x2012) then s.sendRegions else s
  if due.any (fun k => k / 256 = 0x2202) then s.sourcesChanged else s

/-! ## The clock -/

/-- The next tick opens (R24, R27); RTC and downloads age (R482, R585). -/
def State.nextTick (s : State) : State :=
  let s : State := { s with
    clock := { s.clock with
      tick := s.clock.tick + 1, source := s.clock.source + 20000000, tb3 := s.clock.tb3 + tickNs, slice := 0, sampled := false
      offset := 0 }
    update := { s.update with age := s.update.age + 20 } }
  s.keeperTick

/-- The controller becomes ready for lanes (R595). -/
def State.readyForLanes (s : State) : State :=
  if s.power.deviceState = 1 ∧ s.reference.valid ∧ s.time.valid then { s with power := { s.power with deviceState := 2 } } else s

/-! ## Stage and milestone -/

/-- A stage that ended without this unit's own stage beacon on any path is a gap (R300). -/
def State.beaconGap (s : State) : State :=
  let b := s.air.stageBody
  if !s.onAir ∨ s.air.delivered ∨ b.isEmpty then s
  else
    let s : State := { s with air := { s.air with gaps := s.air.gaps + 1 } }
    (s.raise 0x0905 1 4 0xFF 0 (le 1 (byteAt b 2 / 16) ++ b.take 2)).trigger 15 s.now 0xFF

/-- Milestones until the announced switch (R293): 2, then 1, and 0 from the switch. -/
def State.changeover (s : State) : Nat :=
  match s.keys.switchTick with
  | some t => if s.keys.pendingState = 3 ∧ !s.keys.switched ∧ later t s.clock.tick then ((t - s.clock.tick).toNat + 49) / 50 else 0
  | none => 0

/-- Bit c: carriageway c has a VACANT lane enabled for admission (R293). -/
def State.admissionBits (s : State) : Nat :=
  ((List.range 4).map (fun c => if (lanesOf c).any (fun n => s.laneIs n .vacant && s.admissionOn n) then 2 ^ c else 0)).sum

/-- Stage beacon body (R293). -/
def State.stageBodyNow (s : State) : Bytes :=
  let sum := s.haltSummary none
  le 2 (s.clock.tick.toNat % 65536) ++
    le 1 (s.stageInMilestone * 16 + s.reference.correction * 4 + (if s.time.valid then 2 else 0)) ++ le 1 s.reference.issue ++
    le 1 sum ++ le 1 (255 - sum) ++ le 2 s.halt.haltId.toNat ++ le 1 s.sendGeneration ++ le 1 s.changeover ++ le 1 s.admissionBits ++
    le 1 0

/-- Beacons start at a stage boundary once the unit is ready for lanes and in Run (R472, R588, R589, R595). -/
def State.startBeacons (s : State) : State :=
  if s.power.state = 0 ∧ s.power.deviceState = 2 ∧ !s.power.beacons then
    { s with power := { s.power with beacons := true }, keys := { s.keys with linkPort := decide (s.keys.security ≠ 0) } }
  else s

/-- STAGE_BOUNDARY before the changes of R23: the stage that ended is accounted for (R118, R281, R300). -/
def State.stageEnds (s : State) : State := s.beaconGap.classifySlots.recordsEnd

/-- STAGE_BOUNDARY after them: the beacon body of the stage that opens (R293), the epoch held (R122), the Gnoez epoch (R105), and
the retune of a verge channel that is free (R268). -/
def State.stageOpens (s : State) : State :=
  let s := s.startBeacons.holdEpoch.gnoezOpen
  let s : State := { s with air := { s.air with
    stageBody := if s.onAir then s.stageBodyNow else [], delivered := false, beaconDone := false } }
  if s.air.verge.isNone then s.retune else s

/-- MILESTONE_BOUNDARY (R25): survey and reference, readiness, stored offsets, the trial's second. -/
def State.milestoneOpens (e : TickEnv) (s : State) : State :=
  (((s.referenceOpens e.survey).readyForLanes).storeOffsets e.osc e.rtc).trialSecond

/-- What a milestone boundary does once the state changes of R23 are made: keys (R463, R466), station messages (R112), the region
(R442), the feed test (R585). -/
def State.milestoneCloses (s : State) : State :=
  s.announceMilestone.rolloverAfterStart.rtcmMilestone.sendRegions.feedMilestone

/-! ## The tick -/

/-- The correction state that changed with this boundary is told to the machines (R102, R316). -/
def State.correctionNotice (s : State) : State :=
  if s.shown.reference.correction = s.reference.correction then s else s.notice 2 s.reference.correction s.clock.tick

/-- Carriageways begin their tick (R282): those in use await their first observation. -/
def State.openCarriageways (s : State) : State :=
  { s with air := { s.air with cws := (List.range 4).foldl (fun t c =>
      let used := s.onAir && decide (s.cfg 0x2501 (c + 1) ≠ 255)
      tmod (fun _ => {}) t c (fun (w : Carriageway) =>
        { w with closed := !used, tries := 0, wait := 0, skippedNow := false, beaconOnly := false })) s.air.cws } }

/-- A lane's timeouts run by a tick (R20, R447). -/
def Lane.tick (l : Lane) : Lane :=
  match laneStateOf l.state with
  | some .admitting => { l with timer := l.timer + 1 }
  | some .releasing => { l with timer := l.timer + 1 }
  | some .handingOver => { l with timer := l.timer + 1 }
  | _ => l

/-- Timers run, envelopes long past leave the ledger, and the counts of the window start again (R143, R157, R159, R165). -/
def State.laneTick (s : State) : State :=
  { s with
    lanes := tmap (fun _ => {}) Lane.tick s.lanes
    routes := tmap (fun _ => {}) (fun (r : Route) => { r with envelopes := r.envelopes.trim (s.clock.tick - keptTicks) }) s.routes
    ledger := { s.ledger with profileClosed := false, ledgerClosed := false, tests := 0, testsLast := s.ledger.tests } }

/-- Steps 3 to 7 of R23 on a unit that decides for its cell: self-stops, handovers, verdicts and plans, host commands, completions.
Guests withdrawn end, and transitions 16 and 13 are made, between steps 4 and 5 (log entry 118). -/
def State.decideLanes (s : State) : State :=
  let s := s.selfStopStep.handoverStep.dropWithdrawn.takeLanes.beginHandovers
  s.commitVerdicts.commitStep.activateStep.commandStep.completeStep.mismatchedGuests

/-- The changes of R23 in order: halts come into force and are cleared; a standby then takes what its active's DELTA commits
(R427), and any other unit decides. Stored lane states are checked on the way (R19). -/
def State.applyChanges (s : State) : State :=
  let s := s.listed.foldl (fun (t : State) n => t.checkLane n) s
  let s := s.haltSteps
  if s.isStandby then s.standbyBoundary.activateStep else s.decideLanes

/-- What opens with the tick before lanes change: start, settings, counters, recorder, grants, sessions, time, pair. -/
def State.tickOpens (e : TickEnv) (s : State) : State :=
  let s := s.nextTick.chainTick
  let s := if s.power.deviceState = 0 then s.started.sendRegions else s
  let s := s.settingsTick false false
  let s := s.counterTick.tripTick.grantTick.portTick.timeTick
  let stage := decide (s.stagePos = 0)
  let milestone := decide (s.milestonePos = 0)
  let s := if stage ∨ milestone then s.settingsTick stage milestone else s
  let s := if milestone then s.milestoneOpens e else s
  let s := if stage then s.stageEnds else s
  s.laneTick.pairOpens.positioningBoundary

/-- What closes the boundary: keys, power, the pair, outputs of the tick that opens, the dictionary's values. -/
def State.tickCloses (e : TickEnv) (s : State) : State :=
  let s := s.verifyBoundary.confirmStep.powerStep.rolloverSwitch
  let s := if s.milestonePos = 0 then s.milestoneCloses else s
  let s := s.pairCloses.cellTick.sendHandovers
  let s := (s.gnssTick e.sats).gnoezAccount
  let s := if s.stagePos = 0 then s.stageOpens else s
  let s := s.correctionNotice.lanesDue.dutyBelow.openCarriageways.accessTick.readerTick
  let s := s.publishSnap
  let s : State := { s with shown := s.toUnits }
  s.boundarySnap

/-- A tick boundary of a running image: an activation or power command that resets the part comes first (R484, R590). -/
def State.runningTick (e : TickEnv) (s : State) : State :=
  if s.update.activated then s.activationReset
  else match s.powerBoundary with
    | some t => t
    | none => ((s.tickOpens e).applyChanges).tickCloses e

/-- TICK_BOUNDARY (R23, R27): outside a running image TB3 and the keeper domain alone go on. -/
def tickBoundary (e : TickEnv) (s : State) : State :=
  match s.power.phase with
  | .running => s.runningTick e
  | .rom => s.nextTick
  | .recovery => s.nextTick
  | _ => s

/-! ## The slice -/

/-- Ages on the site line (R235). -/
def State.lineSlice (s : State) : State :=
  let free := s.halt.lineLow && !s.halt.driving && s.halt.drivers.isEmpty
  { s with halt := { s.halt with
      drivers := s.halt.drivers.map (fun e => (e.1, e.2 + 1)), lowFor := if free then s.halt.lowFor + 1 else 0 } }

/-- From slice 6 the carriageway radio receives; the sequence of the tick's downlinks has closed after the latest end (R273, R277). -/
def State.receiveLines (s : State) : State :=
  let s := if s.air.txrx then s.linesClose .cwLna0En .cwTxRxSel .cwPaEn s.air.downEnd else s
  { s with air := { s.air with txrx := false, pa := false, lna0 := true, lna1 := true } }

/-- The slice whose boundary this is: that of slice 0 follows the tick boundary it coincides with. -/
def State.nextSlice (s : State) : State :=
  let n := if s.clock.sampled then s.clock.slice + 1 else s.clock.slice
  ({ s with clock := { s.clock with slice := n, sampled := true } } : State).stamped (n * sliceNs)

/-- AGC of the four chains (R45). -/
def State.agcSlice (rms : List (Nat × Nat)) (s : State) : State :=
  ((List.range 4).foldl (fun (t : State) c => t.agc c (rms.getD c (0, 0))) s).captureSlice

/-- The queues between engines (the queue table of 17). -/
def innerQueues : List Nat := [8, 9, 0xA, 0xB, 0xC, 0x10, 0x11, 0x12, 0x13, 0x14, 0x15, 0x16, 0x17, 0x18, 0x20]

/-- Plans that queue `q` holds: submissions not yet profiled, or envelopes not yet checked. -/
def State.plansIn (s : State) (q : Nat) : List Plan :=
  if q = 9 then s.queuedPlans
  else if q = 0xA then s.ledger.plans.filter (fun p => p.what.ofLane && p.result = none && p.profiled)
  else []

/-- The items of queue `q` are discarded: plans return "late", checkpoint requests are solves dropped late (R33, R526). The items of the
other queues are taken as they arrive, so none stands in them (log entry 136). -/
def State.emptyQueue (q : Nat) (s : State) : Nat × State :=
  if q = 8 then
    let l := s.checkpoint.queue
    (l.length, l.foldl (fun (t : State) x => t.solveDropped x) { s with checkpoint := { s.checkpoint with queue := [] } })
  else
    let l := s.plansIn q
    (l.length, s.onPlans (fun p => l.any (fun x => x = p)) (fun p => { p with result := some 2 }))

/-- A queue whose pointer copies differ is reset (R523, R525, R526). -/
def State.checkInner (q : Nat) (s : State) : State :=
  let p := tget (fun _ => (({}, {}) : Pointer × Pointer)) s.disp.pointers q
  if p.1.ok && p.2.ok then s
  else
    let bad := if p.1.ok then p.2 else p.1
    let r := s.emptyQueue q
    let s := r.2.count (0x500 + q) r.1
    let s : State := { s with disp := { s.disp with pointers := tdel s.disp.pointers q } }
    (s.raise 0x1701 1 7 0xFF 0 (le 1 q ++ le 1 (if p.1.ok then 1 else 0) ++ le 2 0 ++ le 4 bad.value.toNat ++ le 4 bad.other.toNat ++
      le 4 r.1)).trigger 17 s.now 0xFF

/-- A slice boundary of a running image. -/
def State.runningSlice (e : SliceEnv) (s : State) : State :=
  let s := s.flushTrace.nextSlice.runDelays
  let s := s.contactSlice e
  let s := ((s.portSample 0 e.currentA).portSample 1 e.currentB).agcSlice e.rms
  let s := (s.feedSlice e.feedA e.feedB).lineSlice
  let s := if e.lampReady then s.lampFrame else s.lampLate
  let s : State := { s with panel := { s.panel with wake := e.wake } }
  let s := if s.clock.slice = 6 ∧ s.onAir then s.receiveLines else s
  let s := if s.clock.slice = 8 then s.sendHandovers else s
  (innerQueues.foldl (fun (t : State) q => t.checkInner q) s).dropLate.tripSlice.sliceCounters.multicastSlice

/-- SLICE_BOUNDARY (R27). In recovery the feeds alone are sampled, without events (R501, R503). -/
def sliceBoundary (e : SliceEnv) (s : State) : State :=
  match s.power.phase with
  | .running => s.runningSlice e
  | .recovery =>
    let t := s.nextSlice.feedSlice e.feedA e.feedB
    { s with clock := t.clock, power := t.power, out := t.out.filter (fun o => match o with | .pin _ _ => true | _ => false) }
  | _ => s

/-! ## The ledger cutoff -/

/-- LEDGER_CUTOFF (R166) with STEP_CONFIRM_CHECK (R357), which a standby leaves to its active. -/
def cutoff (s : State) : State := if s.isStandby then ledgerCutoff s else (ledgerCutoff s).stepCheck

def execTickBoundary (env : TickEnv) (s : State) : Host.Outcome State Fault Refusal := .next (tickBoundary env s.begin)
def execSliceBoundary (env : SliceEnv) (s : State) : Host.Outcome State Fault Refusal := .next (sliceBoundary env s.begin)
def execLedgerCutoff (s : State) : Host.Outcome State Fault Refusal := running cutoff s

end Sys2Proof.Machine
end

