-- ==== Sys2Proof/Machine/DebugPort.lean ====
section
/-! DEFINITION. The debug port (21 R608; 15 R468, R471), with DEBUG_TAP_INSTRUCTION. -/

namespace Sys2Proof.Machine

/-- The stepping field of IDCODE (R608): B reads as 0x1, later letters as the numbers after it (log entry 48). -/
def steppingCode : Nat := Config.stepping - 0x41

/-- IDCODE (R608). -/
def idcode : Nat := steppingCode * 0x10000000 + 0x4192 * 0x1000 + 0x001

/-- The test access port is powered (R471). -/
def State.tapPowered (s : State) : Bool := s.power.phase = .rom || s.power.phase = .recovery || s.power.phase = .running

/-- Debug-open, and not in recovery (R471, R608). -/
def State.debugOpen (s : State) : Bool := s.keys.security = 2 && (s.power.phase = .rom || s.power.phase = .running)

/-- The port accepts the boundary-scan instructions (R608). -/
def State.scanAllowed (s : State) : Bool := s.debugOpen || s.power.phase = .recovery

/-- The state with the debug port replaced. -/
def State.setTap (selected captured : Nat) (s : State) : State :=
  { s with tap := { s.tap with selected := selected, captured := captured } }

/-- Output balls in the order of the boundary scan (log entry 48). -/
def scanPins : List Pin :=
  [.siteHaltN, .sounderEn, .pwrEn, .feedAGate, .feedBGate, .ppsOut, .trigger, .pairPulse, .selOut, .antBiasA, .antBiasB, .cwTxRxSel,
   .cwPaEn, .cwLna0En, .cwLna1En, .vgTxRxSel, .vgPaEn, .vgLnaEn]

/-- SAMPLE/PRELOAD: what it captures from the balls is a free value. -/
def State.samplePins (s : State) : State := let p := s.draw; p.2.setTap 2 p.1

/-- EXTEST drives every output ball as scanned (R608). -/
def State.extest (pins : List Bool) (s : State) : State :=
  let s : State := { s with tap := { s.tap with selected := 3, driven := pins } }
  (scanPins.zip pins).foldl (fun (t : State) x => t.emit (.pin x.1 x.2)) s

/-- DEBUG_TAP_INSTRUCTION (R608): an instruction that the present state does not accept changes nothing; the debug functions of
an open port have no effect the spec gives. -/
def debugTap (i : TapInstr) (s : State) : Host.Outcome State Fault Refusal :=
  if !s.tapPowered then .next s
  else match i with
    | .bypass => .next (s.setTap 0 0)
    | .idcode => .next (s.setTap 1 idcode)
    | .samplePreload => .next (if s.scanAllowed then s.samplePins else s)
    | .extest pins => .next (if s.scanAllowed then s.extest pins else s)
    | .debugFunction code => if s.debugOpen then .refused (.debugFunctionOpen code) else .next s

def execDebugTapInstruction (instr : TapInstr) (s : State) : Host.Outcome State Fault Refusal := debugTap instr s.begin

end Sys2Proof.Machine
end

