-- ==== Sys2Proof/Machine/Dispatch.lean ====
section
/-! DEFINITION. One arm for each command: the call of its meaning. -/

namespace Sys2Proof.Machine

/-- The effect of a command on everything but the queue. -/
def exec (i : Instr) (s : State) : Host.Outcome State Fault Refusal :=
  match i with
  | .tickBoundary env => Sys2Proof.Machine.execTickBoundary env s
  | .sliceBoundary env => Sys2Proof.Machine.execSliceBoundary env s
  | .admissionTimeout lane => Sys2Proof.Machine.execAdmissionTimeout lane s
  | .releaseTimeout lane => Sys2Proof.Machine.execReleaseTimeout lane s
  | .handoverConfirmationTimeout lane => Sys2Proof.Machine.execHandoverConfirmationTimeout lane s
  | .permitWaitExpire plan => Sys2Proof.Machine.execPermitWaitExpire plan s
  | .guestPlanExpire lane => Sys2Proof.Machine.execGuestPlanExpire lane s
  | .profileCutoff => Sys2Proof.Machine.execProfileCutoff s
  | .ledgerCutoff => Sys2Proof.Machine.execLedgerCutoff s
  | .planProfiled plan profile => Sys2Proof.Machine.execPlanProfiled plan profile s
  | .planChecked plan => Sys2Proof.Machine.execPlanChecked plan s
  | .mirrorDeltaStart => Sys2Proof.Machine.execMirrorDeltaStart s
  | .pairAckReceive head tick result checked => Sys2Proof.Machine.execPairAckReceive head tick result checked s
  | .routeSubmit r lane route => Sys2Proof.Machine.execRouteSubmit r lane route s
  | .hold r lane => Sys2Proof.Machine.execHold r lane s
  | .resumeRoute r lane => Sys2Proof.Machine.execResumeRoute r lane s
  | .cancelRoute r lane => Sys2Proof.Machine.execCancelRoute r lane s
  | .limitChange r lane sub value => Sys2Proof.Machine.execLimitChange r lane sub value s
  | .approveAdmission r lane => Sys2Proof.Machine.execApproveAdmission r lane s
  | .refuseAdmission r lane => Sys2Proof.Machine.execRefuseAdmission r lane s
  | .resumeStoppedLane r lane => Sys2Proof.Machine.execResumeStoppedLane r lane s
  | .release r lane => Sys2Proof.Machine.execRelease r lane s
  | .evict r lane => Sys2Proof.Machine.execEvict r lane s
  | .closureChange r area writes => Sys2Proof.Machine.execClosureChange r area writes s
  | .haltAssert r word => Sys2Proof.Machine.execHaltAssert r word s
  | .haltRestore r word => Sys2Proof.Machine.execHaltRestore r word s
  | .haltResume r word => Sys2Proof.Machine.execHaltResume r word s
  | .haltRepetition haltId index => Sys2Proof.Machine.execHaltRepetition haltId index s
  | .contactTestPulse channel low => Sys2Proof.Machine.execContactTestPulse channel low s
  | .siteHaltSample low stamp => Sys2Proof.Machine.execSiteHaltSample low stamp s
  | .siteLineReadback high => Sys2Proof.Machine.execSiteLineReadback high s
  | .siteLineStuck => Sys2Proof.Machine.execSiteLineStuck s
  | .siteLine address driving => Sys2Proof.Machine.execSiteLine address driving s
  | .siteLinePeriodic => Sys2Proof.Machine.execSiteLinePeriodic s
  | .siteLineDriverTimeout address => Sys2Proof.Machine.execSiteLineDriverTimeout address s
  | .localResumePress holdMs stamp => Sys2Proof.Machine.execLocalResumePress holdMs stamp s
  | .twoPartyWindowExpire => Sys2Proof.Machine.execTwoPartyWindowExpire s
  | .lockstepMismatch => Sys2Proof.Machine.execLockstepMismatch s
  | .ccaObservationDone cw energy => Sys2Proof.Machine.execCcaObservationDone cw energy s
  | .vergeStageBeacon => Sys2Proof.Machine.execVergeStageBeacon s
  | .uplinkFrameReceive cw ppdu psdu => Sys2Proof.Machine.execUplinkFrameReceive cw ppdu psdu s
  | .downlinkRetransmit lane msn => Sys2Proof.Machine.execDownlinkRetransmit lane msn s
  | .ownPairBeaconReceive beacon stamp => Sys2Proof.Machine.execOwnPairBeaconReceive beacon stamp s
  | .checkpointSolveStart dsp stamp => Sys2Proof.Machine.execCheckpointSolveStart dsp stamp s
  | .checkpointSolveDone dsp out stamp => Sys2Proof.Machine.execCheckpointSolveDone dsp out stamp s
  | .checkpointSolveLate dsp => Sys2Proof.Machine.execCheckpointSolveLate dsp s
  | .verdictStaleTimeout lane => Sys2Proof.Machine.execVerdictStaleTimeout lane s
  | .trackerIntegrationBoundary channel l5 taps sides => Sys2Proof.Machine.execTrackerIntegrationBoundary channel l5 taps sides s
  | .trackerLoopUpdate channel l5 out => Sys2Proof.Machine.execTrackerLoopUpdate channel l5 out s
  | .reacquisitionGiveUp channel l5 => Sys2Proof.Machine.execReacquisitionGiveUp channel l5 s
  | .l5HandoverTimeout channel => Sys2Proof.Machine.execL5HandoverTimeout channel s
  | .acquisitionSearchStart => Sys2Proof.Machine.execAcquisitionSearchStart s
  | .acquisitionSearchDone result => Sys2Proof.Machine.execAcquisitionSearchDone result s
  | .observablesReady out => Sys2Proof.Machine.execObservablesReady out s
  | .observablesLate => Sys2Proof.Machine.execObservablesLate s
  | .surveyCommandStart r => Sys2Proof.Machine.execSurveyCommandStart r s
  | .surveyCommandAbort r => Sys2Proof.Machine.execSurveyCommandAbort r s
  | .ptpMessageReceive port msg => Sys2Proof.Machine.execPtpMessageReceive port msg s
  | .returnToTb1 r value => Sys2Proof.Machine.execReturnToTb1 r value s
  | .ppsOutEdge instant => Sys2Proof.Machine.execPpsOutEdge instant s
  | .ppsInEdge instant => Sys2Proof.Machine.execPpsInEdge instant s
  | .ppsOutEnable r value => Sys2Proof.Machine.execPpsOutEnable r value s
  | .ref10mLost cause => Sys2Proof.Machine.execRef10mLost cause s
  | .ref10mLocked => Sys2Proof.Machine.execRef10mLocked s
  | .heartbeat head role build stamps resync => Sys2Proof.Machine.execHeartbeat head role build stamps resync s
  | .pairPulseEdge pulse stamp => Sys2Proof.Machine.execPairPulseEdge pulse stamp s
  | .takeover => Sys2Proof.Machine.execTakeover s
  | .pairStartupTimeout => Sys2Proof.Machine.execPairStartupTimeout s
  | .linkStart => Sys2Proof.Machine.execLinkStart s
  | .start nonce address serial low high => Sys2Proof.Machine.execStart nonce address serial low high s
  | .input head source stamp item => Sys2Proof.Machine.execInput head source stamp item s
  | .delta head part facts commits => Sys2Proof.Machine.execDelta head part facts commits s
  | .halt head site cell lanes haltId ids sources decisions => Sys2Proof.Machine.execHalt head site cell lanes haltId ids sources decisions s
  | .transfer head facts generation last => Sys2Proof.Machine.execTransfer head facts generation last s
  | .planned head boundary => Sys2Proof.Machine.execPlanned head boundary s
  | .plannedHandover r value => Sys2Proof.Machine.execPlannedHandover r value s
  | .region pair vertices horizon numbering => Sys2Proof.Machine.execRegion pair vertices horizon numbering s
  | .permitRequest head asker border handover commit run stamp => Sys2Proof.Machine.execPermitRequest head asker border handover commit run stamp s
  | .grant pair plan lane keySet stamp => Sys2Proof.Machine.execGrant pair plan lane keySet stamp s
  | .refusal head record stamp => Sys2Proof.Machine.execRefusal head record stamp s
  | .commitNotice pair plan start legs stretches stamp => Sys2Proof.Machine.execCommitNotice pair plan start legs stretches stamp s
  | .withdrawal head stamp => Sys2Proof.Machine.execWithdrawal head stamp s
  | .handover pair msg stamp => Sys2Proof.Machine.execHandover pair msg stamp s
  | .confirm head lane stamp => Sys2Proof.Machine.execConfirm head lane stamp s
  | .released pair plan => Sys2Proof.Machine.execReleased pair plan s
  | .addressClaimStart => Sys2Proof.Machine.execAddressClaimStart s
  | .query serial => Sys2Proof.Machine.execQuery serial s
  | .announce address stored claiming role serial site => Sys2Proof.Machine.execAnnounce address stored claiming role serial site s
  | .addressClaimTimeout => Sys2Proof.Machine.execAddressClaimTimeout s
  | .addressClaimConfirm => Sys2Proof.Machine.execAddressClaimConfirm s
  | .addressClaimRetry => Sys2Proof.Machine.execAddressClaimRetry s
  | .addressCommand r value => Sys2Proof.Machine.execAddressCommand r value s
  | .pendingKeyWrite r generation reserved wrapped check => Sys2Proof.Machine.execPendingKeyWrite r generation reserved wrapped check s
  | .keyVerify r => Sys2Proof.Machine.execKeyVerify r s
  | .keyAnnounce r => Sys2Proof.Machine.execKeyAnnounce r s
  | .keyDiscard r => Sys2Proof.Machine.execKeyDiscard r s
  | .rolloverWindowEnd => Sys2Proof.Machine.execRolloverWindowEnd s
  | .debugCertificateOpen r version serial count sigOk => Sys2Proof.Machine.execDebugCertificateOpen r version serial count sigOk s
  | .debugCertificateClose r version serial count sigOk => Sys2Proof.Machine.execDebugCertificateClose r version serial count sigOk s
  | .tamperDetected => Sys2Proof.Machine.execTamperDetected s
  | .vbatLost => Sys2Proof.Machine.execVbatLost s
  | .vbatRestored unobserved => Sys2Proof.Machine.execVbatRestored unobserved s
  | .imageChunk r rec => Sys2Proof.Machine.execImageChunk r rec s
  | .downloadVerified stamp => Sys2Proof.Machine.execDownloadVerified stamp s
  | .downloadExpire => Sys2Proof.Machine.execDownloadExpire s
  | .activate r => Sys2Proof.Machine.execActivate r s
  | .confirmTrial r => Sys2Proof.Machine.execConfirmTrial r s
  | .discardDownload r => Sys2Proof.Machine.execDiscardDownload r s
  | .trialLimitExpire => Sys2Proof.Machine.execTrialLimitExpire s
  | .startTimerExpire => Sys2Proof.Machine.execStartTimerExpire s
  | .watchdogReset => Sys2Proof.Machine.execWatchdogReset s
  | .romBoot verified migrates => Sys2Proof.Machine.execRomBoot verified migrates s
  | .resetRelease recoverHigh refSel svcAlt => Sys2Proof.Machine.execResetRelease recoverHigh refSel svcAlt s
  | .rstNAssert lowUs => Sys2Proof.Machine.execRstNAssert lowUs s
  | .resetCommand r value => Sys2Proof.Machine.execResetCommand r value s
  | .identify f => Sys2Proof.Machine.execIdentify f s
  | .imageBegin f length => Sys2Proof.Machine.execImageBegin f length s
  | .imageBlock seq crc offset data => Sys2Proof.Machine.execImageBlock seq crc offset data s
  | .imageEnd f flags => Sys2Proof.Machine.execImageEnd f flags s
  | .status f => Sys2Proof.Machine.execStatus f s
  | .serviceReset f word => Sys2Proof.Machine.execServiceReset f word s
  | .leaveRecovery f word => Sys2Proof.Machine.execLeaveRecovery f word s
  | .dictionaryRequest f id op flags entry data => Sys2Proof.Machine.execDictionaryRequest f id op flags entry data s
  | .serviceFrameGap => Sys2Proof.Machine.execServiceFrameGap s
  | .servicePlugChange present run => Sys2Proof.Machine.execServicePlugChange present run s
  | .tftpWriteRequest peer file => Sys2Proof.Machine.execTftpWriteRequest peer file s
  | .tftpDataBlock address port number data => Sys2Proof.Machine.execTftpDataBlock address port number data s
  | .dictionaryWrite r item => Sys2Proof.Machine.execDictionaryWrite r item s
  | .batch r items => Sys2Proof.Machine.execBatch r items s
  | .domainDownloadSegment r index sub first last offset total data => Sys2Proof.Machine.execDomainDownloadSegment r index sub first last offset total data s
  | .domainUploadSegment r index sub first => Sys2Proof.Machine.execDomainUploadSegment r index sub first s
  | .transferSegmentTimeout index sub => Sys2Proof.Machine.execTransferSegmentTimeout index sub s
  | .hello port version slot roles share => Sys2Proof.Machine.execHello port version slot roles share s
  | .clientProof session signature => Sys2Proof.Machine.execClientProof session signature s
  | .sessionEstablishTimeout session => Sys2Proof.Machine.execSessionEstablishTimeout session s
  | .sessionIdleTimeout session => Sys2Proof.Machine.execSessionIdleTimeout session s
  | .streamPull r stream room => Sys2Proof.Machine.execStreamPull r stream room s
  | .streamClaim r stream => Sys2Proof.Machine.execStreamClaim r stream s
  | .streamRelease r stream => Sys2Proof.Machine.execStreamRelease r stream s
  | .streamKey r stream => Sys2Proof.Machine.execStreamKey r stream s
  | .keepalive r => Sys2Proof.Machine.execKeepalive r s
  | .close r => Sys2Proof.Machine.execClose r s
  | .streamMulticastEnable r stream value => Sys2Proof.Machine.execStreamMulticastEnable r stream value s
  | .canReaderTimeout stream => Sys2Proof.Machine.execCanReaderTimeout stream s
  | .canHeartbeatProduce => Sys2Proof.Machine.execCanHeartbeatProduce s
  | .acknowledgeEvents r value => Sys2Proof.Machine.execAcknowledgeEvents r value s
  | .clearErrorList r value => Sys2Proof.Machine.execClearErrorList r value s
  | .snapshotNow r => Sys2Proof.Machine.execSnapshotNow r s
  | .snapshotAtNextBoundary r => Sys2Proof.Machine.execSnapshotAtNextBoundary r s
  | .snapshotAtTime r => Sys2Proof.Machine.execSnapshotAtTime r s
  | .snapshotInstant instant atStep => Sys2Proof.Machine.execSnapshotInstant instant atStep s
  | .snapshot number time sender => Sys2Proof.Machine.execSnapshot number time sender s
  | .counterConfigure r counter field value => Sys2Proof.Machine.execCounterConfigure r counter field value s
  | .taskWakeOnFlags task flags => Sys2Proof.Machine.execTaskWakeOnFlags task flags s
  | .taskDelayExpiry engine => Sys2Proof.Machine.execTaskDelayExpiry engine s
  | .taskDeadlineDrop task lateUs => Sys2Proof.Machine.execTaskDeadlineDrop task lateUs s
  | .taskYield engine kind any all => Sys2Proof.Machine.execTaskYield engine kind any all s
  | .captureUnitEnable r unit value => Sys2Proof.Machine.execCaptureUnitEnable r unit value s
  | .forceTrigger r mask => Sys2Proof.Machine.execForceTrigger r mask s
  | .autoTriggerTimeout unit => Sys2Proof.Machine.execAutoTriggerTimeout unit s
  | .captureComplete unit => Sys2Proof.Machine.execCaptureComplete unit s
  | .captureDrained unit => Sys2Proof.Machine.execCaptureDrained unit s
  | .triggerOutputEnable r value => Sys2Proof.Machine.execTriggerOutputEnable r value s
  | .lampReturn start count shares statuses => Sys2Proof.Machine.execLampReturn start count shares statuses s
  | .channelHealthTimeout channel => Sys2Proof.Machine.execChannelHealthTimeout channel s
  | .touchScan levels => Sys2Proof.Machine.execTouchScan levels s
  | .lampTestEnd => Sys2Proof.Machine.execLampTestEnd s
  | .keysWetEnd => Sys2Proof.Machine.execKeysWetEnd s
  | .keyStuck key => Sys2Proof.Machine.execKeyStuck key s
  | .wakeRisingEdge => Sys2Proof.Machine.execWakeRisingEdge s
  | .feedQualifyRunEnd feed stayed lowest => Sys2Proof.Machine.execFeedQualifyRunEnd feed stayed lowest s
  | .feedTest r value => Sys2Proof.Machine.execFeedTest r value s
  | .feedTestDue => Sys2Proof.Machine.execFeedTestDue s
  | .feedTestRunEnd feed stayed lowest => Sys2Proof.Machine.execFeedTestRunEnd feed stayed lowest s
  | .feedComparatorRelease feed => Sys2Proof.Machine.execFeedComparatorRelease feed s
  | .powerCommandRun r => Sys2Proof.Machine.execPowerCommandRun r s
  | .powerCommandQuiet r => Sys2Proof.Machine.execPowerCommandQuiet r s
  | .powerCommandStandby r => Sys2Proof.Machine.execPowerCommandStandby r s
  | .standbyContactStrobe open1 open2 => Sys2Proof.Machine.execStandbyContactStrobe open1 open2 s
  | .standbyWake source => Sys2Proof.Machine.execStandbyWake source s
  | .powerOn => Sys2Proof.Machine.execPowerOn s
  | .vbatLow mv elapsedMs => Sys2Proof.Machine.execVbatLow mv elapsedMs s
  | .temperatureHigh die temp => Sys2Proof.Machine.execTemperatureHigh die temp s
  | .railOutOfTolerance rail => Sys2Proof.Machine.execRailOutOfTolerance rail s
  | .vergeTransmissionEnd durationUs => Sys2Proof.Machine.execVergeTransmissionEnd durationUs s
  | .ptpMessageInterval port kind => Sys2Proof.Machine.execPtpMessageInterval port kind s
  | .announceReceiptTimeout port => Sys2Proof.Machine.execAnnounceReceiptTimeout port s
  | .nmtCommand code => Sys2Proof.Machine.execNmtCommand code s
  | .debugTapInstruction instr => Sys2Proof.Machine.execDebugTapInstruction instr s

end Sys2Proof.Machine
end

