-- ==== Sys2Proof/Safety.lean ====
section
/-! DEFINITION. What a run of the block keeps, in the terms the statements use: the parts of the state, what a command may
change, how a request is taken and answered, the legal power states. -/

namespace Sys2Proof.Machine

/-- The parts of the state: its units; of the power unit how the part is supplied (`supply`, R577, R591)
and how far it is in service (`readiness`, R588, R595); of clock and time
what numbers the ticks (`schedule`, R24, R356); of the halt chain that it has fallen silent (`silence`, R237); of the keys the key
material and the security state (`custody`, R453); the form of the tables of lanes, routes and air records (`tables`); what the read-only entries show; and the queue. -/
inductive Part where
  | clock | time | gnss | update | reference | settings | access | lanes | routes | guests | ledger | halt | air | airLanes | pair | due | cells | checkpoint | chain | keys | disp | counters | trip | panel | lamps | power | tap
  | supply | readiness | schedule | silence | custody | tables | shown | pending
  deriving DecidableEq, Repr

/-- Every part but the queue. -/
def Part.others : List Part :=
  [.clock, .time, .gnss, .update, .reference, .settings, .access, .lanes, .routes, .guests, .ledger, .halt, .air,
   .airLanes, .pair, .due, .cells, .checkpoint, .chain, .keys, .disp, .counters, .trip, .panel, .lamps, .power, .tap,
   .supply, .readiness, .schedule, .silence, .custody, .shown]

/-- The part is supplied alike: phase, PWR_EN, Standby flag. -/
def Power.sameSupply (a b : Power) : Prop := b.phase = a.phase ∧ b.pwrEn = a.pwrEn ∧ b.standbyFlag = a.standbyFlag

/-- The unit is as far in service: device state, beacons sent. -/
def Power.sameReadiness (a b : Power) : Prop := b.deviceState = a.deviceState ∧ b.beacons = a.beacons

/-- Ticks are numbered alike: tick, time at its boundary, provisional, step declared, step to declare again. -/
def State.sameSchedule (s t : State) : Prop :=
  t.clock.tick = s.clock.tick ∧ t.clock.source = s.clock.source ∧ t.clock.provisional = s.clock.provisional ∧
    t.time.step = s.time.step ∧ t.time.again = s.time.again

/-- The same key material is held in the same security state. -/
def Keys.sameCustody (a b : Keys) : Prop :=
  b.security = a.security ∧ b.generation = a.generation ∧ b.current = a.current ∧ b.pendingKey = a.pendingKey ∧
    b.storeCurrent = a.storeCurrent ∧ b.storePending = a.storePending

/-- The tables of lanes, of routes and of air records are in canonical form, so that equal contents are equal data. -/
def State.tablesWf (s : State) : Prop :=
  tableWf (fun _ => ({} : Lane)) s.lanes = true ∧ tableWf (fun _ => ({} : Route)) s.routes = true ∧
    tableWf (fun _ => ({} : AirLane)) s.airLanes = true

/-- Part `p` is the same in two states; the silence of the halt chain may begin, and does not end;
the form of the tables may be gained, and is not lost. -/
def Part.same (p : Part) (s t : State) : Prop :=
  match p with
  | .clock => t.clock = s.clock
  | .time => t.time = s.time
  | .gnss => t.gnss = s.gnss
  | .update => t.update = s.update
  | .reference => t.reference = s.reference
  | .settings => t.settings = s.settings
  | .access => t.access = s.access
  | .lanes => t.lanes = s.lanes
  | .routes => t.routes = s.routes
  | .guests => t.guests = s.guests
  | .ledger => t.ledger = s.ledger
  | .halt => t.halt = s.halt
  | .air => t.air = s.air
  | .airLanes => t.airLanes = s.airLanes
  | .pair => t.pair = s.pair
  | .due => t.due = s.due
  | .cells => t.cells = s.cells
  | .checkpoint => t.checkpoint = s.checkpoint
  | .chain => t.chain = s.chain
  | .keys => t.keys = s.keys
  | .disp => t.disp = s.disp
  | .counters => t.counters = s.counters
  | .trip => t.trip = s.trip
  | .panel => t.panel = s.panel
  | .lamps => t.lamps = s.lamps
  | .power => t.power = s.power
  | .tap => t.tap = s.tap
  | .supply => Power.sameSupply s.power t.power
  | .readiness => Power.sameReadiness s.power t.power
  | .schedule => s.sameSchedule t
  | .silence => s.halt.silent = true → t.halt.silent = true
  | .custody => Keys.sameCustody s.keys t.keys
  | .tables => s.tablesWf → t.tablesWf
  | .shown => t.shown = s.shown
  | .pending => t.pending = s.pending

/-- The state `t` differs from `s` in the parts listed, in what went out and in the free values drawn, and in nothing else. -/
def Within (l : List Part) (s t : State) : Prop := ∀ p, l.contains p = false → p.same s t

/-- An outcome that is a next state differs from `s` in the parts listed only. -/
def Within.post (l : List Part) (s : State) : Host.Outcome State Fault Refusal → Prop
  | .next t => Within l s t
  | .fault _ => True
  | .refused _ => True

/-- What becomes of a request leaves a state that differs from `s` in the parts listed only. -/
def Admission.within (l : List Part) (s : State) : Admission → Prop
  | .closed t => Within l s t
  | .go t => Within l s t

/-- A request reaches its body: the image runs, and its transport admits it. Over VAP its session stands, its tag holds, its sequence
passes the replay window, its ID is not among the answers kept nor older than all of 16, and fewer than 16 are pending (R380, R384);
over CAN the unit has its node-ID, the client is one of 33 to 127, and NMT allows it (R377); on the service port a plug is in (R498). -/
def State.takes (s : State) (r : Req) : Prop :=
  s.power.phase = .running ∧
    match r.origin with
    | .vap k => ∃ e, tfind s.access.sessions k = some e ∧ r.tagOk = true ∧ e.window.judge r.sequence = .accept ∧
        (∀ a ∈ e.answers, a.1 ≠ r.id) ∧ ¬ (e.answers.length = 16 ∧ ∀ a ∈ e.answers, r.id < a.1) ∧
        (e.answers.filter (fun a => a.2 = .pending)).length < 16
    | .can n => s.chain.address ≠ 0 ∧ 33 ≤ n ∧ n ≤ 127 ∧ (s.access.nmt = .preOperational ∨ s.access.nmt = .operational)
    | .service => s.panel.plug = true

/-- The answer to a request is on its way. -/
def State.says (t : State) (r : Req) (a : Answer) : Prop := Output.response r.origin r.id a ∈ t.out

/-- The state in which the request `seq` of the service port is handled (R499); `id` is that of the dictionary request it carries. -/
def State.asked (s : State) (seq : Nat) (id : Option Nat := none) : State :=
  { s.begin with update := { s.update with lastSeq := some seq, lastReply := none, lastId := id, lastAnswer := none } }

/-- The CRC of a service frame holds (R498). -/
def frameHolds (f : ServiceHead) (command : Nat) (payload : Bytes) : Prop := f.crc.toNat = serviceCrc command f.seq payload

/-- A write of a host is taken, and the checks on its entry pass: existence, access, length, complement, role, activation,
standby, range (R366 to R369, R373, R430, R484). -/
def State.grants (s : State) (r : Req) (index sub : Nat) (data : Bytes) : Prop :=
  s.takes r ∧ s.commandCheck r index sub data = none

/-- The event stream holds the event with this code, class, register bit, lane and parameters, stamped with the present instant
(R395, R397). -/
def State.reported (t : State) (code cls reg lane : Nat) (params : Bytes) : Prop :=
  ∃ i ∈ (t.stream 1).items, i.typ = 1 ∧ i.body = eventBody t code cls reg lane params

/-- A frame of the pair link is authentic, whole, next in its sequence, and of no higher epoch, on a link that is up (R421, R425). -/
def State.hears (s : State) (h : LinkHead) : Prop :=
  s.pair.linkUp = true ∧ s.halt.silent = false ∧ h.tagOk = true ∧ h.compOk = true ∧ h.seq = s.pair.receiveSeq ∧
    epochAbove h.epoch s.pair.epoch = false

/-- From `s` to `t` a plan of a lane was accepted into the window of tick `w`: it takes the next plan ID and stands last; plans of the
lane that it supersedes have the result 3 (R28, R160, R162, R183). -/
def State.acceptedPlan (s t : State) (lane : Nat) (what : PlanWhat) (req : Option Req) (w : U32) : Prop :=
  t.ledger.plans = s.ledger.plans.map (fun q =>
      if q.supersededBy lane w then { q with result := some 3, awaiting := false, req := none } else q) ++
    [{ id := s.ledger.nextPlan, lane := lane, what := what, req := req, submit := w, epoch := (s.lane lane).epoch, first := w + 3 }] ∧
  t.ledger.nextPlan = s.ledger.nextPlan + 1 ∧ (t.route lane).lastAccepted = s.ledger.nextPlan

/-- From `s` to `t` lane `n` became VACANT: its epoch stays, its route record and its checkpoint requests are gone, other lanes and routes are as
they were (R16, R20, R135). -/
def State.closes (s t : State) (n : Nat) : Prop :=
  t.laneIs n .vacant = true ∧ (t.lane n).epoch = (s.lane n).epoch ∧ (t.lane n).lastTransition = s.clock.tick ∧
    t.route n = { refused := (s.route n).refused, lastAccepted := (s.route n).lastAccepted } ∧
    (∀ x ∈ t.checkpoint.queue, x.lane ≠ n) ∧ ∀ m, m ≠ n → t.lane m = s.lane m ∧ t.route m = s.route m

/-- The parts that reporting an event changes: streams, conditions and error list, counters, capture units, sounder. -/
def Part.reports : List Part := [.access, .counters, .trip, .panel]

/-- The parts that each command may change. -/
def touches (c : Instr) : List Part :=
  match c with
  | .tickBoundary _ => Part.others
  | .sliceBoundary _ => Part.reports ++ [.disp, .clock, .halt, .air, .lanes, .pair, .gnss, .power, .lamps, .keys, .checkpoint,
      .ledger]
  | .admissionTimeout _ => [.due]
  | .releaseTimeout _ => [.due]
  | .handoverConfirmationTimeout _ => [.due]
  | .permitWaitExpire _ => [.clock, .ledger, .cells]
  | .guestPlanExpire _ => [.clock, .guests]
  | .profileCutoff => [.clock, .ledger]
  | .ledgerCutoff => Part.reports ++ [.clock, .ledger, .keys, .pair, .time, .schedule]
  | .planProfiled _ _ => [.ledger, .counters, .routes]
  | .planChecked _ => Part.reports ++ [.ledger]
  | .mirrorDeltaStart => [.clock, .pair, .lanes, .due, .checkpoint, .keys]
  | .pairAckReceive _ _ _ _ => Part.reports ++ [.pair, .air, .clock]
  | .routeSubmit _ _ _ => Part.reports ++ [.clock, .update, .lanes, .cells, .ledger, .pair, .routes]
  | .hold _ _ => Part.reports ++ [.clock, .update, .lanes, .cells, .ledger, .pair, .routes, .due]
  | .resumeRoute _ _ => Part.reports ++ [.clock, .update, .lanes, .cells, .ledger, .pair, .routes, .due]
  | .cancelRoute _ _ => Part.reports ++ [.clock, .update, .lanes, .cells, .ledger, .pair, .routes, .due]
  | .limitChange _ _ _ _ => Part.reports ++ [.clock, .update, .lanes, .settings, .cells, .ledger, .pair, .routes]
  | .approveAdmission _ _ => Part.reports ++ [.clock, .update, .lanes, .due]
  | .refuseAdmission _ _ => Part.reports ++ [.clock, .update, .lanes, .due]
  | .resumeStoppedLane _ _ => Part.reports ++ [.clock, .update, .lanes, .due]
  | .release _ _ => Part.reports ++ [.clock, .update, .lanes, .due]
  | .evict _ _ => Part.reports ++ [.clock, .update, .lanes, .due]
  | .closureChange _ _ _ => Part.reports ++ [.clock, .update, .settings, .pair, .cells, .ledger, .routes]
  | .haltAssert _ _ => Part.reports ++ [.clock, .update, .lanes, .halt, .air, .pair]
  | .haltRestore _ _ => Part.reports ++ [.clock, .update, .lanes, .halt, .air, .pair]
  | .haltResume _ _ => Part.reports ++ [.clock, .update, .halt]
  | .haltRepetition _ _ => [.clock, .halt, .air, .counters]
  | .contactTestPulse _ _ => Part.reports ++ [.halt, .air, .lanes, .pair]
  | .siteHaltSample _ _ => Part.reports ++ [.clock, .halt, .air, .lanes, .pair]
  | .siteLineReadback _ => Part.reports ++ [.halt]
  | .siteLineStuck => Part.reports ++ [.halt]
  | .siteLine _ _ => [.halt]
  | .siteLinePeriodic => []
  | .siteLineDriverTimeout _ => [.halt]
  | .localResumePress _ _ => Part.reports ++ [.clock, .halt]
  | .twoPartyWindowExpire => Part.reports ++ [.halt, .lanes]
  | .lockstepMismatch => Part.reports ++ [.halt, .air]
  | .ccaObservationDone _ _ => Part.reports ++ [.clock, .airLanes, .air, .reference]
  | .vergeStageBeacon => [.air, .clock, .counters]
  | .uplinkFrameReceive _ _ _ => Part.reports ++ [.clock, .air, .airLanes, .pair, .due, .lanes, .ledger, .checkpoint, .routes]
  | .downlinkRetransmit _ _ => Part.reports ++ [.airLanes]
  | .ownPairBeaconReceive _ _ => Part.reports ++ [.clock, .air, .pair]
  | .checkpointSolveStart _ _ => [.clock, .checkpoint]
  | .checkpointSolveDone _ _ _ => [.clock, .checkpoint, .counters]
  | .checkpointSolveLate _ => [.checkpoint]
  | .verdictStaleTimeout _ => Part.reports ++ [.checkpoint]
  | .trackerIntegrationBoundary _ _ _ _ => [.gnss]
  | .trackerLoopUpdate _ _ _ => [.gnss, .time]
  | .reacquisitionGiveUp _ _ => [.gnss]
  | .l5HandoverTimeout _ => Part.reports ++ [.gnss]
  | .acquisitionSearchStart => [.gnss, .counters]
  | .acquisitionSearchDone _ => [.gnss]
  | .observablesReady _ => Part.reports ++ [.gnss, .reference, .time, .checkpoint]
  | .observablesLate => [.gnss]
  | .surveyCommandStart _ => Part.reports ++ [.clock, .update, .reference]
  | .surveyCommandAbort _ => Part.reports ++ [.clock, .update, .reference]
  | .ptpMessageReceive _ _ => [.time]
  | .returnToTb1 _ _ => Part.reports ++ [.clock, .update, .time]
  | .ppsOutEdge _ => [.time]
  | .ppsInEdge _ => [.time]
  | .ppsOutEnable _ _ => Part.reports ++ [.clock, .update, .settings, .gnss, .pair]
  | .ref10mLost _ => Part.reports ++ [.power]
  | .ref10mLocked => Part.reports ++ [.power]
  | .heartbeat _ _ _ _ _ => Part.reports ++ [.pair, .air, .clock, .routes, .guests, .ledger, .halt, .keys, .schedule, .time]
  | .pairPulseEdge _ _ => [.clock, .pair]
  | .takeover => Part.reports ++ [.pair, .checkpoint, .ledger, .due, .lanes, .settings, .gnss, .update, .air, .airLanes, .halt]
  | .pairStartupTimeout => Part.reports ++ [.pair, .checkpoint, .ledger, .due, .lanes, .settings, .gnss, .update, .air,
      .airLanes, .halt]
  | .linkStart => [.pair]
  | .start _ _ _ _ _ => Part.reports ++ [.pair, .keys]
  | .input _ _ _ _ => Part.reports ++ [.pair, .air, .clock, .ledger, .lanes, .cells, .update, .routes, .settings, .power,
      .gnss, .guests]
  | .delta _ _ _ _ => Part.reports ++ [.pair, .air, .clock]
  | .halt _ _ _ _ _ _ _ _ => Part.reports ++ [.pair, .air, .clock, .halt, .lanes]
  | .transfer _ _ _ _ => Part.reports ++ [.pair, .air, .clock, .due, .lanes, .checkpoint, .routes, .halt, .settings, .gnss,
      .airLanes, .keys, .custody, .guests, .update]
  | .planned _ _ => Part.reports ++ [.pair, .air, .clock]
  | .plannedHandover _ _ => Part.reports ++ [.clock, .update, .pair]
  | .region _ _ _ _ => Part.reports ++ [.pair, .ledger]
  | .permitRequest _ _ _ _ _ _ _ => [.counters, .clock, .keys, .pair, .ledger]
  | .grant _ _ _ _ _ => [.counters, .clock, .pair, .ledger]
  | .refusal _ _ _ => [.counters, .clock, .due, .pair, .ledger]
  | .commitNotice _ _ _ _ _ _ => [.counters, .clock, .pair, .guests]
  | .withdrawal _ _ => Part.reports ++ [.clock, .pair, .guests, .ledger]
  | .handover _ _ _ => [.counters, .clock, .keys, .pair, .cells, .lanes, .guests, .routes]
  | .confirm _ _ _ => Part.reports ++ [.clock, .due, .keys]
  | .released _ _ => [.counters, .cells]
  | .addressClaimStart => Part.reports ++ [.chain]
  | .query _ => Part.reports ++ [.chain]
  | .announce _ _ _ _ _ _ => Part.reports ++ [.chain]
  | .addressClaimTimeout => Part.reports ++ [.chain]
  | .addressClaimConfirm => [.chain, .access]
  | .addressClaimRetry => [.chain]
  | .addressCommand _ _ => Part.reports ++ [.clock, .update, .chain]
  | .pendingKeyWrite _ _ _ _ _ => Part.reports ++ [.clock, .update, .keys, .custody]
  | .keyVerify _ => Part.reports ++ [.clock, .update, .keys, .custody]
  | .keyAnnounce _ => Part.reports ++ [.clock, .update, .keys, .custody]
  | .keyDiscard _ => Part.reports ++ [.clock, .update, .keys, .custody]
  | .rolloverWindowEnd => Part.reports ++ [.keys, .custody, .air, .airLanes]
  | .debugCertificateOpen _ _ _ _ _ => Part.reports ++ [.clock, .update, .keys, .custody, .power]
  | .debugCertificateClose _ _ _ _ _ => Part.reports ++ [.clock, .update, .keys, .custody, .power]
  | .tamperDetected => Part.reports ++ [.keys, .custody, .power]
  | .vbatLost => Part.reports ++ [.power, .supply]
  | .vbatRestored _ => Part.reports ++ [.power]
  | .imageChunk _ _ => Part.reports ++ [.clock, .update]
  | .downloadVerified _ => Part.others
  | .downloadExpire => Part.reports ++ [.update]
  | .activate _ => Part.reports ++ [.clock, .update]
  | .confirmTrial _ => Part.reports ++ [.clock, .update]
  | .discardDownload _ => Part.reports ++ [.clock, .update]
  | .trialLimitExpire => Part.others
  | .startTimerExpire => Part.others
  | .watchdogReset => Part.others
  | .romBoot _ _ => Part.others
  | .resetRelease _ _ _ => [.power, .supply]
  | .rstNAssert _ => Part.others
  | .resetCommand _ _ => Part.reports ++ [.clock, .update, .power]
  | .identify _ => [.update]
  | .imageBegin _ _ => [.update]
  | .imageBlock _ _ _ _ => Part.reports ++ [.update]
  | .imageEnd _ _ => Part.reports ++ [.update]
  | .status _ => [.update]
  | .serviceReset _ _ => Part.others
  | .leaveRecovery _ _ => Part.others
  | .dictionaryRequest _ _ _ _ _ _ => Part.reports ++ [.update, .clock, .power, .time, .lanes, .halt, .air, .pair,
      .reference, .chain, .keys, .custody, .due, .cells, .ledger, .routes, .settings, .gnss]
  | .serviceFrameGap => []
  | .servicePlugChange _ _ => Part.reports ++ [.update]
  | .tftpWriteRequest _ _ => [.update]
  | .tftpDataBlock _ _ _ _ => Part.others
  | .dictionaryWrite _ _ => Part.reports ++ [.clock, .update, .power, .time, .lanes, .halt, .air, .pair, .reference, .chain,
      .keys, .custody, .due, .cells, .ledger, .routes, .settings, .gnss]
  | .batch _ _ => Part.reports ++ [.clock, .update, .settings, .gnss, .pair, .cells, .ledger, .routes]
  | .domainDownloadSegment _ _ _ _ _ _ _ _ => Part.reports ++ [.clock, .update, .settings, .gnss, .pair, .cells, .ledger,
      .routes, .keys, .custody, .power, .lanes]
  | .domainUploadSegment _ _ _ _ => Part.reports ++ [.clock, .update]
  | .transferSegmentTimeout _ _ => [.access]
  | .hello _ _ _ _ _ => [.access]
  | .clientProof _ _ => [.access, .keys]
  | .sessionEstablishTimeout _ => [.access]
  | .sessionIdleTimeout _ => [.access]
  | .streamPull _ _ _ => Part.reports ++ [.clock, .update]
  | .streamClaim _ _ => Part.reports ++ [.clock, .update]
  | .streamRelease _ _ => [.access, .clock, .update]
  | .streamKey _ _ => [.access, .clock, .update]
  | .keepalive _ => [.access, .clock, .update]
  | .close _ => [.access, .clock, .update]
  | .streamMulticastEnable _ _ _ => Part.reports ++ [.clock, .update, .power, .time, .lanes, .halt, .air, .pair, .reference,
      .chain, .keys, .custody, .due, .cells, .ledger, .routes, .settings, .gnss]
  | .canReaderTimeout _ => [.access]
  | .canHeartbeatProduce => []
  | .acknowledgeEvents _ _ => Part.reports ++ [.clock, .update, .power, .time, .lanes, .halt, .air, .pair, .reference, .chain,
      .keys, .custody, .due, .cells, .ledger, .routes, .settings, .gnss]
  | .clearErrorList _ _ => Part.reports ++ [.clock, .update, .power, .time, .lanes, .halt, .air, .pair, .reference, .chain,
      .keys, .custody, .due, .cells, .ledger, .routes, .settings, .gnss]
  | .snapshotNow _ => Part.reports ++ [.clock, .update]
  | .snapshotAtNextBoundary _ => Part.reports ++ [.clock, .update]
  | .snapshotAtTime _ => Part.reports ++ [.clock, .update]
  | .snapshotInstant _ _ => Part.reports
  | .snapshot _ _ _ => Part.reports
  | .counterConfigure _ _ _ _ => Part.reports ++ [.clock, .update, .power, .time, .lanes, .halt, .air, .pair, .reference,
      .chain, .keys, .custody, .due, .cells, .ledger, .routes, .settings, .gnss]
  | .taskWakeOnFlags _ _ => Part.reports ++ [.disp]
  | .taskDelayExpiry _ => [.disp, .counters]
  | .taskDeadlineDrop _ _ => Part.reports ++ [.disp, .halt, .air]
  | .taskYield _ _ _ _ => [.disp, .counters]
  | .captureUnitEnable _ _ _ => Part.reports ++ [.clock, .update, .power, .time, .lanes, .halt, .air, .pair, .reference,
      .chain, .keys, .custody, .due, .cells, .ledger, .routes, .settings, .gnss]
  | .forceTrigger _ _ => Part.reports ++ [.clock, .update]
  | .autoTriggerTimeout _ => [.trip]
  | .captureComplete _ => Part.reports ++ [.keys]
  | .captureDrained _ => Part.reports
  | .triggerOutputEnable _ _ => Part.reports ++ [.clock, .update, .power, .time, .lanes, .halt, .air, .pair, .reference,
      .chain, .keys, .custody, .due, .cells, .ledger, .routes, .settings, .gnss]
  | .lampReturn _ _ _ _ => Part.reports ++ [.lamps]
  | .channelHealthTimeout _ => Part.reports ++ [.lamps]
  | .touchScan _ => Part.reports ++ [.lamps]
  | .lampTestEnd => [.lamps]
  | .keysWetEnd => [.panel]
  | .keyStuck _ => Part.reports
  | .wakeRisingEdge => Part.reports
  | .feedQualifyRunEnd _ _ _ => Part.reports ++ [.power]
  | .feedTest _ _ => Part.reports ++ [.clock, .update, .power]
  | .feedTestDue => [.power]
  | .feedTestRunEnd _ _ _ => Part.reports ++ [.power]
  | .feedComparatorRelease _ => Part.reports ++ [.power]
  | .powerCommandRun _ => Part.reports ++ [.clock, .update, .power, .pair]
  | .powerCommandQuiet _ => Part.reports ++ [.clock, .update, .power, .pair]
  | .powerCommandStandby _ => Part.reports ++ [.clock, .update, .power, .pair]
  | .standbyContactStrobe _ _ => [.panel, .clock, .time, .update, .power, .supply, .schedule]
  | .standbyWake _ => [.panel, .clock, .time, .update, .power, .supply, .schedule]
  | .powerOn => [.update, .power, .supply]
  | .vbatLow _ _ => Part.reports ++ [.power]
  | .temperatureHigh _ _ => Part.reports ++ [.power]
  | .railOutOfTolerance _ => Part.others
  | .vergeTransmissionEnd _ => Part.reports ++ [.clock, .air]
  | .ptpMessageInterval _ _ => [.time]
  | .announceReceiptTimeout _ => [.time]
  | .nmtCommand _ => [.access]
  | .debugTapInstruction _ => [.tap]

/-- The power state is one that R577, R590, R591 and R595 allow: PWR_EN is low in Standby alone and the Standby flag stands there
alone; outside a running image the device state is 0 and no beacons are sent. -/
def State.powerLegal (s : State) : Prop :=
  (s.power.pwrEn = false ↔ s.power.phase = .standby) ∧ (s.power.standbyFlag = true ↔ s.power.phase = .standby) ∧
    (s.power.phase ≠ .running → s.power.deviceState = 0 ∧ s.power.beacons = false)

end Sys2Proof.Machine
end

