-- ==== Sys2Proof/Certificates/Slice0/Obligations.lean ====
section
/-! DEFINITION. The statements for the provers, one definition each.

Every statement is about one command, or about every command, from any state that meets its hypotheses on the state and the operands.
`State.takes` and `State.grants` of Safety.lean are the conditions under which a command of a running unit meets its rules. That an event
of the outside is a command whose operands carry what it brings, and that a command whose condition does not hold changes nothing but the
outputs, are the model's form (log entries 1 to 3). A docstring that begins with "From" names the rules a statement rests on; it says of
them what its clauses say, and no more. -/

open Sys2Proof Sys2Proof.Machine

/-- One step takes the command at the front of the queue and runs it on the state with the queue's rest; on an empty queue the block idles (log
entry 2); no command reads or writes the queue, so commands take effect first in, first out. The command table gives no row any bits, so no
word spells a command and `withFetchWord` changes nothing. -/
def Obligations.StepTakesTheFront : Prop :=
  (∀ (s : State) (c : Instr) (rest : List Instr), s.pending = c :: rest → step s = exec c { s with pending := rest }) ∧
    (∀ s : State, s.pending = [] → step s = .next s) ∧
    (∀ s t : State, step s = .next t → t.pending = s.pending.tail) ∧
    (∀ (s : State) (nbits w : Nat), decodeTableWord nbits w = none ∧ s.withFetchWord nbits w = s)

/-- From R24, R26, R453, R486, R577, R590, R593, R595, in part for the values the spec gives: right after reset the ROM runs, PWR_EN is high,
the Standby flag and beacons are off, device state is 0, the tick is provisional, no key is held in the working register, no outputs are
driven, every rw entry reads its default, no session is open and the queue is empty. That every lane is VACANT at epoch 0, the trial state
and the present pair epoch are the model's choice where the spec gives no value (log entry 9). -/
def Obligations.ResetLeaves : Prop :=
  State.reset.power.phase = .rom ∧ State.reset.power.pwrEn = true ∧ State.reset.power.standbyFlag = false ∧
    State.reset.power.deviceState = 0 ∧ State.reset.power.beacons = false ∧ State.reset.clock.provisional = true ∧
    State.reset.keys.current = [] ∧ State.reset.keys.pendingKey = [] ∧ State.reset.keys.security = 0 ∧ State.reset.out = [] ∧
    State.reset.pending = [] ∧ State.reset.access.sessions = [] ∧ State.reset.powerLegal ∧ State.reset.tablesWf ∧
    (∀ n, State.reset.laneIs n .vacant = true ∧ (State.reset.lane n).epoch = 0) ∧
    (∀ i sub, State.reset.cfg i sub = settingDefault (key i sub) ∧ State.reset.cfgAccepted i sub = settingDefault (key i sub))

/-- The frame of every command: what it leaves unchanged is every part of the state that `touches` does not name for it, the queue among them;
`touches` names the parts by R-rules of the commands' own sections. -/
def Obligations.FrameOfEveryCommand : Prop :=
  ∀ (c : Instr) (s t : State), exec c s = .next t → Within (touches c) s t ∧ t.pending = s.pending

/-- An invariant of every step (R577, R590, R591, R595): PWR_EN is low in Standby alone and the Standby flag stands there alone; while no image
runs the device state is 0 and no beacons are sent. -/
def Obligations.PowerStaysLegal : Prop := ∀ s t : State, s.powerLegal → step s = .next t → t.powerLegal

/-- An invariant of every step: the tables of lanes, routes and air records stay in canonical form, entries in rising order and none equal to
what an unlisted entry reads as, so that equal contents are equal data. -/
def Obligations.TablesStayCanonical : Prop := ∀ s t : State, s.tablesWf → step s = .next t → t.tablesWf

/-- From R237, in part: a controller that has fallen silent stays silent, whatever it is commanded, until a reset of the part or the loss of its
power. (That resets other than RST_N end the silence too is the model's reading, log entry 35.) -/
def Obligations.SilenceLasts : Prop :=
  ∀ (c : Instr) (s t : State), s.halt.silent = true → exec c s = .next t →
    t.halt.silent = true ∨ t.power.phase = .inReset ∨ t.power.phase = .off ∨ t.power.phase = .standby

/-- From R369, in part: what the read-only entries show changes at a tick boundary alone, but for a reset of the part; R453: the key halves, the
security state and the generation in force change at a tick boundary, by a key or certificate command, a transfer to a standby, a tamper
detection, a dictionary request that carries such a command, the end of a roll-over window, or a start, alone. -/
def Obligations.ShownAndCustodyChange : Prop :=
  ∀ (c : Instr) (s t : State), exec c s = .next t →
    (t.shown = s.shown ∨ (∃ e, c = .tickBoundary e) ∨ t.power.phase = .inReset ∨ t.power.phase = .off) ∧
      (Keys.sameCustody s.keys t.keys ∨ (touches c).contains .custody = true)

/-- R18: lane states are stored as code and complement, and the lane state record reports them so. -/
def Obligations.LaneStateStored : Prop :=
  (∀ (s : State) (n : Nat) (k : LaneState), ((s.transition n k).lane n).state.toNat = k.code + 256 * (255 - k.code)) ∧
    (∀ k : LaneState, k.stored.toNat % 256 = k.code ∧ k.stored.toNat / 256 = 255 - k.code ∧ laneStateOf k.stored = some k) ∧
    (∀ (u : Units) (n : Nat), u.showLane n 1 = (tget (fun _ => ({} : Lane)) u.lanes n).state.toNat) ∧
    LaneState.parked.stored = 0xFD02#16

/-- R128: the consecutive-DISAGREE count of a lane after a verdict commits, and after a verdict that becomes STALE without a solve. -/
def Obligations.DisagreeCounted : Prop :=
  (∀ (s : State) (v : CkVerdict),
      ((s.commitVerdict v).ck v.request.lane).disagree =
        (if v.verdict = 1 then min 255 ((s.ck v.request.lane).disagree + 1)
          else if v.verdict = 0 then 0 else (s.ck v.request.lane).disagree)) ∧
    (∀ (s : State) (n reason : Nat), ((s.stale n reason).ck n).disagree = (s.ck n).disagree) ∧
    (∀ (u : Units) (n : Nat), u.showCheckpoint n 8 = ((tget (fun _ => ({} : CkLane)) u.checkpoint.lanes n).disagree : Int))

/-- R505 with R486: leaving recovery, a RECOVER_N that is still low, power removed in recovery, and the start that follows. -/
def Obligations.RecoveryLeft : Prop :=
  (∀ (s : State) (f : ServiceHead), s.power.phase = .recovery → s.panel.plug = true → s.update.lastSeq ≠ some f.seq →
      frameHolds f 0x21 (le 2 0xA55A) →
      ∃ t, exec (.leaveRecovery f 0xA55A) s = .next t ∧ t.update.failedBoots = 0 ∧ t.power.phase = .inReset ∧ t.power.cause = 4) ∧
    (∀ (s : State) (ref alt verified migrates : Bool), s.power.phase = .inReset →
      ∃ t, exec (.resetRelease false ref alt) s = .next t ∧
        ∃ u, exec (.romBoot verified migrates) t = .next u ∧ u.power.phase = .recovery) ∧
    (∀ (s : State) (rail : Nat), s.power.phase = .recovery → rail < 7 →
      ∃ t, exec (.railOutOfTolerance rail) s = .next t ∧ t.power.phase = .off ∧ t.update.running = s.update.running ∧
        t.update.trial = s.update.trial ∧ t.update.trialSeconds = s.update.trialSeconds ∧
        t.update.failedBoots = s.update.failedBoots ∧ t.update.download = s.update.download ∧ t.update.manifest = s.update.manifest ∧
        t.update.bits = s.update.bits ∧ t.update.age = s.update.age ∧ t.update.x = s.update.x ∧ t.update.y = s.update.y ∧
        t.update.ipv4 = s.update.ipv4) ∧
    (∀ (s : State) (ref alt verified migrates : Bool), s.power.phase = .inReset →
      ∃ t, exec (.resetRelease true ref alt) s = .next t ∧ ∃ u, exec (.romBoot verified migrates) t = .next u ∧
        (3 ≤ s.update.failedBoots → u.power.phase = .recovery) ∧
        (s.update.failedBoots < 3 → verified = false → u.power.phase = .inReset ∧ u.update.failedBoots = s.update.failedBoots + 1) ∧
        (s.update.failedBoots < 3 → verified = true → s.foreignArea = false → u.power.phase = .running))

/-- From R24, R27, R273, R277, R369, R407, R482, R484, R585, R590, in part: a tick boundary opens the next tick 20 ms on and, in service, leaves
what the read-only entries show at its own values; while no image runs TB3, downloads and the keeper domain alone age; an activation or a
reset that waits resets with cause 2, and a power command 3 enters Standby. A slice boundary numbers the slice (slice 0's follows the tick
boundary, log entry 51) and, at slice 6, puts the carriageway radio on receive. Choices of the model in it: log entries 4, 51. -/
def Obligations.BoundariesRun : Prop :=
  (∀ (s : State) (e : TickEnv), s.power.phase = .rom ∨ s.power.phase = .recovery →
      ∃ t, exec (.tickBoundary e) s = .next t ∧ Within [.clock, .update, .schedule, .power] s t ∧ t.out = [] ∧
        t.clock = { s.clock with
          tick := s.clock.tick + 1, source := s.clock.source + 20000000, tb3 := s.clock.tb3 + 20000000, slice := 0, sampled := false
          offset := 0 } ∧
        t.update = { s.update with age := s.update.age + 20 } ∧
        t.power = { s.power with rtc := s.power.rtc + 20, sinceTest := s.power.sinceTest + 20 }) ∧
    (∀ (s : State) (e : TickEnv), s.power.phase = .running → s.update.activated = true →
      ∃ t, exec (.tickBoundary e) s = .next t ∧ t.power.phase = .inReset ∧ t.power.cause = 2 ∧ t.update.running = 1 - s.update.running ∧
        t.update.trial = 1 ∧ t.update.trialSeconds = 0 ∧ t.update.failedBoots = 0) ∧
    (∀ (s : State) (e : TickEnv), s.power.phase = .running → s.update.activated = false → s.power.resetDue = true →
      ∃ t, exec (.tickBoundary e) s = .next t ∧ t.power.phase = .inReset ∧ (s.keys.debugDue = none → t.power.cause = 2) ∧
        t.update.running = s.update.running ∧ t.update.trial = s.update.trial) ∧
    (∀ (s : State) (e : TickEnv), s.power.phase = .running → s.update.activated = false → s.power.resetDue = false →
      s.power.powerDue = some 3 →
      ∃ t, exec (.tickBoundary e) s = .next t ∧ t.power.phase = .standby ∧ t.power.pwrEn = false ∧ t.power.standbyFlag = true ∧
        Output.pin .pwrEn false ∈ t.out) ∧
    (∀ (s : State) (e : TickEnv), s.power.phase = .running → s.update.activated = false → s.power.resetDue = false →
      s.power.powerDue ≠ some 3 →
      ∃ t, exec (.tickBoundary e) s = .next t ∧ t.power.phase = .running ∧ t.clock.slice = 0 ∧ t.clock.sampled = false ∧
        t.clock.offset = 0 ∧ (∃ c, t.shown = { t.toUnits with counters := c }) ∧
        (s.clock.provisional = false → s.time.step = none → s.time.again = false →
          ((s.clock.source + 20000000) / 20000000 % 50).toNat ≠ 0 →
          t.clock.tick = s.clock.tick + 1 ∧ t.clock.source = s.clock.source + 20000000)) ∧
    (∀ (s : State) (e : SliceEnv), s.power.phase = .running →
      ∃ t, exec (.sliceBoundary e) s = .next t ∧
        t.clock = { s.clock with
          slice := if s.clock.sampled then s.clock.slice + 1 else s.clock.slice, sampled := true
          offset := max s.clock.offset ((if s.clock.sampled then s.clock.slice + 1 else s.clock.slice) * 1000000) } ∧
        t.power.phase = .running ∧
        (t.clock.slice = 6 → t.onAir = true → t.air.txrx = false ∧ t.air.pa = false ∧ t.air.lna0 = true ∧ t.air.lna1 = true)) ∧
    (∀ (s : State) (e : SliceEnv), s.power.phase = .recovery →
      ∃ t, exec (.sliceBoundary e) s = .next t ∧ Within [.clock, .power] s t ∧
        (t.clock.slice = if s.clock.sampled then s.clock.slice + 1 else s.clock.slice) ∧ t.clock.tick = s.clock.tick ∧
        ∀ o ∈ t.out, ∃ p b, o = .pin p b) ∧
    (∀ (s : State) (e : TickEnv) (f : SliceEnv), s.power.phase = .off ∨ s.power.phase = .inReset ∨ s.power.phase = .standby →
      (∃ t, exec (.tickBoundary e) s = .next t ∧ t = { s with out := [] }) ∧
      ∃ t, exec (.sliceBoundary f) s = .next t ∧ t = { s with out := [] })

/-- From R20, R23, R173, R175, R178, R447, in part: what the timers of lanes and plans end. An admission, a release or a handover whose time is
over falls due at the next boundary, where the lane is closed or takes its state before the handover again; a permit waited for in vain is
withdrawn; a guest whose commit notice did not come ends at the next boundary. Choices of the model in it: log entries 74, 103. -/
def Obligations.LaneTimers : Prop :=
  ∀ s : State, s.power.phase = .running → s.tablesWf →
    (∀ lane : Nat,
      (s.laneIs lane .admitting = true → s.cfgNat 0x2003 1 * 50 ≤ (s.lane lane).timer + 1 →
        ∃ t, exec (.admissionTimeout lane) s = .next t ∧ t.lanes = s.lanes ∧
          (s.isStandby = false → ∃ d ∈ t.due, d.lane = lane ∧ d.what = .timeout) ∧ (s.isStandby = true → t.due = s.due)) ∧
      (s.laneIs lane .admitting = false ∨ (s.lane lane).timer + 1 < s.cfgNat 0x2003 1 * 50 →
        exec (.admissionTimeout lane) s = .next { s with out := [] }) ∧
      (s.laneIs lane .releasing = true → s.cfgNat 0x2003 2 * 50 ≤ (s.lane lane).timer + 1 →
        ∃ t, exec (.releaseTimeout lane) s = .next t ∧ t.lanes = s.lanes ∧
          (s.isStandby = false → ∃ d ∈ t.due, d.lane = lane ∧ d.what = .timeout) ∧ (s.isStandby = true → t.due = s.due)) ∧
      (s.laneIs lane .releasing = false ∨ (s.lane lane).timer + 1 < s.cfgNat 0x2003 2 * 50 →
        exec (.releaseTimeout lane) s = .next { s with out := [] }) ∧
      (s.laneIs lane .handingOver = true → s.cfgNat 0x2602 1 ≤ (s.lane lane).timer + 1 →
        ∃ t, exec (.handoverConfirmationTimeout lane) s = .next t ∧ t.lanes = s.lanes ∧
          (s.isStandby = false → ∃ d ∈ t.due, d.lane = lane ∧ d.what = .handoverRefused) ∧ (s.isStandby = true → t.due = s.due)) ∧
      (s.laneIs lane .handingOver = false ∨ (s.lane lane).timer + 1 < s.cfgNat 0x2602 1 →
        exec (.handoverConfirmationTimeout lane) s = .next { s with out := [] })) ∧
    (∀ lane : Nat,
      (s.laneIs lane .admitting = true → s.cfgNat 0x2003 1 * 50 ≤ (s.lane lane).timer → s.closes (s.timeOut lane) lane) ∧
      (s.laneIs lane .releasing = true → s.cfgNat 0x2003 2 * 50 ≤ (s.lane lane).timer → s.closes (s.timeOut lane) lane) ∧
      (s.laneIs lane .admitting = false → s.laneIs lane .releasing = false → s.timeOut lane = s) ∧
      (s.handoverFails lane).cells.failed = s.cells.failed + 1 ∧
      ((s.handoverFails lane).lane lane).state = ((laneStateOf (s.lane lane).beforeHandover).getD .holding).stored ∧
      (s.handoverFails lane).reported 0x140B 1 7 lane (le 4 (s.route lane).planId.toNat) ∧
      ∀ m, m ≠ lane → (s.handoverFails lane).lane m = s.lane m) ∧
    (∀ (plan : U32) (p : Plan) (c : Crossing), s.planOf plan = some p → p.crossing = some c → p.awaiting = true →
      c.granted = false → p.expired = false → s.clock.tick = p.submit + 1 + BitVec.ofNat 32 s.permitWait →
      ∃ t, exec (.permitWaitExpire plan) s = .next t ∧
        t.ledger.plans = s.ledger.plans.map (fun x => if x.what.ofLane && x.id = plan then { x with expired := true } else x) ∧
        ∃ w ∈ t.cells.withdrawals, w.1 = c.pair ∧ w.2.1 = plan) ∧
    (∀ (lane : Nat) (g : Guest), tfind s.guests lane = some g →
      (g.final = false → later g.commit s.clock.tick = false →
        ∃ t, exec (.guestPlanExpire lane) s = .next t ∧ tfind t.guests lane = some { g with withdrawn := true } ∧ t.lanes = s.lanes) ∧
      (g.final = true ∨ later g.commit s.clock.tick = true → exec (.guestPlanExpire lane) s = .next { s with out := [] })) ∧
    (∀ lane : Nat, tfind (s.endGuest lane).guests lane = none ∧ ((s.endGuest lane).lane lane).reserved = false ∧
      ((s.endGuest lane).route lane).envelopes = {} ∧ (s.endGuest lane).ledger.expired = s.ledger.expired + 1 ∧
      ∀ m, m ≠ lane → (s.endGuest lane).lane m = s.lane m)

/-- From R19, R202, R203, R409, in part: a lane command that is taken waits for the next boundary, answered as pending; so does the cancellation
of a held route at a standstill. Choices of the model in it: log entry 14. -/
def Obligations.LaneCommandsWait : Prop :=
  ∀ (s : State) (r : Req) (lane : Nat), s.power.phase = .running →
    (∀ (code : Nat) (c : Instr), (code, c) ∈ [(1, Instr.approveAdmission r lane), (2, .refuseAdmission r lane),
        (3, .resumeStoppedLane r lane), (4, .release r lane), (5, .evict r lane)] →
      s.grants r (0x4000 + lane) 0x10 (le 1 code) → permitted (s.roles r.origin) (laneCommandRoles code) = true →
      (s.frozen lane = false ∨ code = 5) → (code = 1 → s.laneIs lane .halted = false) →
      ∃ t, exec c s = .next t ∧ t.says r .pending ∧ t.due = s.due ++ [{ lane := lane, what := .command code r }] ∧
        (s.frozen lane = false → t.lanes = s.lanes)) ∧
    (s.grants r (0x4200 + lane) 2 (le 1 3) → permitted (s.roles r.origin) roleL = true → s.frozen lane = false →
      s.laneIs lane .holding = true → (s.lane lane).standstill ≠ 0 →
      ∃ t, exec (.cancelRoute r lane) s = .next t ∧ t.says r .pending ∧
        t.due = s.due ++ [{ lane := lane, what := .cancel r }] ∧ t.lanes = s.lanes)

/-- From R20, R409, in part: a lane command meets its lane at the boundary: it does what the lane's state allows, and is refused where it allows
nothing. -/
def Obligations.LaneCommandsTakeEffect : Prop :=
  ∀ (s : State) (n : Nat), s.tablesWf → (s.lane n).integrityFault = false →
    (s.laneIs n .admitting = true → s.laneCommand n 1 =
        (s.onLane n (fun l => { l with progress := l.progress ||| 1 }), .done []) ∧
      (s.laneCommand n 2).2 = .done [] ∧ s.closes (s.laneCommand n 2).1 n) ∧
    (s.laneIs n .stopped = true → (s.laneCommand n 3).2 = .done [] ∧ (s.laneCommand n 3).1.laneIs n .parked = true ∧
      ((s.laneCommand n 3).1.route n).planId = 0 ∧ ((s.laneCommand n 3).1.route n).stretches = [] ∧
      ∀ m, m ≠ n → (s.laneCommand n 3).1.lane m = s.lane m) ∧
    (s.laneIs n .parked = true → (s.laneCommand n 4).2 = .done [] ∧ (s.laneCommand n 4).1.laneIs n .releasing = true ∧
      ((s.laneCommand n 4).1.airLane n).waiting = (s.airLane n).waiting ++ [(0x1C, [])]) ∧
    (s.laneIs n .parked = true ∨ s.laneIs n .stopped = true ∨ s.laneIs n .releasing = true ∨ s.laneIs n .admitting = true →
      (s.laneCommand n 5).2 = .done [] ∧ s.closes (s.laneCommand n 5).1 n) ∧
    (∀ code, (code = 1 ∨ code = 2) ∧ s.laneIs n .admitting = false ∨ code = 3 ∧ s.laneIs n .stopped = false ∨
        code = 4 ∧ s.laneIs n .parked = false ∨
        code = 5 ∧ (s.laneIs n .vacant = true ∨ s.laneIs n .moving = true ∨ s.laneIs n .holding = true ∨
          s.laneIs n .halted = true ∨ s.laneIs n .handingOver = true) →
      s.laneCommand n code = (s, .refused 0x08000022 0)) ∧
    (laneStateOf (s.lane n).state = none → (s.laneCommand n 5).2 = .done [] ∧ s.closes (s.laneCommand n 5).1 n ∧
      ((s.laneCommand n 5).1).reported 0x0102 3 7 n (le 1 0))

/-- From R160, R183, R200 to R202, R28, in part: a route, a hold and a resumption that a lane may take are accepted into the window of their
instant as a plan of the lane; a route is confirmed at once, hold and resumption are answered with their result. Choices of the model in it:
log entry 71. -/
def Obligations.RoutePlansAccepted : Prop :=
  ∀ (s : State) (r : Req) (lane : Nat), s.power.phase = .running → s.frozen lane = false → s.queuedPlans.length < 256 →
    (∀ route : Bytes, s.grants r (0x4200 + lane) 1 route → (s.laneIs lane .parked = true ∨ s.laneIs lane .moving = true) →
      (s.ck lane).refuses = false →
      ∃ t, exec (.routeSubmit r lane route) s = .next t ∧ t.says r (.done []) ∧
        s.acceptedPlan t lane (.route route) none (s.stamped r.stamp).window) ∧
    (s.grants r (0x4200 + lane) 2 (le 1 1) → s.laneIs lane .moving = true →
      ∃ t, exec (.hold r lane) s = .next t ∧ t.says r .pending ∧
        s.acceptedPlan t lane (.hold false) (some r) (s.stamped r.stamp).window) ∧
    (s.grants r (0x4200 + lane) 2 (le 1 2) → permitted (s.roles r.origin) roleL = true → s.laneIs lane .holding = true →
      (s.ck lane).refuses = false →
      ∃ t, exec (.resumeRoute r lane) s = .next t ∧ t.says r .pending ∧
        s.acceptedPlan t lane .resume (some r) (s.stamped r.stamp).window)

/-- From R182, R196, R155, R158, in part: a limit that its rules allow is stored, and for a MOVING lane without another plan in the window a
limit plan follows; writes to an area are stored, and those to be checked enter the window as one plan, answered with its result. Choices of
the model in it: log entries 14, 46, 72, 75, 76, 114. -/
def Obligations.LimitsAndAreasChange : Prop :=
  ∀ (s : State) (r : Req), s.power.phase = .running →
    (∀ (lane sub : Nat) (value : Bytes) (e : Entry), lookup (0x4100 + lane) sub = .entry e →
      s.grants r (0x4100 + lane) sub value → s.frozen lane = false → s.queuedPlans.length < 256 →
      let v := valueOf e.ty value
      s.limitRefused lane sub v = none → s.storeFull [numberItem (key (0x4100 + lane) sub) v] = false →
      (¬ ((sub ≤ 5 ∨ sub = 9) ∧ s.laneIs lane .moving = true ∧ (s.stamped r.stamp).otherPlan lane = false) →
        ∃ t, exec (.limitChange r lane sub value) s = .next t ∧ t.says r (.done []) ∧
          t.settings = s.settings.accept (0x4100 + lane) sub v ∧ t.ledger = s.ledger) ∧
      ((sub ≤ 5 ∨ sub = 9) → s.laneIs lane .moving = true → (s.stamped r.stamp).otherPlan lane = false →
        ∃ t, exec (.limitChange r lane sub value) s = .next t ∧ t.says r .pending ∧
          t.settings = s.settings.accept (0x4100 + lane) sub v ∧
          s.acceptedPlan t lane (.limit [(sub, s.cfgAccepted (0x4100 + lane) sub)]) (some r) (s.stamped r.stamp).window)) ∧
    (∀ (area : Nat) (writes : List (Nat × Bytes)), s.takes r → s.areaCheck r area writes = none →
      let items := areaItems area writes
      s.storeFull (items.map (fun x => numberItem (key (0x3000 + area) x.1) x.2)) = false →
      (s.areaChange area items = .plain →
        ∃ t, exec (.closureChange r area writes) s = .next t ∧ t.says r (.done []) ∧
          t.settings = items.foldl (fun k x => k.accept (0x3000 + area) x.1 x.2) s.settings ∧ t.ledger = s.ledger) ∧
      (s.areaChange area items = .checked →
        ∃ t, exec (.closureChange r area writes) s = .next t ∧ t.says r .pending ∧
          t.settings = items.foldl (fun k x => k.accept (0x3000 + area) x.1 x.2) s.settings ∧
          t.ledger.nextPlan = s.ledger.nextPlan ∧
          ∃ p, t.ledger.plans = s.ledger.plans ++ [p] ∧ p.id = BitVec.ofNat 32 area ∧ p.req = some r ∧
            p.submit = (s.stamped r.stamp).window ∧ p.first = p.submit + 2 ∧
            p.what = .closure area ((2, s.areaAfter area items 2) :: (1, s.areaAfter area items 1) ::
              (3, s.areaAfter area items 3) :: items.filter (fun x => x.1 ≠ 1 && x.1 ≠ 2 && x.1 ≠ 3))))

/-- From R33, R146, R160, R166, R168, R173, R184, R209, in part: a profile in time settles a plan's form or its refusal; a plan is checked once
its turn has come, before the cutoff; plans that miss a cutoff are LATE, nothing else of a plan but the record kept with it changes;
crossing plans that passed ask their neighbour for a permit. Choices of the model in it: log entries 6, 7, 71, 73, 114 to 116. -/
def Obligations.PlansProfiledCheckedCutOff : Prop :=
  ∀ s : State, s.power.phase = .running →
    (∀ (id : U32) (out : ProfileOut) (p q : Plan), s.planOf id = some p → p.submit + 1 = s.clock.tick → p.profiled = false →
      p.result = none → s.ledger.profileClosed = false →
      ((∃ b, p.what = .route b ∧ routeReason (s.limitsFor p.lane (byteAt b 1 = 0)) b ≠ 0 ∧
          q = { p with profiled := true, result := some 5, detail := routeReason (s.limitsFor p.lane (byteAt b 1 = 0)) b }) ∨
        s.profilePlan p out = some q) →
      ∃ t, exec (.planProfiled id out) s = .next t ∧
        t.ledger.plans = s.ledger.plans.map (fun x => if x.what.ofLane && x.id = id then q else x) ∧
        (q.result = some 5 → (t.route p.lane).refused = (s.route p.lane).refused + 1)) ∧
    (∀ (id : U32) (p : Plan), s.ledger.stopChecks = [] → s.ledger.ledgerClosed = false →
      s.ledger.plans.find? (fun x => x.id = id && x.submit = s.clock.tick - 1 && x.result = none) = some p →
      turnOf id (s.clock.tick - 1) p.what.ofLane s.ledger.plans = true →
      ∃ t, exec (.planChecked id) s = .next t ∧ t.ledger.checked = s.ledger.checked + 1 ∧
        t.ledger.plans = s.ledger.plans.map (fun x =>
          if x.id = id && x.submit = s.clock.tick - 1 && x.result = none && x.what.ofLane = p.what.ofLane then s.checkPlan p else x)) ∧
    (∃ t, exec .profileCutoff s = .next t ∧ t.ledger.profileClosed = true ∧
      t.ledger.plans = s.ledger.plans.map (fun x => if x.submit = s.clock.tick - 1 && x.result = none && !x.profiled then
        { x with profiled := true, result := some 2, detail := 0 } else x)) ∧
    (∃ t, exec .ledgerCutoff s = .next t ∧ t.ledger.profileClosed = true ∧ t.ledger.ledgerClosed = true ∧
      t.ledger.plans.map (fun x => { x with mirrored := none }) =
        s.ledger.plans.map (fun x => if x.submit = s.clock.tick - 1 && x.result = none then
          { x with profiled := true, result := some 2, detail := 0, mirrored := none } else { x with mirrored := none }) ∧
      (s.keys.pendingState ≠ 3 → s.keys.security ≠ 0 → (s.pair.role = 0 ∨ s.pair.role = 1 ∨ s.pair.role = 4) → s.halt.silent = false →
        ∀ p ∈ s.ledger.plans, p.submit = s.clock.tick - 1 → p.result = some 0 → ∀ c, p.crossing = some c →
          Output.cell c.pair (.permitRequest p.id c.border c.handover c.commit p.lane p.epoch
            { first := c.border, list := p.envelopes.drop (c.border - p.first).toNat }) ∈ t.out))

/-- From R211, R215 to R222, in part: an accepted assert makes the host source of its scope active and its record IN_FORCE at once (stored as
0xFE01); a record that was CLEAR takes a new halt ID, counted as a decision. Choices of the model in it: log entries 19, 66, 68. -/
def Obligations.HaltAssertDecides : Prop :=
  ∀ (s : State) (r : Req) (w : U32) (scope lane : Nat), s.power.phase = .running →
    s.grants r 0x2201 1 (le 4 w.toNat) → haltFields w = (1, scope, 0, lane) → s.halt.silent = false →
    (scope = 1 ∧ lane < 192 ∧ s.laneIs lane .vacant = false ∧ s.frozen lane = false ∨ (scope = 2 ∨ scope = 3) ∧ lane = 0) →
    (∀ k ∈ s.records, (codeOf (s.haltRecord k)).isSome) →
    ∃ t, exec (.haltAssert r w) s = .next t ∧ t.says r (.done []) ∧
      (let record := if scope = 1 then lane + 2 else 3 - scope
       t.haltRecord record = 0xFE01 ∧ t.hostActive scope lane = true ∧
         (s.haltRecord record = 0xFF00 → t.halt.haltId = s.halt.haltId + 1 ∧ t.halt.decided = s.halt.decided + 1)) ∧
      (∀ m, laneStateOf (t.lane m).state = laneStateOf (s.lane m).state)

/-- From R19, R38, R211, R215, R219, R220, R229, in part: a restore ends the host source of its scope and leaves a record IN_FORCE as it is; a
resume of a RESTORED or HALF_RESUMED record waits for the next boundary, answered as pending. A lane whose stored state fails its check
takes neither. Choices of the model in it: log entries 66, 67. -/
def Obligations.HaltRestoreAndResumeWait : Prop :=
  ∀ (s : State) (r : Req) (w : U32) (scope lane : Nat), s.power.phase = .running → s.tablesWf → s.halt.silent = false →
    (scope = 1 ∧ lane < 192 ∨ (scope = 2 ∨ scope = 3) ∧ lane = 0) → (∀ k ∈ s.records, (codeOf (s.haltRecord k)).isSome) →
    (s.grants r 0x2201 1 (le 4 w.toNat) → haltFields w = (2, scope, 0, lane) → permitted (s.roles r.origin) roleP = true →
      (scope = 1 → s.frozen lane = false) →
      s.hostActive scope lane = true →
      ∃ t, exec (.haltRestore r w) s = .next t ∧ t.says r (.done []) ∧ t.hostActive scope lane = false ∧
        ∀ k, s.haltRecord k = 0xFE01 → t.haltRecord k = 0xFE01) ∧
    (s.grants r 0x2201 2 (le 4 w.toNat) → haltFields w = (0, scope, 0, lane) → (scope = 1 → s.frozen lane = false) →
      (s.haltRecord (if scope = 1 then lane + 2 else 3 - scope) = 0xFD02 ∨
        s.haltRecord (if scope = 1 then lane + 2 else 3 - scope) = 0xFC03) →
      ∃ t, exec (.haltResume r w) s = .next t ∧ t.says r .pending ∧
        t.halt = { s.halt with resumes := s.halt.resumes ++
          [{ scope := scope, lane := lane, req := some r, instant := s.clock.source + (max s.clock.offset r.stamp : Nat) }] } ∧
        t.lanes = s.lanes) ∧
    (scope = 1 → s.frozen lane = true →
      (s.grants r 0x2201 1 (le 4 w.toNat) → haltFields w = (2, 1, 0, lane) → permitted (s.roles r.origin) roleP = true →
        ∃ t, exec (.haltRestore r w) s = .next t ∧ t.says r (.refused 0x08000022 0) ∧ t.halt = s.halt ∧ t.lanes = s.lanes) ∧
      (s.grants r 0x2201 2 (le 4 w.toNat) → haltFields w = (0, 1, 0, lane) →
        ∃ t, exec (.haltResume r w) s = .next t ∧ t.says r (.refused 0x08000022 0) ∧ t.halt = s.halt ∧ t.lanes = s.lanes))

/-- From R230, R231, in part: a local resume press resumes, at the next boundary, the site and cell records that are RESTORED or HALF_RESUMED,
or is reported with its cause; a half-resumed record whose window has ended is RESTORED again. Choices of the model in it: log entries 67,
103. -/
def Obligations.LocalResumeAndWindow : Prop :=
  ∀ s : State, s.power.phase = .running →
    (∀ hold stamp : Nat, s.halt.silent = false → s.panel.wet = false → 1000 ≤ hold → hold ≤ 5000 →
      let open' := fun k => s.haltRecord k = 0xFD02 ∨ s.haltRecord k = 0xFC03
      ∃ t, exec (.localResumePress hold stamp) s = .next t ∧
        (s.cfg 0x2202 1 = 0 → t.halt = s.halt ∧ t.reported 0x1906 0 0 0xFF (le 1 1)) ∧
        (s.cfg 0x2202 1 ≠ 0 → ¬ open' 0 → ¬ open' 1 → t.halt = s.halt ∧ t.reported 0x1906 0 0 0xFF (le 1 0)) ∧
        (s.cfg 0x2202 1 = 1 → open' 0 ∨ open' 1 → t.lanes = s.lanes ∧ ∃ l, t.halt = { s.halt with resumes := s.halt.resumes ++ l } ∧
          (∀ x ∈ l, x.req = none ∧ x.instant = s.clock.source + (max s.clock.offset stamp : Nat)) ∧
          ((∃ x ∈ l, x.scope = 3) ↔ open' 0) ∧ ((∃ x ∈ l, x.scope = 2) ↔ open' 1)) ∧
        (s.cfg 0x2202 1 = 2 → (∀ k < 2, open' k → ∃ h, tfind s.halt.half k = some h ∧ h.host = false) → open' 0 ∨ open' 1 →
          t.halt = s.halt ∧ t.reported 0x1906 0 0 0xFF (le 1 2))) ∧
    (∃ t, exec .twoPartyWindowExpire s = .next t ∧
      (∀ e ∈ s.halt.half, e.2.until_ < s.clock.source → t.haltRecord e.1 = 0xFD02) ∧
      t.halt.half = s.halt.half.filter (fun e => decide (s.clock.source ≤ e.2.until_)) ∧
      ∀ k, (∀ e ∈ s.halt.half, e.1 = k → s.clock.source ≤ e.2.until_) → t.haltRecord k = s.haltRecord k)

/-- From R211, R235, in part: four agreeing samples change the state of SITE_HALT_N; a line low is a site source; a driven line that reads high,
and a line low for 60 s that nobody drives, are reported; SITE_LINE is kept for 3 s, and sent every second while driven. Choices of the
model in it: log entry 103. -/
def Obligations.SiteLine : Prop :=
  ∀ s : State, s.power.phase = .running → s.halt.silent = false →
    (∀ (low : Bool) (stamp : Nat), (∀ k ∈ s.records, (codeOf (s.haltRecord k)).isSome) →
      ∃ t, exec (.siteHaltSample low stamp) s = .next t ∧
        (low = s.halt.lastSample → s.halt.lineRun < 3 → t.halt = { s.halt with lineRun := s.halt.lineRun + 1 }) ∧
        (low ≠ s.halt.lastSample → t.halt = { s.halt with lastSample := low, lineRun := 1 }) ∧
        (low = s.halt.lastSample → 3 ≤ s.halt.lineRun → low = true → s.halt.lineLow = false → s.cfgOn 0x2202 7 = true →
          t.halt.site = 0xFE01)) ∧
    (s.halt.driving = true → ∃ t, exec (.siteLineReadback true) s = .next t ∧
      t.halt = { s.halt with lineFaults := s.halt.lineFaults + 1 } ∧ t.reported 0x0702 1 7 0xFF []) ∧
    (s.halt.lineLow = true → s.halt.stuck = false → s.halt.driving = false → s.halt.drivers = [] → 60000 ≤ s.halt.lowFor →
      ∃ t, exec .siteLineStuck s = .next t ∧ t.halt = { s.halt with stuck := true } ∧ t.reported 0x0703 2 7 0xFF [] ∧
        ∃ c ∈ t.access.conditions, c.code = 0x0703) ∧
    (∀ address : Nat, (∃ t, exec (.siteLine address true) s = .next t ∧ tfind t.halt.drivers address = some 0) ∧
      (∃ t, exec (.siteLine address false) s = .next t ∧ tfind t.halt.drivers address = none) ∧
      ∀ age, tfind s.halt.drivers address = some age → 3000 ≤ age →
        ∃ t, exec (.siteLineDriverTimeout address) s = .next t ∧ tfind t.halt.drivers address = none) ∧
    (s.halt.driving = true → ∃ t, exec .siteLinePeriodic s = .next t ∧
      t = { s with out := [.can 0x7C3 (le 1 s.chain.address ++ [1, 0, 0])] })

/-- From R224, R237, R302, in part: repetition k of a burst, once its place in time lies in the tick, moves the burst on to k + 1, and
repetition 49 ends it; a lockstep mismatch silences the unit: both radios are cut off, the site line stays as it stood, and the mismatch is
reported. Choices of the model in it: log entries 50, 65. -/
def Obligations.HaltBurstsAndSilence : Prop :=
  ∀ s : State, s.power.phase = .running → s.halt.silent = false →
    (∀ (b : Burst) (index : Nat), s.halt.bursts.find? (fun x => x.haltId = b.haltId && x.next = index) = some b → index ≤ 49 →
      b.began + tickNs * index + 100000 * b.delay - s.clock.source < tickNs + s.clock.extension →
      let duty := (s.stamped (b.began + tickNs * index + 100000 * b.delay - s.clock.source).toNat).dutyAccount
      ∃ t, exec (.haltRepetition b.haltId index) s = .next t ∧
        (index = 49 → ∀ x ∈ t.halt.bursts, x.haltId ≠ b.haltId) ∧
        (index < 49 → ∃ d, d ≤ 40 ∧ { b with next := index + 1, delay := d } ∈ t.halt.bursts) ∧
        (∀ x ∈ s.halt.bursts, x.haltId ≠ b.haltId → x ∈ t.halt.bursts) ∧
        t.halt.site = s.halt.site ∧ t.halt.cell = s.halt.cell ∧
        (s.onAir = true → s.air.verge = none → ¬ (s.cfgNat 0x2502 1 = 0 ∧ 5 ≤ index ∧ 340000 ≤ duty) →
          ∃ v, t.air.verge = some v ∧ v.code = 9) ∧
        (s.cfgNat 0x2502 1 = 0 → 5 ≤ index → 340000 ≤ duty →
          t.air = { s.air with withheldHalts := s.air.withheldHalts + 1 })) ∧
    (∀ (b : Burst) (index : Nat), s.halt.bursts.find? (fun x => x.haltId = b.haltId && x.next = index) = some b →
      tickNs + s.clock.extension ≤ b.began + tickNs * index + 100000 * b.delay - s.clock.source →
      b.began + tickNs * index + 100000 * b.delay - s.clock.source < 60 * tickNs →
      exec (.haltRepetition b.haltId index) s = .next { s with out := [] }) ∧
    (∃ t, exec .lockstepMismatch s = .next t ∧ t.halt = { s.halt with silent := true } ∧ .cutOff ∈ t.out ∧
      t.air.verge = none ∧ t.air.vergeWaiting = [] ∧ t.air.pa = false ∧ t.air.vgPa = false ∧
      t.reported 0x0706 1 7 0xFF (le 1 0))

/-- From R211, R549, R550, in part: in its own pulse a channel that reads low has passed so far, and one that reads high latches a fault of its
contact; a closed channel that reads low in the pulse of another latches a cross short; a latched fault makes the contact a source. Choices
of the model in it: log entries 24, 100. -/
def Obligations.ContactPulses : Prop :=
  ∀ (s : State) (channel : Nat) (low : List Bool), s.power.phase = .running → channel < 4 →
    ∃ t, exec (.contactTestPulse channel low) s = .next t ∧
      (s.pulses channel = true → low.getD channel false = true → (t.contactChannel channel).pulsed = true) ∧
      (s.pulses channel = true → low.getD channel false = false → (t.contact (contactOf channel)).fault = true ∧
        t.contactActive (contactOf channel) = true) ∧
      (∀ d < 4, s.pulses channel = true → d ≠ channel → low.getD d false = true → (s.contactChannel d).closed = true →
        (t.contact (contactOf d)).fault = true ∧ t.contactActive (contactOf d) = true) ∧
      (s.pulses channel = false → t = { s with out := [] })

/-- From R398, R554 to R557, R559, R560, R572, in part: three scans in a row that point the other way turn a key; three keys turned at once are
a film of water; K3 starts the 3,000 ms lamp test; a key touched for more than 12,000 scans is stuck; the service plug and WAKE are shown
and reported. Choices of the model in it: log entries 43, 99, 101. -/
def Obligations.PanelKeys : Prop :=
  ∀ s : State, s.power.phase = .running →
    (∀ levels : List Nat, ∃ t, exec (.touchScan levels) s = .next t ∧
      (∀ k < 8, (t.touchKey k).touched =
        (if 2 ≤ (s.touchKey k).run ∧ (if (s.touchKey k).touched then levels.getD k 0 = 0 else 2 ≤ levels.getD k 0)
         then !(s.touchKey k).touched else (s.touchKey k).touched)) ∧
      (let new := (List.range 8).filter (fun k => (t.touchKey k).touched && !(s.touchKey k).touched)
       (3 ≤ new.length → s.panel.wet = false → t.panel.wet = true ∧ t.lamps = s.lamps ∧
          t.reported 0x1904 1 7 0xFF (le 1 t.keysTouched)) ∧
       (s.panel.wet = true → t.lamps = s.lamps ∧ t.access = s.access) ∧
       (new.length < 3 → s.panel.wet = false → 2 ∈ new → t.lamps = { s.lamps with test := 3000 }))) ∧
    ((∀ k < 8, (s.touchKey k).touched = false ∧ 20 ≤ (s.touchKey k).held) →
      exec .keysWetEnd s = .next { s with panel := { s.panel with wet := false }, out := [] }) ∧
    (∀ k < 8, (s.touchKey k).touched = true → 12000 < (s.touchKey k).held → (s.touchKey k).ignored = false →
      ∃ t, exec (.keyStuck k) s = .next t ∧ (t.touchKey k).ignored = true ∧ t.reported 0x1905 1 7 0xFF (le 1 k)) ∧
    (∀ (present : Bool) (run : Nat), 50 ≤ run → present ≠ s.panel.plug →
      ∃ t, exec (.servicePlugChange present run) s = .next t ∧ t.panel.plug = present ∧
        t.reported 0x190B 0 0 0xFF (le 1 (if present then 1 else 0)) ∧
        (present = false → t.update.receiving = false ∧ ∀ x ∈ t.access.transfers, x.origin ≠ .service)) ∧
    (∃ t code, exec .wakeRisingEdge s = .next t ∧ t.panel.wake = true ∧ t.reported code 0 0 0xFF [])

/-- From R566, R571, R572, in part: a valid return sets the driver count and ends a chain fault; a return that is not valid is a chain fault,
reported where a valid one came before it, and no status of it is used; a channel without a measurement for 2,000 ms is unknown or not
verifiable; a lamp test ends. Choices of the model in it: log entries 23, 103, 138. -/
def Obligations.LampChain : Prop :=
  ∀ s : State, s.power.phase = .running →
    (∀ (start count : Nat) (shares statuses : Bytes),
      let returned := returnFrame start count shares statuses
      ∃ t, exec (.lampReturn start count shares statuses) s = .next t ∧
      (s.returnFault returned = none →
        t.lamps.drivers = (readStatuses returned).length ∧ t.lamps.valid = some true ∧ t.lamps.count = s.lamps.count) ∧
      (∀ c : Nat, s.returnFault returned = some c → c ≤ 2 ∧ t.lamps = { s.lamps with valid := some false } ∧
        (s.lamps.valid = some true → t.reported 0x1907 2 7 0xFF (le 1 s.lamps.count ++ le 1 c)) ∧
        (s.lamps.valid ≠ some true → t.chain = s.chain)) ∧
      (returned.take 2 ≠ le 1 0xA5 ++ le 1 s.lamps.count → s.returnFault returned = some 0)) ∧
    (∀ c : Nat, ∃ t, exec (.channelHealthTimeout c) s = .next t ∧
      let x : LampChannel := tget (fun _ => {}) s.lamps.channels c
      let y : LampChannel := tget (fun _ => {}) t.lamps.channels c
      (x.health ≠ 0 → 2000 ≤ x.age → x.low = true → s.cfgOn 0x2B01 4 = false → y.health = 4) ∧
      (x.health ≠ 0 → 2000 ≤ x.age → ¬ (x.low = true ∧ s.cfgOn 0x2B01 4 = false) → y.health = 5) ∧
      (x.health = 1 → x.age < 2000 → 2000 ≤ x.cleanAge → y.health = 5) ∧
      (x.health = 1 → x.age < 2000 → x.cleanAge < 2000 → y = x)) ∧
    (s.lamps.test ≤ 1 → exec .lampTestEnd s = .next { s with lamps := { s.lamps with test := 0 }, out := [] })

/-- From R245 to R256, R259, R281 to R284, in part: when the channel is assessed clear the downlink goes out, its PPDU scrambled from a state
that is not zero; busy, it is assessed again up to three times, and then the downlink of the tick is skipped, which is reported once until
the next one is sent; a closed downlink is left alone. Choices of the model in it: log entries 50, 104, 133. -/
def Obligations.DownlinksAssessed : Prop :=
  ∀ (s : State) (c : Nat) (energy : Int), s.power.phase = .running → c < 4 → s.cfg 0x2501 (c + 1) ≠ 255 →
    (s.onAir = true → (s.cw c).closed = false →
      (energy ≤ 100 * (-43 - s.cfg 0x2501 8 + s.cfg 0x2501 9) → ∃ t, exec (.ccaObservationDone c energy) s = .next t ∧
        (t.cw c).closed = true ∧ (t.cw c).sent = (s.cw c).sent + 1 ∧ (t.cw c).skipRun = 0 ∧ (t.cw c).covered = [] ∧
        (t.cw c).haltOwed = false ∧ (t.cw c).deferred = (if (s.cw c).tries ≠ 0 then (s.cw c).deferred + 1 else (s.cw c).deferred) ∧
        (∃ (psdu : Bytes) (state : Nat), 1 ≤ state ∧ state ≤ 127 ∧
          Output.downlink c (s.cfgNat 0x2501 5) (s.cw c).wait psdu (ppdu (s.cfgNat 0x2501 5) state psdu) ∈ t.out) ∧
        ((s.cw c).skipRun ≠ 0 → t.reported 0x0904 3 4 0xFF (le 1 c ++ le 3 0 ++ le 4 (s.cw c).skipRun.toNat))) ∧
      (100 * (-43 - s.cfg 0x2501 8 + s.cfg 0x2501 9) < energy → (s.cw c).tries < 3 →
        ∃ t, exec (.ccaObservationDone c energy) s = .next t ∧ ∃ k : Nat, k < 16 ∧
          t.cw c = { s.cw c with tries := (s.cw c).tries + 1, wait := (s.cw c).wait + k * 20 + 20 }) ∧
      (100 * (-43 - s.cfg 0x2501 8 + s.cfg 0x2501 9) < energy → 3 ≤ (s.cw c).tries →
        ∃ t, exec (.ccaObservationDone c energy) s = .next t ∧
          t.cw c = { s.cw c with closed := true, skippedNow := true, skipped := (s.cw c).skipped + 1, skipRun := (s.cw c).skipRun + 1 } ∧
          ((s.cw c).skipRun = 0 → t.reported 0x0903 2 4 0xFF (le 1 c)))) ∧
    (s.onAir = false ∨ (s.cw c).closed = true → exec (.ccaObservationDone c energy) s = .next { s with out := [] })

/-- From R263, R264, R268, R273, R294, R295, R331, in part: a message not acknowledged in time is sent again, and given up after its last
transmission with its event; the stage beacon goes once in a stage at its place, at once or behind a frame in progress; the end of a frame
frees the verge radio, and the next frame that waits begins. Choices of the model in it: log entries 64, 86. -/
def Obligations.VergeAndRetransmissions : Prop :=
  ∀ s : State, s.power.phase = .running →
    (∀ (n msn : Nat) (m : DownMsg), (s.airLane n).unacked.find? (fun x => x.msn = msn) = some m →
      (m.queued = true ∨ m.slots < s.cfgNat 0x2507 2 → exec (.downlinkRetransmit n msn) s = .next { s with out := [] }) ∧
      (m.queued = false → s.cfgNat 0x2507 2 ≤ m.slots → m.sent < s.cfgNat 0x2507 1 →
        ∃ t, exec (.downlinkRetransmit n msn) s = .next t ∧ t.airLane n = { s.airLane n with
          unacked := (s.airLane n).unacked.map (fun x => if x.msn = msn then { x with queued := true } else x) }) ∧
      (m.queued = false → s.cfgNat 0x2507 2 ≤ m.slots → s.cfgNat 0x2507 1 ≤ m.sent →
        ∃ t, exec (.downlinkRetransmit n msn) s = .next t ∧ t.airLane n = { s.airLane n with
          unacked := (s.airLane n).unacked.filter (fun x => x.msn ≠ msn), undelivered := (s.airLane n).undelivered + 1 } ∧
          t.reported 0x1001 1 4 n (le 1 msn ++ le 1 m.typ))) ∧
    (∀ n msn : Nat, (s.airLane n).unacked.find? (fun x => x.msn = msn) = none →
      exec (.downlinkRetransmit n msn) s = .next { s with out := [] }) ∧
    (s.onAir = true → s.air.beaconDone = false → s.stagePos = (300 + 6000 * s.cfgNat 0x2504 1) / 20000 → s.air.stageBody ≠ [] →
      (s.air.verge = none → ∃ t, exec .vergeStageBeacon s = .next t ∧ t.air.beaconDone = true ∧ t.air.delivered = true ∧
        (∃ f, t.air.verge = some f ∧ f.code = 8) ∧ t.air.broadcast = s.air.broadcast + 1 ∧ t.air.vgTxrx = true ∧ t.air.vgPa = true ∧
        t.air.vgLna = false ∧ ∃ bytes, Output.verge s.vergeChannel bytes (vergeFrame bytes) ∈ t.out) ∧
      (∀ f, s.air.verge = some f → ∃ t, exec .vergeStageBeacon s = .next t ∧ t.air.beaconDone = true ∧ t.air.verge = some f ∧
        ∃ g, t.air.vergeWaiting = s.air.vergeWaiting ++ [g] ∧ g.code = 8)) ∧
    (s.onAir = false ∨ s.air.beaconDone = true ∨ s.stagePos ≠ (300 + 6000 * s.cfgNat 0x2504 1) / 20000 ∨ s.air.stageBody = [] →
      exec .vergeStageBeacon s = .next { s with out := [] }) ∧
    (∀ us : Nat, s.air.verge = none → exec (.vergeTransmissionEnd us) s = .next { s with out := [] }) ∧
    (∀ (us : Nat) (f : VergeFrame), s.air.verge = some f →
      (s.onAir = false ∨ s.air.vergeWaiting = [] → ∃ t, exec (.vergeTransmissionEnd us) s = .next t ∧ t.air.verge = none ∧
        t.air.vgTxrx = false ∧ t.air.vgPa = false ∧ t.air.vgLna = true) ∧
      (∀ g rest, s.onAir = true → s.air.vergeWaiting = g :: rest → ∃ t, exec (.vergeTransmissionEnd us) s = .next t ∧
        t.air.vergeWaiting = rest ∧ (∃ h, t.air.verge = some h ∧ h.code = g.code ∧ h.payload = g.payload) ∧ t.air.vgPa = true))

/-- From R263, R264, in part: the whitened bytes after the sync word of any frame the verge transmitter sends, of a payload of 1 to 64 bytes,
pass the receiver's length and CRC checks, and whitening them again gives back length, payload and CRC. Choices of the model in it: log
entry 133. -/
def Obligations.VergeFramesReadBack : Prop :=
  ∀ payload : Bytes, 1 ≤ payload.length → payload.length ≤ 64 →
    (vergeFrame payload).take 6 = List.replicate 4 0x55 ++ le 2 0x4FD3 ∧
    vergeLengthOk ((vergeFrame payload).drop 6) = true ∧ vergeCrcOk ((vergeFrame payload).drop 6) = true ∧
    whitened ((vergeFrame payload).drop 6) =
      le 1 payload.length ++ payload ++ le 2 (crc16 (le 1 payload.length ++ payload))

/-- From R248, R277, R289 to R291, R307 to R313, R317, R325 to R327, R330, in part: an uplink frame is judged in the order of the receiver's
steps, each failure counted in its own place; an authentic frame marks its window and counts; telemetry in its own slot gives the pose, a
self-stop report expected next is executed and acknowledged, an admission request for a vacant, enabled lane is answered and applied.
Choices of the model in it: log entries 80 to 85, 134. -/
def Obligations.UplinkFramesJudged : Prop :=
  ∀ (s : State) (c slot : Nat) (p : Ppdu) (psdu : Bytes), s.power.phase = .running → c < 4 →
    (s.onAir = false ∨ s.cfg 0x2501 (c + 1) = 255 ∨ slotAt p.start = none →
      exec (.uplinkFrameReceive c p psdu) s = .next { s with out := [] }) ∧
    (s.onAir = true → s.cfg 0x2501 (c + 1) ≠ 255 → slotAt p.start = some slot →
      (headerBad p slot = true → ∃ t, exec (.uplinkFrameReceive c p psdu) s = .next t ∧
        t.cw c = { s.cw c with headerErrors := (s.cw c).headerErrors + 1 } ∧ t.airLanes = s.airLanes) ∧
      (headerBad p slot = false → s.readFrame psdu = none → ∃ t, exec (.uplinkFrameReceive c p psdu) s = .next t ∧
        t.airLanes = s.airLanes ∧ t.air = s.air ∧ t.due = s.due) ∧
      (∀ f : AirFrame, headerBad p slot = false → s.readFrame psdu = some f → f.frameType = 3 → p.length = 28 + f.bodyLength → f.dest = s.address →
        let n := f.sender % 256
        let ours := f.sender / 256 = s.pairNumber ∧ n < 192
        let whole := f.pairComp = ~~~ f.pairEpoch ∧ f.laneComp = ~~~ f.laneEpoch
        let known := ours ∧ ((s.lane n).occupied = true ∨ requestOnly f = true)
        let w := s.windowOf n f.generation
        let x := w.extend f.counter
        let right := whole ∧ known ∧ s.acceptsGeneration n f = true
        let ready := right ∧ f.pairEpoch = s.pair.epoch ∧ (requestOnly f = true ∨ f.laneEpoch = (s.lane n).epoch)
        let fresh := ready ∧ w.judge x = .accept ∧ (requestOnly f = true → w.high < x)
        (¬ whole → ours → ∃ t, exec (.uplinkFrameReceive c p psdu) s = .next t ∧
          t.airLane n = { s.airLane n with complement := (s.airLane n).complement + 1 }) ∧
        (whole → ¬ known → ∃ t, exec (.uplinkFrameReceive c p psdu) s = .next t ∧
          t.air = { s.air with unknown := s.air.unknown + 1 } ∧ t.airLanes = s.airLanes) ∧
        (whole → known → s.acceptsGeneration n f = false → ∃ t, exec (.uplinkFrameReceive c p psdu) s = .next t ∧
          t.airLane n = { s.airLane n with micFailures := (s.airLane n).micFailures + 1 }) ∧
        (right → epochAbove s.pair.epoch f.pairEpoch = true → ∃ t, exec (.uplinkFrameReceive c p psdu) s = .next t ∧
          t.airLane n = { s.airLane n with earlierPair := (s.airLane n).earlierPair + 1 }) ∧
        (right → f.pairEpoch = s.pair.epoch → requestOnly f = false → f.laneEpoch ≠ (s.lane n).epoch →
          ∃ t, exec (.uplinkFrameReceive c p psdu) s = .next t ∧
            t.airLane n = { s.airLane n with otherEpoch := (s.airLane n).otherEpoch + 1 }) ∧
        (ready → w.judge x = .tooOld → ∃ t, exec (.uplinkFrameReceive c p psdu) s = .next t ∧
          t.airLane n = { s.airLane n with tooOld := (s.airLane n).tooOld + 1 }) ∧
        (ready → w.judge x = .repeated → ∃ t, exec (.uplinkFrameReceive c p psdu) s = .next t ∧
          t.airLane n = { s.airLane n with repeated := (s.airLane n).repeated + 1 }) ∧
        (fresh → f.authentic = false → ∃ t, exec (.uplinkFrameReceive c p psdu) s = .next t ∧
          t.airLane n = { s.airLane n with micFailures := (s.airLane n).micFailures + 1 }) ∧
        (fresh → f.authentic = true → f.elements = [] → ∃ t, exec (.uplinkFrameReceive c p psdu) s = .next t ∧
          t.windowOf n f.generation = w.mark x ∧ (t.airLane n).authenticated = (s.airLane n).authenticated + 1 ∧
          (f.generation ≠ 0 → (t.airLane n).lastCounter = f.counter) ∧ (s.ownerOf c slot = some n → (t.airLane n).heard = true)) ∧
        (∀ e : Element, fresh → f.authentic = true → f.elements = [e] → s.ownerOf c slot = some n → e.typ = 1 → e.ack = false →
          e.value.length = 64 → field e.value 0 2 = s.clock.tick.toNat % 65536 → ∃ t, exec (.uplinkFrameReceive c p psdu) s = .next t ∧
            (t.lane n).pose = some { east := fieldSigned e.value 4 4, north := fieldSigned e.value 8 4, heading := field e.value 16 2 } ∧
            (t.lane n).telemetry = e.value ∧ (t.airLane n).heard = true) ∧
        (∀ e : Element, fresh → f.authentic = true → f.elements = [e] → (s.lane n).occupied = true → e.typ = 5 → e.ack = true →
          e.value.length = 4 → e.msn = (s.airLane n).expected → (s.airLane n).held = [] →
          ∃ t, exec (.uplinkFrameReceive c p psdu) s = .next t ∧ (t.airLane n).selfStops = (s.airLane n).selfStops + 1 ∧
            (t.airLane n).expected = (e.msn + 1) % 256 ∧ (t.airLane n).acks = (s.airLane n).acks ++ [(e.msn, 0)] ∧
            t.due = s.due ++ [{ lane := n, what := .selfStop (s.fullTick (field e.value 0 2)) (byteAt e.value 2) }]) ∧
        (∀ e : Element, fresh → f.authentic = true → f.elements = [e] → f.generation = 0 → e.typ = 4 → e.ack = true → e.value.length = 12 →
          s.power.deviceState = 2 → (s.lane n).reserved = false → s.laneIs n .vacant = true → s.admissionOn n = true →
          (∀ d ∈ s.due, d.lane ≠ n) → ∃ t, exec (.uplinkFrameReceive c p psdu) s = .next t ∧
            t.due = s.due ++ [{ lane := n, what := .admission (BitVec.ofNat 64 (field e.value 0 8)) }] ∧
            (t.airLane n).responses = (s.airLane n).responses ++ [(0, s.stageNumber + 1)])))

/-- From R121, R124 to R126, R131, in part: a free DSP takes the oldest request, with 10.0 ms left, under the limits in force, and drops one
with less; a verdict found by the deadline joins the delta, one found after 16.0 ms a tick later, and with the reference without valid
positioning it is STALE with reason 16; a solve past its deadline is dropped and counted, and one that positioning's end made void gives
only STALE with reason 16; a lane without a verdict of the solve for too long becomes STALE with reason 19 (a standing reason 16 stays),
which changes no consecutive count. Choices of the model in it: log entries 4, 88, 89, 103, 139. -/
def Obligations.CheckpointSolves : Prop :=
  ∀ s : State, s.power.phase = .running →
    (∀ (dsp stamp : Nat) (q : CkRequest) (rest : List CkRequest), dsp < 4 → tfind s.checkpoint.running dsp = none →
      s.checkpoint.queue = q :: rest → 10000000 ≤ (s.stamped stamp).solveLeft q →
      ∃ t, exec (.checkpointSolveStart dsp stamp) s = .next t ∧ t.checkpoint.queue = rest ∧
        tfind t.checkpoint.running dsp =
          some { q with startValid := s.reference.positioning, limits := s.solveLimits q.lane }) ∧
    (∀ (dsp stamp : Nat) (q : CkRequest), dsp < 4 → tfind s.checkpoint.running dsp = none → s.checkpoint.queue = [q] →
      (s.stamped stamp).solveLeft q < 10000000 →
      ∃ t, exec (.checkpointSolveStart dsp stamp) s = .next t ∧ t.checkpoint.queue = [] ∧
        t.checkpoint.running = s.checkpoint.running ∧ t.checkpoint.dropped = s.checkpoint.dropped + 1 ∧
        (t.ck q.lane).dropped = (s.ck q.lane).dropped + 1) ∧
    (∀ (dsp : Nat) (out : SolveOut) (stamp : Nat) (q : CkRequest), tfind s.checkpoint.running dsp = some q →
      ∃ t, exec (.checkpointSolveDone dsp out stamp) s = .next t ∧ tfind t.checkpoint.running dsp = none ∧
        (0 ≤ (s.stamped stamp).solveLeft q → t.checkpoint.completed = s.checkpoint.completed + 1 ∧
          ∃ v : CkVerdict, v.request = q ∧
            t.checkpoint.found = (if q.void = true ∧ v.reason ≠ 16 then s.checkpoint.found else s.checkpoint.found ++ [v]) ∧
            (v.after16 = true ↔ 16000000 < (s.stamped stamp).clock.offset) ∧
            (q.startValid = false → v.verdict = 3 ∧ v.reason = 16)) ∧
        ((s.stamped stamp).solveLeft q < 0 → t.checkpoint.found = s.checkpoint.found ∧
          t.checkpoint.completed = s.checkpoint.completed ∧ t.checkpoint.dropped = s.checkpoint.dropped + 1 ∧
          (t.ck q.lane).dropped = (s.ck q.lane).dropped + 1)) ∧
    (∀ (dsp : Nat) (q : CkRequest), tfind s.checkpoint.running dsp = some q → s.solveLeft q < 0 →
      ∃ t, exec (.checkpointSolveLate dsp) s = .next t ∧ tfind t.checkpoint.running dsp = none ∧
        t.checkpoint.found = s.checkpoint.found ∧ t.checkpoint.dropped = s.checkpoint.dropped + 1 ∧
        (t.ck q.lane).dropped = (s.ck q.lane).dropped + 1) ∧
    (∀ n : Nat, s.isStandby = false → (s.lane n).occupied = true →
      (s.ck n).arrival + s.cfg 0x230B 5 * 20000000 < s.clock.source →
      (∀ q : CkRequest, q ∈ s.checkpoint.queue ∨ q ∈ s.checkpoint.running.map Prod.snd ∨
        q ∈ s.checkpoint.found.map CkVerdict.request →
        q.lane = n → (s.ck n).arrival + s.cfg 0x230B 5 * 20000000 < q.arrival) →
      ∃ t, exec (.verdictStaleTimeout n) s = .next t ∧ (t.ck n).verdict = 3 ∧
        (t.ck n).reason = (if (s.ck n).verdict = 3 ∧ (s.ck n).reason = 16 then 16 else 19) ∧
        (t.ck n).disagree = (s.ck n).disagree ∧
        ((s.ck n).verdict ≠ 3 → t.reported 0x0401 0 0 n (le 1 3 ++ le 1 19)))

/-- From R53 to R62, R65, R67 to R73, in part: at an integration boundary the NCOs have run to it, the taps stand and written rates take effect;
a loop update in time writes the next rates and moves lock and phase, one for an integration past is only counted; phase lock in the L1 band
starts the L5 band; lost trackers give up their channel after 10 s and are searched again; a free FFT unit takes the search first in order;
a detection starts its tracker, an empty search waits again. Choices of the model in it: log entries 4, 94, 123, 124, 125. -/
def Obligations.TrackersFollow : Prop :=
  ∀ s : State, s.power.phase = .running →
    (∀ (c : Nat) (l5 : Bool) (sums : TapSums) (sides : SideSums), c < 80 →
      let x := (s.channel c).tracker l5
      (∀ v : SatView, (s.channel c).sat = some v → x.phase ≠ 0 →
        let signal := s.signalCode v.system l5
        let n := x.samplesLeft signal
        ∃ (t : State) (rates : BitVec 48 × BitVec 48) (roving sweep : Int),
          exec (.trackerIntegrationBoundary c l5 sums sides) s = .next t ∧ -256 ≤ roving ∧ roving ≤ 256 ∧ (x.phase ≠ 4 → sweep = 0) ∧
          (x.phase ≠ 4 → rates = x.written.getD (x.codeRate, x.carrierRate)) ∧
          (x.phase = 4 → ∀ y, x.lost = some y → rates = extrapolated v.rate l5 y (x.sample + n)) ∧
          (t.channel c).tracker l5 =
            { x with code := x.code.advance (codeLength signal) (x.codeRate.toNat * n), carrier := x.carrier.advance (x.carrierRate.toInt * n),
                     sample := x.sample + n, integration := x.integration + 1, taps := x.placed signal sums sides, written := none,
                     codeRate := rates.1, carrierRate := rates.2, loop := s.loopSet, roving := roving, sweep := sweep }) ∧
      (x.phase = 0 ∨ (s.channel c).sat = none → exec (.trackerIntegrationBoundary c l5 sums sides) s = .next { s with out := [] })) ∧
    (∀ (c : Nat) (l5 : Bool) (o : LoopOut), c < 80 →
      let x := (s.channel c).tracker l5
      (x.phase = 0 → exec (.trackerLoopUpdate c l5 o) s = .next { s with out := [] }) ∧
      (x.phase ≠ 0 → o.integration < x.integration → ∃ t, exec (.trackerLoopUpdate c l5 o) s = .next t ∧
        (t.channel c).late = saturate (s.channel c).late ∧ (t.channel c).tracker l5 = { x with late := true }) ∧
      (x.phase ≠ 0 → x.integration ≤ o.integration → ∃ t, exec (.trackerLoopUpdate c l5 o) s = .next t ∧
        (let y := (t.channel c).tracker l5
         y.written = some (BitVec.ofInt 48 o.codeRate, BitVec.ofInt 48 o.carrierRate) ∧ y.cn0 = o.cn0 ∧
         (2200 ≤ o.cn0 → y.codeLock = true) ∧ (o.cn0 < 2200 → x.weak + o.elapsed < 100 → y.codeLock = x.codeLock) ∧
         (o.cn0 < 2200 → 100 ≤ x.weak + o.elapsed → y.codeLock = false ∧ y.phaseLock = false) ∧
         (x.codeLock = true → y.codeLock = false → y.phase = 4 ∧ y.age = 0 ∧ y.lost = some (x.codeRate, x.carrierRate, x.sample)) ∧
         (o.indicator < 600 → y.phaseLock = false) ∧
         (800 ≤ o.indicator → 200 ≤ x.high + o.elapsed → 2200 ≤ o.cn0 → y.phaseLock = true ∧ (x.phaseLock = false → y.restarted = true)) ∧
         (y.codeLock = x.codeLock → x.phase = 1 → y.phase = if o.freqError < 100 then 2 else 1)) ∧
        (l5 = false → x.phaseLock = false → 800 ≤ o.indicator → 200 ≤ x.high + o.elapsed → 2200 ≤ o.cn0 →
          ∀ v : SatView, (s.channel c).sat = some v → v.l5 = true → (s.channel c).l5.phase = 0 → (s.channel c).l5.tries = 0 →
          (t.channel c).l5.phase = 1 ∧ (t.channel c).l5.tries = 1 ∧
          (t.channel c).l5.carrierRate = BitVec.ofInt 48 (roundDiv (x.carrierRate.toInt * 115) 154)))) ∧
    (∀ (c : Nat) (l5 : Bool) (v : SatView), c < 80 → ((s.channel c).tracker l5).phase = 4 → (s.channel c).sat = some v →
      (10000 ≤ ((s.channel c).tracker l5).age → ∃ t, exec (.reacquisitionGiveUp c l5) s = .next t ∧
        t.channel c = { late := (s.channel c).late } ∧
        (t.gnss.searches.any (SearchReq.same { sat := v, portB := (s.channel c).portB }) = true ∨
          t.gnss.units.any (fun e => SearchReq.same { sat := v, portB := (s.channel c).portB } e.2.req) = true)) ∧
      (((s.channel c).tracker l5).age < 10000 → exec (.reacquisitionGiveUp c l5) s = .next { s with out := [] })) ∧
    (∀ c : Nat, c < 80 → (s.channel c).l5.codeLock = false → ((s.channel c).l5.phase = 1 ∨ (s.channel c).l5.phase = 2) →
      (200 ≤ (s.channel c).l5.age → ∃ t, exec (.l5HandoverTimeout c) s = .next t ∧
        t.channel c = { s.channel c with l5 := { tries := (s.channel c).l5.tries, age := (s.channel c).l5.age } } ∧
        (3 ≤ (s.channel c).l5.tries → ∀ v : SatView, (s.channel c).sat = some v →
          t.reported 0x0206 1 7 0xFF (le 1 c ++ le 1 v.system ++ le 1 v.prn))) ∧
      ((s.channel c).l5.age < 200 → exec (.l5HandoverTimeout c) s = .next { s with out := [] })) ∧
    (∀ u : Nat, u < 4 → tfind s.gnss.units u = none → (∀ k < u, tfind s.gnss.units k ≠ none) → s.gnss.searches ≠ [] →
      ∃ t, exec .acquisitionSearchStart s = .next t ∧ ∃ r ∈ s.gnss.searches, (∀ q ∈ s.gnss.searches, r.key ≤ q.key) ∧
        let signal := s.signalCode r.sat.system r.l5
        let mode := s.searchMode r.sat
        ∀ (b : Nat) (fresh : Bool), s.gnss.buffer r signal mode = some (b, fresh) →
          t.gnss.searches = s.gnss.searches.filter (fun q => !r.same q) ∧ t.gnss.mode = mode ∧
          tfind t.gnss.units u = some { req := r, mode := mode, bins := dopplerBins mode signal, blocks := dwellBlocks mode signal,
                                        cells := codeBins mode signal, buffer := b }) ∧
    ((∀ u < 4, tfind s.gnss.units u ≠ none) ∨ s.gnss.searches = [] → exec .acquisitionSearchStart s = .next { s with out := [] }) ∧
    (∀ (u c : Nat) (q : Search), tfind s.gnss.units u = some q → s.channelOf q.req.sat q.req.portB = some c →
      let signal := s.signalCode q.req.sat.system q.req.l5
      (∀ d : Detection, ∃ t, exec (.acquisitionSearchDone { unit := u, found := some d }) s = .next t ∧ tfind t.gnss.units u = none ∧
        let y : Tracker :=
          { phase := 1, code := ({} : CodeNco).advance (codeLength signal) d.codePhase, carrierRate := BitVec.ofInt 48 d.carrierRate
            codeRate := BitVec.ofInt 48 (codeRateOf signal d.carrierRate), sample := sampleAt (s.clock.tb3 + s.clock.offset)
            loop := s.loopSet, tow := if 1 ≤ q.mode then some d.epoch else none, half := signal = 0 }
        (q.req.l5 = false → t.channel c =
          { s.channel c with l1 := y, l5 := if 3 ≤ (s.channel c).l5.tries then (s.channel c).l5 else {} }) ∧
        (q.req.l5 = true → t.channel c = { s.channel c with l5 := y })) ∧
      (∃ t, exec (.acquisitionSearchDone { unit := u, found := none }) s = .next t ∧ tfind t.gnss.units u = none ∧
        (t.gnss.searches.any q.req.same = true ∨ t.gnss.units.any (fun e => q.req.same e.2.req) = true)))

/-- From R74 to R81, R87 to R91, R100, in part: the observables of the latched tick arrive in time and stand in the reference, TB0 is measured
against the tick, and no valid position means no positioning; observables that are late leave a gap; a survey starts and a running one is
aborted unless a lane moves, and a result held for adoption stays held. Choices of the model in it: log entries 4, 95, 96, 139. -/
def Obligations.ObservablesAndSurvey : Prop :=
  ∀ s : State, s.power.phase = .running →
    (∀ (o : ObsOut) (k : Latch), s.gnss.latched = some k → ∃ t, exec (.observablesReady o) s = .next t ∧
      t.gnss.latched = none ∧ t.gnss.gap = false ∧ t.reference.clocks = o.clocks ∧
      t.reference.clock = (o.clocks.find? (fun e => e.1 = 0)).map (fun e => roundDiv (e.2 * 100000) lightSpeed) ∧ t.reference.tb0 = o.tb0 ∧
      (t.base 0).offset = s.converted 0 (o.tb0 - s.cfg 0x2101 8) ∧
      (s.reference.valid = true → t.reference.rms = o.rms) ∧
      (s.reference.valid = false → t.reference.positioning = false ∧ t.reference.correction = 0)) ∧
    (∀ o : ObsOut, s.gnss.latched = none → exec (.observablesReady o) s = .next { s with out := [] }) ∧
    (∀ k : Latch, s.gnss.latched = some k → ∃ t, exec .observablesLate s = .next t ∧
      t.gnss = { s.gnss with latched := none, gap := true } ∧ t.reference = s.reference) ∧
    (s.gnss.latched = none → exec .observablesLate s = .next { s with out := [] }) ∧
    (∀ r : Req, s.grants r 0x2307 5 (le 1 1) →
      (s.notMoving = true → ∃ t, exec (.surveyCommandStart r) s = .next t ∧ t.says r (.done []) ∧
        t.reference = { s.reference with running := true, elapsed := 0, surveySigma := 0xFFFF, sums := (0, 0, 0), weight := 0,
                                         surveyMode := if s.cfg 0x2306 1 = 2 then 2 else 1,
                                         state := if s.reference.valid then s.reference.state else 1 }) ∧
      (s.notMoving = false → ∃ t, exec (.surveyCommandStart r) s = .next t ∧ t.says r (.refused 0x08000022 0) ∧
        t.reference = s.reference)) ∧
    (∀ r : Req, s.grants r 0x2307 5 (le 1 0) →
      (s.notMoving = true → ∃ t, exec (.surveyCommandAbort r) s = .next t ∧ t.says r (.done []) ∧
        t.reference = if s.reference.running then
            { s.reference with running := false, state := if s.reference.valid then s.reference.state else 0 } else s.reference) ∧
      (s.notMoving = false → ∃ t, exec (.surveyCommandAbort r) s = .next t ∧ t.says r (.refused 0x08000022 0) ∧
        t.reference = s.reference))

/-- From R349 to R351, in part: a PTP port takes only messages of its domain and transport; a client follows the best master heard, measures its
base at a complete Sync and its path delay at the Delay_Resp to its own request; a master answers and sends with rising sequence numbers,
and yields to a better one; without Announce a client listens again and a passive master serves. Choices of the model in it: log entries 90,
92, 109. -/
def Obligations.PtpPortsServe : Prop :=
  ∀ (s : State) (k : Nat), s.power.phase = .running → k < 2 →
    (∀ m : PtpMsg, (s.ptpRole k = 0 ∨ m.domain ≠ s.cfgNat (0x2103 + k) 2 ∨ m.transport ≠ s.cfgNat (0x2103 + k) 3) → exec (.ptpMessageReceive k m) s = .next { s with out := [] }) ∧
    (∀ m : PtpMsg, m.domain = s.cfgNat (0x2103 + k) 2 → m.transport = s.cfgNat (0x2103 + k) 3 → s.ptpRole k = 1 ∨ s.ptpRole k = 2 →
      let p := s.ptpPort k
      let stamp := m.stamp - s.cfg (0x2103 + k) 9
      let known := m.kind = 0 ∧ p.master.map (fun x => x.1) = some m.source
      (m.kind = 4 → p.master = none → ∃ t, exec (.ptpMessageReceive k m) s = .next t ∧
        (t.ptpPort k).master = some (m.source, m.priority1, m.clockClass, m.accuracy, m.priority2, m.steps) ∧ (t.ptpPort k).state = 8 ∧
        (t.ptpPort k).announceAge = 0) ∧
      (known → m.twoStep = true → ∃ t, exec (.ptpMessageReceive k m) s = .next t ∧ t.ptpPort k = { p with sync := some (m.source, m.sequence, stamp) }) ∧
      (known → m.twoStep = false → ∃ t, exec (.ptpMessageReceive k m) s = .next t ∧
        t.ptpPort k = { p with t1 := m.origin, t2 := stamp, sync := none, syncAge := 0, state := 9,
                               offset := stamp - m.origin - p.delay - s.cfg (0x2103 + k) 0x0B } ∧
        (t.base (s.ptpRole k)).offset = s.converted (s.ptpRole k) (-(stamp - m.origin - p.delay - s.cfg (0x2103 + k) 0x0B))) ∧
      (∀ t2 : Int, m.kind = 1 → p.sync = some (m.source, m.sequence, t2) → ∃ t, exec (.ptpMessageReceive k m) s = .next t ∧
        (t.ptpPort k).offset = t2 - m.origin - p.delay - s.cfg (0x2103 + k) 0x0B ∧ (t.ptpPort k).state = 9 ∧ (t.ptpPort k).sync = none) ∧
      (∀ t3 : Int, m.kind = 3 → p.master.map (fun x => x.1) = some m.source → p.t3 = some (m.sequence, t3) → m.requester = s.address →
        ∃ t, exec (.ptpMessageReceive k m) s = .next t ∧
          t.ptpPort k = { p with delay := roundDiv ((p.t2 - t3) + (m.origin - p.t1)) 2, t3 := none })) ∧
    (∀ m : PtpMsg, m.domain = s.cfgNat (0x2103 + k) 2 → m.transport = s.cfgNat (0x2103 + k) 3 → s.ptpRole k = 3 → (s.ptpPort k).state = 6 →
      (m.kind = 2 → ∃ t, exec (.ptpMessageReceive k m) s = .next t ∧
        t.out = [.ptp k { s.ptpSent k 3 m.sequence (m.stamp - s.cfg (0x2103 + k) 9 + ptpLead) with requester := m.source }]) ∧
      (m.kind = 4 → betterMaster (m.source, m.priority1, m.clockClass, m.accuracy, m.priority2, m.steps)
          (s.address, s.cfgNat (0x2103 + k) 0x0C, s.grandmaster.1, s.grandmaster.2.1, s.cfgNat (0x2103 + k) 0x0D, 0) = true →
        ∃ t, exec (.ptpMessageReceive k m) s = .next t ∧ (t.ptpPort k).state = 7)) ∧
    (s.ptpRole k = 3 → (s.ptpPort k).state = 6 →
      (∃ t, exec (.ptpMessageInterval k 4) s = .next t ∧ (t.ptpPort k).sequence = ((s.ptpPort k).sequence + 1) % 65536 ∧
        t.out = [.ptp k (s.ptpSent k 4 (s.ptpPort k).sequence (s.ptpEgress k))]) ∧
      (∃ t, exec (.ptpMessageInterval k 0) s = .next t ∧ (t.ptpPort k).sequence = ((s.ptpPort k).sequence + 1) % 65536 ∧
        Output.ptp k (s.ptpSent k 0 (s.ptpPort k).sequence (s.ptpEgress k)) ∈ t.out ∧
        (s.cfgNat (0x2103 + k) 4 = 0 →
          Output.ptp k (s.ptpSent k 1 (s.ptpPort k).sequence (s.ptpEgress k)) ∈ t.out))) ∧
    (s.ptpRole k = 1 ∨ s.ptpRole k = 2 → (s.ptpPort k).state = 9 → ∃ t, exec (.ptpMessageInterval k 2) s = .next t ∧
      t.ptpPort k = { s.ptpPort k with
        sequence := ((s.ptpPort k).sequence + 1) % 65536, t3 := some ((s.ptpPort k).sequence, s.now + s.cfg (0x2103 + k) 0x0A) } ∧
      Output.ptp k (s.ptpSent k 2 (s.ptpPort k).sequence (s.ptpEgress k)) ∈ t.out) ∧
    (s.ptpRole k ≠ 0 →
      (s.cfgNat (0x2103 + k) 8 * intervalTicks16 (s.cfg (0x2103 + k) 7) ≤ 16 * (s.ptpPort k).announceAge →
        ∃ t, exec (.announceReceiptTimeout k) s = .next t ∧
          t.ptpPort k = { s.ptpPort k with master := none, sync := none, t3 := none, announceAge := 0,
                                           state := if s.ptpRole k = 3 then 6 else 4 }) ∧
      (16 * (s.ptpPort k).announceAge < s.cfgNat (0x2103 + k) 8 * intervalTicks16 (s.cfg (0x2103 + k) 7) →
        exec (.announceReceiptTimeout k) s = .next { s with out := [] }))

/-- From R347, R360 to R363, in part: the return to TB1 is ordered, and counts only while TB2 disciplines; a PPS edge goes out at a whole second
of a base that has been locked, 500 ms or more after the last; an edge that comes in gives its offset from the nearest second, or is
rejected beyond 1 ms; the PPS output is enabled unless the trigger output has its ball. Choices of the model in it: log entry 90. -/
def Obligations.PpsAndReturn : Prop :=
  ∀ s : State, s.power.phase = .running →
    (∀ r : Req, s.grants r 0x2101 9 (le 1 1) → ∃ t, exec (.returnToTb1 r 1) s = .next t ∧ t.says r (.done []) ∧
      t.time = { s.time with goTb1 := decide (s.time.discipline = 2) }) ∧
    (∀ instant : Int,
      let b := s.cfgNat 0x2105 2
      let ready := b = 3 ∨ (b = 255 ∧ s.clock.provisional = false) ∨ (b < 3 ∧ (s.base b).ever = true)
      let clear := ∀ x, s.time.ppsLast = some x → 500000000 ≤ instant - x
      let whole := s.secondPart b (instant + s.cfg 0x2105 4) = 0
      (s.cfgOn 0x2105 1 = true → ready → clear → whole → ∃ t, exec (.ppsOutEdge instant) s = .next t ∧
        t.time = { s.time with ppsLast := some instant } ∧ t.out = [.pulse .ppsOut (s.cfgNat 0x2105 3 * 1000000)]) ∧
      (s.cfgOn 0x2105 1 = false ∨ ¬ ready ∨ ¬ clear ∨ ¬ whole → exec (.ppsOutEdge instant) s = .next { s with out := [] })) ∧
    (∀ second offset : Int, s.cfgOn 0x2105 5 = true → -500000000 ≤ offset → offset < 500000000 →
      ∃ t, exec (.ppsInEdge (second * 1000000000 + offset)) s = .next t ∧
        t.time = (if 1000000 < offset.natAbs then { s.time with ppsRejected := s.time.ppsRejected + 1, ppsIn := false }
          else { s.time with ppsOffset := offset, ppsIn := true })) ∧
    (∀ instant : Int, s.cfgOn 0x2105 5 = false → exec (.ppsInEdge instant) s = .next { s with out := [] }) ∧
    (∀ (r : Req) (v : Nat), s.grants r 0x2105 1 (le 1 v) →
      (v = 1 → s.cfgAccepted 0x2A00 4 = 1 → ∃ t, exec (.ppsOutEnable r v) s = .next t ∧ t.says r (.refused 0x0F000002 0) ∧
        t.settings = s.settings) ∧
      (v = 0 ∨ s.cfgAccepted 0x2A00 4 ≠ 1 → s.storeFull [numberItem (key 0x2105 1) v] = false →
        ∃ t, exec (.ppsOutEnable r v) s = .next t ∧ t.says r (.done []) ∧
          t.settings = s.settings.put (numberItem (key 0x2105 1) v)))

/-- From R348, R419 to R425, R429, in part: how a pair finds and hears its partner: START opens the link and derives its key, a HEARTBEAT of an
active renews the right of way and is answered, pulse and beacon are heard, and a higher pair epoch on the air takes the right of way away.
Choices of the model in it: log entries 57, 58, 104, 137. -/
def Obligations.PairHearsPartner : Prop :=
  ∀ s : State, s.power.phase = .running → s.halt.silent = false →
    (s.paired = true → ∃ t, exec .linkStart s = .next t ∧
      t.pair = { s.pair with linkUp := false, startSent := true, ownNonce := le 16 (Config.free s.free), partnerStarted := false,
                             sendSeq := 0, receiveSeq := 0, exchange := none } ∧
      t.out = [.link 0 (.start (le 16 (Config.free s.free)) s.chain.address Config.serial Config.mirrorLow Config.mirrorHigh)]) ∧
    (∀ (nonce : Bytes) (serial : U64) (low high : Nat), s.paired = true → ¬ (s.pair.linkUp = true ∧ nonce = s.pair.partnerNonce) →
      ∃ t, exec (.start nonce s.partnerAddress serial low high) s = .next t ∧ t.pair.linkUp = true ∧ t.pair.startSent = true ∧
        t.pair.partnerNonce = nonce ∧ t.pair.partner = s.partnerAddress ∧ t.pair.partnerSerial = serial ∧
        t.pair.version = sharedVersion low high ∧ t.pair.sendSeq = 0 ∧ t.pair.receiveSeq = 0 ∧ t.keys.pairPort = true ∧
        (sharedVersion low high = none →
          t.reported 0x1405 1 4 0xFF (le 2 Config.mirrorLow ++ le 2 Config.mirrorHigh ++ le 2 low ++ le 2 high))) ∧
    (∀ (h : LinkHead) (role : Nat) (firmware : U32) (version : Nat) (sent echo : Int) (resync : Bool), s.hears h →
      ∃ t, exec (.heartbeat h role { firmware := firmware, version := version } { sent := sent, echo := echo } resync) s = .next t ∧ t.pair.partnerRole = role ∧
        t.pair.partnerFirmware = firmware ∧ t.pair.partnerVersion = version ∧ t.pair.receiveSeq = h.seq + 1 ∧
        (role = 1 ∨ role = 4 → t.pair.linkHeard = true ∧
          (s.isStandby = true → ∃ arrived : Int,
            Output.link s.pair.sendSeq (.heartbeat s.pair.role (BitVec.ofInt 32 s.firmware)
              (s.pair.version.getD 0) arrived arrived (s.pair.role = 3)) ∈ t.out ∧
            (h.tick = s.clock.tick → arrived = (s.stamped h.stamp).now ∧
              t.pair.exchange = some (sent, arrived, arrived) ∧
              (∀ u1 u2 u3 : Int, s.pair.exchange = some (u1, u2, u3) →
                t.pair.adjust = arrived - sent - roundDiv ((u2 - u1) + (echo - u3)) 2)))) ∧
        (role ≠ 1 → role ≠ 4 → t.pair.linkHeard = s.pair.linkHeard ∧ t.pair.resyncAsked = resync)) ∧
    (∀ (width : Nat) (offset : Int) (stamp : Nat), pulseIs width 50 = true → offset.natAbs ≤ 100 →
      exec (.pairPulseEdge { widthUs := width, offsetUs := offset } stamp) s = .next { s.stamped stamp with
        pair := { s.pair with pulseHeard := true, adjust := if s.isStandby ∧ 0 < s.pair.linkSilent then offset * 1000 else s.pair.adjust }
        out := [] }) ∧
    (∀ stamp : Nat, exec (.ownPairBeaconReceive { verge := none, epoch := s.pair.epoch, authentic := true } stamp) s = .next { s.stamped stamp with pair := { s.pair with airHeard := true }, out := [] }) ∧
    (∀ (verge : Option Bytes) (stamp : Nat), (s.vergeHeard verge).1 = false →
      ∃ t, exec (.ownPairBeaconReceive { verge := verge, epoch := s.pair.epoch, authentic := true } stamp) s = .next t ∧ t.pair = s.pair) ∧
    (∀ (verge : Option Bytes) (epoch : U16) (stamp : Nat), (s.vergeHeard verge).1 = true → epochAbove epoch s.pair.epoch = true →
      s.isActive = true →
      ∃ t, exec (.ownPairBeaconReceive { verge := verge, epoch := epoch, authentic := true } stamp) s = .next t ∧ t.pair.role = 3 ∧ t.pair.epoch = s.pair.epoch ∧
        Output.cutOff ∈ t.out ∧ t.reported 0x1404 1 7 0xFF (le 2 epoch.toNat))

/-- From R424, R431, R434, R436, in part: who takes the right of way: a synchronised standby that hears nothing for 8 ticks, a starting unit
that hears no active for its time; each raises the pair epoch and leaves no plan it cannot vouch for. A planned handover is asked for and
announced. Choices of the model in it: log entry 60. -/
def Obligations.RightOfWayTaken : Prop :=
  ∀ s : State, s.power.phase = .running → s.halt.silent = false →
    (s.pair.role = 2 → s.allSilent 8 = true → s.heardNow = false → s.clock.slice = 0 →
      ∃ t, exec .takeover s = .next t ∧ t.pair.role = 4 ∧ t.pair.epoch = s.pair.epoch + 1 ∧
        t.pair.takeovers = s.pair.takeovers + 1 ∧ t.due = [] ∧ t.checkpoint.queue = [] ∧ t.checkpoint.running = [] ∧
        t.air.broadcast = 0 ∧ t.reported 0x1408 0 0 0xFF (le 2 (s.pair.epoch + 1).toNat)) ∧
    (s.pair.role = 3 → (if s.chain.address % 2 = 1 then 50 else 8) ≤ s.pair.waited →
      s.allSilent (if s.chain.address % 2 = 1 then 50 else 8) = true → s.heardNow = false →
      ∃ t, exec .pairStartupTimeout s = .next t ∧ t.pair.role = 4 ∧ t.due = [] ∧
        t.pair.epoch = (if epochAbove s.pair.partnerEpoch s.pair.epoch then s.pair.partnerEpoch else s.pair.epoch) + 1) ∧
    (∀ (h : LinkHead) (boundary : U32), s.hears h → s.pair.role = 2 →
      ∃ t, exec (.planned h boundary) s = .next t ∧ t.pair.plannedIn = some boundary) ∧
    (∀ r : Req, s.grants r 0x2601 6 (le 1 1) → s.pair.role = 1 → s.pair.partnerRole = 2 → s.pair.plannedReq = none →
      ∃ t, exec (.plannedHandover r 1) s = .next t ∧ t.says r .pending ∧ t.pair = { s.pair with plannedReq := some r })

/-- From R35, R169, R211, R218, R426 to R428, R435, in part: the mirror: the active sends its DELTA at 16.0 ms and counts an acknowledgement in
time; a standby gathers the parts of a DELTA and answers the last, takes inputs under the active's plan IDs, holds the active's halt records
from receipt, and takes a snapshot while it rejoins. Choices of the model in it: log entries 55, 58, 59, 117. -/
def Obligations.MirrorBeforeAir : Prop :=
  ∀ s : State, s.power.phase = .running →
    (s.isActive = true → s.pair.linkUp = true → s.halt.silent = false → s.pair.version ≠ none →
      ∃ t, exec .mirrorDeltaStart s = .next t ∧ t.pair.deltaSent = some s.clock.tick ∧ t.pair.ackResult = none ∧
        (∀ d ∈ t.due, d.carried = true) ∧ ∃ n facts, Output.link n (.delta s.clock.tick 0 facts [] false) ∈ t.out) ∧
    (∀ (h : LinkHead) (result checked : Nat), s.hears h → s.isActive = true → s.pair.deltaSent = some s.clock.tick →
      s.pair.ackResult = none →
      ∃ t, exec (.pairAckReceive h s.clock.tick result checked) s = .next t ∧
        t.pair.ackResult = if h.stamp ≤ 20000000 then some result else none) ∧
    (∀ (h : LinkHead) (part : Nat) (facts : List Fact) (commits : List CommitRecord) (last : Bool), s.hears h → s.isStandby = true →
      ∃ t, exec (.delta h { index := part, last := last } facts commits) s = .next t ∧ t.pair.facts = s.pair.facts ++ facts ∧
        t.pair.commits = s.pair.commits ++ commits ∧ (last = true → t.pair.complete = true ∧
          ∃ k, t.pair.answered = some k ∧ Output.link s.pair.sendSeq (.ack h.tick k (s.pair.commits ++ commits).length) ∈ t.out ∧
            (s.pair.gap = true → k = 3) ∧
            (s.pair.gap = false → (∃ c ∈ s.pair.commits ++ commits, c.compOk = false) → k = 2) ∧
            (s.pair.gap = false → s.pair.commits ++ commits = [] → k = if s.pair.broken || decide (part ≠ s.pair.parts) then 4 else 0))) ∧
    (∀ (h : LinkHead) (source stamp lane : Nat) (plan : U32), s.hears h → s.isStandby = true → source ≤ 3 →
      s.queuedPlans.length < 256 →
      ∃ t, exec (.input h source stamp (.command lane 1 plan)) s = .next t ∧ t.ledger.nextPlan = plan + 1 ∧
        ∃ p, t.ledger.plans.getLast? = some p ∧ p.id = plan ∧ p.lane = lane ∧ p.what = .hold false) ∧
    (∀ (h : LinkHead) (site cell haltId sources : U16) (lanes ids : List (Nat × U16)) (decisions : List RemoteDecision),
      s.hears h → s.isStandby = true →
      ∃ t, exec (.halt h site cell lanes haltId ids sources decisions) s = .next t ∧
        t.halt.site = (if (codeOf site).isSome then site else s.halt.site) ∧ t.halt.cell = (if (codeOf cell).isSome then cell else s.halt.cell) ∧
        t.halt.haltId = haltId ∧ (sources.getLsbD 2 = true → t.halt.partnerCell = true) ∧
        (sources.getLsbD 3 = true → t.halt.partnerSite = true)) ∧
    (∀ (h : LinkHead) (facts : List Fact) (generation : U32), s.hears h → s.pair.role = 3 →
      ∃ t, exec (.transfer h facts generation true) s = .next t ∧ t.pair.restored = true)

/-- From R171, R173, R174, R178, R444, R465, in part: regions, permits: a listed neighbour's region is taken and its terms compared; a request
enters the window as the plan of a lane to be reserved, or is refused out of hand; a grant in time counts, a refusal ends the wait. Choices
of the model in it: log entries 25, 73. -/
def Obligations.PermitsAskedAndGiven : Prop :=
  ∀ (s : State) (pair : Nat), s.power.phase = .running → s.onCells = true →
    (∀ (v : List (Int × Int)) (horizon numbering : Nat), pair ∈ s.neighbourPairs →
      ∃ t, exec (.region pair v horizon numbering) s = .next t ∧ (t.neighbour pair).vertices = v ∧ (t.neighbour pair).known = true ∧
        (horizon = s.horizon → (numbering : Int) = s.cfgNat 0x2101 1 → (t.neighbour pair).mismatch = false ∧
          ((s.neighbour pair).mismatch = true → t.reported 0x0508 3 4 0xFF (le 1 pair))) ∧
        (¬ (horizon = s.horizon ∧ (numbering : Int) = s.cfgNat 0x2101 1) → (t.neighbour pair).mismatch = true ∧
          t.reported 0x0507 2 4 0xFF (le 1 pair ++ le 2 horizon ++ le 1 numbering))) ∧
    (∀ (plan : U32) (lane : Nat) (epoch : U16) (border handover commit : U32) (run : EnvelopeRun) (stamp : Nat),
      ∃ t, exec (.permitRequest { pair := pair, plan := plan } { lane := lane, epoch := epoch } border handover commit run stamp) s = .next t ∧
        (pair ∈ s.neighbourPairs → (s.neighbour pair).mismatch = false → s.keys.pendingState ≠ 3 → s.power.deviceState = 2 →
          t.ledger.nextPlan = s.ledger.nextPlan + 1 ∧ ∃ p, t.ledger.plans = s.ledger.plans ++ [p] ∧ p.id = s.ledger.nextPlan ∧
            p.what = .permit pair plan lane border handover commit ∧ p.submit = (s.stamped stamp).window ∧ p.first = run.first ∧
            p.envelopes = run.list ∧ p.profiled = true ∧ p.result = none) ∧
        ((pair ∉ s.neighbourPairs ∨ (s.neighbour pair).mismatch = true ∨ s.keys.pendingState = 3 ∨ s.power.deviceState ≠ 2) →
          t.ledger = s.ledger ∧ (s.pair.role = 0 ∨ s.pair.role = 1 ∨ s.pair.role = 4 →
            Output.cell pair (.refusal plan (s.permitRefused plan)) ∈ t.out))) ∧
    (∀ (plan : U32) (lane : Nat) (set : Bytes) (stamp : Nat) (p : Plan), s.askedBy pair plan = some p → p.expired = false →
      ∃ t, exec (.grant pair plan lane set stamp) s = .next t ∧
        (s.byCutoff (p.submit + 1 + BitVec.ofNat 32 s.permitWait) stamp = true → t.ledger.granted = s.ledger.granted + 1 ∧
          t.ledger.plans = s.ledger.plans.map (fun q => if q.what.ofLane && q.id = plan then
            { q with crossing := q.crossing.map (fun c => { c with granted := true, guestLane := lane, keySet := set }) } else q)) ∧
        (s.byCutoff (p.submit + 1 + BitVec.ofNat 32 s.permitWait) stamp = false → t.ledger = s.ledger)) ∧
    (∀ (plan : U32) (record : ResultRecord) (stamp : Nat), s.handingLane pair plan = none → ∀ p, s.askedBy pair plan = some p → p.expired = false →
      ∃ t, exec (.refusal { pair := pair, plan := plan } record stamp) s = .next t ∧ t.ledger.refused = s.ledger.refused + 1 ∧
        t.ledger.plans = s.ledger.plans.map (fun q => if q.what.ofLane && q.id = plan then
          { q with crossing := q.crossing.map (fun c => { c with granted := false }), expired := q.awaiting } else q)) ∧
    (∀ (plan : U32) (record : ResultRecord) (stamp n : Nat), s.handingLane pair plan = some n →
      ∃ t, exec (.refusal { pair := pair, plan := plan } record stamp) s = .next t ∧ t.due = s.due ++ [{ lane := n, what := .handoverRefused }])

/-- From R10, R175, R442, R446, R447, R449, in part: a guest becomes final with its commit notice in time and ends at the boundary after a
withdrawal; a HANDOVER of a final guest in its tick is taken, any other is refused and drops the guest, and one whose lane state is no state
is never used; CONFIRM waits for the boundary, RELEASED ends its repetition. Choices of the model in it: log entries 61, 74, 118, 119. -/
def Obligations.GuestsAndHandover : Prop :=
  ∀ (s : State) (pair : Nat), s.power.phase = .running → s.onCells = true →
    (∀ (plan : U32) (start : Pose) (legs : List Leg) (stretches : List Stretch) (stamp n : Nat) (g : Guest),
      s.guestOf pair plan = some (n, g) →
      ∃ t, exec (.commitNotice pair plan start legs stretches stamp) s = .next t ∧
        (s.byCutoff g.commit stamp = true → g.withdrawn = false →
          tfind t.guests n = some { g with final := true, start := start, legs := legs, stretches := stretches }) ∧
        (s.byCutoff g.commit stamp = false → t.guests = s.guests)) ∧
    (∀ (plan : U32) (stamp n : Nat) (g : Guest), s.guestOf pair plan = some (n, g) →
      ∃ t, exec (.withdrawal { pair := pair, plan := plan } stamp) s = .next t ∧
        ∀ h, tfind s.guests n = some h → tfind t.guests n = some { h with withdrawn := true }) ∧
    (∀ (plan : U32) (stamp : Nat), s.guestOf pair plan = none → ∀ n, s.heldLane pair plan = some n →
      ∃ t, exec (.withdrawal { pair := pair, plan := plan } stamp) s = .next t ∧ t.reported 0x140C 1 7 n (le 4 plan.toNat ++ le 1 pair)) ∧
    (∀ (msg : HandoverMsg) (stamp n : Nat) (g : Guest), s.guestOf pair msg.planId = some (n, g) → tfind s.cells.arriving n = none →
      handedState msg ≠ none →
      ∃ t, exec (.handover pair msg stamp) s = .next t ∧
        (g.final = true → g.withdrawn = false → s.clock.tick = g.handover → stamp ≤ 17000000 → msg.setAcked = true →
          tfind t.cells.arriving n = some msg ∧ t.guests = s.guests) ∧
        (¬ (g.final = true ∧ g.withdrawn = false ∧ s.clock.tick = g.handover ∧ stamp ≤ 17000000 ∧ msg.setAcked = true) →
          tfind t.guests n = none ∧ (t.lane n).reserved = false ∧ (s.pair.role = 0 ∨ s.pair.role = 1 ∨ s.pair.role = 4 →
            Output.cell pair (.refusal msg.planId (s.permitRefused msg.planId)) ∈ t.out))) ∧
    (∀ (msg : HandoverMsg) (stamp : Nat), handedState msg = none →
      ∃ t, exec (.handover pair msg stamp) s = .next t ∧ t.lanes = s.lanes ∧ t.guests = s.guests ∧ t.cells = s.cells) ∧
    (∀ (plan : U32) (lane stamp n : Nat), s.handingLane pair plan = some n →
      ∃ t, exec (.confirm { pair := pair, plan := plan } lane stamp) s = .next t ∧ ∃ d ∈ t.due, d.lane = n ∧ d.what = .handoverConfirmed) ∧
    (∀ (plan : U32) (lane stamp : Nat), s.handingLane pair plan = none →
      ∃ t, exec (.confirm { pair := pair, plan := plan } lane stamp) s = .next t ∧
        ((pair, plan) ∈ s.cells.releasedPlans → (s.pair.role = 0 ∨ s.pair.role = 1 ∨ s.pair.role = 4) →
          Output.cell pair (.released plan) ∈ t.out) ∧
        ((pair, plan) ∉ s.cells.releasedPlans → plan ∈ s.cells.failedPlans →
          t.reported 0x140C 1 7 0xFF (le 4 plan.toNat ++ le 1 pair))) ∧
    (∀ plan : U32, ∃ t, exec (.released pair plan) s = .next t ∧ ∀ c ∈ t.cells.confirms, ¬ (c.1 = pair ∧ c.2.1 = plan))

/-- From R438 to R441, in part: the claim of a chain address: SEL_IN starts a QUERY; 200 ms later the lowest address not named is claimed; a
lower serial number takes it away; 100 ms unopposed the address is the unit's own, is stored, passes SEL_OUT on and boots up; a lost claim
starts again. Choices of the model in it: log entry 27. -/
def Obligations.ChainAddressClaim : Prop :=
  ∀ s : State, s.power.phase = .running →
    (s.power.svcAlt = false → s.chain.stored = 0 → s.chain.phase = 0 →
      exec .addressClaimStart s = .next { s with
        chain := { s.chain with selIn := true, phase := 1, named := [], claiming := 0 }, out := [.can 0x7C1 (le 8 Config.serial.toNat)] }) ∧
    (∀ serial : U64, s.chain.address ≠ 0 →
      ∃ t, exec (.query serial) s = .next t ∧
        Output.can 0x7C0 (le 1 s.chain.address ++ le 1 ((if s.chain.stored ≠ 0 then 1 else 0) + 0) ++ le 1 s.pair.role ++ le 1 0 ++
          le 8 Config.serial.toNat ++ le 4 (s.cfg 0x2500 1)) ∈ t.out ∧
        (s.chain.phase = 5 → serial = s.chain.rival → t.chain.phase = 4 ∧ t.access.nmt = .preOperational ∧
          Output.can (0x700 + s.chain.address) [0] ∈ t.out)) ∧
    (∀ (address role : Nat) (stored claiming : Bool) (serial : U64) (site : U32), 1 ≤ address → address ≤ 32 →
      ∃ t, exec (.announce address stored claiming role serial site) s = .next t ∧ t.chain.seen.getLsbD (address - 1) = true ∧
        (s.chain.phase = 1 ∨ s.chain.phase = 2 → t.chain.named = address :: s.chain.named) ∧
        (s.chain.phase = 2 → address = s.chain.claiming → serial < Config.serial → t.chain.phase = 3) ∧
        (s.chain.phase = 4 → stored = true → address = s.chain.stored → serial ≠ Config.serial →
          t.chain.phase = 5 ∧ t.chain.rival = serial ∧ t.access.nmt = .initialising ∧ t.reported 0x140D 2 4 0xFF (le 1 address))) ∧
    (s.chain.phase = 1 → ∃ t, exec .addressClaimTimeout s = .next t ∧
      (∀ a, lowestFree s.chain.named = some a → t.chain = { s.chain with phase := 2, claiming := a } ∧
        Output.can 0x7C0 (le 1 a ++ le 1 2 ++ le 1 s.pair.role ++ le 1 0 ++ le 8 Config.serial.toNat ++ le 4 (s.cfg 0x2500 1)) ∈ t.out) ∧
      (lowestFree s.chain.named = none → t.chain = { s.chain with phase := 6 } ∧ t.reported 0x140F 1 4 0xFF [])) ∧
    (s.chain.phase = 2 → ∃ t, exec .addressClaimConfirm s = .next t ∧ t.chain.phase = 4 ∧ t.chain.address = s.chain.claiming ∧
      t.chain.stored = s.chain.claiming ∧ (s.power.svcAlt = false → t.chain.selOut = true) ∧ t.access.nmt = .preOperational ∧
      Output.can (0x700 + s.chain.claiming) [0] ∈ t.out) ∧
    (s.chain.phase = 3 → exec .addressClaimRetry s = .next { s with
      chain := { s.chain with phase := 1, named := [], claiming := 0 }, out := [.can 0x7C1 (le 8 Config.serial.toNat)] })

/-- From R377, R392, R399, R410, R439, R440, in part: a unit whose lanes are all VACANT and whose pair is off gives its address up on command;
NMT commands set the node state, the resets end in the boot-up message; the heartbeat shows that state; a silent CAN reader loses its
stream. Choices of the model in it: log entries 28, 109. -/
def Obligations.CanNode : Prop :=
  ∀ s : State, s.power.phase = .running →
    (∀ r : Req, s.grants r 0x2600 3 (le 1 1) → s.allVacant = true → s.cfgAccepted 0x2601 1 ≠ 1 →
      ∃ t, exec (.addressCommand r 1) s = .next t ∧ t.says r (.done []) ∧ t.chain.address = 0 ∧ t.chain.stored = 0 ∧
        t.chain.phase = 0 ∧ (s.power.svcAlt = false → t.chain.selOut = false)) ∧
    (s.chain.phase = 4 →
      (∀ code n, (code, n) ∈ [(1, Nmt.operational), (2, .stopped), (128, .preOperational)] →
        exec (.nmtCommand code) s = .next { s with access := { s.access with nmt := n }, out := [] }) ∧
      (∀ code, code = 129 ∨ code = 130 → exec (.nmtCommand code) s = .next { s with
        access := { s.access with nmt := .preOperational }, out := [.can (0x700 + s.chain.address) [0]] })) ∧
    (s.access.nmt ≠ .initialising → s.cfg 0x1017 0 ≠ 0 →
      exec .canHeartbeatProduce s = .next { s with out := [.can (0x700 + s.chain.address) (le 1 (nmtByte s.access.nmt))] }) ∧
    (∀ q < 6, canReader (s.stream q).reader = true → 500 ≤ (s.stream q).idle →
      ∃ t, exec (.canReaderTimeout q) s = .next t ∧ t.stream q = { s.stream q with reader := 0, idle := 0 } ∧
        ((s.stream q).items ≠ [] → ∀ j, j ≠ q → t.stream j = s.stream j))

/-- From R333, R335, R456, R462 to R464, in part: the pending half: written wrapped under its session's key transport key into an empty store,
verified against its check value, announced for the next milestone, discarded; at the end of the window it becomes the current half and the
old one is gone. Choices of the model in it: log entries 105, 134. -/
def Obligations.PendingHalf : Prop :=
  ∀ s : State, s.power.phase = .running →
    (∀ (r : Req) (k generation : Nat) (e : Session) (reserved wrapped : Bytes) (check : U32),
      s.grants r 0x2700 5 (pendingKeyBytes generation reserved check) → reserved.length = 3 → (∀ b ∈ reserved, b = 0) →
      wrapped.length = 40 → r.origin = .vap k → tfind s.access.sessions k = some e →
      s.keys.pendingState = 0 → followsGeneration s.keys.generation generation = true →
      ∃ t, exec (.pendingKeyWrite r generation reserved wrapped check) s = .next t ∧
        (∀ key, Crypto.unwrap e.transport wrapped = some key → t.says r (.done []) ∧
          t.keys = { s.keys with pendingKey := key, storePending := key, pendingGeneration := generation, pendingCheck := check,
                                 pendingState := 1 }) ∧
        (Crypto.unwrap e.transport wrapped = none → t.says r (.refused 0x06040043 0) ∧ t.keys = s.keys)) ∧
    (∀ r : Req, s.grants r 0x2700 6 (le 1 1) → s.keys.pendingState = 1 → s.keys.verifyDue = none →
      ∃ t, exec (.keyVerify r) s = .next t ∧
        (siteCheck s.keys.pendingKey = s.keys.pendingCheck → t.says r .pending ∧
          t.keys = { s.keys with verifyDue := some r, verifySent := false }) ∧
        (siteCheck s.keys.pendingKey ≠ s.keys.pendingCheck → t.says r (.refused 0x06040043 0) ∧ t.keys.pendingState = 0 ∧
          t.keys.pendingKey = [] ∧ t.keys.storePending = [] ∧ t.keys.current = s.keys.current)) ∧
    (∀ r : Req, s.grants r 0x2700 6 (le 1 2) → s.keys.pendingState = 2 → s.keys.announceDue = none →
      ∃ t, exec (.keyAnnounce r) s = .next t ∧ t.says r .pending ∧ t.keys = { s.keys with announceDue := some r }) ∧
    (∀ r : Req, s.grants r 0x2700 6 (le 1 3) → (s.keys.pendingState = 1 ∨ s.keys.pendingState = 2) → s.keys.announceDue = none →
      ∃ t, exec (.keyDiscard r) s = .next t ∧ t.says r (.done []) ∧ t.keys.pendingState = 0 ∧ t.keys.pendingKey = [] ∧
        t.keys.storePending = [] ∧ t.keys.current = s.keys.current ∧ t.keys.generation = s.keys.generation) ∧
    (∀ tick : U32, s.keys.windowEnd = some tick → s.keys.pendingState = 3 → atOrAfter s.clock.tick tick = true →
      ∃ t, exec .rolloverWindowEnd s = .next t ∧ t.keys.current = s.keys.pendingKey ∧ t.keys.storeCurrent = s.keys.pendingKey ∧
        t.keys.generation = s.keys.pendingGeneration ∧ t.keys.pendingKey = [] ∧ t.keys.storePending = [] ∧ t.keys.pendingState = 0)

/-- From R467 to R469, R471, R472, in part: a debug certificate for this unit and start zeroises both halves and resets the part at the next
boundary; a closing one leaves security state 0; tamper and the loss of VBAT are counted and reported, and zeroise nothing. Choices of the
model in it: log entries 5, 10, 29, 134. -/
def Obligations.CertificatesAndTamper : Prop :=
  (∀ (s : State) (r : Req) (opens : Bool) (kind : Nat), s.power.phase = .running → kind = (if opens then 1 else 2) →
      s.grants r 0x2700 7 (debugBytes kind 1 Config.serial s.power.resets) → s.power.state = 1 →
      (opens = true → s.keys.security ≠ 2) → (opens = false → s.keys.security = 2 ∧ s.keys.development = false) →
      ∃ t, exec (if opens then .debugCertificateOpen r 1 Config.serial s.power.resets true
          else .debugCertificateClose r 1 Config.serial s.power.resets true) s = .next t ∧ t.says r (.done []) ∧
        t.keys.current = [] ∧ t.keys.storeCurrent = [] ∧ t.keys.pendingKey = [] ∧ t.keys.storePending = [] ∧
        t.keys.generation = 0 ∧ t.keys.security = (if opens then 2 else 0) ∧ t.keys.debugDue = some opens ∧ t.power.resetDue = true) ∧
    (∀ s : State, ∃ t, exec .tamperDetected s = .next t ∧ t.keys = { s.keys with tamper := s.keys.tamper + 1 } ∧
      (s.power.phase = .running → t.reported 0x1501 1 7 0xFF []) ∧
      (s.power.phase ≠ .running → t.power.tamperOwed = s.power.tamperOwed + 1)) ∧
    (∀ s : State, s.power.vbatPresent = true → ∃ t, exec .vbatLost s = .next t ∧ t.power.vbatPresent = false ∧ t.keys = s.keys ∧
      (s.power.phase = .running → t.reported 0x1503 1 2 0xFF []) ∧
      (s.power.phase = .standby → t.power.phase = .off ∧ t.power.rtcValid = false ∧ t.power.standbyFlag = false ∧ t.power.pwrEn = true) ∧
      (s.power.phase = .off → t.power.phase = .off ∧ t.power.rtcValid = false)) ∧
    (∀ (s : State) (n : Nat), s.power.vbatPresent = false → ∃ t, exec (.vbatRestored n) s = .next t ∧ t.power.vbatPresent = true ∧
      t.power.rtcValid = false ∧ t.keys = s.keys ∧ (s.power.phase = .running → t.reported 0x1504 0 0 0xFF (le 4 n)) ∧
      (s.power.phase ≠ .running → t.power.unobserved = some n))

/-- From R476, R479 to R483, R488 to R490, in part: a record of an image is handled by the first row that matches, and one that sets a reserved
bit is refused; the last one starts the verification, whose outcome, that of the digest, is reported; a download expires or is discarded; an
activation waits for its boundary, a confirmation too; a trial past its limit reverts. Choices of the model in it: log entries 5, 38, 134.
-/
def Obligations.ImagesDelivered : Prop :=
  ∀ s : State, s.power.phase = .running →
    (∀ (r : Req) (x : ImageRecord), s.grants r 0x2800 1 (List.replicate (32 + x.dataLen) 0) →
      ∃ t, exec (.imageChunk r x) s = .next t ∧
        (x.reserved = true → t.says r (.refused 0x06090030 0) ∧ ∃ a, t.update = { s.update with lastAnswer := a }) ∧
        (x.reserved = false → s.update.busy = true → t.says r (.refused 0x0F000008 0) ∧ ∃ a, t.update = { s.update with lastAnswer := a }) ∧
        (x.reserved = false → s.update.busy = false → x.kind = 0 →
          ¬ ((s.update.download = 1 ∨ s.update.download = 2) ∧ s.update.manifest.any (fun m => m.id = x.imageId) = true) →
          (manifestAccepted s.keys.development x = true → t.says r (.done []) ∧ t.update.download = 1 ∧ t.update.manifest = some (manifestImage x) ∧
            t.update.bits = 1 ∧ t.update.age = 0 ∧ tfind t.update.slots (1 - s.update.running) = some (manifestImage x)) ∧
          (manifestAccepted s.keys.development x = false → t.says r (.refused 0x06040043 0) ∧ ∃ a, t.update = { s.update with lastAnswer := a })) ∧
        (∀ m, x.reserved = false → s.update.busy = false → x.kind ≠ 0 → s.update.manifest = some m → (s.update.download = 1 ∨ s.update.download = 2) →
          m.id = x.imageId → 1 ≤ x.index → x.index ≤ m.count → x.dataLen = bodyLength m x.index → bit s.update.bits x.index = false →
          (x.magicOk = true ∧ x.tagOk = true → t.says r (.done []) ∧ t.update.bits = s.update.bits + 2 ^ x.index ∧
            tfind t.update.slots (1 - s.update.running) = some (s.update.target.store x.index x.data) ∧
            (t.update.verifying = true ↔ s.update.bits + 2 ^ x.index + 1 = 2 ^ (m.count + 1))) ∧
          (¬ (x.magicOk = true ∧ x.tagOk = true) → t.says r (.refused 0x06040043 0) ∧
            ∃ a, t.update = { s.update with lastAnswer := a }))) ∧
    (∀ (m : Image) (stamp : Nat), s.update.verifying = true → s.update.manifest = some m → s.update.endDue = none →
      ∃ t, exec (.downloadVerified stamp) s = .next t ∧ t.update.verifying = false ∧
        (if s.update.target.intact = true then t.update.download = 2 ∧ t.reported 0x1601 0 0 0xFF (le 8 m.id)
          else t.update.download = 4 ∧ t.update.bits = 0 ∧ t.reported 0x1602 1 7 0xFF (le 8 m.id))) ∧
    (∀ m : Image, s.update.download = 1 → s.update.manifest = some m → s.cfgNat 0x2800 4 * 86400000 ≤ s.update.age →
      ∃ t, exec .downloadExpire s = .next t ∧ t.update = { s.update.dropSlot with download := 3, bits := 0, verifying := false } ∧
        t.reported 0x1603 0 0 0xFF (le 1 1 ++ le 8 m.id)) ∧
    (∀ r : Req, s.grants r 0x2800 6 (le 1 3) →
      ∃ t, exec (.discardDownload r) s = .next t ∧ t.says r (.done []) ∧ t.update.download = 0 ∧ t.update.manifest = none ∧
        t.update.bits = 0 ∧ t.update.verifying = false ∧ t.update.slots = s.update.dropSlot.slots) ∧
    (∀ r : Req, s.grants r 0x2800 6 (le 1 1) → s.update.activateDue = none →
      ∃ t, exec (.activate r) s = .next t ∧ t.says r .pending ∧ ∃ a, t.update = { s.update with activateDue := some r, lastAnswer := a }) ∧
    (∀ r : Req, s.grants r 0x2800 6 (le 1 2) → s.update.trial = 1 →
      ∃ t, exec (.confirmTrial r) s = .next t ∧ t.says r (.done []) ∧
        ∃ a, t.update = { s.update with confirmDue := some r, lastAnswer := a }) ∧
    (s.update.trial = 1 → s.cfgNat 0x2800 7 ≤ s.update.trialSeconds → s.update.confirmDue = none →
      ∃ t, exec .trialLimitExpire s = .next t ∧ t.power.phase = .inReset ∧ t.power.cause = 2 ∧ t.update.trial = 2 ∧
        t.update.running = 1 - s.update.running ∧ t.update.download = 2)

/-- From R407, R453, R486, R487, R489, R492, R494, R495, R501, R593, R594, in part: RST_N resets everything but MRAM and the keeper domain and
releases the outputs; the straps are sampled at the release; the ROM enters recovery, retries or reverts a failed start, or hands over,
migrating settings of another firmware version; the watchdog and the start timer count a failed start and revert an image on trial. Choices
of the model in it: log entries 32 to 35. -/
def Obligations.ResetsAndStarts : Prop :=
  (∀ (s : State) (us : Nat), s.power.phase.alive = true → 10 ≤ us →
      ∃ t, exec (.rstNAssert us) s = .next t ∧ t.power.phase = .inReset ∧ t.power.cause = 1 ∧ t.lanes = [] ∧ t.routes = [] ∧
        t.keys.current = [] ∧ t.keys.pendingKey = [] ∧ t.keys.storeCurrent = s.keys.storeCurrent ∧
        t.keys.storePending = s.keys.storePending ∧ t.keys.security = s.keys.security ∧ t.update.running = s.update.running ∧
        t.update.trial = s.update.trial ∧ t.update.trialSeconds = s.update.trialSeconds ∧ t.power.rtc = s.power.rtc ∧
        t.pair.epoch = s.pair.epoch ∧ Output.pin .siteHaltN true ∈ t.out ∧ Output.pin .feedAGate true ∈ t.out ∧
        Output.pin .feedBGate true ∈ t.out) ∧
    (∀ (s : State) (recover ref alt : Bool), s.power.phase = .inReset →
      ∃ t, exec (.resetRelease recover ref alt) s = .next t ∧
        t.power = { s.power with phase := .rom, recover := !recover, refSel := ref, svcAlt := alt, resets := s.power.resets + 1 }) ∧
    (∀ (s : State) (v m : Bool), s.power.phase = .rom →
      ∃ t, exec (.romBoot v m) s = .next t ∧
        (s.power.recover = true ∨ 3 ≤ s.update.failedBoots → t.power.phase = .recovery ∧ t.keys = s.keys) ∧
        (s.power.recover = false → s.update.failedBoots < 3 →
          (v = false → t.power.phase = .inReset ∧ t.update.failedBoots = s.update.failedBoots + 1 ∧
            (s.update.trial = 1 → t.update.trial = 2 ∧ t.update.running = 1 - s.update.running)) ∧
          (v = true → s.foreignArea = false → t.power.phase = .running ∧ t.settings.inForce = s.update.area.values ∧
            t.update.running = s.update.running ∧ t.keys.storeCurrent = s.keys.storeCurrent ∧
            (siteCheck s.keys.storeCurrent = s.keys.check → t.keys.current = s.keys.storeCurrent)) ∧
          (v = true → s.foreignArea = true →
            m = true ∧ s.image.low ≤ s.update.area.schemaNo ∧ s.update.area.schemaNo ≤ s.image.high →
            t.power.phase = .running ∧ t.update.generation = s.update.generation + 1) ∧
          (v = true → s.foreignArea = true →
            ¬ (m = true ∧ s.image.low ≤ s.update.area.schemaNo ∧ s.update.area.schemaNo ≤ s.image.high) →
            t.power.phase = .inReset ∧ t.update.trial = 3 ∧ t.update.running = 1 - s.update.running ∧
            t.update.failedBoots = s.update.failedBoots))) ∧
    (∀ s : State, s.power.phase = .running →
      ∃ t, exec .watchdogReset s = .next t ∧ t.power.phase = .inReset ∧ t.power.cause = 3 ∧
        t.update.failedBoots = (if s.update.started then s.update.failedBoots else s.update.failedBoots + 1) ∧
        (s.update.trial = 1 → t.update.trial = 2 ∧ t.update.running = 1 - s.update.running) ∧
        (s.update.trial ≠ 1 → t.update.trial = s.update.trial ∧ t.update.running = s.update.running)) ∧
    (∀ s : State, s.power.phase = .running → s.update.started = false →
      ∃ t, exec .startTimerExpire s = .next t ∧ t.power.phase = .inReset ∧ t.update.failedBoots = s.update.failedBoots + 1 ∧
        (s.update.trial = 1 → t.update.trial = 2 ∧ t.update.running = 1 - s.update.running))

/-- From R498 to R500, R505, in part: the service port, in a running image and in recovery: a frame whose CRC fails is discarded; a request with
the sequence of the last one is answered from store; the others have the effect and the reply of the table. Choices of the model in it: log
entries 39, 120. -/
def Obligations.ServicePort : Prop :=
  ∀ (s : State) (f : ServiceHead), (s.power.phase = .running ∨ s.power.phase = .recovery) → s.panel.plug = true →
    (¬ frameHolds f 0x13 [] → exec (.status f) s = .next { s with out := [] }) ∧
    (frameHolds f 0x13 [] → s.update.lastSeq = some f.seq → ∀ b, s.update.lastReply = some b →
      exec (.status f) s = .next { s with out := [.service b] }) ∧
    (s.update.lastSeq ≠ some f.seq →
      (frameHolds f 0x01 [] → ∃ t, exec (.identify f) s = .next t ∧
        Output.service (replyFrame f.seq 0x01 0 (ascii "VL-4192" ++ [0] ++ le 8 Config.serial.toNat ++ le 1 Config.stepping ++
          le 1 (if s.power.phase = .recovery then 1 else 0) ++ le 4 s.firmware ++ le 4 (s.slotVersion 0) ++ le 4 (s.slotVersion 1) ++
          le 1 s.update.download ++ le 1 s.update.trial ++ le 1 s.update.failedBoots ++ le 1 s.power.feedA.state ++
          le 1 s.power.feedB.state)) ∈ t.out) ∧
      (∀ length : Nat, frameHolds f 0x10 (le 4 length) → ∃ t, exec (.imageBegin f length) s = .next t ∧ t.update.receiving = true ∧
        t.update.offset = 0 ∧ t.update.total = length ∧ Output.service (replyFrame f.seq 0x10 0 []) ∈ t.out) ∧
      (∀ (offset : Nat) (data : Bytes), frameHolds f 0x11 (le 4 offset ++ data) → s.update.receiving = true → data ≠ [] → data.length ≤ 1024 →
        ∃ t, exec (.imageBlock f.seq f.crc offset data) s = .next t ∧
          (offset ≠ s.update.offset → Output.service (replyFrame f.seq 0x11 0x08000020 []) ∈ t.out ∧
            t.update.offset = s.update.offset) ∧
          (offset = s.update.offset → offset + data.length ≤ s.update.total →
            let records := (recordsIn s.update.partRecord data).1
            (((s.asked f.seq).takeRecords records).2 = none → t.update.offset = offset + data.length ∧
              t.update.partRecord = (recordsIn s.update.partRecord data).2 ∧ Output.service (replyFrame f.seq 0x11 0 []) ∈ t.out) ∧
            (∀ c : Nat, ((s.asked f.seq).takeRecords records).2 = some c → Output.service (replyFrame f.seq 0x11 c []) ∈ t.out))) ∧
      (frameHolds f 0x12 (le 1 0) → ∃ t, exec (.imageEnd f 0) s = .next t ∧ t.update.receiving = false ∧
        (s.update.verifying = false → Output.service (replyFrame f.seq 0x12 0 (le 1 s.update.download)) ∈ t.out) ∧
        (s.update.verifying = true → t.update.endDue = some (f.seq, 0))) ∧
      (frameHolds f 0x13 [] → ∃ t, exec (.status f) s = .next t ∧
        (∀ m, s.update.manifest = some m → Output.service (replyFrame f.seq 0x13 0
          (le 1 s.update.download ++ le 2 ((m.count + 8) / 8) ++ le 2 (bitsSet s.update.bits (m.count + 1)))) ∈ t.out) ∧
        (s.update.manifest = none →
          Output.service (replyFrame f.seq 0x13 0 (le 1 s.update.download ++ le 2 0 ++ le 2 0)) ∈ t.out)) ∧
      (frameHolds f 0x20 (le 2 0xA55A) → ∃ t, exec (.serviceReset f 0xA55A) s = .next t ∧ t.power.phase = .inReset ∧ t.power.cause = 2 ∧
        Output.service (replyFrame f.seq 0x20 0 []) ∈ t.out) ∧
      (frameHolds f 0x21 (le 2 0xA55A) → s.power.phase = .recovery → ∃ t, exec (.leaveRecovery f 0xA55A) s = .next t ∧
        t.power.phase = .inReset ∧ t.power.cause = 4 ∧ t.update.failedBoots = 0 ∧
        Output.service (replyFrame f.seq 0x21 0 []) ∈ t.out)) ∧
    exec .serviceFrameGap s = .next { s with out := [] }

/-- The model's codes where R498 to R505 name none (log entry 120): another word of Reset and Leave recovery, Leave recovery of a running image,
reserved flags of Image end. Choices of the model in it: log entry 120. -/
def Obligations.ServiceRefusals : Prop :=
  ∀ (s : State) (f : ServiceHead), (s.power.phase = .running ∨ s.power.phase = .recovery) → s.panel.plug = true →
    s.update.lastSeq ≠ some f.seq →
    (∀ word : Nat, word ≠ 0xA55A → frameHolds f 0x20 (le 2 word) → ∃ t, exec (.serviceReset f word) s = .next t ∧ t.power = s.power ∧
      Output.service (replyFrame f.seq 0x20 0x06090030 []) ∈ t.out) ∧
    (∀ word : Nat, frameHolds f 0x21 (le 2 word) → s.power.phase = .running → ∃ t, exec (.leaveRecovery f word) s = .next t ∧
      t.power = s.power ∧ Output.service (replyFrame f.seq 0x21 0x05040001 []) ∈ t.out) ∧
    (∀ flags : Nat, 2 ≤ flags → frameHolds f 0x12 (le 1 flags) → ∃ t, exec (.imageEnd f flags) s = .next t ∧ t.update.receiving = false ∧
      Output.service (replyFrame f.seq 0x12 0x06090030 (le 1 s.update.download)) ∈ t.out)

/-- From R375, R383, R498, R502 to R504, in part: a dictionary request of the service port under role S; the recovery transfer: one at a time,
from the address of the update record or 169.254.41.92, a block acknowledged when its records are taken, and refused with the abort code as
text; the last one of a verified image sets it running on trial. Choices of the model in it: log entries 39, 40, 135. -/
def Obligations.ServiceRequestsAndRecoveryTransfer : Prop :=
  (∀ (s : State) (f : ServiceHead) (id flags index sub : Nat) (data : Bytes), s.power.phase = .running → s.panel.plug = true →
      s.update.lastSeq ≠ some f.seq →
      (frameHolds f 0x40 (requestBytes id 1 flags index sub data) → ∃ t, exec (.dictionaryRequest f id 1 flags { index := index, sub := sub } data) s = .next t ∧
        Output.response .service id (((s.asked f.seq (some id)).stamped s.clock.offset).readEntry roleS index sub).2 ∈ t.out) ∧
      (frameHolds f 0x40 (requestBytes id 0xA flags index sub data) → ∃ t, exec (.dictionaryRequest f id 0xA flags { index := index, sub := sub } data) s = .next t ∧
        t.update.lastAnswer = some (.done []) ∧ Output.response .service id (.done []) ∈ t.out) ∧
      (frameHolds f 0x40 (requestBytes id 0xC flags index sub data) → ∃ t, exec (.dictionaryRequest f id 0xC flags { index := index, sub := sub } data) s = .next t ∧
        Output.response .service id (.refused 0x05040001 0) ∈ t.out)) ∧
    (∀ (s : State) (peer : TftpPeer) (file : TftpFile), s.power.phase = .recovery →
      ∃ t, exec (.tftpWriteRequest peer file) s = .next t ∧
        (s.update.tftp = true → t.update = s.update ∧ t.out = [.tftp (s.update.ipv4.getD 0xA9FE295C) 5 2 []]) ∧
        (s.update.tftp = false → tftpTaken file = true →
          t.update = { s.update with tftp := true, tftpPeer := peer, block := 1, tftpPart := [] } ∧ t.out = [.tftp (s.update.ipv4.getD 0xA9FE295C) 4 0 []]) ∧
        (s.update.tftp = false → tftpTaken file = false → t.update = s.update ∧ t.out = [.tftp (s.update.ipv4.getD 0xA9FE295C) 5 0 []])) ∧
    (∀ (s : State) (address port n : Nat) (data : Bytes), s.power.phase = .recovery → s.update.tftp = true →
      let records := (recordsIn s.update.tftpPart data).1
      let u := (s.begin.takeRecords records).1
      ∃ t, exec (.tftpDataBlock address port n data) s = .next t ∧
        ({ address := address, port := port } ≠ s.update.tftpPeer → t = { s with out := [.tftp s.romAddress 5 5 []] }) ∧
        ({ address := address, port := port } = s.update.tftpPeer →
          (n % 65536 = (s.update.block + 65535) % 65536 → t = { s with out := [.tftp s.romAddress 4 (n % 65536) []] }) ∧
          (n % 65536 ≠ (s.update.block + 65535) % 65536 → n % 65536 ≠ s.update.block % 65536 → t = { s with out := [] }) ∧
          (n % 65536 = s.update.block % 65536 →
            (∀ c, (s.begin.takeRecords records).2 = some c → t.update.tftp = false ∧ Output.tftp u.romAddress 5 0 (hexText c) ∈ t.out) ∧
            ((s.begin.takeRecords records).2 = none → u.update.verifying = false →
              t.update.tftp = decide (512 ≤ data.length) ∧ t.update.tftpPart = (recordsIn s.update.tftpPart data).2 ∧
              t.update.block = u.update.block + 1 ∧ Output.tftp u.romAddress 4 (n % 65536) [] ∈ t.out) ∧
            ((s.begin.takeRecords records).2 = none → u.update.verifying = true → u.update.manifest.isSome = true →
              u.power.phase = .recovery →
              (if u.update.target.intact = true then t.power.phase = .inReset ∧ t.power.cause = 4 ∧ t.update.trial = 1 ∧
                  t.update.failedBoots = 0 ∧ t.update.running = 1 - u.update.running
                else t.power.phase = .recovery ∧ t.update.download = 4 ∧ t.update.bits = 0)))))

/-- From R369, R371, R372, R385, R386, R398, R400, R405, R492, in part: a write of an rw entry that its rule allows is accepted at once, one
more journal record holds it, and it is confirmed; one that a rule refuses changes no setting, and one that wants a resource in use raises
its event; a batch is accepted or refused as a whole, at the position of the first refused write; the acknowledgement and the clearing of
the error list. Choices of the model in it: log entries 14, 15, 46. -/
def Obligations.SettingsWritten : Prop :=
  ∀ s : State, s.power.phase = .running →
    (∀ (c : Instr) (r : Req) (x : WriteItem) (e : Entry),
      (c = .dictionaryWrite r x ∨ (∃ n f v, c = .counterConfigure r n f v ∧ x = counterItem (n % 256) f v) ∨
        (∃ n v, c = .captureUnitEnable r n v ∧ x = byteItem (0x2A10 + n) 1 v) ∨
        (∃ v, c = .triggerOutputEnable r v ∧ x = byteItem 0x2A00 4 v) ∨
        (∃ q v, c = .streamMulticastEnable r q v ∧ x = byteItem (0x5000 + q) 6 v)) →
      s.grants r x.index x.sub x.data → lookup x.index x.sub = .entry e → e.ty.isDomain = false → e.acc = .rw → x.index ≠ 0x1003 →
      ¬ (0x3000 ≤ x.index ∧ x.index < 0x3400) → ¬ (0x4100 ≤ x.index ∧ x.index < 0x41C0) →
      ∃ t, exec c s = .next t ∧
        (s.ruling x.index x.sub (itemValue x) = none → s.storeFull [x] = false → t.says r (.done []) ∧
          t.settings = s.settings.put x ∧ t.update.generation = s.update.generation + 1) ∧
        (s.ruling x.index x.sub (itemValue x) = none → s.storeFull [x] = true → t.says r (.refused 0x0F000008 0) ∧
          t.settings = s.settings ∧ t.update.generation = s.update.generation) ∧
        (∀ k, s.ruling x.index x.sub (itemValue x) = some k → t.says r (.refused k.code 0) ∧ t.settings = s.settings ∧
          t.update.generation = s.update.generation)) ∧
    (∀ (r : Req) (items : List WriteItem), s.takes r → 1 ≤ items.length → items.length ≤ 64 → (items.map itemBytes).sum ≤ 1384 →
      (∀ x ∈ items, ¬ (0x3000 ≤ x.index ∧ x.index < 0x3400) ∧ ¬ (0x4100 ≤ x.index ∧ x.index < 0x41C0)) →
      ∃ t, exec (.batch r items) s = .next t ∧
        (∀ k, badItem 1 [] items = some k → t.says r (.refused 0x0F000004 k) ∧ t.settings = s.settings) ∧
        (∀ c k, badItem 1 [] items = none → State.batchRefusal r 1 items s = some (c, k) →
          t.says r (.refused c.code k) ∧ t.settings = s.settings) ∧
        (badItem 1 [] items = none → State.batchRefusal r 1 items s = none → s.storeFull items = false →
          t.says r (.done []) ∧ t.settings = items.foldl Settings.put s.settings ∧
          t.update.generation = s.update.generation + 1)) ∧
    (∀ r : Req, s.grants r 0x2002 1 (le 1 1) →
      ∃ t, exec (.acknowledgeEvents r 1) s = .next t ∧ t.says r (.done []) ∧ t.access.momentary = 0 ∧
        t.access.conditions = s.access.conditions) ∧
    (∀ r : Req, s.grants r 0x1003 0 (le 1 0) →
      ∃ t, exec (.clearErrorList r 0) s = .next t ∧ t.says r (.done []) ∧ t.access.errors = [])

/-- From R366, R378, R389 to R391, R410, in part: segments of a download join in order until the announced length is reached, and then their
content takes effect; a gap or a wrong length ends the transfer; an upload goes out in segments of 1,024 bytes of what its first segment
found; a transfer without a segment for 1,000 ms is aborted. Choices of the model in it: log entries 77, 78. -/
def Obligations.TransfersBySegments : Prop :=
  ∀ s : State, s.power.phase = .running →
    (∀ (r : Req) (i sub total : Nat) (e : Entry) (data : Bytes), lookup i sub = .entry e → e.ty.isDomain = true →
      s.grants r i sub (List.replicate total 0) → total ≤ domainMax i sub → s.transferRefused r i sub = none →
      data.length ≤ 1024 → data.length ≤ total → ∃ t, exec (.domainDownloadSegment r i sub true false 0 total data) s = .next t ∧
        t.says r (.done []) ∧ t.transfer i sub =
          some { index := i, sub := sub, origin := r.origin, upload := false, total := total, data := data, idle := 0 }) ∧
    (∀ (r : Req) (i sub total offset : Nat) (e : Entry) (data : Bytes) (x : Transfer), lookup i sub = .entry e → e.ty.isDomain = true →
      s.takes r → s.transfer i sub = some x → x.origin = r.origin → x.upload = false →
      (offset = x.data.length → data.length ≤ 1024 → x.data.length + data.length ≤ x.total →
        ∃ t, exec (.domainDownloadSegment r i sub false false offset total data) s = .next t ∧ t.says r (.done []) ∧
          t.transfer i sub = some { x with data := x.data ++ data, idle := 0 }) ∧
      (∀ last : Bool, offset ≠ x.data.length → ∃ t, exec (.domainDownloadSegment r i sub false last offset total data) s = .next t ∧
        t.says r (.refused 0x08000020 0) ∧ t.transfer i sub = none) ∧
      (offset = x.data.length → x.data.length + data.length ≠ x.total →
        ∃ t, exec (.domainDownloadSegment r i sub false true offset total data) s = .next t ∧
        t.says r (.refused 0x06070010 0) ∧ t.transfer i sub = none) ∧
      (i = 0x2701 → offset = x.data.length → data.length ≤ 1024 → x.data.length + data.length = x.total →
        s.grants r i sub (x.data ++ data) → x.total = 68 → byteAt (x.data ++ data) 65 ≤ 15 → field (x.data ++ data) 66 2 = 0 →
        s.storeFull [{ index := 0x2701, sub := sub, data := x.data ++ data }] = false →
        ∃ t, exec (.domainDownloadSegment r i sub false true offset total data) s = .next t ∧ t.says r (.done []) ∧
          t.settings = s.settings.put { index := 0x2701, sub := sub, data := x.data ++ data } ∧ t.transfer i sub = none)) ∧
    (∀ (r : Req) (i sub : Nat) (e : Entry), lookup i sub = .entry e → e.ty.isDomain = true → e.acc ≠ .wo → i < 0x5000 →
      s.takes r → permitted (s.roles r.origin) 0x1F = true → s.transferRefused r i sub = none →
      ∃ t, exec (.domainUploadSegment r i sub true) s = .next t ∧ t.says r (.done ((s.domainBytes i sub).take 1024)) ∧
        ((s.domainBytes i sub).length ≤ 1024 → t.transfer i sub = none) ∧
        (1024 < (s.domainBytes i sub).length → t.transfer i sub =
          some { index := i, sub := sub, origin := r.origin, upload := true, total := (s.domainBytes i sub).length, data := (s.domainBytes i sub).drop 1024, idle := 0 })) ∧
    (∀ (r : Req) (i sub : Nat) (e : Entry), lookup i sub = .entry e → e.acc ≠ .wo → s.takes r → permitted (s.roles r.origin) 0x1F = false →
      ∃ t, exec (.domainUploadSegment r i sub true) s = .next t ∧ t.says r (.refused 0x0F000001 0)) ∧
    (∀ (r : Req) (i sub : Nat) (x : Transfer), s.takes r → s.transfer i sub = some x → x.origin = r.origin → x.upload = true → i < 0x5000 →
      ∃ t, exec (.domainUploadSegment r i sub false) s = .next t ∧ t.says r (.done (x.data.take 1024)) ∧
        (x.data.length ≤ 1024 → x.upTo = none → t.transfer i sub = none) ∧
        (1024 < x.data.length → t.transfer i sub = some { x with data := x.data.drop 1024, idle := 0 })) ∧
    (∀ (i sub : Nat) (x : Transfer), s.transfer i sub = some x →
      (50 ≤ x.idle → ∃ t, exec (.transferSegmentTimeout i sub) s = .next t ∧ t.transfer i sub = none ∧
        Output.response x.origin 0 (.refused 0x05040000 0) ∈ t.out) ∧
      (x.idle < 50 → exec (.transferSegmentTimeout i sub) s = .next { s with out := [] })) ∧
    (∀ i sub : Nat, s.transfer i sub = none → exec (.transferSegmentTimeout i sub) s = .next { s with out := [] })

/-- From R379, R381 to R383, R390, R393, R456, in part: a hello is answered, or rejected with its reason; a good proof opens a session with the
roles that hello and credential share and keys of the shared secret, a bad one ends the handshake silently; an unfinished handshake and an
idle session end; a closed session gives up its transfers. Choices of the model in it: log entries 42, 47, 79, 134, 135. -/
def Obligations.SessionsOpenAndClose : Prop :=
  ∀ s : State, s.power.phase = .running →
    (∀ (port version slot roles : Nat) (key nonce : Bytes), port ≤ 1 →
      ∃ t, exec (.hello port version slot roles { key := key, nonce := nonce }) s = .next t ∧
        (s.cfgOn 0x2022 (2 + port) = false → t.access = s.access ∧ t.out = []) ∧
        (s.cfgOn 0x2022 (2 + port) = true →
          (∀ k, s.helloRefused version slot = some k → t.access = s.access ∧ t.out = [.vap port 6 (vapDatagram 6 0 0 none (le 1 k))]) ∧
          (s.helloRefused version slot = none → t.access.nextSession = nextId s.access.nextSession ∧
            ∃ (own ownNonce : Bytes) (scalar : Nat), t.out = [.vap port 2 (vapDatagram 2 s.access.nextSession 0 none own)] ∧
              tfind t.access.handshakes s.access.nextSession =
                some { id := s.access.nextSession, port := port, slot := slot, roles := roles, key := key, nonce := nonce,
                       scalar := scalar, ownNonce := ownNonce,
                       digest := Crypto.sha256 (key ++ nonce ++ le 1 slot ++ le 1 roles ++ own), age := 0 }))) ∧
    (∀ (k : Nat) (signature : Bytes) (h : Handshake), tfind s.access.handshakes k = some h → h.id = k →
      ∃ t, exec (.clientProof k signature) s = .next t ∧ tfind t.access.handshakes k = none ∧
        (∀ (carried : Nat) (secret : Bytes), s.proves h signature = true → Crypto.p256.shared h.scalar h.key = some secret →
          s.credentialRoles h.slot = some carried →
          ∃ e, tfind t.access.sessions k = some e ∧ e.port = h.port ∧
            (s.firstCredential = false → e.roles = (BitVec.ofNat 8 h.roles &&& BitVec.ofNat 8 carried).toNat) ∧
            e.up = Crypto.hkdf secret (h.nonce ++ h.ownNonce) (ascii "VL vap up") 16 ∧
            e.down = Crypto.hkdf secret (h.nonce ++ h.ownNonce) (ascii "VL vap down") 16 ∧
            t.out = [.vap h.port 4 (vapDatagram 4 k 1 (some e.down) (le 1 e.roles ++ le 2 (s.cfg 0x2022 1) ++ le 2 1408))]) ∧
        ((s.proves h signature = false ∨ Crypto.p256.shared h.scalar h.key = none ∨ s.credentialRoles h.slot = none) → t.access.sessions = s.access.sessions ∧
          t.access.failed = s.access.failed + 1 ∧ t.out = [])) ∧
    (∀ (k : Nat) (h : Handshake), tfind s.access.handshakes k = some h → 100 ≤ h.age →
      ∃ t, exec (.sessionEstablishTimeout k) s = .next t ∧ tfind t.access.handshakes k = none ∧ t.out = []) ∧
    (∀ (k : Nat) (e : Session), tfind s.access.sessions k = some e → s.cfgNat 0x2022 1 * 50 < e.idle →
      ∃ t, exec (.sessionIdleTimeout k) s = .next t ∧ tfind t.access.sessions k = none ∧
        (∀ x ∈ t.access.transfers, x.origin ≠ .vap k)) ∧
    (∀ r : Req, s.takes r → ∃ t, exec (.keepalive r) s = .next t ∧ t.says r (.done [])) ∧
    (∀ (r : Req) (k : Nat), s.takes r → r.origin = .vap k →
      ∃ t, exec (.close r) s = .next t ∧ t.says r (.done []) ∧ tfind t.access.sessions k = none ∧
        (∀ x ∈ t.access.transfers, x.origin ≠ .vap k))

/-- From R392 to R396, R400, R452, R456, R525, in part: a free stream is claimed by its reader, a held one refused as in use; a reader gives it
back; a pull by its reader, or of a free stream, answers with the oldest whole items that fit and removes them; a role that may read it gets
its key. Choices of the model in it: log entries 12, 78. -/
def Obligations.StreamsRead : Prop :=
  ∀ (s : State) (r : Req) (q : Nat), s.power.phase = .running → s.takes r → q < 6 →
    (s.streamRefused (s.roles r.origin) q = none →
      (∃ t, exec (.streamClaim r q) s = .next t ∧
        ((s.stream q).reader = 0 ∨ (s.stream q).reader = BitVec.ofNat 32 (readerOf r.origin) → t.says r (.done []) ∧
          (t.stream q).reader = BitVec.ofNat 32 (readerOf r.origin) ∧ (t.stream q).items = (s.stream q).items) ∧
        ((s.stream q).reader ≠ 0 → (s.stream q).reader ≠ BitVec.ofNat 32 (readerOf r.origin) →
          t.says r (.refused 0x0F000002 0))) ∧
      (∀ room : Nat, (s.stream q).write.ok = true → (s.stream q).readPtr.ok = true →
        ((s.stream q).reader = 0 ∨ (s.stream q).reader = BitVec.ofNat 32 (readerOf r.origin)) →
        ∃ t, exec (.streamPull r q room) s = .next t ∧ t.says r (.done ((s.stream q).pull room).1) ∧
          (q ≠ 3 → (t.stream q).items = ((s.stream q).pull room).2.items ∧
            (t.stream q).reader = BitVec.ofNat 32 (readerOf r.origin))) ∧
      (∃ t, exec (.streamKey r q) s = .next t ∧ t.says r (.done (s.streamKeyOf q)))) ∧
    (∀ c, s.streamRefused (s.roles r.origin) q = some c →
      (∃ t, exec (.streamClaim r q) s = .next t ∧ t.says r (.refused c 0) ∧ t.access.streams = s.access.streams) ∧
      (∃ t, exec (.streamKey r q) s = .next t ∧ t.says r (.refused c 0))) ∧
    (∃ t, exec (.streamRelease r q) s = .next t ∧ t.says r (.done []) ∧
      ((s.stream q).reader = BitVec.ofNat 32 (readerOf r.origin) → (t.stream q).reader = 0 ∧ (t.stream q).items = (s.stream q).items) ∧
      ((s.stream q).reader ≠ BitVec.ofNat 32 (readerOf r.origin) → t.access.streams = s.access.streams))

/-- From R413, R517 to R521, in part: a snapshot now takes counters and shown lane banks at once, one at the next boundary waits, one at a time
is told to the units of the chain; one that stands refuses another; at its instant a snapshot takes what then stands; a chain's snapshot is
joined unless one is pending or the time is near. Choices of the model in it: log entry 98. -/
def Obligations.SnapshotsTaken : Prop :=
  ∀ s : State, s.power.phase = .running →
    (∀ r : Req, s.grants r 0x2900 1 (le 1 1) → s.counters.snap = none → ∃ t, exec (.snapshotNow r) s = .next t ∧ t.says r (.done []) ∧
      ∃ x : Snap, t.counters = { s.counters with snap := some x } ∧ x.number = s.counters.number + 1 ∧ x.code = 1 ∧
        x.values = s.counters.live ∧
        x.taken = some ((s.stamped r.stamp).now, s.clock.tick, if s.time.valid then 0 else 1) ∧
        x.lanes = (s.shown.lanes.filter (fun e => e.2.occupied)).map (fun e =>
          le 4 (s.counters.number + 1).toNat ++ s.shown.laneItem (if s.time.valid then 0 else 1) e.1)) ∧
    (∀ r : Req, s.grants r 0x2900 1 (le 1 2) → s.counters.snap = none → ∃ t, exec (.snapshotAtNextBoundary r) s = .next t ∧
      t.says r (.done []) ∧
      t.counters = { s.counters with snap := some { number := s.counters.number + 1, code := 2, time := (s.stamped r.stamp).now } }) ∧
    (∀ r : Req, s.grants r 0x2900 1 (le 1 3) → s.counters.snap = none → 100000000 ≤ s.cfgAccepted 0x2900 2 - (s.stamped r.stamp).now →
      s.cfgAccepted 0x2900 2 - (s.stamped r.stamp).now ≤ 3600000000000 → ∃ t, exec (.snapshotAtTime r) s = .next t ∧
      t.says r (.done []) ∧
      t.counters = { s.counters with snap := some { number := s.counters.number + 1, code := 3, time := s.cfgAccepted 0x2900 2 } } ∧
      Output.can 0x7C2 (le 4 (s.counters.number + 1).toNat ++ le 8 (s.cfgAccepted 0x2900 2) ++ le 1 s.chain.address ++ le 3 0) ∈ t.out) ∧
    (∀ r : Req, s.grants r 0x2900 1 (le 1 3) → s.counters.snap = none →
      (s.cfgAccepted 0x2900 2 - (s.stamped r.stamp).now < 100000000 ∨ 3600000000000 < s.cfgAccepted 0x2900 2 - (s.stamped r.stamp).now) →
      ∃ t, exec (.snapshotAtTime r) s = .next t ∧ t.says r (.refused 0x08000022 0) ∧ t.counters = s.counters) ∧
    (∀ r : Req, s.counters.snap ≠ none →
      (s.grants r 0x2900 1 (le 1 1) → ∃ t, exec (.snapshotNow r) s = .next t ∧ t.says r (.refused 0x0F000002 0)) ∧
      (s.grants r 0x2900 1 (le 1 2) → ∃ t, exec (.snapshotAtNextBoundary r) s = .next t ∧ t.says r (.refused 0x0F000002 0)) ∧
      (s.grants r 0x2900 1 (le 1 3) → ∃ t, exec (.snapshotAtTime r) s = .next t ∧ t.says r (.refused 0x0F000002 0))) ∧
    (∀ (instant : Int) (atStep : Bool) (x : Snap), s.counters.snap = some x → (x.code = 3 ∨ x.code = 4) → x.taken = none →
      x.time ≤ instant → ∃ t, exec (.snapshotInstant instant atStep) s = .next t ∧
        (∃ y : Snap, t.counters.snap = some y ∧ y.number = x.number ∧ y.code = x.code ∧ y.values = s.counters.live ∧
          y.taken = some (instant, s.clock.tick, (if s.time.valid then 0 else 1) + (if atStep then 2 else 0))) ∧
        (atStep = true → t.reported 0x1703 0 0 0xFF (le 4 x.number.toNat ++ le 8 x.time))) ∧
    (∀ (instant : Int) (atStep : Bool), (∀ x, s.counters.snap = some x → instant < x.time ∨ x.code = 2 ∨ x.taken ≠ none) →
      exec (.snapshotInstant instant atStep) s = .next { s with out := [] }) ∧
    (∀ (number : U32) (time : Int) (sender : Nat),
      (s.counters.snap = none → 20000000 < time - s.now → ∃ t, exec (.snapshot number time sender) s = .next t ∧
        t.counters = { s.counters with snap := some { number := number, code := 4, time := time } }) ∧
      (s.counters.snap ≠ none → ∃ t, exec (.snapshot number time sender) s = .next t ∧ t.counters.snap = s.counters.snap ∧
        t.reported 0x1702 0 0 0xFF (le 4 number.toNat ++ le 1 sender ++ le 1 0)) ∧
      (s.counters.snap = none → time - s.now ≤ 20000000 → ∃ t, exec (.snapshot number time sender) s = .next t ∧
        t.counters.snap = none ∧ t.reported 0x1702 0 0 0xFF (le 4 number.toNat ++ le 1 sender ++ le 1 1)))

/-- From R508 to R510, in part: TASK_WAKE_ON_FLAGS sets flags, TASK_DELAY_EXPIRY ends the delays of an engine; a task that becomes ready runs at
once on an idle engine, pre-empts a task of lower priority, and waits behind any other. Choices of the model in it: log entry 17. -/
def Obligations.TasksWake : Prop :=
  ∀ s : State, s.power.phase = .running →
    (∀ (k : Nat) (f : U32), ∃ t, exec (.taskWakeOnFlags k f) s = .next t ∧
      ((s.task k).status ≠ .waiting → t.task k = { s.task k with flags := (s.task k).flags ||| f } ∧ t.disp.running = s.disp.running) ∧
      ((s.task k).status = .waiting →
        ¬ (((s.task k).flags ||| f) &&& (s.task k).any ≠ 0 ∨
            ((s.task k).all ≠ 0 ∧ ((s.task k).flags ||| f) &&& (s.task k).all = (s.task k).all)) →
        t.task k = { s.task k with flags := (s.task k).flags ||| f } ∧ t.disp.running = s.disp.running) ∧
      ((s.task k).status = .waiting →
        (((s.task k).flags ||| f) &&& (s.task k).any ≠ 0 ∨
            ((s.task k).all ≠ 0 ∧ ((s.task k).flags ||| f) &&& (s.task k).all = (s.task k).all)) →
        (t.task k).delay = none ∧
        match s.runningOn (engineOf k) with
        | none => t.runningOn (engineOf k) = some k ∧ (t.task k).status = .running ∧
            (t.task k).flags = ((s.task k).flags ||| f) &&& ~~~ ((s.task k).any ||| (s.task k).all)
        | some cur =>
          if (s.task cur).priority < (s.task k).priority then
            t.runningOn (engineOf k) = some k ∧ (t.task k).status = .running ∧ (t.task cur).status = .ready ∧
            (t.task k).flags = ((s.task k).flags ||| f) &&& ~~~ ((s.task k).any ||| (s.task k).all)
          else t.runningOn (engineOf k) = some cur ∧ (t.task k).status = .ready ∧
            (t.task k).flags = (s.task k).flags ||| f)) ∧
    (∀ e : Nat, ∃ t, exec (.taskDelayExpiry e) s = .next t ∧ ∀ k, engineOf k = e → (s.task k).status = .waiting →
      (s.task k).delay = some 0 → (t.task k).status = .ready ∨ (t.task k).status = .running)

/-- From R31, R32, R510, R511, in part: at its deadline an unfinished task is removed, counted late and starts over with its flags cleared; the
halt decision task 0x60 runs on, counted and reported, and so does a halt task of its engine with halt work in hand. A task that yields
waits on its new masks or ends; its engine runs a ready task or none. Choices of the model in it: log entries 17, 121. -/
def Obligations.TasksDropAndYield : Prop :=
  ∀ s : State, s.power.phase = .running →
    (∀ k late : Nat, (s.task k).status ≠ .ended → ∃ t, exec (.taskDeadlineDrop k late) s = .next t ∧
      (k ≠ 0x60 → engineOf k ≠ 4 → (t.task k).late = saturateNat (s.task k).late ∧ (t.task k).flags = 0 ∧ (t.task k).status = .waiting ∧
        t.halt = s.halt) ∧
      (k = 0x60 → t.task k = { s.task k with late := saturateNat (s.task k).late } ∧ t.disp.running = s.disp.running ∧
        t.halt.lateWork = saturate s.halt.lateWork ∧ t.reported 0x0701 1 7 0xFF (le 1 0 ++ le 4 late)) ∧
      (k ≠ 0x60 → engineOf k = 4 →
        ((t.task k).late = saturateNat (s.task k).late ∧ (t.task k).flags = 0 ∧ (t.task k).status = .waiting ∧ t.halt = s.halt) ∨
        ∃ work, (work = 1 ∨ work = 2) ∧ t.task k = { s.task k with late := saturateNat (s.task k).late } ∧
          t.disp.running = s.disp.running ∧ t.halt.lateWork = saturate s.halt.lateWork ∧
          t.reported 0x0701 1 7 0xFF (le 1 work ++ le 4 late))) ∧
    (∀ (e k : Nat) (kind : YieldKind) (any all : U32), s.runningOn e = some k →
      ∃ t, exec (.taskYield e kind any all) s = .next t ∧
        (kind = .periodOver → t.task k = { s.task k with status := .ended, any := any, all := all, delay := none }) ∧
        (¬ ((s.task k).flags &&& any ≠ 0 ∨ (all ≠ 0 ∧ (s.task k).flags &&& all = all)) →
          (kind = .waitFlags → t.task k = { s.task k with status := .waiting, any := any, all := all, delay := none }) ∧
          ∀ n, kind = .delayed n →
            t.task k = { s.task k with status := .waiting, any := any, all := all, delay := some (max 1 (min n 65535)) }) ∧
        ((kind = .waitFlags ∨ ∃ n, kind = .delayed n) →
          ((s.task k).flags &&& any ≠ 0 ∨ (all ≠ 0 ∧ (s.task k).flags &&& all = all)) →
          ((t.task k).status = .ready ∨ (t.task k).status = .running) ∧ (t.task k).delay = none))

/-- From R533 to R544, in part: a forced trigger (bit 31) reaches the armed units of its mask, and only an armed unit takes one; an automatic
trigger (bit 30) reaches a unit that stayed armed for its time with no other trigger; a full capture freezes, is sealed with a trailer that
counts its items, and is announced; a frozen capture passes on to the export stream in the order of its items, and its unit starts again.
Choices of the model in it: log entries 97, 103. -/
def Obligations.CapturesRun : Prop :=
  ∀ s : State, s.power.phase = .running →
    (∀ (r : Req) (mask : Nat), mask ≤ 15 → s.grants r 0x2A00 5 (le 1 mask) →
      ((∀ u, u < 4 → bit mask u = true → (s.tripUnit u).state = 2) →
        ∃ t, exec (.forceTrigger r mask) s = .next t ∧ t.says r (.done []) ∧ ∀ u, u < 4 →
          t.tripUnit u = if bit mask u then { s.tripUnit u with fired := (s.tripUnit u).fired ++ [(31, (s.stamped r.stamp).now)] }
            else s.tripUnit u) ∧
      (∀ u, u < 4 → mask = 2 ^ u → (s.tripUnit u).state ≠ 2 → ∃ t, exec (.forceTrigger r mask) s = .next t ∧
        t.says r (.done []) ∧ t.tripUnit u = s.tripUnit u)) ∧
    (∀ u : Nat, (s.tripUnit u).state = 2 → s.cfgNat (0x2A10 + u) 6 ≠ 0 → s.cfgNat (0x2A10 + u) 6 ≤ (s.tripUnit u).armed →
      (s.tripUnit u).fired = [] → ∃ t, exec (.autoTriggerTimeout u) s = .next t ∧
        t.tripUnit u = { s.tripUnit u with fired := [(30, s.now)] }) ∧
    (∀ u : Nat, (s.tripUnit u).state ≠ 2 ∨ s.cfgNat (0x2A10 + u) 6 = 0 ∨ (s.tripUnit u).armed < s.cfgNat (0x2A10 + u) 6 →
      exec (.autoTriggerTimeout u) s = .next { s with out := [] }) ∧
    (∀ u : Nat, (s.tripUnit u).state = 3 → (s.tripUnit u).need ≤ partSize (s.tripUnit u).post → (s.stream 1).write.ok = true →
      (s.stream 1).readPtr.ok = true → ∃ t, exec (.captureComplete u) s = .next t ∧ ∃ (body : List (Nat × Bytes)) (mac : Bytes),
        let items := body ++ [(4, le 4 (s.captureNumber u) ++ le 1 s.sealGeneration ++ le 3 0 ++ le 4 body.length ++ mac)]
        t.tripUnit u = { s.tripUnit u with state := 4, items := items, sealed := items } ∧
        (s.sealGeneration = 0 → mac = List.replicate 16 0) ∧ (s.sealGeneration ≠ 0 → t.keys.sealPort = true) ∧
        body.length = 1 + (s.tripUnit u).pre.length + (s.tripUnit u).post.length ∧
        t.reported 0x1801 0 0 0xFF (le 1 u ++ le 3 0 ++ le 4 (s.captureNumber u) ++ le 4 (s.tripUnit u).cause)) ∧
    (∀ u : Nat, (s.tripUnit u).state ≠ 3 ∨ partSize (s.tripUnit u).post < (s.tripUnit u).need →
      exec (.captureComplete u) s = .next { s with out := [] }) ∧
    (∀ u : Nat, u < 4 → (s.tripUnit u).state = 4 → (s.stream 3).reader ≠ 0 → s.trip.reexport = [] → (s.stream 3).write.ok = true →
      (s.stream 3).readPtr.ok = true → (s.stream 3).fill + ((s.tripUnit u).items.map (fun i => 8 + i.2.length)).sum ≤ 524288 →
      (s.cfgOn (0x2A10 + u) 7 = true → retainedBytes (s.tripUnit u).sealed ≤ 2097152) →
      ∃ t, exec (.captureDrained u) s = .next t ∧
        (t.stream 3).items.map (fun i => (i.typ, i.body)) =
          (s.stream 3).items.map (fun i => (i.typ, i.body)) ++ (s.tripUnit u).items ∧
        (t.tripUnit u).state = (if s.cfgNat (0x2A10 + u) 4 = 0 then 2 else 1) ∧ (t.tripUnit u).pre = [] ∧ (t.tripUnit u).post = [] ∧
        (t.tripUnit u).fired = [] ∧ (t.tripUnit u).items = [] ∧ (t.tripUnit u).armed = 0 ∧
        (t.tripUnit u).captures = (s.tripUnit u).captures + 1 ∧
        (s.cfgOn (0x2A10 + u) 7 = true → ∃ l, t.trip.retained = l ++ [(s.tripUnit u).sealed])) ∧
    (∀ u : Nat, (s.stream 3).reader = 0 → exec (.captureDrained u) s = .next { s with out := [] })

/-- From R582 to R585, in part: the end of a run alone: the other gate is released; a feed that stayed in window and sagged by at most 50 mV is
qualified, any other fails, each with its event; a passed test of feed A is followed by feed B's run, and a passed test of feed B restarts
the interval. The test is asked for, or falls due. Choices of the model in it: log entry 37. -/
def Obligations.FeedRunsAlone : Prop :=
  ∀ s : State, s.power.phase = .running →
    (∀ (x : RunAlone) (stayed : Bool) (lowest : Nat), s.power.alone = some x → x.feed < 2 → x.cause < 2 → (s.feed x.feed).state = 3 →
      ∃ t, exec (.feedQualifyRunEnd x.feed stayed lowest) s = .next t ∧ (t.feed x.feed).judged = true ∧
        (stayed = true ∧ x.before ≤ lowest + 50 → (t.feed x.feed).state = 1 ∧ t.reported 0x2003 0 0 0xFF (le 1 x.feed ++ le 1 x.cause)) ∧
        (¬ (stayed = true ∧ x.before ≤ lowest + 50) → (t.feed x.feed).state = 2 ∧
          t.reported 0x2004 1 2 0xFF (le 1 x.feed ++ le 1 x.cause ++ le 2 lowest))) ∧
    (∀ (x : RunAlone) (stayed : Bool) (lowest : Nat), s.power.alone = some x → x.feed < 2 → 2 ≤ x.cause → (s.feed x.feed).state = 3 →
      ∃ t, exec (.feedTestRunEnd x.feed stayed lowest) s = .next t ∧
        (stayed = true ∧ x.before ≤ lowest + 50 → (t.feed x.feed).state = 1 ∧
          (x.feed = 0 → s.power.feedB.state = 1 → (t.feed 0).gate = true ∧ t.power.feedB.state = 3 ∧
            t.power.alone = some { feed := 1, cause := x.cause, before := s.power.feedB.sense }) ∧
          (x.feed = 1 → t.power.alone = none ∧ t.power.sinceTest = 0)) ∧
        (¬ (stayed = true ∧ x.before ≤ lowest + 50) → (t.feed x.feed).state = 2 ∧ t.power.alone = none ∧
          t.power.sinceTest = s.power.sinceTest)) ∧
    (∀ x : RunAlone, s.power.alone = some x → x.feed < 2 → (s.feed x.feed).state = 3 →
      ∃ t, exec (.feedComparatorRelease x.feed) s = .next t ∧ (t.feed x.feed).state = 2 ∧ (t.feed (1 - x.feed)).gate = false ∧
        t.power.alone = none ∧ t.reported 0x2004 1 2 0xFF (le 1 x.feed ++ le 1 x.cause ++ le 2 (s.feed x.feed).sense)) ∧
    (∀ r : Req, s.grants r 0x2C00 6 (le 1 1) → s.power.feedA.state = 1 → s.power.feedB.state = 1 → s.power.powerDue ≠ some 3 →
      ∃ t, exec (.feedTest r 1) s = .next t ∧ t.says r (.done []) ∧ t.power = { s.power with testAsked := true }) ∧
    (s.cfg 0x2C00 5 ≠ 0 → s.cfgNat 0x2C00 5 * 86400000 ≤ s.power.sinceTest → s.power.testDue = false →
      ∃ t, exec .feedTestDue s = .next t ∧ t.power = { s.power with testDue := true, postponed := false })

/-- From R406, R407, R416, R578, R589, R592, in part: the power commands and the reset command are confirmed and wait for the next boundary; the
reference clock is lost and found; the monitors raise VBAT-low and temperature-high and end them. -/
def Obligations.PowerCommandsAndMonitors : Prop :=
  ∀ s : State, s.power.phase = .running →
    (∀ r : Req, s.grants r 0x2C00 2 (le 1 1) →
      ∃ t, exec (.powerCommandRun r) s = .next t ∧ t.says r (.done []) ∧ t.power = { s.power with powerDue := some 1 }) ∧
    (∀ r : Req, s.grants r 0x2C00 2 (le 1 2) → s.allVacant = true →
      ∃ t, exec (.powerCommandQuiet r) s = .next t ∧ t.says r (.done []) ∧ t.power = { s.power with powerDue := some 2 }) ∧
    (∀ r : Req, s.grants r 0x2C00 2 (le 1 3) → s.allVacant = true → s.feedsTested = false → s.keys.pendingState ≠ 3 →
      ∃ t, exec (.powerCommandStandby r) s = .next t ∧ t.says r (.done []) ∧ t.power = { s.power with powerDue := some 3 }) ∧
    (∀ r : Req, s.grants r 0x2001 1 (le 2 0xA55A) → s.notMoving = true →
      ∃ t, exec (.resetCommand r 0xA55A) s = .next t ∧ t.says r (.done []) ∧ t.power = { s.power with resetDue := true }) ∧
    (∀ mv ms : Nat, ∃ t, exec (.vbatLow mv ms) s = .next t ∧
      t.power = { s.power with vbat := mv, vbatLow := if mv < 2500 then s.power.vbatLow + ms else 0 } ∧
      (mv < 2500 → 10000 ≤ s.power.vbatLow + ms → s.access.raised 0x200B 0 = false →
        t.reported 0x200B 2 2 0xFF (le 2 mv) ∧ t.access.raised 0x200B 0 = true) ∧
      (2550 ≤ mv → s.access.raised 0x200B 0 = true → t.reported 0x200C 3 2 0xFF (le 2 mv)) ∧
      (2500 ≤ mv → mv < 2550 → t.access = s.access)) ∧
    (∀ (die : Nat) (c : Int), die ≤ 1 → ∃ t, exec (.temperatureHigh die c) s = .next t ∧
      t.power = { s.power with dieTemp := (if die = 0 then c else s.power.dieTemp), rfTemp := (if die = 0 then s.power.rfTemp else c) } ∧
      (1450 < c → s.access.raised 0x2009 die = false → t.reported 0x2009 2 3 0xFF (le 1 die ++ le 2 c)) ∧
      (c < 1400 → s.access.raised 0x2009 die = true → t.reported 0x200A 3 3 0xFF (le 1 die ++ le 2 c)) ∧
      (1400 ≤ c → c ≤ 1450 → t.access = s.access)) ∧
    (∀ cause : Nat, s.power.refSel = true → s.power.refLocked = true → ∃ t, exec (.ref10mLost cause) s = .next t ∧
      t.power = { s.power with refLocked := false } ∧ t.reported 0x2007 2 7 0xFF (le 1 cause)) ∧
    (s.power.refSel = true → s.power.refLocked = false → ∃ t, exec .ref10mLocked s = .next t ∧
      t.power = { s.power with refLocked := true } ∧ t.reported 0x2008 3 7 0xFF [])

/-- From R472, R552, R577, R590, R591, R593, in part: a rail out of tolerance switches the part off and what is volatile is lost; the rails
start it; in Standby two strobes in a row that read a channel A open, or another wake source, raise PWR_EN and start it as at power-on, in
Quiet for the service plug. Choices of the model in it: log entries 34 to 36. -/
def Obligations.OffAndStandby : Prop :=
  (∀ (s : State) (rail : Nat), s.power.phase ≠ .standby → s.power.phase ≠ .off → rail < 7 →
      ∃ t, exec (.railOutOfTolerance rail) s = .next t ∧ t.power.phase = .off ∧ t.lanes = [] ∧ t.keys.current = [] ∧
        t.keys.storeCurrent = s.keys.storeCurrent ∧ t.update.slots = s.update.slots ∧ t.update.x = s.update.x ∧ t.update.y = s.update.y ∧
        t.clock.tb3 = 0 ∧ Output.pin .siteHaltN true ∈ t.out) ∧
    (∀ s : State, s.power.phase = .off → s.power.pwrEn = true →
      ∃ t, exec .powerOn s = .next t ∧ t.power.phase = .inReset ∧ t.power.cause = 0 ∧ t.power.resets = s.power.resets ∧
        (s.power.vbatPresent = false → t.power.rtc = 0) ∧ (s.power.vbatPresent = true → s.power.rtc ≤ t.power.rtc)) ∧
    (∀ (s : State) (source : Nat), s.power.phase = .standby → source ≤ 3 →
      ∃ t, exec (.standbyWake source) s = .next t ∧ t.power.phase = .inReset ∧ t.power.cause = 0 ∧ t.power.pwrEn = true ∧
        t.power.standbyFlag = false ∧ t.power.startQuiet = decide (source = 2) ∧ Output.pin .pwrEn true ∈ t.out ∧
        t.panel.plug = (s.panel.plug || decide (source = 2)) ∧ t.panel.wake = (s.panel.wake || decide (source = 3))) ∧
    (∀ (s : State) (a b : Bool), s.power.phase = .standby →
      ∃ t, exec (.standbyContactStrobe a b) s = .next t ∧
        ((a = true ∧ 1 ≤ s.panel.strobe1) ∨ (b = true ∧ 1 ≤ s.panel.strobe2) →
          t.power.phase = .inReset ∧ t.power.pwrEn = true ∧ t.power.startQuiet = false ∧ Output.pin .pwrEn true ∈ t.out) ∧
        (¬ ((a = true ∧ 1 ≤ s.panel.strobe1) ∨ (b = true ∧ 1 ≤ s.panel.strobe2)) →
          t.power = s.power ∧ t.panel = { s.panel with strobe1 := if a then 1 else 0, strobe2 := if b then 1 else 0 } ∧ t.out = []))

/-- From R608, in part: the debug balls: BYPASS and IDCODE in every powered state; SAMPLE/PRELOAD and EXTEST when debug-open or in recovery;
otherwise these and the debug functions change nothing. IDCODE reads 0x4192 in bits 27 to 12 and 0x001 in bits 11 to 0. Choices of the model
in it: log entry 48. -/
def Obligations.DebugTap : Prop :=
  idcode % 0x10000000 = 0x4192 * 0x1000 + 1 ∧
  ∀ s : State, s.tapPowered = true →
    (∃ t, exec (.debugTapInstruction .bypass) s = .next t ∧ t.tap.selected = 0 ∧ t.tap.captured = 0) ∧
    (∃ t, exec (.debugTapInstruction .idcode) s = .next t ∧ t.tap.selected = 1 ∧ t.tap.captured = idcode) ∧
    (∃ t, exec (.debugTapInstruction .samplePreload) s = .next t ∧ t.tap.driven = s.tap.driven ∧
      (s.scanAllowed = true → t.tap.selected = 2) ∧ (s.scanAllowed = false → t.tap = s.tap)) ∧
    (∀ pins : List Bool, ∃ t, exec (.debugTapInstruction (.extest pins)) s = .next t ∧
      (s.scanAllowed = true → t.tap.selected = 3 ∧ t.tap.driven = pins ∧
        ∀ x ∈ scanPins.zip pins, Output.pin x.1 x.2 ∈ t.out) ∧
      (s.scanAllowed = false → t.tap = s.tap ∧ t.out = [])) ∧
    (∀ code : Nat, s.debugOpen = false → ∃ t, exec (.debugTapInstruction (.debugFunction code)) s = .next t ∧ t.tap = s.tap ∧ t.out = [])
end

