-- ==== Sys2Proof/Laws/Table.lean ====
section
/-! SUPPORT. The tables: what a read after a write gives, and that every table operation keeps the canonical form. -/

namespace Sys2Proof.Machine

variable {α : Type}

/-- A table whose numbers are all above `b` reads as its default at and below `b`. -/
theorem tget_below [DecidableEq α] {d : Nat → α} {t : Table α} {b k : Nat} (h : tableFrom d (some b) t = true) (hk : k ≤ b) :
    tget d t k = d k := by
  cases t with
  | nil => rfl
  | cons e t =>
    obtain ⟨j, v⟩ := e
    simp only [tableFrom, Bool.and_eq_true, decide_eq_true_eq] at h
    have h1 : ¬ j = k := by omega
    have h2 : k < j := by omega
    simp only [tget, h1, h2, if_true, if_false]

/-- A looser bound does. -/
theorem tableFrom_weaken [DecidableEq α] {d : Nat → α} {t : Table α} {b c : Nat} (h : tableFrom d (some b) t = true)
    (hc : c ≤ b) : tableFrom d (some c) t = true := by
  cases t with
  | nil => rfl
  | cons e t =>
    simp only [tableFrom, Bool.and_eq_true, decide_eq_true_eq] at h ⊢
    exact ⟨⟨by omega, h.1.2⟩, h.2⟩

/-- A canonical table has no bound below. -/
theorem tableFrom_none [DecidableEq α] {d : Nat → α} {t : Table α} {b : Nat} (h : tableFrom d (some b) t = true) :
    tableFrom d none t = true := by
  cases t with
  | nil => rfl
  | cons e t =>
    simp only [tableFrom, Bool.and_eq_true, decide_eq_true_eq] at h ⊢
    exact ⟨⟨trivial, h.1.2⟩, h.2⟩

/-- A number filtered out of a table reads as its default. -/
theorem tget_filter {d : Nat → α} (t : Table α) (k : Nat) : tget d (t.filter (fun e => e.1 ≠ k)) k = d k := by
  induction t with
  | nil => rfl
  | cons e t ih =>
    obtain ⟨i, w⟩ := e
    by_cases h : i = k
    · simpa [h] using ih
    · simp only [List.filter, h, ne_eq, not_false_eq_true, decide_true, tget, if_false, ih, ite_self]

/-- Reading a table where it was written: the value written. -/
@[simp] theorem tget_tput_same [DecidableEq α] (d : Nat → α) (t : Table α) (k : Nat) (v : α) : tget d (tput d t k v) k = v := by
  induction t with
  | nil => unfold tput; split <;> simp_all [tget]
  | cons e t ih =>
    obtain ⟨i, w⟩ := e
    unfold tput
    split
    · split
      · have : ¬ i = k := by omega
        simp_all [tget]
      · simp [tget]
    · split
      · split
        · subst_vars; exact tget_filter t _
        · simp [tget]
      · have h1 : ¬ i = k := ‹_›
        have h2 : ¬ k < i := ‹_›
        simp only [tget, h1, h2, if_false, ih]

/-- Reading a table where it was changed in place. -/
@[simp] theorem tget_tmod_same [DecidableEq α] (d : Nat → α) (t : Table α) (k : Nat) (f : α → α) :
    tget d (tmod d t k f) k = f (tget d t k) := tget_tput_same d t k _

/-- A canonical table lists no number at or below its bound. -/
theorem tableFrom_filter [DecidableEq α] {d : Nat → α} {t : Table α} {k : Nat} (h : tableFrom d (some k) t = true) :
    t.filter (fun e => e.1 ≠ k) = t := by
  suffices ∀ b, k ≤ b → tableFrom d (some b) t = true → t.filter (fun e => e.1 ≠ k) = t from this k (Nat.le_refl _) h
  clear h
  induction t with
  | nil => intros; rfl
  | cons e t ih =>
    obtain ⟨i, w⟩ := e
    intro b hb h
    simp only [tableFrom, Bool.and_eq_true, decide_eq_true_eq] at h
    have : i ≠ k := by omega
    simp only [List.filter, ne_eq, this, not_false_eq_true, decide_true]
    rw [show (t.filter fun e => decide (¬ e.1 = k)) = t from ih i (by omega) h.2]

/-- A write of a value other than the default leaves every other number alone, whatever the table's form. -/
theorem tget_tput_other [DecidableEq α] {d : Nat → α} (t : Table α) {k j : Nat} {v : α} (hj : j ≠ k) (hv : v ≠ d k) :
    tget d (tput d t k v) j = tget d t j := by
  induction t with
  | nil => simp only [tput, hv, if_false, tget]; grind
  | cons e t ih =>
    obtain ⟨i, w⟩ := e
    simp only [tput, hv, if_false]
    split
    · simp only [tget]; grind
    · split
      · simp only [tget]; grind
      · simp only [tget, ih]
theorem tget_tput_from [DecidableEq α] {d : Nat → α} {t : Table α} (k j : Nat) (v : α) (h : tableFrom d none t = true) :
    tget d (tput d t k v) j = if j = k then v else tget d t j := by
  induction t with
  | nil =>
    unfold tput
    split
    · split
      · simp_all [tget]
      · rfl
    · simp only [tget]
      grind
  | cons e t ih =>
    obtain ⟨i, w⟩ := e
    simp only [tableFrom, Bool.and_eq_true, decide_eq_true_eq] at h
    have ih := ih (tableFrom_none h.2)
    have hb := fun (k : Nat) (hk : k ≤ i) => tget_below (k := k) h.2 hk
    unfold tput
    simp only [tget]
    split
    · split
      · grind [tget]
      · grind [tget]
    · split
      · subst_vars
        rw [tableFrom_filter h.2]
        split
        · grind [tget]
        · grind [tget]
      · grind [tget]

/-- Reading a canonical table after a write: the value written at its number, every other number as before. -/
theorem tget_tput [DecidableEq α] {d : Nat → α} {t : Table α} (k j : Nat) (v : α) (h : tableWf d t = true) :
    tget d (tput d t k v) j = if j = k then v else tget d t j := tget_tput_from k j v h

theorem tput_from [DecidableEq α] {d : Nat → α} {t : Table α} {b : Option Nat} (k : Nat) (v : α) (h : tableFrom d b t = true)
    (hb : ∀ c, b = some c → c < k) : tableFrom d b (tput d t k v) = true := by
  induction t generalizing b with
  | nil =>
    unfold tput
    split
    · rfl
    · cases b with
      | none => simp_all [tableFrom]
      | some c => have := hb c rfl; simp_all [tableFrom]
  | cons e t ih =>
    obtain ⟨i, w⟩ := e
    have hh := h
    simp only [tableFrom, Bool.and_eq_true, decide_eq_true_eq] at h
    unfold tput
    split
    · split
      · exact hh
      · simp only [tableFrom, Bool.and_eq_true, decide_eq_true_eq]
        refine ⟨⟨?_, ‹_›⟩, ⟨‹_›, h.1.2⟩, h.2⟩
        cases b with
        | none => rfl
        | some c => simpa using hb c rfl
    · split
      · subst_vars
        rw [tableFrom_filter h.2]
        split
        · cases b with
          | none => exact tableFrom_none h.2
          | some c => exact tableFrom_weaken h.2 (by simpa using Nat.le_of_lt (hb c rfl))
        · simp only [tableFrom, Bool.and_eq_true, decide_eq_true_eq]
          exact ⟨⟨h.1.1, ‹_›⟩, h.2⟩
      · simp only [tableFrom, Bool.and_eq_true, decide_eq_true_eq]
        refine ⟨h.1, ih h.2 ?_⟩
        intro c hc
        cases hc
        omega

/-- A write keeps the canonical form. -/
theorem tput_wf [DecidableEq α] {d : Nat → α} {t : Table α} (k : Nat) (v : α) (h : tableWf d t = true) :
    tableWf d (tput d t k v) = true := tput_from k v h nofun

/-- A change in place keeps the canonical form. -/
theorem tmod_wf [DecidableEq α] {d : Nat → α} {t : Table α} (k : Nat) (f : α → α) (h : tableWf d t = true) :
    tableWf d (tmod d t k f) = true := tput_wf k _ h

/-- Reading a canonical table after a change in place. -/
theorem tget_tmod [DecidableEq α] {d : Nat → α} {t : Table α} (k j : Nat) (f : α → α) (h : tableWf d t = true) :
    tget d (tmod d t k f) j = if j = k then f (tget d t k) else tget d t j := tget_tput k j _ h

/-- A table built up by writes is canonical. -/
theorem foldl_tput_wf {β : Type} [DecidableEq α] {d : Nat → α} (g : β → Nat) (f : β → α) (l : List β) (u : Table α)
    (h : tableWf d u = true) : tableWf d (l.foldl (fun u e => tput d u (g e) (f e)) u) = true := by
  induction l generalizing u with
  | nil => exact h
  | cons e l ih => exact ih _ (tput_wf _ _ h)

/-- A table whose values are all changed is canonical. -/
theorem tmap_wf [DecidableEq α] {d : Nat → α} (f : α → α) (t : Table α) : tableWf d (tmap d f t) = true :=
  foldl_tput_wf (fun e => e.1) (fun e => f e.2) t [] rfl

/-- A table built number by number is canonical. -/
theorem tbuild_wf [DecidableEq α] (d : Nat → α) (f : Nat → α) (n : Nat) : tableWf d (tbuild d f n) = true := by
  induction n with
  | zero => rfl
  | succ n ih => exact tput_wf _ _ ih

/-- A table built number by number reads as it was built. -/
theorem tget_tbuild [DecidableEq α] (d : Nat → α) (f : Nat → α) (n k : Nat) :
    tget d (tbuild d f n) k = if k < n then f k else d k := by
  induction n with
  | zero => rfl
  | succ n ih =>
    unfold tbuild
    rw [tget_tput n k _ (tbuild_wf d f n), ih]
    grind

/-- An option table reads as written at the number written. -/
@[simp] theorem tfind_tset (t : Table α) (k : Nat) (v : α) : tfind (tset t k v) k = some v := by
  induction t with
  | nil => simp [tset, tfind]
  | cons e t ih =>
    obtain ⟨i, w⟩ := e
    unfold tset
    split
    · simp [tfind]
    · split
      · simp [tfind]
      · have h1 : ¬ i = k := ‹_›
        have h2 : ¬ k < i := ‹_›
        simp only [tfind, h1, h2, if_false, ih]

/-- A number taken out of an option table is not found there. -/
theorem tfind_tdel (t : Table α) (k : Nat) : tfind (tdel t k) k = none := by
  induction t with
  | nil => rfl
  | cons e t ih =>
    obtain ⟨i, w⟩ := e
    unfold tdel at *
    by_cases h : i = k
    · simpa [h] using ih
    · simp only [List.filter, h, ne_eq, not_false_eq_true, decide_true, tfind, if_false, ih, ite_self]

end Sys2Proof.Machine
end

