-- ==== Sys2Proof/Laws/Within.lean ====
section
/-! SUPPORT. The rules of `Within`: how the parts that an operation may change add up. -/

namespace Sys2Proof.Machine

theorem Power.sameSupply_refl (a : Power) : Power.sameSupply a a := ⟨rfl, rfl, rfl⟩

theorem Power.sameReadiness_refl (a : Power) : Power.sameReadiness a a := ⟨rfl, rfl⟩

theorem State.sameSchedule_refl (s : State) : s.sameSchedule s := ⟨rfl, rfl, rfl, rfl, rfl⟩

theorem Keys.sameCustody_refl (a : Keys) : Keys.sameCustody a a := ⟨rfl, rfl, rfl, rfl, rfl, rfl⟩

theorem Part.same_refl (p : Part) (s : State) : p.same s s := by
  cases p <;> first | rfl | exact Power.sameSupply_refl _ | exact Power.sameReadiness_refl _ | exact State.sameSchedule_refl _ | exact Keys.sameCustody_refl _ | exact id

theorem Power.sameSupply_trans {a b c : Power} (h : Power.sameSupply a b) (g : Power.sameSupply b c) : Power.sameSupply a c :=
  ⟨g.1.trans h.1, g.2.1.trans h.2.1, g.2.2.trans h.2.2⟩

theorem Power.sameReadiness_trans {a b c : Power} (h : Power.sameReadiness a b) (g : Power.sameReadiness b c) :
    Power.sameReadiness a c := ⟨g.1.trans h.1, g.2.trans h.2⟩

theorem State.sameSchedule_trans {a b c : State} (h : a.sameSchedule b) (g : b.sameSchedule c) : a.sameSchedule c :=
  ⟨g.1.trans h.1, g.2.1.trans h.2.1, g.2.2.1.trans h.2.2.1, g.2.2.2.1.trans h.2.2.2.1, g.2.2.2.2.trans h.2.2.2.2⟩

theorem Keys.sameCustody_trans {a b c : Keys} (h : Keys.sameCustody a b) (g : Keys.sameCustody b c) : Keys.sameCustody a c :=
  ⟨g.1.trans h.1, g.2.1.trans h.2.1, g.2.2.1.trans h.2.2.1, g.2.2.2.1.trans h.2.2.2.1, g.2.2.2.2.1.trans h.2.2.2.2.1,
    g.2.2.2.2.2.trans h.2.2.2.2.2⟩

theorem Part.same_trans (p : Part) {s t u : State} (h : p.same s t) (g : p.same t u) : p.same s u := by
  cases p <;> first | exact Eq.trans g h | exact Power.sameSupply_trans h g | exact Power.sameReadiness_trans h g | exact State.sameSchedule_trans h g |
    exact Keys.sameCustody_trans h g | exact g ∘ h

theorem Within.refl (l : List Part) (s : State) : Within l s s := fun p _ => p.same_refl s

theorem Within.trans {l : List Part} {s t u : State} (h : Within l s t) (g : Within l t u) : Within l s u :=
  fun p hp => p.same_trans (h p hp) (g p hp)

theorem Within.mono {k l : List Part} {s t : State} (h : Within k s t) (hk : k.all l.contains = true) : Within l s t := by
  intro p hp
  refine h p ?_
  by_contra hc
  have : p ∈ k := by simpa using hc
  have := List.all_eq_true.mp hk p this
  simp_all

/-- First what leads to `t`, then an operation that changes the parts `k` only. -/
theorem Within.after {k l : List Part} {s t u : State} (h : Within l s t) (g : Within k t u) (hk : k.all l.contains = true) :
    Within l s u := h.trans (g.mono hk)

theorem Within.post_after {k l : List Part} {s t : State} {o : Host.Outcome State Fault Refusal} (h : Within l s t) (g : Within.post k t o)
    (hk : k.all l.contains = true) : Within.post l s o := by
  cases o with
  | next u => exact h.trans (Within.mono g hk)
  | fault r => trivial
  | refused r => trivial

theorem Within.fst_mk {α : Type} {l : List Part} {s a : State} {b : α} (h : Within l s a) : Within l s (a, b).1 := h

theorem Within.snd_mk {α : Type} {l : List Part} {s a : State} {b : α} (h : Within l s a) : Within l s (b, a).2 := h

theorem Within.ite {l : List Part} {s a b : State} {c : Prop} [Decidable c] (h : Within l s a) (g : Within l s b) :
    Within l s (if c then a else b) := by split <;> assumption

theorem Within.ite_fst {α : Type} {l : List Part} {s : State} {a b : State × α} {c : Prop} [Decidable c] (h : Within l s a.1)
    (g : Within l s b.1) : Within l s (if c then a else b).1 := by split <;> assumption

theorem Within.ite_snd {α : Type} {l : List Part} {s : State} {a b : α × State} {c : Prop} [Decidable c] (h : Within l s a.2)
    (g : Within l s b.2) : Within l s (if c then a else b).2 := by split <;> assumption

theorem Within.ite_post {l : List Part} {s : State} {a b : Host.Outcome State Fault Refusal} {c : Prop} [Decidable c]
    (h : Within.post l s a) (g : Within.post l s b) : Within.post l s (if c then a else b) := by split <;> assumption

theorem Within.foldl {α : Type} {l : List Part} {f : State → α → State} (hf : ∀ t x, Within l t (f t x)) {s t : State} {xs : List α}
    (h : Within l s t) : Within l s (xs.foldl f t) := by
  induction xs generalizing t with
  | nil => exact h
  | cons x xs ih => exact ih (h.trans (hf t x))

theorem Within.foldl_snd {α β : Type} {l : List Part} {f : β × State → α → β × State} (hf : ∀ t x, Within l t.2 (f t x).2) {s : State}
    {t : β × State} {xs : List α} (h : Within l s t.2) : Within l s (xs.foldl f t).2 := by
  induction xs generalizing t with
  | nil => exact h
  | cons x xs ih => exact ih (h.trans (hf t x))


/-! ## Parts replaced -/

theorem within_access {l : List Part} {s : State} {x0} (h0 : l.contains .access = true) :
    Within l s { s with access := x0 } := fun p hp => by
  cases p <;> first | rfl | exact absurd (h0.symm.trans hp) nofun | exact Power.sameSupply_refl _ | exact Power.sameReadiness_refl _ | exact State.sameSchedule_refl _ | exact id | exact Keys.sameCustody_refl _

theorem within_access_chain {l : List Part} {s : State} {x0} {x1} (h0 : l.contains .access = true) (h1 : l.contains .chain = true) :
    Within l s { s with access := x0, chain := x1 } := fun p hp => by
  cases p <;> first | rfl | exact absurd (h0.symm.trans hp) nofun | exact absurd (h1.symm.trans hp) nofun | exact Power.sameSupply_refl _ | exact Power.sameReadiness_refl _ | exact State.sameSchedule_refl _ | exact id | exact Keys.sameCustody_refl _

theorem within_access_keys {l : List Part} {s : State} {x0} {x1} (h0 : l.contains .access = true) (h1 : l.contains .keys = true) (g4 : Keys.sameCustody s.keys x1) :
    Within l s { s with access := x0, keys := x1 } := fun p hp => by
  cases p <;> first | rfl | exact absurd (h0.symm.trans hp) nofun | exact absurd (h1.symm.trans hp) nofun | exact Power.sameSupply_refl _ | exact Power.sameReadiness_refl _ | exact State.sameSchedule_refl _ | exact id | exact g4

theorem within_air {l : List Part} {s : State} {x0} (h0 : l.contains .air = true) :
    Within l s { s with air := x0 } := fun p hp => by
  cases p <;> first | rfl | exact absurd (h0.symm.trans hp) nofun | exact Power.sameSupply_refl _ | exact Power.sameReadiness_refl _ | exact State.sameSchedule_refl _ | exact id | exact Keys.sameCustody_refl _

theorem within_airLanes {l : List Part} {s : State} {x0} (h0 : l.contains .airLanes = true) (g5 : s.tablesWf → State.tablesWf { s with airLanes := x0 }) :
    Within l s { s with airLanes := x0 } := fun p hp => by
  cases p <;> first | rfl | exact absurd (h0.symm.trans hp) nofun | exact Power.sameSupply_refl _ | exact Power.sameReadiness_refl _ | exact State.sameSchedule_refl _ | exact id | exact Keys.sameCustody_refl _ | exact g5

theorem within_air_airLanes {l : List Part} {s : State} {x0} {x1} (h0 : l.contains .air = true) (h1 : l.contains .airLanes = true) (g5 : s.tablesWf → State.tablesWf { s with air := x0, airLanes := x1 }) :
    Within l s { s with air := x0, airLanes := x1 } := fun p hp => by
  cases p <;> first | rfl | exact absurd (h0.symm.trans hp) nofun | exact absurd (h1.symm.trans hp) nofun | exact Power.sameSupply_refl _ | exact Power.sameReadiness_refl _ | exact State.sameSchedule_refl _ | exact id | exact Keys.sameCustody_refl _ | exact g5

theorem within_air_keys_power_readiness {l : List Part} {s : State} {x0} {x1} {x2} (h0 : l.contains .air = true) (h1 : l.contains .keys = true) (h2 : l.contains .power = true) (g0 : Power.sameSupply s.power x2) (g1 : l.contains .readiness = true) (g4 : Keys.sameCustody s.keys x1) :
    Within l s { s with air := x0, keys := x1, power := x2 } := fun p hp => by
  cases p <;> first | rfl | exact absurd (h0.symm.trans hp) nofun | exact absurd (h1.symm.trans hp) nofun | exact absurd (h2.symm.trans hp) nofun | exact g0 | exact absurd (g1.symm.trans hp) nofun | exact State.sameSchedule_refl _ | exact id | exact g4

theorem within_cells {l : List Part} {s : State} {x0} (h0 : l.contains .cells = true) :
    Within l s { s with cells := x0 } := fun p hp => by
  cases p <;> first | rfl | exact absurd (h0.symm.trans hp) nofun | exact Power.sameSupply_refl _ | exact Power.sameReadiness_refl _ | exact State.sameSchedule_refl _ | exact id | exact Keys.sameCustody_refl _

theorem within_chain {l : List Part} {s : State} {x0} (h0 : l.contains .chain = true) :
    Within l s { s with chain := x0 } := fun p hp => by
  cases p <;> first | rfl | exact absurd (h0.symm.trans hp) nofun | exact Power.sameSupply_refl _ | exact Power.sameReadiness_refl _ | exact State.sameSchedule_refl _ | exact id | exact Keys.sameCustody_refl _

theorem within_checkpoint {l : List Part} {s : State} {x0} (h0 : l.contains .checkpoint = true) :
    Within l s { s with checkpoint := x0 } := fun p hp => by
  cases p <;> first | rfl | exact absurd (h0.symm.trans hp) nofun | exact Power.sameSupply_refl _ | exact Power.sameReadiness_refl _ | exact State.sameSchedule_refl _ | exact id | exact Keys.sameCustody_refl _

theorem within_clock {l : List Part} {s : State} {x0} (h0 : l.contains .clock = true) (g2 : s.sameSchedule { s with clock := x0 }) :
    Within l s { s with clock := x0 } := fun p hp => by
  cases p <;> first | rfl | exact absurd (h0.symm.trans hp) nofun | exact Power.sameSupply_refl _ | exact Power.sameReadiness_refl _ | exact g2 | exact id | exact Keys.sameCustody_refl _

theorem within_clock_pair {l : List Part} {s : State} {x0} {x1} (h0 : l.contains .clock = true) (h1 : l.contains .pair = true) (g2 : s.sameSchedule { s with clock := x0, pair := x1 }) :
    Within l s { s with clock := x0, pair := x1 } := fun p hp => by
  cases p <;> first | rfl | exact absurd (h0.symm.trans hp) nofun | exact absurd (h1.symm.trans hp) nofun | exact Power.sameSupply_refl _ | exact Power.sameReadiness_refl _ | exact g2 | exact id | exact Keys.sameCustody_refl _

theorem within_clock_routes_guests_ledger_halt_keys_schedule {l : List Part} {s : State} {x0} {x1} {x2} {x3} {x4} {x5} (h0 : l.contains .clock = true) (h1 : l.contains .routes = true) (h2 : l.contains .guests = true) (h3 : l.contains .ledger = true) (h4 : l.contains .halt = true) (h5 : l.contains .keys = true) (g2 : l.contains .schedule = true) (g3 : s.halt.silent = true → x4.silent = true) (g4 : Keys.sameCustody s.keys x5) (g5 : s.tablesWf → State.tablesWf { s with clock := x0, routes := x1, guests := x2, ledger := x3, halt := x4, keys := x5 }) :
    Within l s { s with clock := x0, routes := x1, guests := x2, ledger := x3, halt := x4, keys := x5 } := fun p hp => by
  cases p <;> first | rfl | exact absurd (h0.symm.trans hp) nofun | exact absurd (h1.symm.trans hp) nofun | exact absurd (h2.symm.trans hp) nofun | exact absurd (h3.symm.trans hp) nofun | exact absurd (h4.symm.trans hp) nofun | exact absurd (h5.symm.trans hp) nofun | exact Power.sameSupply_refl _ | exact Power.sameReadiness_refl _ | exact absurd (g2.symm.trans hp) nofun | exact g3 | exact g4 | exact g5

theorem within_clock_schedule {l : List Part} {s : State} {x0} (h0 : l.contains .clock = true) (g2 : l.contains .schedule = true) :
    Within l s { s with clock := x0 } := fun p hp => by
  cases p <;> first | rfl | exact absurd (h0.symm.trans hp) nofun | exact Power.sameSupply_refl _ | exact Power.sameReadiness_refl _ | exact absurd (g2.symm.trans hp) nofun | exact id | exact Keys.sameCustody_refl _

theorem within_clock_time {l : List Part} {s : State} {x0} {x1} (h0 : l.contains .clock = true) (h1 : l.contains .time = true) (g2 : s.sameSchedule { s with clock := x0, time := x1 }) :
    Within l s { s with clock := x0, time := x1 } := fun p hp => by
  cases p <;> first | rfl | exact absurd (h0.symm.trans hp) nofun | exact absurd (h1.symm.trans hp) nofun | exact Power.sameSupply_refl _ | exact Power.sameReadiness_refl _ | exact g2 | exact id | exact Keys.sameCustody_refl _

theorem within_clock_time_pair_schedule {l : List Part} {s : State} {x0} {x1} {x2} (h0 : l.contains .clock = true) (h1 : l.contains .time = true) (h2 : l.contains .pair = true) (g2 : l.contains .schedule = true) :
    Within l s { s with clock := x0, time := x1, pair := x2 } := fun p hp => by
  cases p <;> first | rfl | exact absurd (h0.symm.trans hp) nofun | exact absurd (h1.symm.trans hp) nofun | exact absurd (h2.symm.trans hp) nofun | exact Power.sameSupply_refl _ | exact Power.sameReadiness_refl _ | exact absurd (g2.symm.trans hp) nofun | exact id | exact Keys.sameCustody_refl _

theorem within_clock_time_schedule {l : List Part} {s : State} {x0} {x1} (h0 : l.contains .clock = true) (h1 : l.contains .time = true) (g2 : l.contains .schedule = true) :
    Within l s { s with clock := x0, time := x1 } := fun p hp => by
  cases p <;> first | rfl | exact absurd (h0.symm.trans hp) nofun | exact absurd (h1.symm.trans hp) nofun | exact Power.sameSupply_refl _ | exact Power.sameReadiness_refl _ | exact absurd (g2.symm.trans hp) nofun | exact id | exact Keys.sameCustody_refl _

theorem within_clock_time_update_panel_power_supply_schedule {l : List Part} {s : State} {x0} {x1} {x2} {x3} {x4} (h0 : l.contains .clock = true) (h1 : l.contains .time = true) (h2 : l.contains .update = true) (h3 : l.contains .panel = true) (h4 : l.contains .power = true) (g0 : l.contains .supply = true) (g1 : Power.sameReadiness s.power x4) (g2 : l.contains .schedule = true) :
    Within l s { s with clock := x0, time := x1, update := x2, panel := x3, power := x4 } := fun p hp => by
  cases p <;> first | rfl | exact absurd (h0.symm.trans hp) nofun | exact absurd (h1.symm.trans hp) nofun | exact absurd (h2.symm.trans hp) nofun | exact absurd (h3.symm.trans hp) nofun | exact absurd (h4.symm.trans hp) nofun | exact absurd (g0.symm.trans hp) nofun | exact g1 | exact absurd (g2.symm.trans hp) nofun | exact id | exact Keys.sameCustody_refl _

theorem within_clock_update_schedule {l : List Part} {s : State} {x0} {x1} (h0 : l.contains .clock = true) (h1 : l.contains .update = true) (g2 : l.contains .schedule = true) :
    Within l s { s with clock := x0, update := x1 } := fun p hp => by
  cases p <;> first | rfl | exact absurd (h0.symm.trans hp) nofun | exact absurd (h1.symm.trans hp) nofun | exact Power.sameSupply_refl _ | exact Power.sameReadiness_refl _ | exact absurd (g2.symm.trans hp) nofun | exact id | exact Keys.sameCustody_refl _

theorem within_counters {l : List Part} {s : State} {x0} (h0 : l.contains .counters = true) :
    Within l s { s with counters := x0 } := fun p hp => by
  cases p <;> first | rfl | exact absurd (h0.symm.trans hp) nofun | exact Power.sameSupply_refl _ | exact Power.sameReadiness_refl _ | exact State.sameSchedule_refl _ | exact id | exact Keys.sameCustody_refl _

theorem within_disp {l : List Part} {s : State} {x0} (h0 : l.contains .disp = true) :
    Within l s { s with disp := x0 } := fun p hp => by
  cases p <;> first | rfl | exact absurd (h0.symm.trans hp) nofun | exact Power.sameSupply_refl _ | exact Power.sameReadiness_refl _ | exact State.sameSchedule_refl _ | exact id | exact Keys.sameCustody_refl _

theorem within_due {l : List Part} {s : State} {x0} (h0 : l.contains .due = true) :
    Within l s { s with due := x0 } := fun p hp => by
  cases p <;> first | rfl | exact absurd (h0.symm.trans hp) nofun | exact Power.sameSupply_refl _ | exact Power.sameReadiness_refl _ | exact State.sameSchedule_refl _ | exact id | exact Keys.sameCustody_refl _

theorem within_free {l : List Part} {s : State} {x0} :
    Within l s { s with free := x0 } := fun p hp => by
  cases p <;> first | rfl | exact Power.sameSupply_refl _ | exact Power.sameReadiness_refl _ | exact State.sameSchedule_refl _ | exact id | exact Keys.sameCustody_refl _

theorem within_gnss {l : List Part} {s : State} {x0} (h0 : l.contains .gnss = true) :
    Within l s { s with gnss := x0 } := fun p hp => by
  cases p <;> first | rfl | exact absurd (h0.symm.trans hp) nofun | exact Power.sameSupply_refl _ | exact Power.sameReadiness_refl _ | exact State.sameSchedule_refl _ | exact id | exact Keys.sameCustody_refl _

theorem within_guests {l : List Part} {s : State} {x0} (h0 : l.contains .guests = true) :
    Within l s { s with guests := x0 } := fun p hp => by
  cases p <;> first | rfl | exact absurd (h0.symm.trans hp) nofun | exact Power.sameSupply_refl _ | exact Power.sameReadiness_refl _ | exact State.sameSchedule_refl _ | exact id | exact Keys.sameCustody_refl _

theorem within_guests_cells {l : List Part} {s : State} {x0} {x1} (h0 : l.contains .guests = true) (h1 : l.contains .cells = true) :
    Within l s { s with guests := x0, cells := x1 } := fun p hp => by
  cases p <;> first | rfl | exact absurd (h0.symm.trans hp) nofun | exact absurd (h1.symm.trans hp) nofun | exact Power.sameSupply_refl _ | exact Power.sameReadiness_refl _ | exact State.sameSchedule_refl _ | exact id | exact Keys.sameCustody_refl _

theorem within_guests_cells_checkpoint {l : List Part} {s : State} {x0} {x1} {x2} (h0 : l.contains .guests = true) (h1 : l.contains .cells = true) (h2 : l.contains .checkpoint = true) :
    Within l s { s with guests := x0, cells := x1, checkpoint := x2 } := fun p hp => by
  cases p <;> first | rfl | exact absurd (h0.symm.trans hp) nofun | exact absurd (h1.symm.trans hp) nofun | exact absurd (h2.symm.trans hp) nofun | exact Power.sameSupply_refl _ | exact Power.sameReadiness_refl _ | exact State.sameSchedule_refl _ | exact id | exact Keys.sameCustody_refl _

theorem within_halt {l : List Part} {s : State} {x0} (h0 : l.contains .halt = true) (g3 : s.halt.silent = true → x0.silent = true) :
    Within l s { s with halt := x0 } := fun p hp => by
  cases p <;> first | rfl | exact absurd (h0.symm.trans hp) nofun | exact Power.sameSupply_refl _ | exact Power.sameReadiness_refl _ | exact State.sameSchedule_refl _ | exact g3 | exact Keys.sameCustody_refl _ | exact id

theorem within_keys {l : List Part} {s : State} {x0} (h0 : l.contains .keys = true) (g4 : Keys.sameCustody s.keys x0) :
    Within l s { s with keys := x0 } := fun p hp => by
  cases p <;> first | rfl | exact absurd (h0.symm.trans hp) nofun | exact Power.sameSupply_refl _ | exact Power.sameReadiness_refl _ | exact State.sameSchedule_refl _ | exact id | exact g4

theorem within_keys_custody {l : List Part} {s : State} {x0} (h0 : l.contains .keys = true) (g4 : l.contains .custody = true) :
    Within l s { s with keys := x0 } := fun p hp => by
  cases p <;> first | rfl | exact absurd (h0.symm.trans hp) nofun | exact Power.sameSupply_refl _ | exact Power.sameReadiness_refl _ | exact State.sameSchedule_refl _ | exact id | exact absurd (g4.symm.trans hp) nofun

theorem within_keys_power_readiness {l : List Part} {s : State} {x0} {x1} (h0 : l.contains .keys = true) (h1 : l.contains .power = true) (g0 : Power.sameSupply s.power x1) (g1 : l.contains .readiness = true) (g4 : Keys.sameCustody s.keys x0) :
    Within l s { s with keys := x0, power := x1 } := fun p hp => by
  cases p <;> first | rfl | exact absurd (h0.symm.trans hp) nofun | exact absurd (h1.symm.trans hp) nofun | exact g0 | exact absurd (g1.symm.trans hp) nofun | exact State.sameSchedule_refl _ | exact id | exact g4

theorem within_lamps {l : List Part} {s : State} {x0} (h0 : l.contains .lamps = true) :
    Within l s { s with lamps := x0 } := fun p hp => by
  cases p <;> first | rfl | exact absurd (h0.symm.trans hp) nofun | exact Power.sameSupply_refl _ | exact Power.sameReadiness_refl _ | exact State.sameSchedule_refl _ | exact id | exact Keys.sameCustody_refl _

theorem within_lanes {l : List Part} {s : State} {x0} (h0 : l.contains .lanes = true) (g5 : s.tablesWf → State.tablesWf { s with lanes := x0 }) :
    Within l s { s with lanes := x0 } := fun p hp => by
  cases p <;> first | rfl | exact absurd (h0.symm.trans hp) nofun | exact Power.sameSupply_refl _ | exact Power.sameReadiness_refl _ | exact State.sameSchedule_refl _ | exact id | exact Keys.sameCustody_refl _ | exact g5

theorem within_lanes_pair_due_checkpoint_keys {l : List Part} {s : State} {x0} {x1} {x2} {x3} {x4} (h0 : l.contains .lanes = true) (h1 : l.contains .pair = true) (h2 : l.contains .due = true) (h3 : l.contains .checkpoint = true) (h4 : l.contains .keys = true) (g4 : Keys.sameCustody s.keys x4) (g5 : s.tablesWf → State.tablesWf { s with lanes := x0, pair := x1, due := x2, checkpoint := x3, keys := x4 }) :
    Within l s { s with lanes := x0, pair := x1, due := x2, checkpoint := x3, keys := x4 } := fun p hp => by
  cases p <;> first | rfl | exact absurd (h0.symm.trans hp) nofun | exact absurd (h1.symm.trans hp) nofun | exact absurd (h2.symm.trans hp) nofun | exact absurd (h3.symm.trans hp) nofun | exact absurd (h4.symm.trans hp) nofun | exact Power.sameSupply_refl _ | exact Power.sameReadiness_refl _ | exact State.sameSchedule_refl _ | exact id | exact g4 | exact g5

theorem within_lanes_routes_ledger {l : List Part} {s : State} {x0} {x1} {x2} (h0 : l.contains .lanes = true) (h1 : l.contains .routes = true) (h2 : l.contains .ledger = true) (g5 : s.tablesWf → State.tablesWf { s with lanes := x0, routes := x1, ledger := x2 }) :
    Within l s { s with lanes := x0, routes := x1, ledger := x2 } := fun p hp => by
  cases p <;> first | rfl | exact absurd (h0.symm.trans hp) nofun | exact absurd (h1.symm.trans hp) nofun | exact absurd (h2.symm.trans hp) nofun | exact Power.sameSupply_refl _ | exact Power.sameReadiness_refl _ | exact State.sameSchedule_refl _ | exact id | exact Keys.sameCustody_refl _ | exact g5

theorem within_ledger {l : List Part} {s : State} {x0} (h0 : l.contains .ledger = true) :
    Within l s { s with ledger := x0 } := fun p hp => by
  cases p <;> first | rfl | exact absurd (h0.symm.trans hp) nofun | exact Power.sameSupply_refl _ | exact Power.sameReadiness_refl _ | exact State.sameSchedule_refl _ | exact id | exact Keys.sameCustody_refl _

theorem within_ledger_due {l : List Part} {s : State} {x0} {x1} (h0 : l.contains .ledger = true) (h1 : l.contains .due = true) :
    Within l s { s with ledger := x0, due := x1 } := fun p hp => by
  cases p <;> first | rfl | exact absurd (h0.symm.trans hp) nofun | exact absurd (h1.symm.trans hp) nofun | exact Power.sameSupply_refl _ | exact Power.sameReadiness_refl _ | exact State.sameSchedule_refl _ | exact id | exact Keys.sameCustody_refl _

theorem within_out {l : List Part} {s : State} {x0} :
    Within l s { s with out := x0 } := fun p hp => by
  cases p <;> first | rfl | exact Power.sameSupply_refl _ | exact Power.sameReadiness_refl _ | exact State.sameSchedule_refl _ | exact id | exact Keys.sameCustody_refl _

theorem within_pair {l : List Part} {s : State} {x0} (h0 : l.contains .pair = true) :
    Within l s { s with pair := x0 } := fun p hp => by
  cases p <;> first | rfl | exact absurd (h0.symm.trans hp) nofun | exact Power.sameSupply_refl _ | exact Power.sameReadiness_refl _ | exact State.sameSchedule_refl _ | exact id | exact Keys.sameCustody_refl _

theorem within_pair_checkpoint {l : List Part} {s : State} {x0} {x1} (h0 : l.contains .pair = true) (h1 : l.contains .checkpoint = true) :
    Within l s { s with pair := x0, checkpoint := x1 } := fun p hp => by
  cases p <;> first | rfl | exact absurd (h0.symm.trans hp) nofun | exact absurd (h1.symm.trans hp) nofun | exact Power.sameSupply_refl _ | exact Power.sameReadiness_refl _ | exact State.sameSchedule_refl _ | exact id | exact Keys.sameCustody_refl _

theorem within_pair_due {l : List Part} {s : State} {x0} {x1} (h0 : l.contains .pair = true) (h1 : l.contains .due = true) :
    Within l s { s with pair := x0, due := x1 } := fun p hp => by
  cases p <;> first | rfl | exact absurd (h0.symm.trans hp) nofun | exact absurd (h1.symm.trans hp) nofun | exact Power.sameSupply_refl _ | exact Power.sameReadiness_refl _ | exact State.sameSchedule_refl _ | exact id | exact Keys.sameCustody_refl _

theorem within_pair_keys {l : List Part} {s : State} {x0} {x1} (h0 : l.contains .pair = true) (h1 : l.contains .keys = true) (g4 : Keys.sameCustody s.keys x1) :
    Within l s { s with pair := x0, keys := x1 } := fun p hp => by
  cases p <;> first | rfl | exact absurd (h0.symm.trans hp) nofun | exact absurd (h1.symm.trans hp) nofun | exact Power.sameSupply_refl _ | exact Power.sameReadiness_refl _ | exact State.sameSchedule_refl _ | exact id | exact g4

theorem within_panel {l : List Part} {s : State} {x0} (h0 : l.contains .panel = true) :
    Within l s { s with panel := x0 } := fun p hp => by
  cases p <;> first | rfl | exact absurd (h0.symm.trans hp) nofun | exact Power.sameSupply_refl _ | exact Power.sameReadiness_refl _ | exact State.sameSchedule_refl _ | exact id | exact Keys.sameCustody_refl _

theorem within_power {l : List Part} {s : State} {x0} (h0 : l.contains .power = true) (g0 : Power.sameSupply s.power x0) (g1 : Power.sameReadiness s.power x0) :
    Within l s { s with power := x0 } := fun p hp => by
  cases p <;> first | rfl | exact absurd (h0.symm.trans hp) nofun | exact g0 | exact g1 | exact State.sameSchedule_refl _ | exact id | exact Keys.sameCustody_refl _

theorem within_power_readiness {l : List Part} {s : State} {x0} (h0 : l.contains .power = true) (g0 : Power.sameSupply s.power x0) (g1 : l.contains .readiness = true) :
    Within l s { s with power := x0 } := fun p hp => by
  cases p <;> first | rfl | exact absurd (h0.symm.trans hp) nofun | exact g0 | exact absurd (g1.symm.trans hp) nofun | exact State.sameSchedule_refl _ | exact id | exact Keys.sameCustody_refl _

theorem within_power_supply {l : List Part} {s : State} {x0} (h0 : l.contains .power = true) (g0 : l.contains .supply = true) (g1 : Power.sameReadiness s.power x0) :
    Within l s { s with power := x0 } := fun p hp => by
  cases p <;> first | rfl | exact absurd (h0.symm.trans hp) nofun | exact absurd (g0.symm.trans hp) nofun | exact g1 | exact State.sameSchedule_refl _ | exact id | exact Keys.sameCustody_refl _

theorem within_reference {l : List Part} {s : State} {x0} (h0 : l.contains .reference = true) :
    Within l s { s with reference := x0 } := fun p hp => by
  cases p <;> first | rfl | exact absurd (h0.symm.trans hp) nofun | exact Power.sameSupply_refl _ | exact Power.sameReadiness_refl _ | exact State.sameSchedule_refl _ | exact id | exact Keys.sameCustody_refl _

theorem within_routes {l : List Part} {s : State} {x0} (h0 : l.contains .routes = true) (g5 : s.tablesWf → State.tablesWf { s with routes := x0 }) :
    Within l s { s with routes := x0 } := fun p hp => by
  cases p <;> first | rfl | exact absurd (h0.symm.trans hp) nofun | exact Power.sameSupply_refl _ | exact Power.sameReadiness_refl _ | exact State.sameSchedule_refl _ | exact id | exact Keys.sameCustody_refl _ | exact g5

theorem within_settings {l : List Part} {s : State} {x0} (h0 : l.contains .settings = true) :
    Within l s { s with settings := x0 } := fun p hp => by
  cases p <;> first | rfl | exact absurd (h0.symm.trans hp) nofun | exact Power.sameSupply_refl _ | exact Power.sameReadiness_refl _ | exact State.sameSchedule_refl _ | exact id | exact Keys.sameCustody_refl _

theorem within_shown {l : List Part} {s : State} {x0} (h0 : l.contains .shown = true) :
    Within l s { s with shown := x0 } := fun p hp => by
  cases p <;> first | rfl | exact absurd (h0.symm.trans hp) nofun | exact Power.sameSupply_refl _ | exact Power.sameReadiness_refl _ | exact State.sameSchedule_refl _ | exact id | exact Keys.sameCustody_refl _

theorem within_tap {l : List Part} {s : State} {x0} (h0 : l.contains .tap = true) :
    Within l s { s with tap := x0 } := fun p hp => by
  cases p <;> first | rfl | exact absurd (h0.symm.trans hp) nofun | exact Power.sameSupply_refl _ | exact Power.sameReadiness_refl _ | exact State.sameSchedule_refl _ | exact id | exact Keys.sameCustody_refl _

theorem within_time {l : List Part} {s : State} {x0} (h0 : l.contains .time = true) (g2 : s.sameSchedule { s with time := x0 }) :
    Within l s { s with time := x0 } := fun p hp => by
  cases p <;> first | rfl | exact absurd (h0.symm.trans hp) nofun | exact Power.sameSupply_refl _ | exact Power.sameReadiness_refl _ | exact g2 | exact id | exact Keys.sameCustody_refl _

theorem within_time_gnss {l : List Part} {s : State} {x0} {x1} (h0 : l.contains .time = true) (h1 : l.contains .gnss = true) (g2 : s.sameSchedule { s with time := x0, gnss := x1 }) :
    Within l s { s with time := x0, gnss := x1 } := fun p hp => by
  cases p <;> first | rfl | exact absurd (h0.symm.trans hp) nofun | exact absurd (h1.symm.trans hp) nofun | exact Power.sameSupply_refl _ | exact Power.sameReadiness_refl _ | exact g2 | exact id | exact Keys.sameCustody_refl _

theorem within_time_schedule {l : List Part} {s : State} {x0} (h0 : l.contains .time = true) (g2 : l.contains .schedule = true) :
    Within l s { s with time := x0 } := fun p hp => by
  cases p <;> first | rfl | exact absurd (h0.symm.trans hp) nofun | exact Power.sameSupply_refl _ | exact Power.sameReadiness_refl _ | exact absurd (g2.symm.trans hp) nofun | exact id | exact Keys.sameCustody_refl _

theorem within_trip {l : List Part} {s : State} {x0} (h0 : l.contains .trip = true) :
    Within l s { s with trip := x0 } := fun p hp => by
  cases p <;> first | rfl | exact absurd (h0.symm.trans hp) nofun | exact Power.sameSupply_refl _ | exact Power.sameReadiness_refl _ | exact State.sameSchedule_refl _ | exact id | exact Keys.sameCustody_refl _

theorem within_update {l : List Part} {s : State} {x0} (h0 : l.contains .update = true) :
    Within l s { s with update := x0 } := fun p hp => by
  cases p <;> first | rfl | exact absurd (h0.symm.trans hp) nofun | exact Power.sameSupply_refl _ | exact Power.sameReadiness_refl _ | exact State.sameSchedule_refl _ | exact id | exact Keys.sameCustody_refl _

theorem within_update_access {l : List Part} {s : State} {x0} {x1} (h0 : l.contains .update = true) (h1 : l.contains .access = true) :
    Within l s { s with update := x0, access := x1 } := fun p hp => by
  cases p <;> first | rfl | exact absurd (h0.symm.trans hp) nofun | exact absurd (h1.symm.trans hp) nofun | exact Power.sameSupply_refl _ | exact Power.sameReadiness_refl _ | exact State.sameSchedule_refl _ | exact id | exact Keys.sameCustody_refl _

theorem within_update_power {l : List Part} {s : State} {x0} {x1} (h0 : l.contains .update = true) (h1 : l.contains .power = true) (g0 : Power.sameSupply s.power x1) (g1 : Power.sameReadiness s.power x1) :
    Within l s { s with update := x0, power := x1 } := fun p hp => by
  cases p <;> first | rfl | exact absurd (h0.symm.trans hp) nofun | exact absurd (h1.symm.trans hp) nofun | exact g0 | exact g1 | exact State.sameSchedule_refl _ | exact id | exact Keys.sameCustody_refl _

theorem within_update_power_readiness {l : List Part} {s : State} {x0} {x1} (h0 : l.contains .update = true) (h1 : l.contains .power = true) (g0 : Power.sameSupply s.power x1) (g1 : l.contains .readiness = true) :
    Within l s { s with update := x0, power := x1 } := fun p hp => by
  cases p <;> first | rfl | exact absurd (h0.symm.trans hp) nofun | exact absurd (h1.symm.trans hp) nofun | exact g0 | exact absurd (g1.symm.trans hp) nofun | exact State.sameSchedule_refl _ | exact id | exact Keys.sameCustody_refl _

theorem within_update_power_supply {l : List Part} {s : State} {x0} {x1} (h0 : l.contains .update = true) (h1 : l.contains .power = true) (g0 : l.contains .supply = true) (g1 : Power.sameReadiness s.power x1) :
    Within l s { s with update := x0, power := x1 } := fun p hp => by
  cases p <;> first | rfl | exact absurd (h0.symm.trans hp) nofun | exact absurd (h1.symm.trans hp) nofun | exact absurd (g0.symm.trans hp) nofun | exact g1 | exact State.sameSchedule_refl _ | exact id | exact Keys.sameCustody_refl _

theorem within_update_trip {l : List Part} {s : State} {x0} {x1} (h0 : l.contains .update = true) (h1 : l.contains .trip = true) :
    Within l s { s with update := x0, trip := x1 } := fun p hp => by
  cases p <;> first | rfl | exact absurd (h0.symm.trans hp) nofun | exact absurd (h1.symm.trans hp) nofun | exact Power.sameSupply_refl _ | exact Power.sameReadiness_refl _ | exact State.sameSchedule_refl _ | exact id | exact Keys.sameCustody_refl _

end Sys2Proof.Machine
end

