-- ==== Sys2Proof/Laws/Ops.lean ====
section
/-! SUPPORT. What each operation of Machine/Ops.lean may change: the parts listed, what goes out, and the free values drawn. -/

namespace Sys2Proof.Machine

theorem State.emit_within {o : Output} {s : State} : Within [] s (State.emit o s) :=
  within_out

theorem State.onRoute_within {s : State} {n : ℕ} {f : Route → Route} : Within [Part.routes] s (State.onRoute s n f) :=
  within_routes rfl (fun h => ⟨h.1, tmod_wf _ _ h.2.1, h.2.2⟩)

theorem State.setLane_within {s : State} {n : ℕ} {l : Lane} : Within [Part.lanes] s (State.setLane s n l) :=
  within_lanes rfl (fun h => ⟨tput_wf _ _ h.1, h.2.1, h.2.2⟩)

theorem State.onLane_within {s : State} {n : ℕ} {f : Lane → Lane} : Within [Part.lanes] s (State.onLane s n f) :=
  State.setLane_within.mono rfl

theorem State.begin_within {s : State} : Within [] s (State.begin s) :=
  within_out

theorem State.draw_within {s : State} : Within [] s (State.draw s).2 := by
  unfold State.draw
  refine Within.snd_mk ?_
  exact within_free

theorem State.stamped_within {n : ℕ} {s : State} : Within [Part.clock] s (State.stamped n s) :=
  within_clock rfl ⟨rfl, rfl, rfl, rfl, rfl⟩

end Sys2Proof.Machine
end

