-- ==== Sys2Proof/Laws/Events.lean ====
section
/-! SUPPORT. What each operation of Machine/Events.lean may change: the parts listed, what goes out, and the free values drawn. -/

namespace Sys2Proof.Machine

theorem State.onStream_within {q : ℕ} {f : Stream → Stream} {s : State} : Within [Part.access] s (State.onStream q f s) :=
  within_access rfl

theorem State.answer_within {r : Req} {a : Answer} {s : State} : Within [Part.access, .update] s (State.answer r a s) := by
  unfold State.answer
  dsimp only
  split
  · split
    · exact State.emit_within.mono rfl
    · refine Within.trans ?_ (within_access rfl)
      exact State.emit_within.mono rfl
  · refine Within.ite ?_ ?_
    · refine Within.trans ?_ (within_update rfl)
      exact State.emit_within.mono rfl
    · exact State.emit_within.mono rfl
  · exact State.emit_within.mono rfl

theorem State.answerOpt_within {r : Option Req} {a : Answer} {s : State} : Within [Part.access, .update] s (State.answerOpt
    r a s) := by
  unfold State.answerOpt
  split
  · exact Within.refl _ _
  · exact State.answer_within.mono rfl

theorem State.addCounter_within {n : ℕ} {s : State} {c : ℕ} : Within [Part.counters] s (State.addCounter n s c) :=
  within_counters rfl

theorem State.count_within {sel : ℕ} {n : ℕ} {s : State} : Within [Part.counters] s (State.count sel n s) := by
  unfold State.count
  refine Within.foldl (fun _ _ => ?_) ?_
  · exact State.addCounter_within.mono rfl
  · exact Within.refl _ _

theorem State.sendLink_within {m : LinkMsg} {s : State} : Within [Part.pair] s (State.sendLink m s) := by
  unfold State.sendLink
  refine Within.ite ?_ ?_
  · refine Within.trans ?_ (within_pair rfl)
    exact State.emit_within.mono rfl
  · exact Within.refl _ _

theorem State.mirror_within {source : ℕ} {item : InputItem} {s : State} : Within [Part.pair, .counters] s (State.mirror
    source item s) := by
  unfold State.mirror
  refine Within.ite ?_ ?_
  · refine Within.after ?_ State.count_within rfl
    exact State.sendLink_within.mono rfl
  · exact Within.refl _ _

theorem State.onTrip_within {u : ℕ} {f : TripUnit → TripUnit} {s : State} : Within [Part.trip] s (State.onTrip u f s) :=
  within_trip rfl

theorem State.trigger_within {b : ℕ} {time : ℤ} {lane : ℕ} {s : State} : Within [Part.trip] s (State.trigger b time lane s)
    := by
  unfold State.trigger
  refine Within.foldl (fun _ _ => ?_) ?_
  · exact State.onTrip_within.mono rfl
  · exact Within.refl _ _

theorem State.sendEmcy_within {code : ℕ} {event : ℕ} {s : State} : Within [Part.access] s (State.sendEmcy code event s) := by
  unfold State.sendEmcy
  refine Within.ite ?_ ?_
  · exact Within.refl _ _
  · refine Within.ite ?_ ?_
    · exact within_access rfl
    · refine Within.trans ?_ (within_access rfl)
      exact State.emit_within.mono rfl

theorem State.occupy_within {sel : ℕ} {v : ℕ} {s : State} : Within [Part.counters] s (State.occupy sel v s) :=
  within_counters rfl

theorem State.placeItem_within {q : ℕ} {typ : ℕ} {body : Bytes} {s : State} : Within [Part.access, .counters] s
    (State.placeItem q typ body s) := by
  unfold State.placeItem
  refine Within.after ?_ State.occupy_within rfl
  refine Within.after ?_ State.count_within rfl
  refine Within.after ?_ State.count_within rfl
  exact State.onStream_within.mono rfl

theorem State.recordUnit_within {last : ℕ} {grain : ℕ} {r : TripRec} {s : State} {u : ℕ} : Within [Part.trip] s
    (State.recordUnit last grain r s u) := by
  unfold State.recordUnit
  refine Within.ite ?_ ?_
  · refine Within.after ?_ State.emit_within rfl
    exact State.onTrip_within.mono rfl
  · exact State.onTrip_within.mono rfl

theorem State.sampleUnit_within {r : TripRec} {s : State} {u : ℕ} : Within [Part.trip] s (State.sampleUnit r s u) :=
  State.recordUnit_within.mono rfl

theorem State.tripSample_within {source : ℕ} {lane : ℕ} {time : ℤ} {data : Bytes} {s : State} : Within [Part.trip] s
    (State.tripSample source lane time data s) := by
  unfold State.tripSample
  refine Within.foldl (fun _ _ => ?_) ?_
  · exact State.sampleUnit_within.mono rfl
  · exact Within.refl _ _

theorem State.sound_within {s : State} : Within [Part.panel] s (State.sound s) := by
  unfold State.sound
  refine Within.ite ?_ ?_
  · exact within_panel rfl
  · refine Within.after ?_ State.emit_within rfl
    exact within_panel rfl

theorem State.raiseCore_within {code : ℕ} {cls : ℕ} {reg : ℕ} {lane : ℕ} {key : ℕ} {params : Bytes} {s : State} : Within
    [Part.access, .counters, .trip, .panel] s (State.raiseCore code cls reg lane key params s) := by
  unfold State.raiseCore
  refine Within.after ?_ State.sound_within rfl
  refine Within.ite ?_ ?_
  · refine Within.after ?_ State.tripSample_within rfl
    refine Within.ite ?_ ?_
    · refine Within.after ?_ State.trigger_within rfl
      refine Within.after ?_ State.placeItem_within rfl
      refine Within.ite ?_ ?_
      · refine Within.after ?_ State.sendEmcy_within rfl
        refine Within.trans ?_ (within_access rfl)
        exact within_access rfl
      · refine Within.ite ?_ ?_
        · refine Within.after ?_ State.sendEmcy_within rfl
          exact within_access rfl
        · exact within_access rfl
    · refine Within.after ?_ State.placeItem_within rfl
      refine Within.ite ?_ ?_
      · refine Within.after ?_ State.sendEmcy_within rfl
        refine Within.trans ?_ (within_access rfl)
        exact within_access rfl
      · refine Within.ite ?_ ?_
        · refine Within.after ?_ State.sendEmcy_within rfl
          exact within_access rfl
        · exact within_access rfl
  · refine Within.ite ?_ ?_
    · refine Within.after ?_ State.trigger_within rfl
      refine Within.after ?_ State.placeItem_within rfl
      refine Within.ite ?_ ?_
      · refine Within.after ?_ State.sendEmcy_within rfl
        refine Within.trans ?_ (within_access rfl)
        exact within_access rfl
      · refine Within.ite ?_ ?_
        · refine Within.after ?_ State.sendEmcy_within rfl
          exact within_access rfl
        · exact within_access rfl
    · refine Within.after ?_ State.placeItem_within rfl
      refine Within.ite ?_ ?_
      · refine Within.after ?_ State.sendEmcy_within rfl
        refine Within.trans ?_ (within_access rfl)
        exact within_access rfl
      · refine Within.ite ?_ ?_
        · refine Within.after ?_ State.sendEmcy_within rfl
          exact within_access rfl
        · exact within_access rfl

theorem State.checkQueue_within {q : ℕ} {s : State} : Within [Part.access, .counters, .trip, .panel] s (State.checkQueue q
    s) := by
  unfold State.checkQueue
  refine Within.ite ?_ ?_
  · exact Within.refl _ _
  · refine Within.after ?_ State.trigger_within rfl
    refine Within.after ?_ State.raiseCore_within rfl
    refine Within.after ?_ State.count_within rfl
    exact State.onStream_within.mono rfl

theorem State.raise_within {code : ℕ} {cls : ℕ} {reg : ℕ} {lane : ℕ} {key : ℕ} {params : Bytes} {s : State} : Within
    [Part.access, .counters, .trip, .panel] s (State.raise code cls reg lane key params s) := by
  unfold State.raise
  refine Within.after ?_ State.raiseCore_within rfl
  exact State.checkQueue_within.mono rfl

theorem State.push_within {q : ℕ} {typ : ℕ} {body : Bytes} {s : State} : Within [Part.access, .counters, .trip, .panel] s
    (State.push q typ body s) := by
  unfold State.push
  refine Within.after ?_ State.placeItem_within rfl
  exact State.checkQueue_within.mono rfl

theorem State.pushTelemetry_within {typ : ℕ} {lane : ℕ} {body : Bytes} {s : State} : Within [Part.access, .counters, .trip,
    .panel] s (State.pushTelemetry typ lane body s) := by
  unfold State.pushTelemetry
  refine Within.after ?_ State.tripSample_within rfl
  exact State.push_within.mono rfl

theorem State.inUse_within {resource : String} {owner : String} {s : State} : Within [Part.access, .counters, .trip, .panel]
    s (State.inUse resource owner s) :=
  State.raise_within.mono rfl

end Sys2Proof.Machine
end

