-- ==== Sys2Proof/Laws/Store.lean ====
section
/-! SUPPORT. What each operation of Machine/Store.lean may change: the parts listed, what goes out, and the free values drawn. -/

namespace Sys2Proof.Machine

theorem State.settingEffect_within {index : ℕ} {sub : ℕ} {v : ℕ} {s : State} : Within [Part.gnss, .counters, .access] s
    (State.settingEffect index sub v s) := by
  unfold State.settingEffect
  refine Within.ite ?_ ?_
  · exact within_gnss rfl
  · refine Within.ite ?_ ?_
    · exact within_gnss rfl
    · refine Within.ite ?_ ?_
      · exact within_gnss rfl
      · refine Within.ite ?_ ?_
        · exact within_counters rfl
        · refine Within.ite ?_ ?_
          · refine Within.ite ?_ ?_
            · refine Within.ite ?_ ?_
              · exact State.onStream_within.mono rfl
              · exact Within.refl _ _
            · refine Within.ite ?_ ?_
              · exact State.onStream_within.mono rfl
              · exact Within.refl _ _
          · exact Within.refl _ _

theorem State.put_within {s : State} {x : WriteItem} : Within [Part.settings, .gnss, .counters, .access] s (State.put s x)
    := by
  unfold State.put
  refine Within.after ?_ State.settingEffect_within rfl
  exact within_settings rfl

theorem State.compact_within {s : State} : Within [Part.access, .counters, .trip, .panel, .update] s (State.compact s) := by
  unfold State.compact
  refine Within.trans ?_ (within_update rfl)
  refine Within.ite ?_ ?_
  · exact State.raise_within.mono rfl
  · exact Within.refl _ _

theorem State.journalAs_within {generation : U32} {items : List WriteItem} {s : State} : Within [Part.access, .counters,
    .trip, .panel, .update] s (State.journalAs generation items s) := by
  unfold State.journalAs
  refine Within.trans ?_ (within_update rfl)
  refine Within.ite ?_ ?_
  · exact State.compact_within.mono rfl
  · exact Within.refl _ _

theorem State.journal_within {items : List WriteItem} {s : State} : Within [Part.access, .counters, .trip, .panel, .update]
    s (State.journal items s) := by
  unfold State.journal
  refine Within.ite ?_ ?_
  · exact Within.refl _ _
  · exact State.journalAs_within.mono rfl

end Sys2Proof.Machine
end

