-- ==== Sys2Proof/Laws/Requests.lean ====
section
/-! SUPPORT. What each operation of Machine/Requests.lean may change: the parts listed, what goes out, and the free values drawn. -/

namespace Sys2Proof.Machine

theorem refuse_within {code : ℕ} {s : State} : Within [] s (refuse code s).1 :=
  Within.refl _ _

theorem confirm_within {s : State} : Within [] s (confirm s).1 :=
  Within.refl _ _

theorem State.writeItems_within {items : List WriteItem} {s : State} : Within [Part.settings, .gnss, .counters, .access,
    .pair, .trip, .panel, .update] s (State.writeItems items s).1 := by
  unfold State.writeItems
  refine Within.ite_fst ?_ ?_
  · exact refuse_within.mono rfl
  · refine Within.after ?_ confirm_within rfl
    refine Within.after ?_ State.journal_within rfl
    refine Within.after ?_ State.mirror_within rfl
    refine Within.foldl (fun _ _ => ?_) ?_
    · exact State.put_within.mono rfl
    · exact Within.refl _ _

theorem State.checkedWrite_within {k : List Part} {r : Req} {index sub : Nat} {data : Bytes} {body : State → State × Answer}
    {s t : State} (h : ∀ t, Within k t (body t).1) (g : Within k s t)
    (hk : [Part.access, .counters, .trip, .panel].all k.contains = true) :
    Within k s (t.checkedWrite r index sub data body).1 := by
  unfold State.checkedWrite
  split
  · refine g.trans ?_
    exact Within.ite (State.raise_within.mono hk) (Within.refl _ _)
  · exact g.trans (h t)

theorem Admission.within_ite {l : List Part} {s : State} {a b : Admission} {c : Prop} [Decidable c] (h : a.within l s)
    (g : b.within l s) : (if c then a else b).within l s := by split <;> assumption

theorem admitVap_within {k : Nat} {e : Session} {r : Req} {s : State} : (admitVap k e r s).within [.access, .clock] s := by
  unfold admitVap
  refine Admission.within_ite (within_access rfl) ?_
  cases e.window.judge r.sequence with
  | tooOld => exact within_access rfl
  | repeated => exact within_access rfl
  | accept =>
    dsimp only
    cases e.answers.find? (fun a => a.1 = r.id) with
    | some a =>
      refine Within.after ?_ State.emit_within rfl
      exact within_access rfl
    | none =>
      refine Admission.within_ite ?_ (Admission.within_ite ?_ ?_)
      · exact within_access rfl
      · exact within_access rfl
      · exact within_access rfl

theorem Admission.within_trans {l : List Part} {s t : State} {a : Admission} (h : Within l s t) (g : a.within l t) :
    a.within l s := by
  cases a with
  | closed u => exact Within.trans h g
  | go u => exact Within.trans h g

theorem State.admitted_within {r : Req} {s : State} : (s.admitted r).within [.access, .clock] s := by
  have h0 : Within [.access, .clock] s (s.stamped r.stamp) := State.stamped_within.mono rfl
  unfold State.admitted
  dsimp only
  generalize s.stamped r.stamp = u at h0
  refine Admission.within_ite h0 ?_
  cases r.origin with
  | vap k =>
    dsimp only
    cases tfind u.access.sessions k with
    | none => exact h0.trans (within_access rfl)
    | some e => exact Admission.within_trans h0 admitVap_within
  | can n => exact Admission.within_ite h0 h0
  | service => exact Admission.within_ite h0 h0

theorem State.serve_within {k : List Part} {r : Req} {body : State → State × Answer} {s t : State}
    (h : ∀ t, Within k t (body t).1) (g : Within k s t) (hk : [Part.access, .clock, .update].all k.contains = true) :
    Within k s (t.serve r body) := by
  have ha : k.contains .access = true := List.all_eq_true.mp hk _ (by decide)
  have hc : k.contains .clock = true := List.all_eq_true.mp hk _ (by decide)
  have hu : k.contains .update = true := List.all_eq_true.mp hk _ (by decide)
  have h2 : [Part.access, .clock].all k.contains = true := by simp only [List.all_cons, List.all_nil, ha, hc]; rfl
  have h3 : [Part.access, .update].all k.contains = true := by simp only [List.all_cons, List.all_nil, ha, hu]; rfl
  have ht := State.admitted_within (r := r) (s := t)
  unfold State.serve
  revert ht
  cases t.admitted r with
  | closed u => exact fun ht => g.trans (ht.mono h2)
  | go u => exact fun ht => (g.trans (ht.mono h2)).trans ((h u).trans (State.answer_within.mono h3))

theorem State.serveWrite_within {k : List Part} {r : Req} {index sub : Nat} {data : Bytes} {body : State → State × Answer}
    {s t : State} (h : ∀ t, Within k t (body t).1) (g : Within k s t)
    (hk : [Part.access, .clock, .update, .counters, .trip, .panel].all k.contains = true) :
    Within k s (t.serveWrite r index sub data body) := by
  have hp : ∀ l : List Part, l.all [Part.access, .clock, .update, .counters, .trip, .panel].contains = true →
      l.all k.contains = true := by
    intro l hl
    rw [List.all_eq_true] at hl ⊢
    intro x hx
    exact List.all_eq_true.mp hk x (by simpa using hl x hx)
  exact State.serve_within (fun u => State.checkedWrite_within h (Within.refl _ _) (hp _ rfl)) g (hp _ rfl)

end Sys2Proof.Machine
end

