-- ==== Sys2Proof/Laws/Dispatcher.lean ====
section
/-! SUPPORT. What each operation of Machine/Dispatcher.lean may change: the parts listed, what goes out, and the free values drawn. -/

namespace Sys2Proof.Machine

theorem State.assemblyLate_within {c : ℕ} {s : State} : Within [Part.air] s (State.assemblyLate c s) :=
  within_air rfl

theorem State.decision_within {e : ℕ} {reason : ℕ} {out : ℕ} {into : ℕ} {flag : ℕ} {outState : ℕ} {s : State} : Within
    [Part.counters, .disp] s (State.decision e reason out into flag outState s) := by
  unfold State.decision
  refine Within.ite ?_ ?_
  · refine Within.trans ?_ (within_disp rfl)
    exact State.count_within.mono rfl
  · exact State.count_within.mono rfl

theorem State.onTask_within {t : ℕ} {f : Task → Task} {s : State} : Within [Part.disp] s (State.onTask t f s) :=
  within_disp rfl

theorem State.dispatch_within {t : ℕ} {s : State} : Within [Part.disp] s (State.dispatch t s) := by
  unfold State.dispatch
  refine Within.trans ?_ (within_disp rfl)
  exact State.onTask_within.mono rfl

theorem State.flushTrace_within {s : State} : Within [Part.disp, .access, .counters, .trip, .panel] s (State.flushTrace s)
    := by
  unfold State.flushTrace
  refine Within.foldl (fun _ _ => ?_) ?_
  · exact State.push_within.mono rfl
  · exact within_disp rfl

theorem State.follow_within {e : ℕ} {reason : ℕ} {out : ℕ} {outState : ℕ} {s : State} : Within [Part.disp, .counters] s
    (State.follow e reason out outState s) := by
  unfold State.follow
  dsimp only
  split
  · refine Within.after ?_ State.dispatch_within rfl
    refine Within.after ?_ State.decision_within rfl
    exact within_disp rfl
  · refine Within.after ?_ State.decision_within rfl
    exact within_disp rfl

theorem State.haltWork_within {t : ℕ} {s : State} : Within [] s (State.haltWork t s).2 := by
  unfold State.haltWork
  refine Within.ite_snd ?_ ?_
  · exact Within.refl _ _
  · refine Within.ite_snd ?_ ?_
    · refine Within.snd_mk ?_
      exact State.draw_within.mono rfl
    · exact Within.refl _ _

theorem State.lateHalt_within {work : ℕ} {lateUs : ℕ} {s : State} : Within [Part.halt, .access, .counters, .trip, .panel] s
    (State.lateHalt work lateUs s) := by
  unfold State.lateHalt
  refine Within.after ?_ State.raise_within rfl
  exact within_halt rfl (fun h => h)

theorem State.makeReady_within {t : ℕ} {flag : Option ℕ} {s : State} : Within [Part.disp] s (State.makeReady t flag s) := by
  unfold State.makeReady
  refine Within.trans ?_ (within_disp rfl)
  exact State.onTask_within.mono rfl

theorem State.runDelays_within {s : State} : Within [Part.disp] s (State.runDelays s) := by
  unfold State.runDelays
  refine Within.foldl (fun _ _ => ?_) ?_
  · exact State.onTask_within.mono rfl
  · exact Within.refl _ _

theorem State.tryRun_within {t : ℕ} {s : State} : Within [Part.counters, .disp] s (State.tryRun t s) := by
  unfold State.tryRun
  dsimp only
  split
  · refine Within.after ?_ State.dispatch_within rfl
    exact State.decision_within.mono rfl
  · refine Within.ite ?_ ?_
    · refine Within.after ?_ State.dispatch_within rfl
      refine Within.after ?_ State.decision_within rfl
      refine Within.trans ?_ (within_disp rfl)
      exact State.onTask_within.mono rfl
    · exact Within.refl _ _

theorem State.whileRunning_within {k : List Part} {f : State → State} {s t : State} (h : ∀ t, Within k t (f t))
    (g : Within k s t) (_ : ([] : List Part).all k.contains = true) : Within k s (t.whileRunning f) :=
  Within.ite (g.trans (h t)) g

theorem deadlineDrop_within {t : ℕ} {lateUs : ℕ} {s : State} : Within [Part.disp, .halt, .access, .counters, .trip, .panel,
    .air] s (deadlineDrop t lateUs s) := by
  unfold deadlineDrop
  refine Within.ite ?_ ?_
  · exact Within.refl _ _
  · dsimp only
    split
    · refine Within.after ?_ State.lateHalt_within rfl
      refine Within.after ?_ State.onTask_within rfl
      exact State.haltWork_within.mono rfl
    · refine Within.ite ?_ ?_
      · refine Within.after ?_ State.follow_within rfl
        refine Within.ite ?_ ?_
        · refine Within.after ?_ State.assemblyLate_within rfl
          refine Within.ite ?_ ?_
          · refine Within.after ?_ State.trigger_within rfl
            refine Within.after ?_ State.count_within rfl
            refine Within.after ?_ State.onTask_within rfl
            exact State.haltWork_within.mono rfl
          · refine Within.after ?_ State.count_within rfl
            refine Within.after ?_ State.onTask_within rfl
            exact State.haltWork_within.mono rfl
        · refine Within.ite ?_ ?_
          · refine Within.after ?_ State.trigger_within rfl
            refine Within.after ?_ State.count_within rfl
            refine Within.after ?_ State.onTask_within rfl
            exact State.haltWork_within.mono rfl
          · refine Within.after ?_ State.count_within rfl
            refine Within.after ?_ State.onTask_within rfl
            exact State.haltWork_within.mono rfl
      · refine Within.ite ?_ ?_
        · refine Within.after ?_ State.assemblyLate_within rfl
          refine Within.ite ?_ ?_
          · refine Within.after ?_ State.trigger_within rfl
            refine Within.after ?_ State.count_within rfl
            refine Within.after ?_ State.onTask_within rfl
            exact State.haltWork_within.mono rfl
          · refine Within.after ?_ State.count_within rfl
            refine Within.after ?_ State.onTask_within rfl
            exact State.haltWork_within.mono rfl
        · refine Within.ite ?_ ?_
          · refine Within.after ?_ State.trigger_within rfl
            refine Within.after ?_ State.count_within rfl
            refine Within.after ?_ State.onTask_within rfl
            exact State.haltWork_within.mono rfl
          · refine Within.after ?_ State.count_within rfl
            refine Within.after ?_ State.onTask_within rfl
            exact State.haltWork_within.mono rfl

theorem delayExpiry_within {e : ℕ} {s : State} : Within [Part.disp, .counters] s (delayExpiry e s) := by
  unfold delayExpiry
  refine Within.foldl (fun _ _ => ?_) ?_
  · refine Within.ite ?_ ?_
    · refine Within.after ?_ State.tryRun_within rfl
      exact State.makeReady_within.mono rfl
    · exact Within.refl _ _
  · exact Within.refl _ _

theorem wakeOnFlags_within {t : ℕ} {f : U32} {s : State} : Within [Part.access, .counters, .trip, .panel, .disp] s
    (wakeOnFlags t f s) := by
  unfold wakeOnFlags
  refine Within.ite ?_ ?_
  · refine Within.after ?_ State.tryRun_within rfl
    refine Within.after ?_ State.makeReady_within rfl
    refine Within.after ?_ State.onTask_within rfl
    refine Within.foldl (fun _ _ => ?_) ?_
    · exact State.checkQueue_within.mono rfl
    · exact Within.refl _ _
  · refine Within.after ?_ State.onTask_within rfl
    refine Within.foldl (fun _ _ => ?_) ?_
    · exact State.checkQueue_within.mono rfl
    · exact Within.refl _ _

theorem execTaskWakeOnFlags_within {task : ℕ} {flags : U32} {s : State} : Within.post [Part.access, .counters, .trip,
    .panel, .disp] s (execTaskWakeOnFlags task flags s) := by
  unfold execTaskWakeOnFlags
  refine State.whileRunning_within (fun _ => ?_) ?_ rfl
  · exact wakeOnFlags_within.mono rfl
  · exact State.begin_within.mono rfl

theorem execTaskDelayExpiry_within {engine : ℕ} {s : State} : Within.post [Part.disp, .counters] s (execTaskDelayExpiry
    engine s) := by
  unfold execTaskDelayExpiry
  refine State.whileRunning_within (fun _ => ?_) ?_ rfl
  · exact delayExpiry_within.mono rfl
  · exact State.begin_within.mono rfl

theorem execTaskDeadlineDrop_within {task : ℕ} {lateUs : ℕ} {s : State} : Within.post [Part.disp, .halt, .access, .counters,
    .trip, .panel, .air] s (execTaskDeadlineDrop task lateUs s) := by
  unfold execTaskDeadlineDrop
  refine State.whileRunning_within (fun _ => ?_) ?_ rfl
  · exact deadlineDrop_within.mono rfl
  · exact State.begin_within.mono rfl

theorem yieldTask_within {e : ℕ} {kind : YieldKind} {any : U32} {all : U32} {s : State} : Within [Part.disp, .counters] s
    (yieldTask e kind any all s) := by
  unfold yieldTask
  split
  · exact Within.refl _ _
  · refine Within.after ?_ State.follow_within rfl
    refine Within.ite ?_ ?_
    · refine Within.after ?_ State.makeReady_within rfl
      exact State.onTask_within.mono rfl
    · exact State.onTask_within.mono rfl

theorem execTaskYield_within {engine : ℕ} {kind : YieldKind} {any : U32} {all : U32} {s : State} : Within.post [Part.disp,
    .counters] s (execTaskYield engine kind any all s) := by
  unfold execTaskYield
  refine State.whileRunning_within (fun _ => ?_) ?_ rfl
  · exact yieldTask_within.mono rfl
  · exact State.begin_within.mono rfl

end Sys2Proof.Machine
end

