-- ==== Sys2Proof/Laws/Raised.lean ====
section
/-! SUPPORT. Raising an event: it stands in the event stream, and the conditions follow its class. -/

namespace Sys2Proof.Machine

/-- Counting leaves every stream as it was. -/
theorem State.count_access_eq (sel n : Nat) (s : State) : (s.count sel n).access = s.access :=
  State.count_within .access rfl

/-- A stream just written to holds the item. -/
theorem State.placeItem_mem (q typ : Nat) (body : Bytes) (s : State) :
    ∃ i ∈ ((s.placeItem q typ body).stream q).items, i.typ = typ ∧ i.body = body := by
  have h : (s.placeItem q typ body).access = (s.onStream q (fun t => t.put (streamCapacity q) typ body)).access := by
    unfold State.placeItem State.occupy
    simp only [State.count_access_eq]
  unfold Units.stream
  rw [h]
  simp [State.onStream, Stream.put]

/-- A stream write leaves the rest of the access unit as it was. -/
theorem State.placeItem_access (q typ : Nat) (body : Bytes) (s : State) :
    ∃ l, (s.placeItem q typ body).access = { s.access with streams := l } := by
  refine ⟨tmod (fun _ => {}) s.access.streams q (fun t => t.put (streamCapacity q) typ body), ?_⟩
  unfold State.placeItem State.occupy
  simp only [State.count_access_eq]
  rfl

theorem State.placeItem_conditions (q typ : Nat) (body : Bytes) (s : State) :
    (s.placeItem q typ body).access.conditions = s.access.conditions := by
  obtain ⟨l, h⟩ := State.placeItem_access q typ body s
  rw [h]

/-- What both branches leave alone, the choice leaves alone. -/
theorem State.ite_same {β : Type} (f : State → β) {c : Prop} [Decidable c] {a b : State} {v : β} (h : f a = v) (g : f b = v) :
    f (if c then a else b) = v := by split <;> assumption

/-- An EMCY message changes neither conditions nor streams. -/
theorem State.sendEmcy_conditions (code event : Nat) (s : State) : (s.sendEmcy code event).access.conditions = s.access.conditions := by
  unfold State.sendEmcy
  exact State.ite_same (fun u => u.access.conditions) rfl (State.ite_same (fun u => u.access.conditions) rfl rfl)

/-- What follows the stream write of an event leaves the access unit alone. -/
theorem State.sound_access (s : State) : s.sound.access = s.access := State.sound_within .access rfl

theorem State.trigger_access_eq (b : Nat) (time : Int) (lane : Nat) (s : State) : (s.trigger b time lane).access = s.access :=
  State.trigger_within .access rfl

theorem State.tripSample_access_eq (q lane : Nat) (time : Int) (d : Bytes) (s : State) :
    (s.tripSample q lane time d).access = s.access := State.tripSample_within .access rfl

/-- The event stands in the event stream. -/
theorem State.raiseCore_reported (code cls reg lane key : Nat) (params : Bytes) (s : State) :
    (s.raiseCore code cls reg lane key params).reported code cls reg lane params := by
  have hw : Within [Part.access, .counters, .trip, .panel] s (s.raiseCore code cls reg lane key params) := State.raiseCore_within
  have hb : eventBody (s.raiseCore code cls reg lane key params) code cls reg lane params = eventBody s code cls reg lane params := by
    have h1 := hw .clock rfl
    have h2 := hw .chain rfl
    unfold eventBody State.now
    simp only [Part.same] at h1 h2
    rw [h1, h2]
  unfold State.reported
  rw [hb]
  unfold State.raiseCore Units.stream
  simp only [State.sound_access]
  split
  · simp only [State.tripSample_access_eq]
    split
    · simp only [State.trigger_access_eq]; exact State.placeItem_mem _ _ _ _
    · exact State.placeItem_mem _ _ _ _
  · split
    · simp only [State.trigger_access_eq]; exact State.placeItem_mem _ _ _ _
    · exact State.placeItem_mem _ _ _ _

theorem State.raise_reported (code cls reg lane key : Nat) (params : Bytes) (s : State) :
    (s.raise code cls reg lane key params).reported code cls reg lane params := State.raiseCore_reported ..

/-- The conditions after an event are those its class leaves (R615). -/
theorem State.raiseCore_conditions (code cls reg lane key : Nat) (params : Bytes) (s : State) :
    (s.raiseCore code cls reg lane key params).access.conditions = (s.access.note code cls reg key).conditions := by
  have he : ∀ (c e : Nat) (u : State), (u.sendEmcy c e).access.conditions = u.access.conditions := State.sendEmcy_conditions
  unfold State.raiseCore
  simp only [State.sound_access]
  have f (u : State) : u.access.conditions = (s.access.note code cls reg key).conditions →
      (State.tripSample 2 lane u.now (eventBody s code cls reg lane params) u).access.conditions =
        (s.access.note code cls reg key).conditions := by rw [State.tripSample_access_eq]; exact id
  have g (u : State) : u.access.conditions = (s.access.note code cls reg key).conditions →
      (u.trigger 20 u.now lane).access.conditions = (s.access.note code cls reg key).conditions := by
    rw [State.trigger_access_eq]; exact id
  have h : ∀ u : State, u.access.conditions = (s.access.note code cls reg key).conditions →
      (if reg = 4 then State.tripSample 2 lane (if cls = 1 ∨ cls = 2 then u.trigger 20 u.now lane else u).now
          (eventBody s code cls reg lane params) (if cls = 1 ∨ cls = 2 then u.trigger 20 u.now lane else u)
        else if cls = 1 ∨ cls = 2 then u.trigger 20 u.now lane else u).access.conditions =
        (s.access.note code cls reg key).conditions := by
    intro u hu
    have k := State.ite_same (c := cls = 1 ∨ cls = 2) (fun u => u.access.conditions) (g u hu) hu
    exact State.ite_same (fun u => u.access.conditions) (f _ k) k
  apply h
  rw [State.placeItem_conditions]
  refine State.ite_same (fun u => u.access.conditions) ?_ ?_
  · exact he ..
  · exact State.ite_same (fun u => u.access.conditions) (he ..) rfl

/-- Looking at a queue changes no condition. -/
theorem State.checkQueue_conditions (q : Nat) (s : State) : (s.checkQueue q).access.conditions = s.access.conditions := by
  unfold State.checkQueue
  simp only
  split
  · rfl
  · rw [State.trigger_access_eq, State.raiseCore_conditions]
    simp only [Access.note, State.count_access_eq]
    rfl

theorem Access.note_conditions (a b : Access) (code cls reg key : Nat) (h : a.conditions = b.conditions) :
    (a.note code cls reg key).conditions = (b.note code cls reg key).conditions := by
  unfold Access.note
  split
  · exact h
  · rw [h]; split
    · exact h
    · rfl
  · simp only [h]
  · exact h

theorem State.raise_conditions (code cls reg lane key : Nat) (params : Bytes) (s : State) :
    (s.raise code cls reg lane key params).access.conditions = (s.access.note code cls reg key).conditions := by
  unfold State.raise
  rw [State.raiseCore_conditions]
  exact Access.note_conditions _ _ _ _ _ _ (State.checkQueue_conditions 1 s)

/-- An event in the stream stays reported while streams, instant and address stay. -/
theorem State.reported_congr {s t : State} {code cls reg lane : Nat} {params : Bytes} (h : s.reported code cls reg lane params)
    (ha : t.access.streams = s.access.streams) (hc : t.clock = s.clock) (hn : t.chain = s.chain) :
    t.reported code cls reg lane params := by
  unfold State.reported Units.stream eventBody State.now at *
  rw [ha, hc, hn]
  exact h

/-- An event of class 2 raises its condition. -/
theorem State.raise_condition (code reg lane key : Nat) (params : Bytes) (s : State) :
    ∃ c ∈ (s.raise code 2 reg lane key params).access.conditions, c.code = code ∧ c.key = key := by
  rw [State.raise_conditions]
  show ∃ c ∈ (if s.access.conditions.any (fun c => c.code = code && c.key = key) then s.access
    else { s.access with conditions := s.access.conditions ++ [{ code := code, key := key, bit := reg, silenced := false }] }).conditions, _
  split
  · rename_i h
    obtain ⟨c, hc, h⟩ := List.any_eq_true.mp h
    exact ⟨c, hc, by simpa using h⟩
  · exact ⟨_, List.mem_append_right _ (List.mem_singleton.mpr rfl), rfl, rfl⟩

/-- An event of class 3 ends the condition of the event it belongs to. -/
theorem State.raise_ends (code reg lane key : Nat) (params : Bytes) (s : State) :
    ∀ c ∈ (s.raise code 3 reg lane key params).access.conditions, ¬ (c.code = endedBy code ∧ c.key = key) := by
  rw [State.raise_conditions]
  intro c hc
  have := (List.mem_filter.mp hc).2
  rintro ⟨h, g⟩
  simp [h, g] at this

/-! ## What goes out stays out -/

theorem State.out_foldl {α : Type} (f : State → α → State) (o : Output) (hf : ∀ t x, o ∈ t.out → o ∈ (f t x).out) (l : List α)
    (s : State) (h : o ∈ s.out) : o ∈ (l.foldl f s).out := by
  induction l generalizing s with
  | nil => exact h
  | cons x l ih => exact ih _ (hf s x h)

theorem State.out_ite {o : Output} {c : Prop} [Decidable c] {a b : State} (h : o ∈ a.out) (g : o ∈ b.out) :
    o ∈ (if c then a else b).out := by split <;> assumption

theorem State.out_emit {o p : Output} {s : State} (h : o ∈ s.out) : o ∈ (s.emit p).out := List.mem_append_left _ h

theorem State.out_count {o : Output} {a n : Nat} {s : State} (h : o ∈ s.out) : o ∈ (s.count a n).out := by
  unfold State.count
  exact State.out_foldl (State.addCounter n) o (fun _ _ h => h) _ _ h

theorem State.out_trigger {o : Output} {b l : Nat} {t : Int} {s : State} (h : o ∈ s.out) : o ∈ (s.trigger b t l).out := by
  unfold State.trigger
  exact State.out_foldl (fun u x => State.onTrip x (TripUnit.note b t) u) o (fun _ _ h => h) _ _ h

theorem State.out_tripSample {o : Output} {b l : Nat} {t : Int} {d : Bytes} {s : State} (h : o ∈ s.out) :
    o ∈ (s.tripSample b l t d).out := by
  unfold State.tripSample
  refine State.out_foldl _ o (fun u x h => ?_) _ _ h
  unfold State.sampleUnit State.recordUnit
  exact State.out_ite (State.out_emit h) h

theorem State.out_sendEmcy {o : Output} {c e : Nat} {s : State} (h : o ∈ s.out) : o ∈ (s.sendEmcy c e).out := by
  unfold State.sendEmcy
  exact State.out_ite h (State.out_ite h (State.out_emit h))

theorem State.out_placeItem {o : Output} {q t : Nat} {b : Bytes} {s : State} (h : o ∈ s.out) : o ∈ (s.placeItem q t b).out := by
  unfold State.placeItem State.occupy
  exact State.out_count (State.out_count h)

theorem State.out_raiseCore {o : Output} {c l r n k : Nat} {p : Bytes} {s : State} (h : o ∈ s.out) :
    o ∈ (s.raiseCore c l r n k p).out := by
  unfold State.raiseCore State.sound
  have h1 : ∀ u : State, o ∈ u.out → o ∈ (if u.access.conditions.any (fun c => !c.silenced) = u.panel.sounder then
      { u with panel := { u.panel with sounder := u.access.conditions.any (fun c => !c.silenced) } }
      else State.emit (.pin .sounderEn (u.access.conditions.any (fun c => !c.silenced)))
        { u with panel := { u.panel with sounder := u.access.conditions.any (fun c => !c.silenced) } }).out :=
    fun u h => State.out_ite h (State.out_emit h)
  refine h1 _ (State.out_ite (State.out_tripSample ?_) ?_)
  all_goals
    refine State.out_ite (State.out_trigger ?_) ?_
    all_goals
      refine State.out_placeItem (State.out_ite (State.out_sendEmcy h) (State.out_ite (State.out_sendEmcy h) h))

theorem State.out_checkQueue {o : Output} {q : Nat} {s : State} (h : o ∈ s.out) : o ∈ (s.checkQueue q).out := by
  unfold State.checkQueue
  exact State.out_ite h (State.out_trigger (State.out_raiseCore (State.out_count h)))

/-- What was sent before an event still goes out. -/
theorem State.out_raise {o : Output} {c l r n k : Nat} {p : Bytes} {s : State} (h : o ∈ s.out) : o ∈ (s.raise c l r n k p).out :=
  State.out_raiseCore (State.out_checkQueue h)

/-! ## The sounder follows -/

/-- The panel is as before but for the sounder. -/
def Panel.butSounder (a b : Panel) : Prop := ∃ on, b = { a with sounder := on }

theorem Panel.butSounder_refl (a : Panel) : a.butSounder a := ⟨a.sounder, rfl⟩

theorem Panel.butSounder_trans {a b c : Panel} (h : a.butSounder b) (g : b.butSounder c) : a.butSounder c := by
  obtain ⟨_, rfl⟩ := h
  obtain ⟨y, rfl⟩ := g
  exact ⟨y, rfl⟩

theorem State.sound_panel (s : State) : s.panel.butSounder s.sound.panel := by
  unfold State.sound
  dsimp only
  split
  · exact ⟨_, rfl⟩
  · exact ⟨_, rfl⟩

theorem State.raiseCore_panel (code cls reg lane key : Nat) (params : Bytes) (s : State) :
    s.panel.butSounder (s.raiseCore code cls reg lane key params).panel := by
  unfold State.raiseCore
  refine Panel.butSounder_trans ?_ (State.sound_panel _)
  have h1 (c e : Nat) (u : State) : (u.sendEmcy c e).panel = u.panel := State.sendEmcy_within .panel rfl
  have h2 (q t : Nat) (b : Bytes) (u : State) : (u.placeItem q t b).panel = u.panel := State.placeItem_within .panel rfl
  have h3 (b : Nat) (t : Int) (l : Nat) (u : State) : (u.trigger b t l).panel = u.panel := State.trigger_within .panel rfl
  have h4 (b : Nat) (t : Int) (l : Nat) (d : Bytes) (u : State) : (u.tripSample b l t d).panel = u.panel :=
    State.tripSample_within .panel rfl
  have h : ∀ u v : State, u.panel = s.panel → v = u.placeItem 1 1 (eventBody s code cls reg lane params) →
      s.panel.butSounder (if reg = 4 then State.tripSample 2 lane (if cls = 1 ∨ cls = 2 then v.trigger 20 v.now lane else v).now
          (eventBody s code cls reg lane params) (if cls = 1 ∨ cls = 2 then v.trigger 20 v.now lane else v)
        else if cls = 1 ∨ cls = 2 then v.trigger 20 v.now lane else v).panel := by
    intro u v hu hv
    have e : v.panel = s.panel := by rw [hv, h2, hu]
    have e1 : (if cls = 1 ∨ cls = 2 then v.trigger 20 v.now lane else v).panel = s.panel :=
      State.ite_same (fun u => u.panel) ((h3 ..).trans e) e
    rw [State.ite_same (fun u => u.panel) ((h4 ..).trans e1) e1]
    exact Panel.butSounder_refl _
  refine h _ _ ?_ rfl
  exact State.ite_same (fun u => u.panel) (h1 ..) (State.ite_same (fun u => u.panel) (h1 ..) rfl)

/-- An event changes nothing of the panel but the sounder. -/
theorem State.raise_panel (code cls reg lane key : Nat) (params : Bytes) (s : State) :
    s.panel.butSounder (s.raise code cls reg lane key params).panel := by
  unfold State.raise
  refine Panel.butSounder_trans ?_ (State.raiseCore_panel ..)
  unfold State.checkQueue
  dsimp only
  split
  · exact Panel.butSounder_refl _
  · rw [show (State.trigger _ _ _ _).panel = _ from State.trigger_within .panel rfl]
    refine Panel.butSounder_trans ?_ (State.raiseCore_panel ..)
    rw [show (State.count _ _ _).panel = _ from State.count_within .panel rfl]
    exact Panel.butSounder_refl _

/-! ## Sessions and transfers stay -/

/-- What an event leaves alone in the access unit. -/
def Access.rest (a : Access) : Table Session × Table Handshake × Nat × List Transfer × U32 × U32 × U32 × Nmt :=
  (a.sessions, a.handshakes, a.nextSession, a.transfers, a.discarded, a.failed, a.duplicates, a.nmt)

theorem Access.note_rest (a : Access) (code cls reg key : Nat) : (a.note code cls reg key).rest = a.rest := by
  unfold Access.note
  split
  · rfl
  · split <;> rfl
  · rfl
  · rfl

theorem State.sendEmcy_rest (c e : Nat) (s : State) : (s.sendEmcy c e).access.rest = s.access.rest := by
  unfold State.sendEmcy
  exact State.ite_same (fun u => u.access.rest) rfl (State.ite_same (fun u => u.access.rest) rfl rfl)

theorem State.placeItem_rest (q t : Nat) (b : Bytes) (s : State) : (s.placeItem q t b).access.rest = s.access.rest := by
  obtain ⟨l, h⟩ := State.placeItem_access q t b s
  rw [h]; rfl

theorem State.raiseCore_rest (code cls reg lane key : Nat) (params : Bytes) (s : State) :
    (s.raiseCore code cls reg lane key params).access.rest = s.access.rest := by
  unfold State.raiseCore
  simp only [State.sound_access]
  have h : ∀ v : State, v.access.rest = s.access.rest →
      (if reg = 4 then State.tripSample 2 lane (if cls = 1 ∨ cls = 2 then v.trigger 20 v.now lane else v).now
          (eventBody s code cls reg lane params) (if cls = 1 ∨ cls = 2 then v.trigger 20 v.now lane else v)
        else if cls = 1 ∨ cls = 2 then v.trigger 20 v.now lane else v).access.rest = s.access.rest := by
    intro v e
    have e1 : (if cls = 1 ∨ cls = 2 then v.trigger 20 v.now lane else v).access.rest = s.access.rest :=
      State.ite_same (fun u => u.access.rest) (by rw [State.trigger_access_eq]; exact e) e
    exact State.ite_same (fun u => u.access.rest) (by rw [State.tripSample_access_eq]; exact e1) e1
  apply h
  rw [State.placeItem_rest]
  have hn := Access.note_rest s.access code cls reg key
  refine State.ite_same (fun u => u.access.rest) ?_ (State.ite_same (fun u => u.access.rest) ?_ hn)
  · exact (State.sendEmcy_rest ..).trans hn
  · exact (State.sendEmcy_rest ..).trans hn

/-- An event leaves sessions, transfers and NMT state alone. -/
theorem State.raise_rest (code cls reg lane key : Nat) (params : Bytes) (s : State) :
    (s.raise code cls reg lane key params).access.rest = s.access.rest := by
  unfold State.raise
  rw [State.raiseCore_rest]
  unfold State.checkQueue
  dsimp only
  refine State.ite_same (fun u => u.access.rest) rfl ?_
  rw [State.trigger_access_eq, State.raiseCore_rest, State.count_access_eq]
  rfl

theorem State.raise_transfers (code cls reg lane key : Nat) (params : Bytes) (s : State) :
    (s.raise code cls reg lane key params).access.transfers = s.access.transfers :=
  congrArg (fun x => x.2.2.2.1) (State.raise_rest code cls reg lane key params s)

theorem State.raise_sessions (code cls reg lane key : Nat) (params : Bytes) (s : State) :
    (s.raise code cls reg lane key params).access.sessions = s.access.sessions :=
  congrArg (fun x => x.1) (State.raise_rest code cls reg lane key params s)

theorem State.raise_nmt (code cls reg lane key : Nat) (params : Bytes) (s : State) :
    (s.raise code cls reg lane key params).access.nmt = s.access.nmt :=
  congrArg (fun x => x.2.2.2.2.2.2.2) (State.raise_rest code cls reg lane key params s)

end Sys2Proof.Machine
end

