-- ==== Sys2Proof/Laws/Dispatching.lean ====
section
/-! SUPPORT. What waking, running, dropping and yielding do to tasks. -/

namespace Sys2Proof.Machine

theorem State.checkQueue_disp_eq (q : Nat) (s : State) : (s.checkQueue q).disp = s.disp := State.checkQueue_within .disp rfl
theorem folded_disp (l : List Nat) (s : State) : (l.foldl (fun s q => State.checkQueue q s) s).disp = s.disp := by
  induction l generalizing s with
  | nil => rfl
  | cons q l ih => rw [List.foldl_cons, ih, State.checkQueue_disp_eq]
theorem onTask_same (k : Nat) (f : Task → Task) (s : State) : (s.onTask k f).task k = f (s.task k) := by
  simp [State.onTask, State.task]
theorem task_congr {s t : State} (h : t.disp = s.disp) (k : Nat) : t.task k = s.task k := by unfold State.task; rw [h]
theorem count_disp (a n : Nat) (s : State) : (s.count a n).disp = s.disp := State.count_within .disp rfl
theorem decision_tasks (e a b c d f : Nat) (s : State) : (s.decision e a b c d f).disp.tasks = s.disp.tasks ∧ (s.decision e a b c d f).disp.running = s.disp.running := by
  unfold State.decision
  dsimp only
  constructor <;> (split <;> simp only [count_disp])
theorem onTask_other {k j : Nat} {f : Task → Task} {s : State} (h : j ≠ k) (hv : f (s.task k) ≠ freshTask k) : (s.onTask k f).task j = s.task j := by
  simp only [State.onTask, State.task]
  exact tget_tput_other _ h hv
theorem tfind_tset_other {α} (t : Table α) {k j : Nat} (v : α) (h : j ≠ k) : tfind (tset t k v) j = tfind t j := by
  induction t with
  | nil => simp only [tset, tfind]; grind
  | cons e t ih =>
    obtain ⟨i, w⟩ := e
    simp only [tset]
    split
    · simp only [tfind]; grind
    · split
      · simp only [tfind]; grind
      · simp only [tfind, ih]
theorem dispatch_spec (k : Nat) (s : State) : (s.dispatch k).runningOn (engineOf k) = some k ∧
    (s.dispatch k).task k = { s.task k with status := .running, flags := (s.task k).flags &&& ~~~ ((s.task k).any ||| (s.task k).all) } ∧
    (∀ j, j ≠ k → (s.dispatch k).task j = s.task j) := by
  refine ⟨?_, ?_, ?_⟩
  · simp [State.dispatch, State.runningOn]
  · simp [State.dispatch, State.task, State.onTask]
  · intro j hj
    exact onTask_other (s := s) (f := fun k => { k with status := .running, flags := k.flags &&& ~~~ (k.any ||| k.all) }) hj (by simp [freshTask])
theorem decision_task (e a b c d f k : Nat) (s : State) : (s.decision e a b c d f).task k = s.task k := by
  unfold State.task; rw [(decision_tasks ..).1]
theorem decision_run (e a b c d f k : Nat) (s : State) : (s.decision e a b c d f).runningOn k = s.runningOn k := by
  unfold State.runningOn; rw [(decision_tasks ..).2]
theorem tryRun_idle {k : Nat} {s : State} (h : s.runningOn (engineOf k) = none) : ∃ u : State, u.disp.tasks = s.disp.tasks ∧ u.disp.running = s.disp.running ∧ s.tryRun k = u.dispatch k := by
  unfold State.tryRun
  simp only [h]
  exact ⟨_, (decision_tasks ..).1, (decision_tasks ..).2, rfl⟩
theorem tryRun_busy {k cur : Nat} {s : State} (h : s.runningOn (engineOf k) = some cur) : 
    if (s.task cur).priority < (s.task k).priority then
      ∃ u : State, u.disp.tasks = (s.onTask cur (fun c => { c with status := .ready, order := s.disp.order })).disp.tasks ∧
         u.disp.running = s.disp.running ∧ s.tryRun k = u.dispatch k
    else s.tryRun k = s := by
  unfold State.tryRun
  simp only [h]
  split
  · refine ⟨_, ?_, ?_, rfl⟩
    · rw [(decision_tasks ..).1]
    · rw [(decision_tasks ..).2]; rfl
  · rfl
theorem task_eq {s t : State} (h : t.disp.tasks = s.disp.tasks) (k : Nat) : t.task k = s.task k := by unfold State.task; rw [h]
theorem run_eq {s t : State} (h : t.disp.running = s.disp.running) (k : Nat) : t.runningOn k = s.runningOn k := by unfold State.runningOn; rw [h]
theorem makeReady_spec (k : Nat) (w : Option Nat) (s : State) :
    (s.makeReady k w).task k = { s.task k with status := .ready, delay := none, woken := w, order := s.disp.order } ∧
    (∀ j, j ≠ k → (s.makeReady k w).task j = s.task j) ∧ (s.makeReady k w).disp.running = s.disp.running := by
  refine ⟨?_, ?_, rfl⟩
  · simp [State.makeReady, State.task, State.onTask]
  · intro j hj
    exact onTask_other (s := s) (f := fun k => { k with status := .ready, delay := none, woken := w, order := s.disp.order }) hj (by simp [freshTask])
theorem wake1 (s : State) (k : Nat) (f : U32) : ∃ u, wakeOnFlags k f s = (if (u.task k).status = .waiting ∧ (u.task k).met then
     (u.makeReady k (some (u.task k).wakingFlag)).tryRun k else u) ∧ u.task k = { s.task k with flags := (s.task k).flags ||| f } ∧
     u.disp.running = s.disp.running ∧ (∀ j, j ≠ k → (s.task k).status = .waiting → u.task j = s.task j) := by
  unfold wakeOnFlags
  have hf := folded_disp (List.range 6) s
  generalize (List.range 6).foldl (fun s q => State.checkQueue q s) s = v at hf
  refine ⟨v.onTask k (fun k => { k with flags := k.flags ||| f }), rfl, ?_, ?_, ?_⟩
  · rw [onTask_same, task_congr hf]
  · rw [← hf]; rfl
  · intro j hj hw
    rw [onTask_other hj, task_congr hf j]
    rw [task_congr hf]
    intro h
    have := congrArg Task.status h
    simp only [hw, freshTask] at this
    cases this
theorem met_iff (t : Task) : t.met = true ↔ (t.flags &&& t.any ≠ 0 ∨ (t.all ≠ 0 ∧ t.flags &&& t.all = t.all)) := by
  simp [Task.met]
theorem mem_of_tget {α} {d : Nat → α} {t : Table α} {k : Nat} (h : tget d t k ≠ d k) : k ∈ t.map (·.1) := by
  induction t with
  | nil => exact absurd rfl h
  | cons e t ih =>
    obtain ⟨i, w⟩ := e
    simp only [tget] at h
    simp only [List.map_cons, List.mem_cons]
    split at h
    · left; omega
    · split at h
      · exact absurd rfl h
      · right; exact ih h

def up (s : State) (k : Nat) : Prop := (s.task k).status = .ready ∨ (s.task k).status = .running
theorem tryRun_up (x : Nat) (s : State) (_hx : up s x) : (∀ k, up s k → up (s.tryRun x) k) ∧ 
   (∀ k, up (s.tryRun x) k ∨ (s.tryRun x).task k = s.task k) := by
  suffices h : ∀ k, up (s.tryRun x) k ∨ (s.tryRun x).task k = s.task k from
    ⟨fun k hk => (h k).elim id (fun e => by unfold up; rw [e]; exact hk), h⟩
  intro k
  cases hr : s.runningOn (engineOf x) with
  | none =>
    obtain ⟨v, v1, v2, v3⟩ := tryRun_idle hr
    obtain ⟨d1, d2, d3⟩ := dispatch_spec x v
    rw [v3]
    by_cases h : k = x
    · left; right; rw [h, d2]
    · right; rw [d3 k h, task_eq v1]
  | some cur =>
    have hb := tryRun_busy hr
    split at hb
    · obtain ⟨v, v1, v2, v3⟩ := hb
      obtain ⟨d1, d2, d3⟩ := dispatch_spec x v
      rw [v3]
      by_cases h : k = x
      · left; right; rw [h, d2]
      · by_cases h' : k = cur
        · left; left; rw [d3 k h, task_eq v1, h', onTask_same]
        · right; rw [d3 k h, task_eq v1, onTask_other h' (by simp [freshTask])]
    · right; rw [hb]
theorem step1 (e : Nat) (s : State) (x k : Nat) :
    let t := if engineOf x = e ∧ (s.task x).status = .waiting ∧ (s.task x).delay = some 0 then (s.makeReady x none).tryRun x else s
    (up t k ∨ (k ≠ x ∨ ¬ (engineOf x = e ∧ (s.task x).status = .waiting ∧ (s.task x).delay = some 0)) ∧ t.task k = s.task k) := by
  intro t
  by_cases hc : engineOf x = e ∧ (s.task x).status = .waiting ∧ (s.task x).delay = some 0
  swap
  · have : t = s := if_neg hc
    rw [this]
    exact .inr ⟨.inr hc, rfl⟩
  have ht : t = (s.makeReady x none).tryRun x := if_pos hc
  rw [ht]
  obtain ⟨m1, m2, m3⟩ := makeReady_spec x none s
  generalize s.makeReady x none = u at *
  have hx : up u x := by left; rw [m1]
  obtain ⟨p1, p2⟩ := tryRun_up x u hx
  by_cases h : k = x
  · left; rw [h]; exact p1 x hx
  · rcases p2 k with a | a
    · exact .inl a
    · right; exact ⟨.inl h, by rw [a, m2 k h]⟩
theorem fold1 (e k : Nat) (l : List Nat) (s : State) :
    let t := l.foldl (fun s t => if engineOf t = e ∧ (s.task t).status = .waiting ∧ (s.task t).delay = some 0 then
    (s.makeReady t none).tryRun t else s) s
    (up s k → up t k) ∧ (k ∈ l → engineOf k = e → (s.task k).status = .waiting → (s.task k).delay = some 0 → up t k) := by
  induction l generalizing s with
  | nil => exact ⟨id, nofun⟩
  | cons x l ih =>
    have h := step1 e s x k
    dsimp only at h
    simp only [List.foldl_cons]
    generalize (if engineOf x = e ∧ (s.task x).status = .waiting ∧ (s.task x).delay = some 0 then (s.makeReady x none).tryRun x else s) = u at *
    obtain ⟨i1, i2⟩ := ih u
    refine ⟨fun hs => i1 ?_, fun hm he hw hd => ?_⟩
    · rcases h with a | a
      · exact a
      · unfold up; rw [a.2]; exact hs
    · rcases h with a | ⟨a, b⟩
      · exact i1 a
      · rcases List.mem_cons.mp hm with rfl | hm
        · exact absurd ⟨he, hw, hd⟩ (a.resolve_left (fun h => h rfl))
        · exact i2 hm he (by rw [b]; exact hw) (by rw [b]; exact hd)
theorem bestReady_mem (s : State) (e : Nat) {k : Nat} (h : s.bestReady e = some k) : engineOf k = e ∧ (s.task k).status = .ready := by
  have hmem : ∀ (l : List Nat) (b : Option Nat), (l.foldl (fun b t => match b with
      | none => some t
      | some x => if s.better t x then some t else some x) b) = some k → k ∈ l ∨ b = some k := by
    intro l
    induction l with
    | nil => exact fun b h => .inr h
    | cons x l ih =>
      intro b h
      rcases ih _ h with h | h
      · exact .inl (List.mem_cons_of_mem _ h)
      · cases b with
        | none => left; simp only [Option.some.injEq] at h; simp [h]
        | some y =>
          simp only at h
          split at h
          · left; simp only [Option.some.injEq] at h; simp [h]
          · exact .inr h
  rcases hmem _ _ h with h | h
  · have := (List.mem_filter.mp h).2
    simpa using this
  · cases h
theorem follow_spec (s : State) (e a b c : Nat) : 
   (∃ x : State, x.disp.tasks = s.disp.tasks ∧ ((s.follow e a b c) = x ∨ ∃ j, (s.task j).status = .ready ∧ (s.follow e a b c) = x.dispatch j)) := by
  unfold State.follow
  dsimp only
  split
  · rename_i j h
    refine ⟨_, ?_, .inr ⟨j, (bestReady_mem _ _ h).2, rfl⟩⟩
    rw [(decision_tasks ..).1]
  · refine ⟨_, ?_, .inl rfl⟩
    rw [(decision_tasks ..).1]
theorem follow_task (s : State) (e a b c k : Nat) (h : (s.task k).status ≠ .ready) : (s.follow e a b c).task k = s.task k := by
  obtain ⟨x, h1, h2 | ⟨j, h2, h3⟩⟩ := follow_spec s e a b c
  · rw [h2, task_eq h1]
  · have : k ≠ j := by rintro rfl; exact h h2
    rw [h3, (dispatch_spec j x).2.2 k this, task_eq h1]
theorem follow_up (s : State) (e a b c k : Nat) (h : (s.task k).status = .ready) : up (s.follow e a b c) k ∧ ((s.follow e a b c).task k).delay = (s.task k).delay := by
  obtain ⟨x, h1, h2 | ⟨j, h2, h3⟩⟩ := follow_spec s e a b c
  · unfold up; rw [h2, task_eq h1]; exact ⟨.inl h, rfl⟩
  · rw [h3]
    by_cases hk : k = j
    · subst hk; unfold up; rw [(dispatch_spec k x).2.1, task_eq h1]; exact ⟨.inr rfl, rfl⟩
    · unfold up; rw [(dispatch_spec j x).2.2 k hk, task_eq h1]; exact ⟨.inl h, rfl⟩
theorem lateHalt_spec (w n : Nat) (s : State) : (s.lateHalt w n).disp = s.disp ∧ (s.lateHalt w n).halt.lateWork = saturate s.halt.lateWork ∧ (s.lateHalt w n).reported 0x0701 1 7 0xFF (le 1 w ++ le 4 n) := by
  refine ⟨?_, ?_, State.raise_reported ..⟩
  · exact State.raise_within (code := 0x0701) (cls := 1) (reg := 7) (lane := 0xFF) (key := 0) (params := le 1 w ++ le 4 n)
      (s := { s with halt := { s.halt with lateWork := saturate s.halt.lateWork } }) .disp rfl
  · have := State.raise_within (code := 0x0701) (cls := 1) (reg := 7) (lane := 0xFF) (key := 0) (params := le 1 w ++ le 4 n)
      (s := { s with halt := { s.halt with lateWork := saturate s.halt.lateWork } }) .halt rfl
    exact congrArg Halt.lateWork this

end Sys2Proof.Machine
end

