-- ==== Sys2Proof/Laws/Frames.lean ====
section
/-! SUPPORT. What each operation of Machine/Frames.lean may change: the parts listed, what goes out, and the free values drawn. -/

namespace Sys2Proof.Machine

theorem State.onAirLane_within {n : ℕ} {f : AirLane → AirLane} {s : State} : Within [Part.airLanes] s (State.onAirLane n f
    s) :=
  within_airLanes rfl (fun h => ⟨h.1, h.2.1, tmod_wf _ _ h.2.2⟩)

theorem State.addDuty_within {us : ℕ} {s : State} : Within [Part.air, .access, .counters, .trip, .panel] s (State.addDuty us
    s) := by
  unfold State.addDuty
  refine Within.ite ?_ ?_
  · refine Within.after ?_ State.raise_within rfl
    refine Within.trans ?_ (within_air rfl)
    exact within_air rfl
  · exact within_air rfl

theorem State.vergeLines_within {on : Bool} {s : State} : Within [Part.air] s (State.vergeLines on s) :=
  within_air rfl

theorem State.drawBroadcast_within {s : State} : Within [Part.air] s (State.drawBroadcast s) :=
  within_air rfl

theorem State.linesOpen_within {lna : Pin} {sel : Pin} {amp : Pin} {t0 : ℤ} {s : State} : Within [] s (State.linesOpen lna
    sel amp t0 s) := by
  unfold State.linesOpen
  refine Within.after ?_ State.emit_within rfl
  refine Within.after ?_ State.emit_within rfl
  exact State.emit_within.mono rfl

theorem State.beginVerge_within {code : ℕ} {payload : Bytes} {s : State} : Within [Part.air, .counters] s (State.beginVerge
    code payload s) := by
  unfold State.beginVerge
  refine Within.after ?_ State.occupy_within rfl
  refine Within.after ?_ State.count_within rfl
  refine Within.after ?_ State.emit_within rfl
  refine Within.after ?_ State.linesOpen_within rfl
  refine Within.trans ?_ (within_air rfl)
  refine Within.after ?_ State.vergeLines_within rfl
  exact State.drawBroadcast_within.mono rfl

theorem State.sendVerge_within {code : ℕ} {payload : Bytes} {s : State} : Within [Part.counters, .air] s (State.sendVerge
    code payload s) := by
  unfold State.sendVerge
  refine Within.ite ?_ ?_
  · refine Within.ite ?_ ?_
    · exact State.count_within.mono rfl
    · exact Within.refl _ _
  · split
    · refine Within.after ?_ State.beginVerge_within rfl
      refine Within.ite ?_ ?_
      · exact State.count_within.mono rfl
      · exact Within.refl _ _
    · refine Within.trans ?_ (within_air rfl)
      refine Within.ite ?_ ?_
      · exact State.count_within.mono rfl
      · exact Within.refl _ _

theorem State.notice_within {code : ℕ} {arg : ℕ} {tick : U32} {s : State} : Within [Part.air, .counters] s (State.notice
    code arg tick s) := by
  unfold State.notice
  refine Within.ite ?_ ?_
  · exact Within.refl _ _
  · refine Within.ite ?_ ?_
    · refine Within.trans ?_ (within_air rfl)
      exact within_air rfl
    · refine Within.after ?_ State.sendVerge_within rfl
      exact within_air rfl

theorem State.linesClose_within {lna : Pin} {sel : Pin} {amp : Pin} {te : ℤ} {s : State} : Within [] s (State.linesClose lna
    sel amp te s) := by
  unfold State.linesClose
  refine Within.after ?_ State.emit_within rfl
  refine Within.after ?_ State.emit_within rfl
  exact State.emit_within.mono rfl

theorem State.cutVerge_within {s : State} : Within [Part.air, .access, .counters, .trip, .panel] s (State.cutVerge s) := by
  unfold State.cutVerge
  split
  · exact Within.refl _ _
  · refine Within.after ?_ State.addDuty_within rfl
    refine Within.trans ?_ (within_air rfl)
    exact State.linesClose_within.mono rfl

theorem State.sendFirstHalt_within {lanes : List ℕ} {s : State} : Within [Part.air, .access, .counters, .trip, .panel] s
    (State.sendFirstHalt lanes s) := by
  unfold State.sendFirstHalt
  refine Within.ite ?_ ?_
  · refine Within.after ?_ State.beginVerge_within rfl
    exact State.cutVerge_within.mono rfl
  · exact Within.refl _ _

theorem State.drawUnicast_within {n : ℕ} {which : ℕ} {s : State} : Within [Part.airLanes] s (State.drawUnicast n which s) :=
   
  State.onAirLane_within.mono rfl

theorem State.dutyBelow_within {s : State} : Within [Part.air, .access, .counters, .trip, .panel] s (State.dutyBelow s) := by
  unfold State.dutyBelow
  refine Within.ite ?_ ?_
  · refine Within.after ?_ State.raise_within rfl
    exact within_air rfl
  · exact Within.refl _ _

end Sys2Proof.Machine
end

