-- ==== Sys2Proof/Laws/Lanes.lean ====
section
/-! SUPPORT. What each operation of Machine/Lanes.lean may change: the parts listed, what goes out, and the free values drawn. -/

namespace Sys2Proof.Machine

theorem State.tell_within {n : ℕ} {typ : ℕ} {value : Bytes} {s : State} : Within [Part.airLanes] s (State.tell n typ value
    s) :=
  State.onAirLane_within.mono rfl

theorem State.configure_within {n : ℕ} {limits : Limits} {s : State} : Within [Part.airLanes] s (State.configure n limits s)
    := by
  unfold State.configure
  refine Within.after ?_ State.onAirLane_within rfl
  exact State.tell_within.mono rfl

theorem State.dropSolves_within {n : ℕ} {s : State} : Within [Part.checkpoint, .airLanes] s (State.dropSolves n s) := by
  unfold State.dropSolves
  refine Within.after ?_ State.onAirLane_within rfl
  exact within_checkpoint rfl

theorem State.transition_within {n : ℕ} {into : LaneState} {s : State} : Within [Part.lanes, .access, .counters, .trip,
    .panel] s (State.transition n into s) := by
  unfold State.transition
  refine Within.ite ?_ ?_
  · refine Within.after ?_ State.trigger_within rfl
    refine Within.after ?_ State.pushTelemetry_within rfl
    exact State.onLane_within.mono rfl
  · refine Within.after ?_ State.pushTelemetry_within rfl
    exact State.onLane_within.mono rfl

theorem State.closeLane_within {n : ℕ} {s : State} : Within [Part.lanes, .access, .counters, .trip, .panel, .checkpoint,
    .airLanes, .routes] s (State.closeLane n s) := by
  unfold State.closeLane
  refine Within.after ?_ State.onAirLane_within rfl
  refine Within.after ?_ State.onLane_within rfl
  refine Within.after ?_ State.onRoute_within rfl
  refine Within.after ?_ State.dropSolves_within rfl
  exact State.transition_within.mono rfl

theorem State.entryOverlap_within {n : ℕ} {e : Envelope} {closures : List (ℕ × List Point)} {s : State} : Within
    [Part.access, .counters, .trip, .panel] s (State.entryOverlap n e closures s) := by
  unfold State.entryOverlap
  dsimp only
  split
  · exact Within.refl _ _
  · exact State.raise_within.mono rfl

theorem State.standAt_within {n : ℕ} {p : Pose} {s : State} : Within [Part.routes, .access, .counters, .trip, .panel] s
    (State.standAt n p s) := by
  unfold State.standAt
  refine Within.after ?_ State.entryOverlap_within rfl
  exact State.onRoute_within.mono rfl

theorem State.resumeStopped_within {n : ℕ} {s : State} : Within [Part.lanes, .access, .counters, .trip, .panel, .routes] s
    (State.resumeStopped n s) := by
  unfold State.resumeStopped
  dsimp only
  split
  · refine Within.after ?_ State.onRoute_within rfl
    exact State.transition_within.mono rfl
  · refine Within.after ?_ State.standAt_within rfl
    refine Within.after ?_ State.onRoute_within rfl
    exact State.transition_within.mono rfl

theorem State.laneCommand_within {n : ℕ} {code : ℕ} {s : State} : Within [Part.lanes, .access, .counters, .trip, .panel,
    .checkpoint, .airLanes, .routes] s (State.laneCommand n code s).1 := by
  unfold State.laneCommand
  dsimp only
  split
  · refine Within.ite_fst ?_ ?_
    · refine Within.fst_mk ?_
      exact State.onLane_within.mono rfl
    · exact Within.refl _ _
  · refine Within.ite_fst ?_ ?_
    · refine Within.fst_mk ?_
      exact State.closeLane_within.mono rfl
    · exact Within.refl _ _
  · refine Within.ite_fst ?_ ?_
    · refine Within.fst_mk ?_
      exact State.resumeStopped_within.mono rfl
    · exact Within.refl _ _
  · refine Within.ite_fst ?_ ?_
    · refine Within.fst_mk ?_
      refine Within.after ?_ State.tell_within rfl
      exact State.transition_within.mono rfl
    · exact Within.refl _ _
  · refine Within.ite_fst ?_ ?_
    · refine Within.fst_mk ?_
      refine Within.after ?_ State.raise_within rfl
      refine Within.after ?_ State.closeLane_within rfl
      exact State.onLane_within.mono rfl
    · refine Within.ite_fst ?_ ?_
      · refine Within.fst_mk ?_
        exact State.closeLane_within.mono rfl
      · exact Within.refl _ _

theorem State.cancelLane_within {n : ℕ} {s : State} : Within [Part.lanes, .access, .counters, .trip, .panel, .routes] s
    (State.cancelLane n s).1 := by
  unfold State.cancelLane
  refine Within.ite_fst ?_ ?_
  · refine Within.fst_mk ?_
    refine Within.after ?_ State.onRoute_within rfl
    exact State.transition_within.mono rfl
  · exact Within.refl _ _

theorem State.checkLane_within {n : ℕ} {s : State} : Within [Part.lanes, .access, .counters, .trip, .panel] s
    (State.checkLane n s) := by
  unfold State.checkLane
  refine Within.ite ?_ ?_
  · refine Within.after ?_ State.raise_within rfl
    exact State.onLane_within.mono rfl
  · exact Within.refl _ _

theorem State.haltSample_within {lane : ℕ} {kind : ℕ} {s : State} : Within [Part.trip] s (State.haltSample lane kind s) :=
  State.tripSample_within.mono rfl

theorem State.stopEnvelope_within {n : ℕ} {d : U32} {s : State} : Within [Part.routes, .ledger] s (State.stopEnvelope n d s)
    := by
  unfold State.stopEnvelope
  refine Within.ite ?_ ?_
  · exact State.onRoute_within.mono rfl
  · refine Within.trans ?_ (within_ledger rfl)
    exact State.onRoute_within.mono rfl

theorem State.applyHalt_within {n : ℕ} {s : State} : Within [Part.lanes, .access, .counters, .trip, .panel, .routes,
    .ledger] s (State.applyHalt n s) := by
  unfold State.applyHalt
  dsimp only
  split
  · exact Within.refl _ _
  · exact Within.refl _ _
  · exact Within.refl _ _
  · refine Within.ite ?_ ?_
    · refine Within.after ?_ State.stopEnvelope_within rfl
      refine Within.after ?_ State.onLane_within rfl
      exact State.transition_within.mono rfl
    · exact Within.refl _ _

theorem State.stopLane_within {n : ℕ} {d : U32} {s : State} : Within [Part.lanes, .access, .counters, .trip, .panel,
    .routes, .ledger] s (State.stopLane n d s) := by
  unfold State.stopLane
  refine Within.after ?_ State.stopEnvelope_within rfl
  exact State.transition_within.mono rfl

theorem State.applySelfStop_within {n : ℕ} {d : U32} {s : State} : Within [Part.lanes, .access, .counters, .trip, .panel,
    .routes, .ledger] s (State.applySelfStop n d s) := by
  unfold State.applySelfStop
  split
  · exact State.stopLane_within.mono rfl
  · exact State.stopLane_within.mono rfl
  · exact State.stopLane_within.mono rfl
  · exact State.stopLane_within.mono rfl
  · exact State.onLane_within.mono rfl
  · exact Within.refl _ _

theorem State.clearHalt_within {n : ℕ} {s : State} : Within [Part.lanes, .access, .counters, .trip, .panel, .routes,
    .ledger] s (State.clearHalt n s) := by
  unfold State.clearHalt
  refine Within.ite ?_ ?_
  · split
    · exact Within.refl _ _
    · dsimp only
      split
      · refine Within.after ?_ State.onLane_within rfl
        exact State.transition_within.mono rfl
      · refine Within.after ?_ State.applySelfStop_within rfl
        refine Within.after ?_ State.onLane_within rfl
        exact State.transition_within.mono rfl
  · exact Within.refl _ _

theorem State.onCk_within {n : ℕ} {f : CkLane → CkLane} {s : State} : Within [Part.checkpoint] s (State.onCk n f s) :=
  within_checkpoint rfl

theorem State.verdictChange_within {n : ℕ} {before : ℕ} {s : State} : Within [Part.access, .counters, .trip, .panel] s
    (State.verdictChange n before s) := by
  unfold State.verdictChange
  refine Within.ite ?_ ?_
  · refine Within.after ?_ State.trigger_within rfl
    refine Within.ite ?_ ?_
    · exact State.pushTelemetry_within.mono rfl
    · refine Within.after ?_ State.raise_within rfl
      exact State.pushTelemetry_within.mono rfl
  · refine Within.ite ?_ ?_
    · exact State.pushTelemetry_within.mono rfl
    · refine Within.after ?_ State.raise_within rfl
      exact State.pushTelemetry_within.mono rfl

theorem State.complete_within {n : ℕ} {ok : Bool} {s : State} : Within [Part.lanes, .access, .counters, .trip, .panel,
    .checkpoint, .airLanes, .routes] s (State.complete n ok s) := by
  unfold State.complete
  refine Within.ite ?_ ?_
  · exact Within.refl _ _
  · split
    · refine Within.ite ?_ ?_
      · exact State.transition_within.mono rfl
      · exact Within.refl _ _
    · refine Within.ite ?_ ?_
      · exact State.transition_within.mono rfl
      · exact Within.refl _ _
    · refine Within.ite ?_ ?_
      · exact State.closeLane_within.mono rfl
      · exact Within.refl _ _
    · exact Within.refl _ _

theorem State.openLane_within {n : ℕ} {s : State} : Within [Part.lanes, .airLanes, .checkpoint, .access, .counters, .trip,
    .panel] s (State.openLane n s) := by
  unfold State.openLane
  refine Within.after ?_ State.verdictChange_within rfl
  refine Within.trans ?_ (within_checkpoint rfl)
  refine Within.after ?_ State.onAirLane_within rfl
  exact State.onLane_within.mono rfl

theorem State.deliverKeys_within {n : ℕ} {s : State} : Within [Part.airLanes] s (State.deliverKeys n s) :=
  State.tell_within.mono rfl

end Sys2Proof.Machine
end

