-- ==== Sys2Proof/Laws/Ledger.lean ====
section
/-! SUPPORT. What each operation of Machine/Ledger.lean may change: the parts listed, what goes out, and the free values drawn. -/

namespace Sys2Proof.Machine

theorem State.withdraw_within {pair : ℕ} {plan : U32} {s : State} : Within [Part.cells] s (State.withdraw pair plan s) := by
  unfold State.withdraw
  refine Within.ite ?_ ?_
  · exact Within.refl _ _
  · exact within_cells rfl

theorem State.answerSuperseded_within {p : Plan} {s : State} : Within [Part.cells, .access, .update] s
    (State.answerSuperseded p s) := by
  unfold State.answerSuperseded
  dsimp only
  split
  · refine Within.after ?_ State.answerOpt_within rfl
    split
    · refine Within.ite ?_ ?_
      · exact State.withdraw_within.mono rfl
      · exact Within.refl _ _
    · exact Within.refl _ _
  · refine Within.after ?_ State.answerOpt_within rfl
    split
    · refine Within.ite ?_ ?_
      · exact State.withdraw_within.mono rfl
      · exact Within.refl _ _
    · exact Within.refl _ _

theorem State.shedPlan_within {s : State} : Within [Part.ledger, .counters] s (State.shedPlan s) := by
  unfold State.shedPlan
  split
  · exact Within.refl _ _
  · refine Within.ite ?_ ?_
    · exact Within.refl _ _
    · refine Within.after ?_ State.count_within rfl
      exact within_ledger rfl

theorem State.acceptPlan_within {lane : ℕ} {what : PlanWhat} {req : Option Req} {s : State} : Within [Part.cells, .access,
    .update, .ledger, .pair, .counters, .routes] s (State.acceptPlan lane what req s) := by
  unfold State.acceptPlan
  refine Within.ite ?_ ?_
  · refine Within.after ?_ State.shedPlan_within rfl
    refine Within.after ?_ State.count_within rfl
    refine Within.after ?_ State.onRoute_within rfl
    split
    · refine Within.after ?_ State.mirror_within rfl
      refine Within.trans ?_ (within_ledger rfl)
      refine Within.foldl (fun _ _ => ?_) ?_
      · exact State.answerSuperseded_within.mono rfl
      · exact Within.refl _ _
    · refine Within.after ?_ State.mirror_within rfl
      refine Within.trans ?_ (within_ledger rfl)
      refine Within.foldl (fun _ _ => ?_) ?_
      · exact State.answerSuperseded_within.mono rfl
      · exact Within.refl _ _
    · refine Within.after ?_ State.mirror_within rfl
      refine Within.trans ?_ (within_ledger rfl)
      refine Within.foldl (fun _ _ => ?_) ?_
      · exact State.answerSuperseded_within.mono rfl
      · exact Within.refl _ _
    · refine Within.after ?_ State.mirror_within rfl
      refine Within.trans ?_ (within_ledger rfl)
      refine Within.foldl (fun _ _ => ?_) ?_
      · exact State.answerSuperseded_within.mono rfl
      · exact Within.refl _ _
    · refine Within.after ?_ State.mirror_within rfl
      refine Within.trans ?_ (within_ledger rfl)
      refine Within.foldl (fun _ _ => ?_) ?_
      · exact State.answerSuperseded_within.mono rfl
      · exact Within.refl _ _
    · refine Within.trans ?_ (within_ledger rfl)
      refine Within.foldl (fun _ _ => ?_) ?_
      · exact State.answerSuperseded_within.mono rfl
      · exact Within.refl _ _
    · refine Within.trans ?_ (within_ledger rfl)
      refine Within.foldl (fun _ _ => ?_) ?_
      · exact State.answerSuperseded_within.mono rfl
      · exact Within.refl _ _
  · split
    · refine Within.after ?_ State.mirror_within rfl
      refine Within.trans ?_ (within_ledger rfl)
      refine Within.foldl (fun _ _ => ?_) ?_
      · exact State.answerSuperseded_within.mono rfl
      · exact Within.refl _ _
    · refine Within.after ?_ State.mirror_within rfl
      refine Within.trans ?_ (within_ledger rfl)
      refine Within.foldl (fun _ _ => ?_) ?_
      · exact State.answerSuperseded_within.mono rfl
      · exact Within.refl _ _
    · refine Within.after ?_ State.mirror_within rfl
      refine Within.trans ?_ (within_ledger rfl)
      refine Within.foldl (fun _ _ => ?_) ?_
      · exact State.answerSuperseded_within.mono rfl
      · exact Within.refl _ _
    · refine Within.after ?_ State.mirror_within rfl
      refine Within.trans ?_ (within_ledger rfl)
      refine Within.foldl (fun _ _ => ?_) ?_
      · exact State.answerSuperseded_within.mono rfl
      · exact Within.refl _ _
    · refine Within.after ?_ State.mirror_within rfl
      refine Within.trans ?_ (within_ledger rfl)
      refine Within.foldl (fun _ _ => ?_) ?_
      · exact State.answerSuperseded_within.mono rfl
      · exact Within.refl _ _
    · refine Within.trans ?_ (within_ledger rfl)
      refine Within.foldl (fun _ _ => ?_) ?_
      · exact State.answerSuperseded_within.mono rfl
      · exact Within.refl _ _
    · refine Within.trans ?_ (within_ledger rfl)
      refine Within.foldl (fun _ _ => ?_) ?_
      · exact State.answerSuperseded_within.mono rfl
      · exact Within.refl _ _

theorem State.onPlans_within {c : Plan → Bool} {f : Plan → Plan} {s : State} : Within [Part.ledger] s (State.onPlans c f s)
    :=
  within_ledger rfl

theorem State.sendCell_within {pair : ℕ} {m : CellMsg} {s : State} : Within [Part.keys] s (State.sendCell pair m s) := by
  unfold State.sendCell
  refine Within.ite ?_ ?_
  · refine Within.after ?_ State.emit_within rfl
    exact within_keys rfl ⟨rfl, rfl, rfl, rfl, rfl, rfl⟩
  · exact Within.refl _ _

theorem State.onPlan_within {id : U32} {f : Plan → Plan} {s : State} : Within [Part.ledger] s (State.onPlan id f s) :=
  State.onPlans_within.mono rfl

theorem State.tested_within {n : ℕ} {s : State} : Within [Part.ledger] s (State.tested n s) :=
  within_ledger rfl

theorem State.checkStops_within {s : State} : Within [Part.ledger, .access, .counters, .trip, .panel] s (State.checkStops s)
    := by
  unfold State.checkStops
  refine Within.trans ?_ (within_ledger rfl)
  refine Within.foldl (fun _ _ => ?_) ?_
  · refine Within.foldl (fun _ _ => ?_) ?_
    · split
      · exact Within.refl _ _
      · refine Within.after ?_ State.trigger_within rfl
        refine Within.after ?_ State.raise_within rfl
        exact within_ledger rfl
    · exact State.tested_within.mono rfl
  · exact Within.refl _ _

theorem State.keepRecords_within {s : State} : Within [Part.ledger] s (State.keepRecords s) :=
  within_ledger rfl

theorem State.requestPermit_within {p : Plan} {s : State} : Within [Part.ledger, .keys] s (State.requestPermit p s) := by
  unfold State.requestPermit
  split
  · exact Within.refl _ _
  · refine Within.ite ?_ ?_
    · exact Within.refl _ _
    · refine Within.after ?_ State.sendCell_within rfl
      exact within_ledger rfl

theorem ledgerCutoff_within {s : State} : Within [Part.clock, .ledger, .access, .counters, .trip, .panel, .keys, .pair] s
    (ledgerCutoff s) := by
  unfold ledgerCutoff
  refine Within.ite ?_ ?_
  · refine Within.after ?_ State.sendLink_within rfl
    refine Within.after ?_ State.keepRecords_within rfl
    refine Within.foldl (fun _ _ => ?_) ?_
    · exact State.requestPermit_within.mono rfl
    · refine Within.trans ?_ (within_ledger rfl)
      refine Within.after ?_ State.onPlans_within rfl
      refine Within.ite ?_ ?_
      · exact State.stamped_within.mono rfl
      · refine Within.after ?_ State.checkStops_within rfl
        exact State.stamped_within.mono rfl
  · refine Within.after ?_ State.keepRecords_within rfl
    refine Within.foldl (fun _ _ => ?_) ?_
    · exact State.requestPermit_within.mono rfl
    · refine Within.trans ?_ (within_ledger rfl)
      refine Within.after ?_ State.onPlans_within rfl
      refine Within.ite ?_ ?_
      · exact State.stamped_within.mono rfl
      · refine Within.after ?_ State.checkStops_within rfl
        exact State.stamped_within.mono rfl

theorem profileCutoff_within {s : State} : Within [Part.clock, .ledger] s (profileCutoff s) := by
  unfold profileCutoff
  refine Within.trans ?_ (within_ledger rfl)
  refine Within.after ?_ State.onPlans_within rfl
  exact State.stamped_within.mono rfl

theorem execProfileCutoff_within {s : State} : Within.post [Part.clock, .ledger] s (execProfileCutoff s) := by
  unfold execProfileCutoff
  refine Within.ite ?_ ?_
  · refine Within.after ?_ profileCutoff_within rfl
    exact State.begin_within.mono rfl
  · exact State.begin_within.mono rfl

theorem planProfiled_within {id : U32} {out : ProfileOut} {s : State} : Within [Part.ledger, .counters, .routes] s
    (planProfiled id out s) := by
  unfold planProfiled
  split
  · exact Within.refl _ _
  · refine Within.ite ?_ ?_
    · split
      · exact Within.refl _ _
      · refine Within.ite ?_ ?_
        · refine Within.after ?_ State.onRoute_within rfl
          refine Within.after ?_ State.count_within rfl
          exact State.onPlan_within.mono rfl
        · refine Within.after ?_ State.count_within rfl
          exact State.onPlan_within.mono rfl
    · exact Within.refl _ _

theorem execPlanProfiled_within {plan : U32} {profile : ProfileOut} {s : State} : Within.post [Part.ledger, .counters,
    .routes] s (execPlanProfiled plan profile s) := by
  unfold execPlanProfiled
  refine Within.ite ?_ ?_
  · refine Within.after ?_ planProfiled_within rfl
    exact State.begin_within.mono rfl
  · exact State.begin_within.mono rfl

theorem planChecked_within {id : U32} {s : State} : Within [Part.ledger, .access, .counters, .trip, .panel] s (planChecked
    id s) := by
  unfold planChecked
  dsimp only
  split
  · refine Within.ite ?_ ?_
    · exact Within.refl _ _
    · exact State.checkStops_within.mono rfl
  · refine Within.ite ?_ ?_
    · refine Within.after ?_ State.count_within rfl
      refine Within.after ?_ State.tested_within rfl
      refine Within.trans ?_ (within_ledger rfl)
      refine Within.after ?_ State.onPlans_within rfl
      refine Within.ite ?_ ?_
      · exact Within.refl _ _
      · exact State.checkStops_within.mono rfl
    · refine Within.ite ?_ ?_
      · exact Within.refl _ _
      · exact State.checkStops_within.mono rfl

theorem execPlanChecked_within {plan : U32} {s : State} : Within.post [Part.ledger, .access, .counters, .trip, .panel] s
    (execPlanChecked plan s) := by
  unfold execPlanChecked
  refine Within.ite ?_ ?_
  · refine Within.after ?_ planChecked_within rfl
    exact State.begin_within.mono rfl
  · exact State.begin_within.mono rfl

end Sys2Proof.Machine
end

