-- ==== Sys2Proof/Laws/Halt.lean ====
section
/-! SUPPORT. What each operation of Machine/Halt.lean may change: the parts listed, what goes out, and the free values drawn. -/

namespace Sys2Proof.Machine

theorem State.setRecord_within {k : ℕ} {code : ℕ} {s : State} : Within [Part.halt, .lanes] s (State.setRecord k code s) := by
  unfold State.setRecord
  split
  · exact within_halt rfl (fun h => h)
  · exact within_halt rfl (fun h => h)
  · exact State.onLane_within.mono rfl

theorem State.restoreRecords_within {s : State} : Within [Part.halt, .lanes, .trip] s (State.restoreRecords s) := by
  unfold State.restoreRecords
  refine Within.ite ?_ ?_
  · exact Within.refl _ _
  · refine Within.foldl (fun _ _ => ?_) ?_
    · refine Within.after ?_ State.haltSample_within rfl
      exact State.setRecord_within.mono rfl
    · exact Within.refl _ _

theorem State.fallSilent_within {cause : ℕ} {s : State} : Within [Part.halt, .air, .access, .counters, .trip, .panel] s
    (State.fallSilent cause s) := by
  unfold State.fallSilent
  refine Within.ite (Within.refl _ _) ?_
  refine Within.after ?_ State.raise_within rfl
  refine Within.trans ?_ (within_air rfl)
  refine Within.after ?_ State.emit_within rfl
  refine Within.after ?_ State.cutVerge_within rfl
  exact within_halt rfl (fun _ => rfl)


theorem State.checkRecords_within {s : State} : Within [Part.halt, .air, .access, .counters, .trip, .panel] s
    (State.checkRecords s) := by
  unfold State.checkRecords
  refine Within.ite ?_ ?_
  · exact State.fallSilent_within.mono rfl
  · exact Within.refl _ _

theorem State.clearRecord_within {k : ℕ} {s : State} : Within [Part.halt, .lanes, .trip] s (State.clearRecord k s) := by
  unfold State.clearRecord
  refine Within.after ?_ State.haltSample_within rfl
  refine Within.after ?_ State.trigger_within rfl
  refine Within.trans ?_ (within_halt rfl (fun h => h))
  exact State.setRecord_within.mono rfl

theorem State.applyResume_within {s : State} {r : Resume} : Within [Part.access, .update, .halt, .lanes, .trip, .counters,
    .panel] s (State.applyResume s r) := by
  unfold State.applyResume
  refine Within.ite ?_ ?_
  · exact State.answerOpt_within.mono rfl
  · refine Within.ite ?_ ?_
    · split
      · refine Within.after ?_ State.answerOpt_within rfl
        refine Within.after ?_ State.haltSample_within rfl
        refine Within.trans ?_ (within_halt rfl (fun h => h))
        exact State.setRecord_within.mono rfl
      · refine Within.ite ?_ ?_
        · exact State.answerOpt_within.mono rfl
        · refine Within.ite ?_ ?_
          · refine Within.after ?_ State.answerOpt_within rfl
            exact State.clearRecord_within.mono rfl
          · refine Within.after ?_ State.answerOpt_within rfl
            refine Within.after ?_ State.raise_within rfl
            exact within_halt rfl (fun h => h)
    · refine Within.after ?_ State.answerOpt_within rfl
      exact State.clearRecord_within.mono rfl

theorem State.resumeRecords_within {s : State} : Within [Part.access, .update, .halt, .lanes, .trip, .counters, .panel] s
    (State.resumeRecords s) := by
  unfold State.resumeRecords
  refine Within.ite ?_ ?_
  · exact Within.refl _ _
  · refine Within.trans ?_ (within_halt rfl (fun h => h))
    refine Within.foldl (fun _ _ => ?_) ?_
    · exact State.applyResume_within.mono rfl
    · exact Within.refl _ _

theorem State.sendSiteLine_within {s : State} : Within [] s (State.sendSiteLine s) :=
  State.emit_within.mono rfl

theorem State.driveLine_within {s : State} : Within [Part.halt] s (State.driveLine s) := by
  unfold State.driveLine
  refine Within.ite ?_ ?_
  · exact Within.refl _ _
  · refine Within.after ?_ State.sendSiteLine_within rfl
    refine Within.after ?_ State.emit_within rfl
    exact within_halt rfl (fun h => h)

theorem State.sendHalt_within {lanes : List ℕ} {decisions : List RemoteDecision} {s : State} : Within [Part.pair] s
    (State.sendHalt lanes decisions s) :=
  State.sendLink_within.mono rfl

theorem State.oweHalt_within {lanes : List ℕ} {s : State} : Within [Part.air] s (State.oweHalt lanes s) :=
  within_air rfl

theorem State.decideHalt_within {s : State} : Within [Part.halt, .lanes, .pair, .trip, .air, .access, .counters, .panel] s
    (State.decideHalt s) := by
  unfold State.decideHalt
  refine Within.ite ?_ ?_
  · refine Within.after ?_ State.driveLine_within rfl
    refine Within.trans ?_ (within_halt rfl (fun h => h))
    refine Within.foldl (fun _ _ => ?_) ?_
    · exact State.setRecord_within.mono rfl
    · exact Within.refl _ _
  · refine Within.ite ?_ ?_
    · refine Within.foldl (fun _ _ => ?_) ?_
      · exact State.haltSample_within.mono rfl
      · refine Within.after ?_ State.sendHalt_within rfl
        refine Within.after ?_ State.driveLine_within rfl
        refine Within.trans ?_ (within_halt rfl (fun h => h))
        refine Within.foldl (fun _ _ => ?_) ?_
        · exact State.setRecord_within.mono rfl
        · exact Within.refl _ _
    · refine Within.foldl (fun _ _ => ?_) ?_
      · exact State.haltSample_within.mono rfl
      · refine Within.foldl (fun _ _ => ?_) ?_
        · exact State.trigger_within.mono rfl
        · refine Within.after ?_ State.oweHalt_within rfl
          refine Within.after ?_ State.sendFirstHalt_within rfl
          refine Within.after ?_ State.sendHalt_within rfl
          refine Within.trans ?_ (within_halt rfl (fun h => h))
          refine Within.after ?_ State.draw_within rfl
          refine Within.after ?_ State.draw_within rfl
          refine Within.after ?_ State.driveLine_within rfl
          refine Within.trans ?_ (within_halt rfl (fun h => h))
          refine Within.foldl (fun _ _ => ?_) ?_
          · exact State.setRecord_within.mono rfl
          · exact Within.refl _ _

theorem State.haltDecision_within {s : State} : Within [Part.halt, .air, .access, .counters, .trip, .panel, .lanes, .pair] s
    (State.haltDecision s) := by
  unfold State.haltDecision
  refine Within.ite ?_ ?_
  · exact Within.refl _ _
  · refine Within.ite ?_ ?_
    · exact State.checkRecords_within.mono rfl
    · refine Within.after ?_ State.decideHalt_within rfl
      exact State.checkRecords_within.mono rfl

theorem State.sourcesChanged_within {s : State} : Within [Part.halt, .air, .access, .counters, .trip, .panel, .lanes, .pair]
    s (State.sourcesChanged s) := by
  unfold State.sourcesChanged
  refine Within.ite ?_ ?_
  · exact Within.refl _ _
  · refine Within.ite ?_ ?_
    · refine Within.after ?_ State.driveLine_within rfl
      exact State.haltDecision_within.mono rfl
    · refine Within.after ?_ State.sendHalt_within rfl
      refine Within.after ?_ State.driveLine_within rfl
      exact State.haltDecision_within.mono rfl

theorem State.hostSource_within {scope : ℕ} {lane : ℕ} {on : Bool} {s : State} : Within [Part.lanes, .halt] s
    (State.hostSource scope lane on s) := by
  unfold State.hostSource
  split
  · exact State.onLane_within.mono rfl
  · exact within_halt rfl (fun h => h)
  · exact within_halt rfl (fun h => h)

theorem State.assertHalt_within {w : U32} {s : State} : Within [Part.lanes, .halt, .air, .access, .counters, .trip, .panel,
    .pair] s (State.assertHalt w s).1 := by
  unfold State.assertHalt
  refine Within.ite_fst ?_ ?_
  · exact refuse_within.mono rfl
  · refine Within.ite_fst ?_ ?_
    · exact refuse_within.mono rfl
    · refine Within.ite_fst ?_ ?_
      · exact refuse_within.mono rfl
      · refine Within.fst_mk ?_
        refine Within.after ?_ State.sourcesChanged_within rfl
        exact State.hostSource_within.mono rfl

theorem State.restoreHalt_within {roles : ℕ} {w : U32} {s : State} : Within [Part.lanes, .halt, .air, .access, .counters,
    .trip, .panel, .pair] s (State.restoreHalt roles w s).1 := by
  unfold State.restoreHalt
  refine Within.ite_fst ?_ ?_
  · exact refuse_within.mono rfl
  · refine Within.ite_fst ?_ ?_
    · exact refuse_within.mono rfl
    · refine Within.ite_fst ?_ ?_
      · exact refuse_within.mono rfl
      · refine Within.fst_mk ?_
        refine Within.after ?_ State.sourcesChanged_within rfl
        exact State.hostSource_within.mono rfl

theorem State.resumeHalt_within {r : Req} {w : U32} {s : State} : Within [Part.halt, .trip] s (State.resumeHalt r w s).1 :=
    by
  unfold State.resumeHalt
  refine Within.ite_fst ?_ ?_
  · exact refuse_within.mono rfl
  · refine Within.ite_fst ?_ ?_
    · exact refuse_within.mono rfl
    · refine Within.fst_mk ?_
      refine Within.after ?_ State.haltSample_within rfl
      exact within_halt rfl (fun h => h)

theorem running_within {k : List Part} {f : State → State} {s t : State} (h : ∀ t, Within k t (f t)) (g : Within k s t)
    (_ : ([] : List Part).all k.contains = true) : Within.post k s (running f t) :=
  Within.ite ((g.trans (State.begin_within.mono rfl)).trans (h _)) (g.trans (State.begin_within.mono rfl))

theorem haltAssert_within {r : Req} {w : U32} {s : State} : Within [Part.access, .clock, .update, .counters, .panel, .trip,
    .lanes, .halt, .air, .pair] s (haltAssert r w s) := by
  unfold haltAssert
  refine State.serveWrite_within (fun _ => ?_) ?_ rfl
  · exact State.assertHalt_within.mono rfl
  · exact Within.refl _ _

theorem execHaltAssert_within {r : Req} {word : U32} {s : State} : Within.post [Part.access, .clock, .update, .counters,
    .panel, .trip, .lanes, .halt, .air, .pair] s (execHaltAssert r word s) := by
  unfold execHaltAssert
  refine running_within (fun _ => ?_) ?_ rfl
  · exact haltAssert_within.mono rfl
  · exact Within.refl _ _

theorem haltRestore_within {r : Req} {w : U32} {s : State} : Within [Part.access, .clock, .update, .counters, .panel, .trip,
    .lanes, .halt, .air, .pair] s (haltRestore r w s) := by
  unfold haltRestore
  refine State.serveWrite_within (fun _ => ?_) ?_ rfl
  · exact State.restoreHalt_within.mono rfl
  · exact Within.refl _ _

theorem execHaltRestore_within {r : Req} {word : U32} {s : State} : Within.post [Part.access, .clock, .update, .counters,
    .panel, .trip, .lanes, .halt, .air, .pair] s (execHaltRestore r word s) := by
  unfold execHaltRestore
  refine running_within (fun _ => ?_) ?_ rfl
  · exact haltRestore_within.mono rfl
  · exact Within.refl _ _

theorem haltResume_within {r : Req} {w : U32} {s : State} : Within [Part.access, .clock, .update, .counters, .panel, .trip,
    .halt] s (haltResume r w s) := by
  unfold haltResume
  refine State.serveWrite_within (fun _ => ?_) ?_ rfl
  · exact State.resumeHalt_within.mono rfl
  · exact Within.refl _ _

theorem execHaltResume_within {r : Req} {word : U32} {s : State} : Within.post [Part.access, .clock, .update, .counters,
    .panel, .trip, .halt] s (execHaltResume r word s) := by
  unfold execHaltResume
  refine running_within (fun _ => ?_) ?_ rfl
  · exact haltResume_within.mono rfl
  · exact Within.refl _ _

theorem haltRepetition_within {id : U16} {index : ℕ} {s : State} : Within [Part.clock, .halt, .air, .counters] s
    (haltRepetition id index s) := by
  unfold haltRepetition
  split
  · exact Within.refl _ _
  · refine Within.ite ?_ ?_
    · exact Within.refl _ _
    · refine Within.ite ?_ ?_
      · refine Within.trans ?_ (within_air rfl)
        refine Within.trans ?_ (within_halt rfl (fun h => h))
        refine Within.after ?_ State.draw_within rfl
        exact State.stamped_within.mono rfl
      · refine Within.after ?_ State.sendVerge_within rfl
        refine Within.trans ?_ (within_halt rfl (fun h => h))
        refine Within.after ?_ State.draw_within rfl
        exact State.stamped_within.mono rfl

theorem execHaltRepetition_within {haltId : U16} {index : ℕ} {s : State} : Within.post [Part.clock, .halt, .air, .counters]
    s (execHaltRepetition haltId index s) := by
  unfold execHaltRepetition
  refine running_within (fun _ => ?_) ?_ rfl
  · exact haltRepetition_within.mono rfl
  · exact Within.refl _ _

theorem siteHaltSample_within {low : Bool} {stamp : ℕ} {s : State} : Within [Part.clock, .halt, .trip, .air, .access,
    .counters, .panel, .lanes, .pair] s (siteHaltSample low stamp s) := by
  unfold siteHaltSample
  refine Within.ite ?_ ?_
  · refine Within.trans ?_ (within_halt rfl (fun h => h))
    exact State.stamped_within.mono rfl
  · refine Within.ite ?_ ?_
    · refine Within.after ?_ State.sourcesChanged_within rfl
      refine Within.ite ?_ ?_
      · refine Within.after ?_ State.trigger_within rfl
        refine Within.trans ?_ (within_halt rfl (fun h => h))
        refine Within.trans ?_ (within_halt rfl (fun h => h))
        exact State.stamped_within.mono rfl
      · refine Within.trans ?_ (within_halt rfl (fun h => h))
        refine Within.trans ?_ (within_halt rfl (fun h => h))
        exact State.stamped_within.mono rfl
    · refine Within.after ?_ State.sourcesChanged_within rfl
      refine Within.ite ?_ ?_
      · refine Within.after ?_ State.raise_within rfl
        refine Within.trans ?_ (within_halt rfl (fun h => h))
        refine Within.ite ?_ ?_
        · refine Within.after ?_ State.trigger_within rfl
          refine Within.trans ?_ (within_halt rfl (fun h => h))
          refine Within.trans ?_ (within_halt rfl (fun h => h))
          exact State.stamped_within.mono rfl
        · refine Within.trans ?_ (within_halt rfl (fun h => h))
          refine Within.trans ?_ (within_halt rfl (fun h => h))
          exact State.stamped_within.mono rfl
      · refine Within.ite ?_ ?_
        · refine Within.after ?_ State.trigger_within rfl
          refine Within.trans ?_ (within_halt rfl (fun h => h))
          refine Within.trans ?_ (within_halt rfl (fun h => h))
          exact State.stamped_within.mono rfl
        · refine Within.trans ?_ (within_halt rfl (fun h => h))
          refine Within.trans ?_ (within_halt rfl (fun h => h))
          exact State.stamped_within.mono rfl

theorem execSiteHaltSample_within {low : Bool} {stamp : ℕ} {s : State} : Within.post [Part.clock, .halt, .trip, .air,
    .access, .counters, .panel, .lanes, .pair] s (execSiteHaltSample low stamp s) := by
  unfold execSiteHaltSample
  refine running_within (fun _ => ?_) ?_ rfl
  · exact siteHaltSample_within.mono rfl
  · exact Within.refl _ _

theorem siteLineReadback_within {high : Bool} {s : State} : Within [Part.halt, .access, .counters, .trip, .panel] s
    (siteLineReadback high s) := by
  unfold siteLineReadback
  refine Within.ite ?_ ?_
  · refine Within.after ?_ State.raise_within rfl
    exact within_halt rfl (fun h => h)
  · exact Within.refl _ _

theorem execSiteLineReadback_within {high : Bool} {s : State} : Within.post [Part.halt, .access, .counters, .trip, .panel] s
    (execSiteLineReadback high s) := by
  unfold execSiteLineReadback
  refine running_within (fun _ => ?_) ?_ rfl
  · exact siteLineReadback_within.mono rfl
  · exact Within.refl _ _

theorem siteLineStuck_within {s : State} : Within [Part.halt, .access, .counters, .trip, .panel] s (siteLineStuck s) := by
  unfold siteLineStuck
  refine Within.ite ?_ ?_
  · refine Within.after ?_ State.raise_within rfl
    exact within_halt rfl (fun h => h)
  · exact Within.refl _ _

theorem execSiteLineStuck_within {s : State} : Within.post [Part.halt, .access, .counters, .trip, .panel] s
    (execSiteLineStuck s) := by
  unfold execSiteLineStuck
  refine running_within (fun _ => ?_) ?_ rfl
  · exact siteLineStuck_within.mono rfl
  · exact Within.refl _ _

theorem siteLine_within {address : ℕ} {driving : Bool} {s : State} : Within [Part.halt] s (siteLine address driving s) :=
  within_halt rfl (fun h => h)

theorem execSiteLine_within {address : ℕ} {driving : Bool} {s : State} : Within.post [Part.halt] s (execSiteLine address
    driving s) := by
  unfold execSiteLine
  refine running_within (fun _ => ?_) ?_ rfl
  · exact siteLine_within.mono rfl
  · exact Within.refl _ _

theorem siteLinePeriodic_within {s : State} : Within [] s (siteLinePeriodic s) := by
  unfold siteLinePeriodic
  refine Within.ite ?_ ?_
  · exact State.sendSiteLine_within.mono rfl
  · exact Within.refl _ _

theorem execSiteLinePeriodic_within {s : State} : Within.post [] s (execSiteLinePeriodic s) := by
  unfold execSiteLinePeriodic
  refine running_within (fun _ => ?_) ?_ rfl
  · exact siteLinePeriodic_within.mono rfl
  · exact Within.refl _ _

theorem siteLineDriverTimeout_within {address : ℕ} {s : State} : Within [Part.halt] s (siteLineDriverTimeout address s) := by
  unfold siteLineDriverTimeout
  split
  · refine Within.ite ?_ ?_
    · exact within_halt rfl (fun h => h)
    · exact Within.refl _ _
  · exact Within.refl _ _

theorem execSiteLineDriverTimeout_within {address : ℕ} {s : State} : Within.post [Part.halt] s (execSiteLineDriverTimeout
    address s) := by
  unfold execSiteLineDriverTimeout
  refine running_within (fun _ => ?_) ?_ rfl
  · exact siteLineDriverTimeout_within.mono rfl
  · exact Within.refl _ _

theorem localResumePress_within {holdMs : ℕ} {stamp : ℕ} {s : State} : Within [Part.clock, .access, .counters, .trip,
    .panel, .halt] s (localResumePress holdMs stamp s) := by
  unfold localResumePress
  refine Within.ite ?_ ?_
  · exact State.stamped_within.mono rfl
  · refine Within.ite ?_ ?_
    · refine Within.after ?_ State.raise_within rfl
      exact State.stamped_within.mono rfl
    · refine Within.ite ?_ ?_
      · refine Within.after ?_ State.raise_within rfl
        exact State.stamped_within.mono rfl
      · refine Within.ite ?_ ?_
        · refine Within.after ?_ State.raise_within rfl
          exact State.stamped_within.mono rfl
        · refine Within.foldl (fun _ _ => ?_) ?_
          · exact State.haltSample_within.mono rfl
          · refine Within.trans ?_ (within_halt rfl (fun h => h))
            exact State.stamped_within.mono rfl

theorem execLocalResumePress_within {holdMs : ℕ} {stamp : ℕ} {s : State} : Within.post [Part.clock, .access, .counters,
    .trip, .panel, .halt] s (execLocalResumePress holdMs stamp s) := by
  unfold execLocalResumePress
  refine running_within (fun _ => ?_) ?_ rfl
  · exact localResumePress_within.mono rfl
  · exact Within.refl _ _

theorem twoPartyWindowExpire_within {s : State} : Within [Part.halt, .lanes, .access, .counters, .trip, .panel] s
    (twoPartyWindowExpire s) := by
  unfold twoPartyWindowExpire
  refine Within.trans ?_ (within_halt rfl (fun h => h))
  refine Within.foldl (fun _ _ => ?_) ?_
  · refine Within.after ?_ State.raise_within rfl
    exact State.setRecord_within.mono rfl
  · exact Within.refl _ _

theorem execTwoPartyWindowExpire_within {s : State} : Within.post [Part.halt, .lanes, .access, .counters, .trip, .panel] s
    (execTwoPartyWindowExpire s) := by
  unfold execTwoPartyWindowExpire
  refine running_within (fun _ => ?_) ?_ rfl
  · exact twoPartyWindowExpire_within.mono rfl
  · exact Within.refl _ _

theorem lockstepMismatch_within {s : State} : Within [Part.halt, .air, .access, .counters, .trip, .panel] s
    (lockstepMismatch s) :=
  State.fallSilent_within.mono rfl

theorem execLockstepMismatch_within {s : State} : Within.post [Part.halt, .air, .access, .counters, .trip, .panel] s
    (execLockstepMismatch s) := by
  unfold execLockstepMismatch
  refine running_within (fun _ => ?_) ?_ rfl
  · exact lockstepMismatch_within.mono rfl
  · exact Within.refl _ _

end Sys2Proof.Machine
end

