-- ==== Sys2Proof/Laws/Trip.lean ====
section
/-! SUPPORT. What each operation of Machine/Trip.lean may change: the parts listed, what goes out, and the free values drawn. -/

namespace Sys2Proof.Machine

theorem State.exportItems_within {archive : Bool} {l : List (Nat × Bytes)} {s : State} :
    Within [.access, .counters, .trip, .panel] s (State.exportItems archive l s).2 := by
  induction l generalizing s with
  | nil => exact Within.refl _ _
  | cons i t ih =>
    unfold State.exportItems
    split
    · exact Within.refl _ _
    · refine Within.trans ?_ ih
      refine Within.ite ?_ (State.push_within.mono rfl)
      exact ((State.push_within.mono rfl).trans (within_trip rfl)).trans (State.emit_within.mono rfl)

theorem State.reexportStep_within {s : State} : Within [Part.access, .counters, .trip, .panel] s (State.reexportStep s) := by
  unfold State.reexportStep
  refine Within.ite ?_ ?_
  · exact Within.refl _ _
  · refine Within.trans ?_ (within_trip rfl)
    exact State.exportItems_within.mono rfl

theorem State.retain_within {u : ℕ} {number : ℕ} {items : List (ℕ × Bytes)} {s : State} : Within [Part.access, .counters,
    .trip, .panel] s (State.retain u number items s) := by
  unfold State.retain
  refine Within.ite ?_ ?_
  · exact State.raise_within.mono rfl
  · exact within_trip rfl

theorem State.drainUnit_within {s : State} {u : ℕ} : Within [Part.access, .counters, .trip, .panel] s (State.drainUnit s u)
    := by
  unfold State.drainUnit
  refine Within.ite ?_ ?_
  · exact State.reexportStep_within.mono rfl
  · refine Within.ite ?_ ?_
    · refine Within.after ?_ State.onTrip_within rfl
      refine Within.after ?_ State.exportItems_within rfl
      exact State.reexportStep_within.mono rfl
    · refine Within.after ?_ State.onTrip_within rfl
      refine Within.ite ?_ ?_
      · refine Within.after ?_ State.retain_within rfl
        refine Within.after ?_ State.exportItems_within rfl
        exact State.reexportStep_within.mono rfl
      · refine Within.after ?_ State.exportItems_within rfl
        exact State.reexportStep_within.mono rfl

theorem State.drainAll_within {s : State} : Within [Part.access, .counters, .trip, .panel] s (State.drainAll s) := by
  unfold State.drainAll
  refine Within.foldl (fun _ _ => ?_) ?_
  · exact State.drainUnit_within.mono rfl
  · exact Within.refl _ _

theorem State.forceTrigger_within {mask : ℕ} {s : State} : Within [Part.trip] s (State.forceTrigger mask s).1 := by
  unfold State.forceTrigger
  refine Within.ite_fst ?_ ?_
  · exact refuse_within.mono rfl
  · refine Within.after ?_ confirm_within rfl
    refine Within.foldl (fun _ _ => ?_) ?_
    · exact State.onTrip_within.mono rfl
    · exact Within.refl _ _

theorem State.freeBytes_within {n : ℕ} {s : State} : Within [] s (State.freeBytes n s).2 := by
  unfold State.freeBytes
  refine Within.snd_mk ?_
  exact State.draw_within.mono rfl

theorem State.snapshotUnit_within {s : State} {u : ℕ} : Within [Part.trip] s (State.snapshotUnit s u) := by
  unfold State.snapshotUnit
  refine Within.ite ?_ ?_
  · split
    · refine Within.ite ?_ ?_
      · refine Within.after ?_ State.emit_within rfl
        exact State.onTrip_within.mono rfl
      · exact State.onTrip_within.mono rfl
    · exact Within.refl _ _
  · refine Within.foldl (fun _ _ => ?_) ?_
    · refine Within.ite ?_ ?_
      · exact Within.refl _ _
      · refine Within.after ?_ State.onTrip_within rfl
        exact State.freeBytes_within.mono rfl
    · split
      · refine Within.ite ?_ ?_
        · refine Within.after ?_ State.emit_within rfl
          exact State.onTrip_within.mono rfl
        · exact State.onTrip_within.mono rfl
      · exact Within.refl _ _

theorem State.spectrumUnit_within {s : State} {u : ℕ} : Within [Part.trip] s (State.spectrumUnit s u) := by
  unfold State.spectrumUnit
  refine Within.foldl (fun _ _ => ?_) ?_
  · refine Within.after ?_ State.recordUnit_within rfl
    exact State.freeBytes_within.mono rfl
  · exact Within.refl _ _

theorem State.tripSlice_within {s : State} : Within [Part.trip] s (State.tripSlice s) := by
  unfold State.tripSlice
  refine Within.foldl (fun _ _ => ?_) ?_
  · refine Within.ite ?_ ?_
    · exact Within.refl _ _
    · dsimp only
      split
      · refine Within.after ?_ State.snapshotUnit_within rfl
        exact State.onTrip_within.mono rfl
      · refine Within.after ?_ State.spectrumUnit_within rfl
        exact State.onTrip_within.mono rfl
      · exact State.onTrip_within.mono rfl
  · exact Within.refl _ _

theorem State.tripTick_within {s : State} : Within [Part.trip] s (State.tripTick s) := by
  unfold State.tripTick
  refine Within.foldl (fun _ _ => ?_) ?_
  · exact State.onTrip_within.mono rfl
  · exact Within.refl _ _

theorem autoTrigger_within {u : ℕ} {s : State} : Within [Part.trip] s (autoTrigger u s) := by
  unfold autoTrigger
  refine Within.ite ?_ ?_
  · exact State.onTrip_within.mono rfl
  · exact Within.refl _ _

theorem captureComplete_within {u : ℕ} {s : State} : Within [Part.trip, .keys, .access, .counters, .panel] s
    (captureComplete u s) := by
  unfold captureComplete
  refine Within.ite ?_ ?_
  · exact Within.refl _ _
  · refine Within.after ?_ State.raise_within rfl
    refine Within.trans ?_ (within_keys rfl ⟨rfl, rfl, rfl, rfl, rfl, rfl⟩)
    exact State.onTrip_within.mono rfl

theorem captureDrained_within {u : ℕ} {s : State} : Within [Part.access, .counters, .trip, .panel] s (captureDrained u s) :=
    by
  unfold captureDrained
  refine Within.ite ?_ ?_
  · exact State.drainUnit_within.mono rfl
  · exact Within.refl _ _

theorem forceTrigger_within {r : Req} {mask : ℕ} {s : State} : Within [Part.access, .clock, .update, .counters, .panel,
    .trip] s (forceTrigger r mask s) := by
  unfold forceTrigger
  refine State.serveWrite_within (fun _ => ?_) ?_ rfl
  · exact State.forceTrigger_within.mono rfl
  · exact Within.refl _ _

theorem execForceTrigger_within {r : Req} {mask : ℕ} {s : State} : Within.post [Part.access, .clock, .update, .counters,
    .panel, .trip] s (execForceTrigger r mask s) := by
  unfold execForceTrigger
  refine running_within (fun _ => ?_) ?_ rfl
  · exact forceTrigger_within.mono rfl
  · exact Within.refl _ _

theorem execAutoTriggerTimeout_within {unit : ℕ} {s : State} : Within.post [Part.trip] s (execAutoTriggerTimeout unit s) :=
    by
  unfold execAutoTriggerTimeout
  refine running_within (fun _ => ?_) ?_ rfl
  · exact autoTrigger_within.mono rfl
  · exact Within.refl _ _

theorem execCaptureComplete_within {unit : ℕ} {s : State} : Within.post [Part.trip, .keys, .access, .counters, .panel] s
    (execCaptureComplete unit s) := by
  unfold execCaptureComplete
  refine running_within (fun _ => ?_) ?_ rfl
  · exact captureComplete_within.mono rfl
  · exact Within.refl _ _

theorem execCaptureDrained_within {unit : ℕ} {s : State} : Within.post [Part.access, .counters, .trip, .panel] s
    (execCaptureDrained unit s) := by
  unfold execCaptureDrained
  refine running_within (fun _ => ?_) ?_ rfl
  · exact captureDrained_within.mono rfl
  · exact Within.refl _ _

end Sys2Proof.Machine
end

