-- ==== Sys2Proof/Laws/Streams.lean ====
section
/-! SUPPORT. What each operation of Machine/Streams.lean may change: the parts listed, what goes out, and the free values drawn. -/

namespace Sys2Proof.Machine

theorem State.claimReader_within {q : ℕ} {reader : U32} {s : State} : Within [Part.access, .counters, .trip, .panel] s
    (State.claimReader q reader s).1 := by
  unfold State.claimReader
  refine Within.ite_fst ?_ ?_
  · exact Within.refl _ _
  · refine Within.ite_fst ?_ ?_
    · refine Within.fst_mk ?_
      exact State.inUse_within.mono rfl
    · refine Within.fst_mk ?_
      exact State.onStream_within.mono rfl

theorem State.claimStream_within {r : Req} {q : ℕ} {s : State} : Within [Part.access, .counters, .trip, .panel] s
    (State.claimStream r q s).1 := by
  unfold State.claimStream
  refine Within.ite_fst ?_ ?_
  · exact refuse_within.mono rfl
  · split
    · exact refuse_within.mono rfl
    · dsimp only
      split
      · refine Within.after ?_ refuse_within rfl
        exact State.claimReader_within.mono rfl
      · refine Within.after ?_ confirm_within rfl
        exact State.claimReader_within.mono rfl

theorem State.releaseReader_within {reader : U32} {s : State} : Within [Part.access] s (State.releaseReader reader s) := by
  unfold State.releaseReader
  refine Within.foldl (fun _ _ => ?_) ?_
  · refine Within.ite ?_ ?_
    · exact State.onStream_within.mono rfl
    · exact Within.refl _ _
  · exact Within.refl _ _

theorem State.giveStreamKey_within {r : Req} {q : ℕ} {s : State} : Within [] s (State.giveStreamKey r q s).1 := by
  unfold State.giveStreamKey
  refine Within.ite_fst ?_ ?_
  · exact refuse_within.mono rfl
  · split
    · exact refuse_within.mono rfl
    · exact Within.refl _ _

theorem State.grantTick_within {s : State} : Within [Part.access] s (State.grantTick s) := by
  unfold State.grantTick
  refine Within.foldl (fun _ _ => ?_) ?_
  · refine Within.ite ?_ ?_
    · exact State.onStream_within.mono rfl
    · exact Within.refl _ _
  · exact Within.refl _ _

theorem State.readQueue_within {q : ℕ} {s : State} : Within [Part.access, .counters, .trip, .panel] s (State.readQueue q
    s).1 := by
  unfold State.readQueue
  refine Within.fst_mk ?_
  exact State.checkQueue_within.mono rfl

theorem State.multicastSlice_within {s : State} : Within [Part.access, .counters, .trip, .panel] s (State.multicastSlice s)
    := by
  unfold State.multicastSlice
  refine Within.foldl (fun _ _ => ?_) ?_
  · refine Within.ite ?_ ?_
    · exact Within.refl _ _
    · refine Within.ite ?_ ?_
      · refine Within.after ?_ State.drainAll_within rfl
        refine Within.foldl (fun _ _ => ?_) ?_
        · refine Within.ite ?_ ?_
          · refine Within.foldl (fun _ _ => ?_) ?_
            · exact State.emit_within.mono rfl
            · exact Within.refl _ _
          · exact Within.refl _ _
        · refine Within.after ?_ State.onStream_within rfl
          exact State.readQueue_within.mono rfl
      · refine Within.foldl (fun _ _ => ?_) ?_
        · refine Within.ite ?_ ?_
          · refine Within.foldl (fun _ _ => ?_) ?_
            · exact State.emit_within.mono rfl
            · exact Within.refl _ _
          · exact Within.refl _ _
        · refine Within.after ?_ State.onStream_within rfl
          exact State.readQueue_within.mono rfl
  · exact Within.refl _ _

theorem State.pullStream_within {r : Req} {q : ℕ} {room : ℕ} {s : State} : Within [Part.access, .counters, .trip, .panel] s
    (State.pullStream r q room s).1 := by
  unfold State.pullStream
  refine Within.ite_fst ?_ ?_
  · exact refuse_within.mono rfl
  · split
    · exact refuse_within.mono rfl
    · dsimp only
      split
      · refine Within.after ?_ refuse_within rfl
        exact State.claimReader_within.mono rfl
      · refine Within.ite_fst ?_ ?_
        · refine Within.fst_mk ?_
          refine Within.after ?_ State.readQueue_within rfl
          exact State.claimReader_within.mono rfl
        · refine Within.fst_mk ?_
          refine Within.ite ?_ ?_
          · refine Within.after ?_ State.drainAll_within rfl
            refine Within.after ?_ State.onStream_within rfl
            refine Within.after ?_ State.readQueue_within rfl
            exact State.claimReader_within.mono rfl
          · refine Within.after ?_ State.onStream_within rfl
            refine Within.after ?_ State.readQueue_within rfl
            exact State.claimReader_within.mono rfl

theorem State.releaseStream_within {r : Req} {q : ℕ} {s : State} : Within [Part.access] s (State.releaseStream r q s).1 := by
  unfold State.releaseStream
  refine Within.ite_fst ?_ ?_
  · exact refuse_within.mono rfl
  · refine Within.ite_fst ?_ ?_
    · refine Within.after ?_ confirm_within rfl
      exact State.onStream_within.mono rfl
    · exact confirm_within.mono rfl

theorem State.readerTick_within {s : State} : Within [Part.access] s (State.readerTick s) := by
  unfold State.readerTick
  refine Within.foldl (fun _ _ => ?_) ?_
  · refine Within.ite ?_ ?_
    · exact Within.refl _ _
    · exact State.onStream_within.mono rfl
  · exact Within.refl _ _

theorem canReaderTimeout_within {q : ℕ} {s : State} : Within [Part.access] s (canReaderTimeout q s) := by
  unfold canReaderTimeout
  refine Within.ite ?_ ?_
  · exact State.onStream_within.mono rfl
  · exact Within.refl _ _

theorem streamPull_within {r : Req} {q : ℕ} {room : ℕ} {s : State} : Within [Part.access, .clock, .update, .counters, .trip,
    .panel] s (streamPull r q room s) := by
  unfold streamPull
  refine State.serve_within (fun _ => ?_) ?_ rfl
  · exact State.pullStream_within.mono rfl
  · exact Within.refl _ _

theorem execStreamPull_within {r : Req} {stream : ℕ} {room : ℕ} {s : State} : Within.post [Part.access, .clock, .update,
    .counters, .trip, .panel] s (execStreamPull r stream room s) := by
  unfold execStreamPull
  refine running_within (fun _ => ?_) ?_ rfl
  · exact streamPull_within.mono rfl
  · exact Within.refl _ _

theorem streamClaim_within {r : Req} {q : ℕ} {s : State} : Within [Part.access, .clock, .update, .counters, .trip, .panel] s
    (streamClaim r q s) := by
  unfold streamClaim
  refine State.serve_within (fun _ => ?_) ?_ rfl
  · exact State.claimStream_within.mono rfl
  · exact Within.refl _ _

theorem execStreamClaim_within {r : Req} {stream : ℕ} {s : State} : Within.post [Part.access, .clock, .update, .counters,
    .trip, .panel] s (execStreamClaim r stream s) := by
  unfold execStreamClaim
  refine running_within (fun _ => ?_) ?_ rfl
  · exact streamClaim_within.mono rfl
  · exact Within.refl _ _

theorem streamRelease_within {r : Req} {q : ℕ} {s : State} : Within [Part.access, .clock, .update] s (streamRelease r q s)
    := by
  unfold streamRelease
  refine State.serve_within (fun _ => ?_) ?_ rfl
  · exact State.releaseStream_within.mono rfl
  · exact Within.refl _ _

theorem execStreamRelease_within {r : Req} {stream : ℕ} {s : State} : Within.post [Part.access, .clock, .update] s
    (execStreamRelease r stream s) := by
  unfold execStreamRelease
  refine running_within (fun _ => ?_) ?_ rfl
  · exact streamRelease_within.mono rfl
  · exact Within.refl _ _

theorem streamKey_within {r : Req} {q : ℕ} {s : State} : Within [Part.access, .clock, .update] s (streamKey r q s) := by
  unfold streamKey
  refine State.serve_within (fun _ => ?_) ?_ rfl
  · exact State.giveStreamKey_within.mono rfl
  · exact Within.refl _ _

theorem execStreamKey_within {r : Req} {stream : ℕ} {s : State} : Within.post [Part.access, .clock, .update] s
    (execStreamKey r stream s) := by
  unfold execStreamKey
  refine running_within (fun _ => ?_) ?_ rfl
  · exact streamKey_within.mono rfl
  · exact Within.refl _ _

theorem execCanReaderTimeout_within {stream : ℕ} {s : State} : Within.post [Part.access] s (execCanReaderTimeout stream s)
    := by
  unfold execCanReaderTimeout
  refine running_within (fun _ => ?_) ?_ rfl
  · exact canReaderTimeout_within.mono rfl
  · exact Within.refl _ _

end Sys2Proof.Machine
end

