-- ==== Sys2Proof/Laws/Fields.lean ====
section
/-! SUPPORT. Field by field, what the shared operations leave alone. -/

namespace Sys2Proof.Machine

/-! ### State.raise -/

@[simp] theorem State.raise_clock {code : ℕ} {cls : ℕ} {reg : ℕ} {lane : ℕ} {key : ℕ} {params : Bytes} {s : State} : (State.raise code cls reg lane key params s).clock = s.clock := State.raise_within .clock rfl
@[simp] theorem State.raise_time {code : ℕ} {cls : ℕ} {reg : ℕ} {lane : ℕ} {key : ℕ} {params : Bytes} {s : State} : (State.raise code cls reg lane key params s).time = s.time := State.raise_within .time rfl
@[simp] theorem State.raise_gnss {code : ℕ} {cls : ℕ} {reg : ℕ} {lane : ℕ} {key : ℕ} {params : Bytes} {s : State} : (State.raise code cls reg lane key params s).gnss = s.gnss := State.raise_within .gnss rfl
@[simp] theorem State.raise_update {code : ℕ} {cls : ℕ} {reg : ℕ} {lane : ℕ} {key : ℕ} {params : Bytes} {s : State} : (State.raise code cls reg lane key params s).update = s.update := State.raise_within .update rfl
@[simp] theorem State.raise_reference {code : ℕ} {cls : ℕ} {reg : ℕ} {lane : ℕ} {key : ℕ} {params : Bytes} {s : State} : (State.raise code cls reg lane key params s).reference = s.reference := State.raise_within .reference rfl
@[simp] theorem State.raise_settings {code : ℕ} {cls : ℕ} {reg : ℕ} {lane : ℕ} {key : ℕ} {params : Bytes} {s : State} : (State.raise code cls reg lane key params s).settings = s.settings := State.raise_within .settings rfl
@[simp] theorem State.raise_lanes {code : ℕ} {cls : ℕ} {reg : ℕ} {lane : ℕ} {key : ℕ} {params : Bytes} {s : State} : (State.raise code cls reg lane key params s).lanes = s.lanes := State.raise_within .lanes rfl
@[simp] theorem State.raise_routes {code : ℕ} {cls : ℕ} {reg : ℕ} {lane : ℕ} {key : ℕ} {params : Bytes} {s : State} : (State.raise code cls reg lane key params s).routes = s.routes := State.raise_within .routes rfl
@[simp] theorem State.raise_guests {code : ℕ} {cls : ℕ} {reg : ℕ} {lane : ℕ} {key : ℕ} {params : Bytes} {s : State} : (State.raise code cls reg lane key params s).guests = s.guests := State.raise_within .guests rfl
@[simp] theorem State.raise_ledger {code : ℕ} {cls : ℕ} {reg : ℕ} {lane : ℕ} {key : ℕ} {params : Bytes} {s : State} : (State.raise code cls reg lane key params s).ledger = s.ledger := State.raise_within .ledger rfl
@[simp] theorem State.raise_halt {code : ℕ} {cls : ℕ} {reg : ℕ} {lane : ℕ} {key : ℕ} {params : Bytes} {s : State} : (State.raise code cls reg lane key params s).halt = s.halt := State.raise_within .halt rfl
@[simp] theorem State.raise_air {code : ℕ} {cls : ℕ} {reg : ℕ} {lane : ℕ} {key : ℕ} {params : Bytes} {s : State} : (State.raise code cls reg lane key params s).air = s.air := State.raise_within .air rfl
@[simp] theorem State.raise_airLanes {code : ℕ} {cls : ℕ} {reg : ℕ} {lane : ℕ} {key : ℕ} {params : Bytes} {s : State} : (State.raise code cls reg lane key params s).airLanes = s.airLanes := State.raise_within .airLanes rfl
@[simp] theorem State.raise_pair {code : ℕ} {cls : ℕ} {reg : ℕ} {lane : ℕ} {key : ℕ} {params : Bytes} {s : State} : (State.raise code cls reg lane key params s).pair = s.pair := State.raise_within .pair rfl
@[simp] theorem State.raise_due {code : ℕ} {cls : ℕ} {reg : ℕ} {lane : ℕ} {key : ℕ} {params : Bytes} {s : State} : (State.raise code cls reg lane key params s).due = s.due := State.raise_within .due rfl
@[simp] theorem State.raise_cells {code : ℕ} {cls : ℕ} {reg : ℕ} {lane : ℕ} {key : ℕ} {params : Bytes} {s : State} : (State.raise code cls reg lane key params s).cells = s.cells := State.raise_within .cells rfl
@[simp] theorem State.raise_checkpoint {code : ℕ} {cls : ℕ} {reg : ℕ} {lane : ℕ} {key : ℕ} {params : Bytes} {s : State} : (State.raise code cls reg lane key params s).checkpoint = s.checkpoint := State.raise_within .checkpoint rfl
@[simp] theorem State.raise_chain {code : ℕ} {cls : ℕ} {reg : ℕ} {lane : ℕ} {key : ℕ} {params : Bytes} {s : State} : (State.raise code cls reg lane key params s).chain = s.chain := State.raise_within .chain rfl
@[simp] theorem State.raise_keys {code : ℕ} {cls : ℕ} {reg : ℕ} {lane : ℕ} {key : ℕ} {params : Bytes} {s : State} : (State.raise code cls reg lane key params s).keys = s.keys := State.raise_within .keys rfl
@[simp] theorem State.raise_disp {code : ℕ} {cls : ℕ} {reg : ℕ} {lane : ℕ} {key : ℕ} {params : Bytes} {s : State} : (State.raise code cls reg lane key params s).disp = s.disp := State.raise_within .disp rfl
@[simp] theorem State.raise_lamps {code : ℕ} {cls : ℕ} {reg : ℕ} {lane : ℕ} {key : ℕ} {params : Bytes} {s : State} : (State.raise code cls reg lane key params s).lamps = s.lamps := State.raise_within .lamps rfl
@[simp] theorem State.raise_power {code : ℕ} {cls : ℕ} {reg : ℕ} {lane : ℕ} {key : ℕ} {params : Bytes} {s : State} : (State.raise code cls reg lane key params s).power = s.power := State.raise_within .power rfl
@[simp] theorem State.raise_tap {code : ℕ} {cls : ℕ} {reg : ℕ} {lane : ℕ} {key : ℕ} {params : Bytes} {s : State} : (State.raise code cls reg lane key params s).tap = s.tap := State.raise_within .tap rfl
@[simp] theorem State.raise_shown {code : ℕ} {cls : ℕ} {reg : ℕ} {lane : ℕ} {key : ℕ} {params : Bytes} {s : State} : (State.raise code cls reg lane key params s).shown = s.shown := State.raise_within .shown rfl
@[simp] theorem State.raise_pending {code : ℕ} {cls : ℕ} {reg : ℕ} {lane : ℕ} {key : ℕ} {params : Bytes} {s : State} : (State.raise code cls reg lane key params s).pending = s.pending := State.raise_within .pending rfl

/-! ### State.count -/

@[simp] theorem State.count_clock {sel : ℕ} {n : ℕ} {s : State} : (State.count sel n s).clock = s.clock := State.count_within .clock rfl
@[simp] theorem State.count_time {sel : ℕ} {n : ℕ} {s : State} : (State.count sel n s).time = s.time := State.count_within .time rfl
@[simp] theorem State.count_gnss {sel : ℕ} {n : ℕ} {s : State} : (State.count sel n s).gnss = s.gnss := State.count_within .gnss rfl
@[simp] theorem State.count_update {sel : ℕ} {n : ℕ} {s : State} : (State.count sel n s).update = s.update := State.count_within .update rfl
@[simp] theorem State.count_reference {sel : ℕ} {n : ℕ} {s : State} : (State.count sel n s).reference = s.reference := State.count_within .reference rfl
@[simp] theorem State.count_settings {sel : ℕ} {n : ℕ} {s : State} : (State.count sel n s).settings = s.settings := State.count_within .settings rfl
@[simp] theorem State.count_access {sel : ℕ} {n : ℕ} {s : State} : (State.count sel n s).access = s.access := State.count_within .access rfl
@[simp] theorem State.count_lanes {sel : ℕ} {n : ℕ} {s : State} : (State.count sel n s).lanes = s.lanes := State.count_within .lanes rfl
@[simp] theorem State.count_routes {sel : ℕ} {n : ℕ} {s : State} : (State.count sel n s).routes = s.routes := State.count_within .routes rfl
@[simp] theorem State.count_guests {sel : ℕ} {n : ℕ} {s : State} : (State.count sel n s).guests = s.guests := State.count_within .guests rfl
@[simp] theorem State.count_ledger {sel : ℕ} {n : ℕ} {s : State} : (State.count sel n s).ledger = s.ledger := State.count_within .ledger rfl
@[simp] theorem State.count_halt {sel : ℕ} {n : ℕ} {s : State} : (State.count sel n s).halt = s.halt := State.count_within .halt rfl
@[simp] theorem State.count_air {sel : ℕ} {n : ℕ} {s : State} : (State.count sel n s).air = s.air := State.count_within .air rfl
@[simp] theorem State.count_airLanes {sel : ℕ} {n : ℕ} {s : State} : (State.count sel n s).airLanes = s.airLanes := State.count_within .airLanes rfl
@[simp] theorem State.count_pair {sel : ℕ} {n : ℕ} {s : State} : (State.count sel n s).pair = s.pair := State.count_within .pair rfl
@[simp] theorem State.count_due {sel : ℕ} {n : ℕ} {s : State} : (State.count sel n s).due = s.due := State.count_within .due rfl
@[simp] theorem State.count_cells {sel : ℕ} {n : ℕ} {s : State} : (State.count sel n s).cells = s.cells := State.count_within .cells rfl
@[simp] theorem State.count_checkpoint {sel : ℕ} {n : ℕ} {s : State} : (State.count sel n s).checkpoint = s.checkpoint := State.count_within .checkpoint rfl
@[simp] theorem State.count_chain {sel : ℕ} {n : ℕ} {s : State} : (State.count sel n s).chain = s.chain := State.count_within .chain rfl
@[simp] theorem State.count_keys {sel : ℕ} {n : ℕ} {s : State} : (State.count sel n s).keys = s.keys := State.count_within .keys rfl
@[simp] theorem State.count_disp {sel : ℕ} {n : ℕ} {s : State} : (State.count sel n s).disp = s.disp := State.count_within .disp rfl
@[simp] theorem State.count_trip {sel : ℕ} {n : ℕ} {s : State} : (State.count sel n s).trip = s.trip := State.count_within .trip rfl
@[simp] theorem State.count_panel {sel : ℕ} {n : ℕ} {s : State} : (State.count sel n s).panel = s.panel := State.count_within .panel rfl
@[simp] theorem State.count_lamps {sel : ℕ} {n : ℕ} {s : State} : (State.count sel n s).lamps = s.lamps := State.count_within .lamps rfl
@[simp] theorem State.count_power {sel : ℕ} {n : ℕ} {s : State} : (State.count sel n s).power = s.power := State.count_within .power rfl
@[simp] theorem State.count_tap {sel : ℕ} {n : ℕ} {s : State} : (State.count sel n s).tap = s.tap := State.count_within .tap rfl
@[simp] theorem State.count_shown {sel : ℕ} {n : ℕ} {s : State} : (State.count sel n s).shown = s.shown := State.count_within .shown rfl
@[simp] theorem State.count_pending {sel : ℕ} {n : ℕ} {s : State} : (State.count sel n s).pending = s.pending := State.count_within .pending rfl

/-! ### State.trigger -/

@[simp] theorem State.trigger_clock {b : ℕ} {time : ℤ} {lane : ℕ} {s : State} : (State.trigger b time lane s).clock = s.clock := State.trigger_within .clock rfl
@[simp] theorem State.trigger_time {b : ℕ} {time : ℤ} {lane : ℕ} {s : State} : (State.trigger b time lane s).time = s.time := State.trigger_within .time rfl
@[simp] theorem State.trigger_gnss {b : ℕ} {time : ℤ} {lane : ℕ} {s : State} : (State.trigger b time lane s).gnss = s.gnss := State.trigger_within .gnss rfl
@[simp] theorem State.trigger_update {b : ℕ} {time : ℤ} {lane : ℕ} {s : State} : (State.trigger b time lane s).update = s.update := State.trigger_within .update rfl
@[simp] theorem State.trigger_reference {b : ℕ} {time : ℤ} {lane : ℕ} {s : State} : (State.trigger b time lane s).reference = s.reference := State.trigger_within .reference rfl
@[simp] theorem State.trigger_settings {b : ℕ} {time : ℤ} {lane : ℕ} {s : State} : (State.trigger b time lane s).settings = s.settings := State.trigger_within .settings rfl
@[simp] theorem State.trigger_access {b : ℕ} {time : ℤ} {lane : ℕ} {s : State} : (State.trigger b time lane s).access = s.access := State.trigger_within .access rfl
@[simp] theorem State.trigger_lanes {b : ℕ} {time : ℤ} {lane : ℕ} {s : State} : (State.trigger b time lane s).lanes = s.lanes := State.trigger_within .lanes rfl
@[simp] theorem State.trigger_routes {b : ℕ} {time : ℤ} {lane : ℕ} {s : State} : (State.trigger b time lane s).routes = s.routes := State.trigger_within .routes rfl
@[simp] theorem State.trigger_guests {b : ℕ} {time : ℤ} {lane : ℕ} {s : State} : (State.trigger b time lane s).guests = s.guests := State.trigger_within .guests rfl
@[simp] theorem State.trigger_ledger {b : ℕ} {time : ℤ} {lane : ℕ} {s : State} : (State.trigger b time lane s).ledger = s.ledger := State.trigger_within .ledger rfl
@[simp] theorem State.trigger_halt {b : ℕ} {time : ℤ} {lane : ℕ} {s : State} : (State.trigger b time lane s).halt = s.halt := State.trigger_within .halt rfl
@[simp] theorem State.trigger_air {b : ℕ} {time : ℤ} {lane : ℕ} {s : State} : (State.trigger b time lane s).air = s.air := State.trigger_within .air rfl
@[simp] theorem State.trigger_airLanes {b : ℕ} {time : ℤ} {lane : ℕ} {s : State} : (State.trigger b time lane s).airLanes = s.airLanes := State.trigger_within .airLanes rfl
@[simp] theorem State.trigger_pair {b : ℕ} {time : ℤ} {lane : ℕ} {s : State} : (State.trigger b time lane s).pair = s.pair := State.trigger_within .pair rfl
@[simp] theorem State.trigger_due {b : ℕ} {time : ℤ} {lane : ℕ} {s : State} : (State.trigger b time lane s).due = s.due := State.trigger_within .due rfl
@[simp] theorem State.trigger_cells {b : ℕ} {time : ℤ} {lane : ℕ} {s : State} : (State.trigger b time lane s).cells = s.cells := State.trigger_within .cells rfl
@[simp] theorem State.trigger_checkpoint {b : ℕ} {time : ℤ} {lane : ℕ} {s : State} : (State.trigger b time lane s).checkpoint = s.checkpoint := State.trigger_within .checkpoint rfl
@[simp] theorem State.trigger_chain {b : ℕ} {time : ℤ} {lane : ℕ} {s : State} : (State.trigger b time lane s).chain = s.chain := State.trigger_within .chain rfl
@[simp] theorem State.trigger_keys {b : ℕ} {time : ℤ} {lane : ℕ} {s : State} : (State.trigger b time lane s).keys = s.keys := State.trigger_within .keys rfl
@[simp] theorem State.trigger_disp {b : ℕ} {time : ℤ} {lane : ℕ} {s : State} : (State.trigger b time lane s).disp = s.disp := State.trigger_within .disp rfl
@[simp] theorem State.trigger_counters {b : ℕ} {time : ℤ} {lane : ℕ} {s : State} : (State.trigger b time lane s).counters = s.counters := State.trigger_within .counters rfl
@[simp] theorem State.trigger_panel {b : ℕ} {time : ℤ} {lane : ℕ} {s : State} : (State.trigger b time lane s).panel = s.panel := State.trigger_within .panel rfl
@[simp] theorem State.trigger_lamps {b : ℕ} {time : ℤ} {lane : ℕ} {s : State} : (State.trigger b time lane s).lamps = s.lamps := State.trigger_within .lamps rfl
@[simp] theorem State.trigger_power {b : ℕ} {time : ℤ} {lane : ℕ} {s : State} : (State.trigger b time lane s).power = s.power := State.trigger_within .power rfl
@[simp] theorem State.trigger_tap {b : ℕ} {time : ℤ} {lane : ℕ} {s : State} : (State.trigger b time lane s).tap = s.tap := State.trigger_within .tap rfl
@[simp] theorem State.trigger_shown {b : ℕ} {time : ℤ} {lane : ℕ} {s : State} : (State.trigger b time lane s).shown = s.shown := State.trigger_within .shown rfl
@[simp] theorem State.trigger_pending {b : ℕ} {time : ℤ} {lane : ℕ} {s : State} : (State.trigger b time lane s).pending = s.pending := State.trigger_within .pending rfl

/-! ### State.occupy -/

@[simp] theorem State.occupy_clock {sel : ℕ} {v : ℕ} {s : State} : (State.occupy sel v s).clock = s.clock := State.occupy_within .clock rfl
@[simp] theorem State.occupy_time {sel : ℕ} {v : ℕ} {s : State} : (State.occupy sel v s).time = s.time := State.occupy_within .time rfl
@[simp] theorem State.occupy_gnss {sel : ℕ} {v : ℕ} {s : State} : (State.occupy sel v s).gnss = s.gnss := State.occupy_within .gnss rfl
@[simp] theorem State.occupy_update {sel : ℕ} {v : ℕ} {s : State} : (State.occupy sel v s).update = s.update := State.occupy_within .update rfl
@[simp] theorem State.occupy_reference {sel : ℕ} {v : ℕ} {s : State} : (State.occupy sel v s).reference = s.reference := State.occupy_within .reference rfl
@[simp] theorem State.occupy_settings {sel : ℕ} {v : ℕ} {s : State} : (State.occupy sel v s).settings = s.settings := State.occupy_within .settings rfl
@[simp] theorem State.occupy_access {sel : ℕ} {v : ℕ} {s : State} : (State.occupy sel v s).access = s.access := State.occupy_within .access rfl
@[simp] theorem State.occupy_lanes {sel : ℕ} {v : ℕ} {s : State} : (State.occupy sel v s).lanes = s.lanes := State.occupy_within .lanes rfl
@[simp] theorem State.occupy_routes {sel : ℕ} {v : ℕ} {s : State} : (State.occupy sel v s).routes = s.routes := State.occupy_within .routes rfl
@[simp] theorem State.occupy_guests {sel : ℕ} {v : ℕ} {s : State} : (State.occupy sel v s).guests = s.guests := State.occupy_within .guests rfl
@[simp] theorem State.occupy_ledger {sel : ℕ} {v : ℕ} {s : State} : (State.occupy sel v s).ledger = s.ledger := State.occupy_within .ledger rfl
@[simp] theorem State.occupy_halt {sel : ℕ} {v : ℕ} {s : State} : (State.occupy sel v s).halt = s.halt := State.occupy_within .halt rfl
@[simp] theorem State.occupy_air {sel : ℕ} {v : ℕ} {s : State} : (State.occupy sel v s).air = s.air := State.occupy_within .air rfl
@[simp] theorem State.occupy_airLanes {sel : ℕ} {v : ℕ} {s : State} : (State.occupy sel v s).airLanes = s.airLanes := State.occupy_within .airLanes rfl
@[simp] theorem State.occupy_pair {sel : ℕ} {v : ℕ} {s : State} : (State.occupy sel v s).pair = s.pair := State.occupy_within .pair rfl
@[simp] theorem State.occupy_due {sel : ℕ} {v : ℕ} {s : State} : (State.occupy sel v s).due = s.due := State.occupy_within .due rfl
@[simp] theorem State.occupy_cells {sel : ℕ} {v : ℕ} {s : State} : (State.occupy sel v s).cells = s.cells := State.occupy_within .cells rfl
@[simp] theorem State.occupy_checkpoint {sel : ℕ} {v : ℕ} {s : State} : (State.occupy sel v s).checkpoint = s.checkpoint := State.occupy_within .checkpoint rfl
@[simp] theorem State.occupy_chain {sel : ℕ} {v : ℕ} {s : State} : (State.occupy sel v s).chain = s.chain := State.occupy_within .chain rfl
@[simp] theorem State.occupy_keys {sel : ℕ} {v : ℕ} {s : State} : (State.occupy sel v s).keys = s.keys := State.occupy_within .keys rfl
@[simp] theorem State.occupy_disp {sel : ℕ} {v : ℕ} {s : State} : (State.occupy sel v s).disp = s.disp := State.occupy_within .disp rfl
@[simp] theorem State.occupy_trip {sel : ℕ} {v : ℕ} {s : State} : (State.occupy sel v s).trip = s.trip := State.occupy_within .trip rfl
@[simp] theorem State.occupy_panel {sel : ℕ} {v : ℕ} {s : State} : (State.occupy sel v s).panel = s.panel := State.occupy_within .panel rfl
@[simp] theorem State.occupy_lamps {sel : ℕ} {v : ℕ} {s : State} : (State.occupy sel v s).lamps = s.lamps := State.occupy_within .lamps rfl
@[simp] theorem State.occupy_power {sel : ℕ} {v : ℕ} {s : State} : (State.occupy sel v s).power = s.power := State.occupy_within .power rfl
@[simp] theorem State.occupy_tap {sel : ℕ} {v : ℕ} {s : State} : (State.occupy sel v s).tap = s.tap := State.occupy_within .tap rfl
@[simp] theorem State.occupy_shown {sel : ℕ} {v : ℕ} {s : State} : (State.occupy sel v s).shown = s.shown := State.occupy_within .shown rfl
@[simp] theorem State.occupy_pending {sel : ℕ} {v : ℕ} {s : State} : (State.occupy sel v s).pending = s.pending := State.occupy_within .pending rfl

/-! ### State.answer -/

@[simp] theorem State.answer_clock {r : Req} {a : Answer} {s : State} : (State.answer r a s).clock = s.clock := State.answer_within .clock rfl
@[simp] theorem State.answer_time {r : Req} {a : Answer} {s : State} : (State.answer r a s).time = s.time := State.answer_within .time rfl
@[simp] theorem State.answer_gnss {r : Req} {a : Answer} {s : State} : (State.answer r a s).gnss = s.gnss := State.answer_within .gnss rfl
@[simp] theorem State.answer_reference {r : Req} {a : Answer} {s : State} : (State.answer r a s).reference = s.reference := State.answer_within .reference rfl
@[simp] theorem State.answer_settings {r : Req} {a : Answer} {s : State} : (State.answer r a s).settings = s.settings := State.answer_within .settings rfl
@[simp] theorem State.answer_lanes {r : Req} {a : Answer} {s : State} : (State.answer r a s).lanes = s.lanes := State.answer_within .lanes rfl
@[simp] theorem State.answer_routes {r : Req} {a : Answer} {s : State} : (State.answer r a s).routes = s.routes := State.answer_within .routes rfl
@[simp] theorem State.answer_guests {r : Req} {a : Answer} {s : State} : (State.answer r a s).guests = s.guests := State.answer_within .guests rfl
@[simp] theorem State.answer_ledger {r : Req} {a : Answer} {s : State} : (State.answer r a s).ledger = s.ledger := State.answer_within .ledger rfl
@[simp] theorem State.answer_halt {r : Req} {a : Answer} {s : State} : (State.answer r a s).halt = s.halt := State.answer_within .halt rfl
@[simp] theorem State.answer_air {r : Req} {a : Answer} {s : State} : (State.answer r a s).air = s.air := State.answer_within .air rfl
@[simp] theorem State.answer_airLanes {r : Req} {a : Answer} {s : State} : (State.answer r a s).airLanes = s.airLanes := State.answer_within .airLanes rfl
@[simp] theorem State.answer_pair {r : Req} {a : Answer} {s : State} : (State.answer r a s).pair = s.pair := State.answer_within .pair rfl
@[simp] theorem State.answer_due {r : Req} {a : Answer} {s : State} : (State.answer r a s).due = s.due := State.answer_within .due rfl
@[simp] theorem State.answer_cells {r : Req} {a : Answer} {s : State} : (State.answer r a s).cells = s.cells := State.answer_within .cells rfl
@[simp] theorem State.answer_checkpoint {r : Req} {a : Answer} {s : State} : (State.answer r a s).checkpoint = s.checkpoint := State.answer_within .checkpoint rfl
@[simp] theorem State.answer_chain {r : Req} {a : Answer} {s : State} : (State.answer r a s).chain = s.chain := State.answer_within .chain rfl
@[simp] theorem State.answer_keys {r : Req} {a : Answer} {s : State} : (State.answer r a s).keys = s.keys := State.answer_within .keys rfl
@[simp] theorem State.answer_disp {r : Req} {a : Answer} {s : State} : (State.answer r a s).disp = s.disp := State.answer_within .disp rfl
@[simp] theorem State.answer_counters {r : Req} {a : Answer} {s : State} : (State.answer r a s).counters = s.counters := State.answer_within .counters rfl
@[simp] theorem State.answer_trip {r : Req} {a : Answer} {s : State} : (State.answer r a s).trip = s.trip := State.answer_within .trip rfl
@[simp] theorem State.answer_panel {r : Req} {a : Answer} {s : State} : (State.answer r a s).panel = s.panel := State.answer_within .panel rfl
@[simp] theorem State.answer_lamps {r : Req} {a : Answer} {s : State} : (State.answer r a s).lamps = s.lamps := State.answer_within .lamps rfl
@[simp] theorem State.answer_power {r : Req} {a : Answer} {s : State} : (State.answer r a s).power = s.power := State.answer_within .power rfl
@[simp] theorem State.answer_tap {r : Req} {a : Answer} {s : State} : (State.answer r a s).tap = s.tap := State.answer_within .tap rfl
@[simp] theorem State.answer_shown {r : Req} {a : Answer} {s : State} : (State.answer r a s).shown = s.shown := State.answer_within .shown rfl
@[simp] theorem State.answer_pending {r : Req} {a : Answer} {s : State} : (State.answer r a s).pending = s.pending := State.answer_within .pending rfl

/-! ### State.answerOpt -/

@[simp] theorem State.answerOpt_clock {r : Option Req} {a : Answer} {s : State} : (State.answerOpt r a s).clock = s.clock := State.answerOpt_within .clock rfl
@[simp] theorem State.answerOpt_time {r : Option Req} {a : Answer} {s : State} : (State.answerOpt r a s).time = s.time := State.answerOpt_within .time rfl
@[simp] theorem State.answerOpt_gnss {r : Option Req} {a : Answer} {s : State} : (State.answerOpt r a s).gnss = s.gnss := State.answerOpt_within .gnss rfl
@[simp] theorem State.answerOpt_reference {r : Option Req} {a : Answer} {s : State} : (State.answerOpt r a s).reference = s.reference := State.answerOpt_within .reference rfl
@[simp] theorem State.answerOpt_settings {r : Option Req} {a : Answer} {s : State} : (State.answerOpt r a s).settings = s.settings := State.answerOpt_within .settings rfl
@[simp] theorem State.answerOpt_lanes {r : Option Req} {a : Answer} {s : State} : (State.answerOpt r a s).lanes = s.lanes := State.answerOpt_within .lanes rfl
@[simp] theorem State.answerOpt_routes {r : Option Req} {a : Answer} {s : State} : (State.answerOpt r a s).routes = s.routes := State.answerOpt_within .routes rfl
@[simp] theorem State.answerOpt_guests {r : Option Req} {a : Answer} {s : State} : (State.answerOpt r a s).guests = s.guests := State.answerOpt_within .guests rfl
@[simp] theorem State.answerOpt_ledger {r : Option Req} {a : Answer} {s : State} : (State.answerOpt r a s).ledger = s.ledger := State.answerOpt_within .ledger rfl
@[simp] theorem State.answerOpt_halt {r : Option Req} {a : Answer} {s : State} : (State.answerOpt r a s).halt = s.halt := State.answerOpt_within .halt rfl
@[simp] theorem State.answerOpt_air {r : Option Req} {a : Answer} {s : State} : (State.answerOpt r a s).air = s.air := State.answerOpt_within .air rfl
@[simp] theorem State.answerOpt_airLanes {r : Option Req} {a : Answer} {s : State} : (State.answerOpt r a s).airLanes = s.airLanes := State.answerOpt_within .airLanes rfl
@[simp] theorem State.answerOpt_pair {r : Option Req} {a : Answer} {s : State} : (State.answerOpt r a s).pair = s.pair := State.answerOpt_within .pair rfl
@[simp] theorem State.answerOpt_due {r : Option Req} {a : Answer} {s : State} : (State.answerOpt r a s).due = s.due := State.answerOpt_within .due rfl
@[simp] theorem State.answerOpt_cells {r : Option Req} {a : Answer} {s : State} : (State.answerOpt r a s).cells = s.cells := State.answerOpt_within .cells rfl
@[simp] theorem State.answerOpt_checkpoint {r : Option Req} {a : Answer} {s : State} : (State.answerOpt r a s).checkpoint = s.checkpoint := State.answerOpt_within .checkpoint rfl
@[simp] theorem State.answerOpt_chain {r : Option Req} {a : Answer} {s : State} : (State.answerOpt r a s).chain = s.chain := State.answerOpt_within .chain rfl
@[simp] theorem State.answerOpt_keys {r : Option Req} {a : Answer} {s : State} : (State.answerOpt r a s).keys = s.keys := State.answerOpt_within .keys rfl
@[simp] theorem State.answerOpt_disp {r : Option Req} {a : Answer} {s : State} : (State.answerOpt r a s).disp = s.disp := State.answerOpt_within .disp rfl
@[simp] theorem State.answerOpt_counters {r : Option Req} {a : Answer} {s : State} : (State.answerOpt r a s).counters = s.counters := State.answerOpt_within .counters rfl
@[simp] theorem State.answerOpt_trip {r : Option Req} {a : Answer} {s : State} : (State.answerOpt r a s).trip = s.trip := State.answerOpt_within .trip rfl
@[simp] theorem State.answerOpt_panel {r : Option Req} {a : Answer} {s : State} : (State.answerOpt r a s).panel = s.panel := State.answerOpt_within .panel rfl
@[simp] theorem State.answerOpt_lamps {r : Option Req} {a : Answer} {s : State} : (State.answerOpt r a s).lamps = s.lamps := State.answerOpt_within .lamps rfl
@[simp] theorem State.answerOpt_power {r : Option Req} {a : Answer} {s : State} : (State.answerOpt r a s).power = s.power := State.answerOpt_within .power rfl
@[simp] theorem State.answerOpt_tap {r : Option Req} {a : Answer} {s : State} : (State.answerOpt r a s).tap = s.tap := State.answerOpt_within .tap rfl
@[simp] theorem State.answerOpt_shown {r : Option Req} {a : Answer} {s : State} : (State.answerOpt r a s).shown = s.shown := State.answerOpt_within .shown rfl
@[simp] theorem State.answerOpt_pending {r : Option Req} {a : Answer} {s : State} : (State.answerOpt r a s).pending = s.pending := State.answerOpt_within .pending rfl

/-! ### State.mirror -/

@[simp] theorem State.mirror_clock {source : ℕ} {item : InputItem} {s : State} : (State.mirror source item s).clock = s.clock := State.mirror_within .clock rfl
@[simp] theorem State.mirror_time {source : ℕ} {item : InputItem} {s : State} : (State.mirror source item s).time = s.time := State.mirror_within .time rfl
@[simp] theorem State.mirror_gnss {source : ℕ} {item : InputItem} {s : State} : (State.mirror source item s).gnss = s.gnss := State.mirror_within .gnss rfl
@[simp] theorem State.mirror_update {source : ℕ} {item : InputItem} {s : State} : (State.mirror source item s).update = s.update := State.mirror_within .update rfl
@[simp] theorem State.mirror_reference {source : ℕ} {item : InputItem} {s : State} : (State.mirror source item s).reference = s.reference := State.mirror_within .reference rfl
@[simp] theorem State.mirror_settings {source : ℕ} {item : InputItem} {s : State} : (State.mirror source item s).settings = s.settings := State.mirror_within .settings rfl
@[simp] theorem State.mirror_access {source : ℕ} {item : InputItem} {s : State} : (State.mirror source item s).access = s.access := State.mirror_within .access rfl
@[simp] theorem State.mirror_lanes {source : ℕ} {item : InputItem} {s : State} : (State.mirror source item s).lanes = s.lanes := State.mirror_within .lanes rfl
@[simp] theorem State.mirror_routes {source : ℕ} {item : InputItem} {s : State} : (State.mirror source item s).routes = s.routes := State.mirror_within .routes rfl
@[simp] theorem State.mirror_guests {source : ℕ} {item : InputItem} {s : State} : (State.mirror source item s).guests = s.guests := State.mirror_within .guests rfl
@[simp] theorem State.mirror_ledger {source : ℕ} {item : InputItem} {s : State} : (State.mirror source item s).ledger = s.ledger := State.mirror_within .ledger rfl
@[simp] theorem State.mirror_halt {source : ℕ} {item : InputItem} {s : State} : (State.mirror source item s).halt = s.halt := State.mirror_within .halt rfl
@[simp] theorem State.mirror_air {source : ℕ} {item : InputItem} {s : State} : (State.mirror source item s).air = s.air := State.mirror_within .air rfl
@[simp] theorem State.mirror_airLanes {source : ℕ} {item : InputItem} {s : State} : (State.mirror source item s).airLanes = s.airLanes := State.mirror_within .airLanes rfl
@[simp] theorem State.mirror_due {source : ℕ} {item : InputItem} {s : State} : (State.mirror source item s).due = s.due := State.mirror_within .due rfl
@[simp] theorem State.mirror_cells {source : ℕ} {item : InputItem} {s : State} : (State.mirror source item s).cells = s.cells := State.mirror_within .cells rfl
@[simp] theorem State.mirror_checkpoint {source : ℕ} {item : InputItem} {s : State} : (State.mirror source item s).checkpoint = s.checkpoint := State.mirror_within .checkpoint rfl
@[simp] theorem State.mirror_chain {source : ℕ} {item : InputItem} {s : State} : (State.mirror source item s).chain = s.chain := State.mirror_within .chain rfl
@[simp] theorem State.mirror_keys {source : ℕ} {item : InputItem} {s : State} : (State.mirror source item s).keys = s.keys := State.mirror_within .keys rfl
@[simp] theorem State.mirror_disp {source : ℕ} {item : InputItem} {s : State} : (State.mirror source item s).disp = s.disp := State.mirror_within .disp rfl
@[simp] theorem State.mirror_trip {source : ℕ} {item : InputItem} {s : State} : (State.mirror source item s).trip = s.trip := State.mirror_within .trip rfl
@[simp] theorem State.mirror_panel {source : ℕ} {item : InputItem} {s : State} : (State.mirror source item s).panel = s.panel := State.mirror_within .panel rfl
@[simp] theorem State.mirror_lamps {source : ℕ} {item : InputItem} {s : State} : (State.mirror source item s).lamps = s.lamps := State.mirror_within .lamps rfl
@[simp] theorem State.mirror_power {source : ℕ} {item : InputItem} {s : State} : (State.mirror source item s).power = s.power := State.mirror_within .power rfl
@[simp] theorem State.mirror_tap {source : ℕ} {item : InputItem} {s : State} : (State.mirror source item s).tap = s.tap := State.mirror_within .tap rfl
@[simp] theorem State.mirror_shown {source : ℕ} {item : InputItem} {s : State} : (State.mirror source item s).shown = s.shown := State.mirror_within .shown rfl
@[simp] theorem State.mirror_pending {source : ℕ} {item : InputItem} {s : State} : (State.mirror source item s).pending = s.pending := State.mirror_within .pending rfl

/-! ### State.sendLink -/

@[simp] theorem State.sendLink_clock {m : LinkMsg} {s : State} : (State.sendLink m s).clock = s.clock := State.sendLink_within .clock rfl
@[simp] theorem State.sendLink_time {m : LinkMsg} {s : State} : (State.sendLink m s).time = s.time := State.sendLink_within .time rfl
@[simp] theorem State.sendLink_gnss {m : LinkMsg} {s : State} : (State.sendLink m s).gnss = s.gnss := State.sendLink_within .gnss rfl
@[simp] theorem State.sendLink_update {m : LinkMsg} {s : State} : (State.sendLink m s).update = s.update := State.sendLink_within .update rfl
@[simp] theorem State.sendLink_reference {m : LinkMsg} {s : State} : (State.sendLink m s).reference = s.reference := State.sendLink_within .reference rfl
@[simp] theorem State.sendLink_settings {m : LinkMsg} {s : State} : (State.sendLink m s).settings = s.settings := State.sendLink_within .settings rfl
@[simp] theorem State.sendLink_access {m : LinkMsg} {s : State} : (State.sendLink m s).access = s.access := State.sendLink_within .access rfl
@[simp] theorem State.sendLink_lanes {m : LinkMsg} {s : State} : (State.sendLink m s).lanes = s.lanes := State.sendLink_within .lanes rfl
@[simp] theorem State.sendLink_routes {m : LinkMsg} {s : State} : (State.sendLink m s).routes = s.routes := State.sendLink_within .routes rfl
@[simp] theorem State.sendLink_guests {m : LinkMsg} {s : State} : (State.sendLink m s).guests = s.guests := State.sendLink_within .guests rfl
@[simp] theorem State.sendLink_ledger {m : LinkMsg} {s : State} : (State.sendLink m s).ledger = s.ledger := State.sendLink_within .ledger rfl
@[simp] theorem State.sendLink_halt {m : LinkMsg} {s : State} : (State.sendLink m s).halt = s.halt := State.sendLink_within .halt rfl
@[simp] theorem State.sendLink_air {m : LinkMsg} {s : State} : (State.sendLink m s).air = s.air := State.sendLink_within .air rfl
@[simp] theorem State.sendLink_airLanes {m : LinkMsg} {s : State} : (State.sendLink m s).airLanes = s.airLanes := State.sendLink_within .airLanes rfl
@[simp] theorem State.sendLink_due {m : LinkMsg} {s : State} : (State.sendLink m s).due = s.due := State.sendLink_within .due rfl
@[simp] theorem State.sendLink_cells {m : LinkMsg} {s : State} : (State.sendLink m s).cells = s.cells := State.sendLink_within .cells rfl
@[simp] theorem State.sendLink_checkpoint {m : LinkMsg} {s : State} : (State.sendLink m s).checkpoint = s.checkpoint := State.sendLink_within .checkpoint rfl
@[simp] theorem State.sendLink_chain {m : LinkMsg} {s : State} : (State.sendLink m s).chain = s.chain := State.sendLink_within .chain rfl
@[simp] theorem State.sendLink_keys {m : LinkMsg} {s : State} : (State.sendLink m s).keys = s.keys := State.sendLink_within .keys rfl
@[simp] theorem State.sendLink_disp {m : LinkMsg} {s : State} : (State.sendLink m s).disp = s.disp := State.sendLink_within .disp rfl
@[simp] theorem State.sendLink_counters {m : LinkMsg} {s : State} : (State.sendLink m s).counters = s.counters := State.sendLink_within .counters rfl
@[simp] theorem State.sendLink_trip {m : LinkMsg} {s : State} : (State.sendLink m s).trip = s.trip := State.sendLink_within .trip rfl
@[simp] theorem State.sendLink_panel {m : LinkMsg} {s : State} : (State.sendLink m s).panel = s.panel := State.sendLink_within .panel rfl
@[simp] theorem State.sendLink_lamps {m : LinkMsg} {s : State} : (State.sendLink m s).lamps = s.lamps := State.sendLink_within .lamps rfl
@[simp] theorem State.sendLink_power {m : LinkMsg} {s : State} : (State.sendLink m s).power = s.power := State.sendLink_within .power rfl
@[simp] theorem State.sendLink_tap {m : LinkMsg} {s : State} : (State.sendLink m s).tap = s.tap := State.sendLink_within .tap rfl
@[simp] theorem State.sendLink_shown {m : LinkMsg} {s : State} : (State.sendLink m s).shown = s.shown := State.sendLink_within .shown rfl
@[simp] theorem State.sendLink_pending {m : LinkMsg} {s : State} : (State.sendLink m s).pending = s.pending := State.sendLink_within .pending rfl

/-! ### State.tripSample -/

@[simp] theorem State.tripSample_clock {source : ℕ} {lane : ℕ} {time : ℤ} {data : Bytes} {s : State} : (State.tripSample source lane time data s).clock = s.clock := State.tripSample_within .clock rfl
@[simp] theorem State.tripSample_time {source : ℕ} {lane : ℕ} {time : ℤ} {data : Bytes} {s : State} : (State.tripSample source lane time data s).time = s.time := State.tripSample_within .time rfl
@[simp] theorem State.tripSample_gnss {source : ℕ} {lane : ℕ} {time : ℤ} {data : Bytes} {s : State} : (State.tripSample source lane time data s).gnss = s.gnss := State.tripSample_within .gnss rfl
@[simp] theorem State.tripSample_update {source : ℕ} {lane : ℕ} {time : ℤ} {data : Bytes} {s : State} : (State.tripSample source lane time data s).update = s.update := State.tripSample_within .update rfl
@[simp] theorem State.tripSample_reference {source : ℕ} {lane : ℕ} {time : ℤ} {data : Bytes} {s : State} : (State.tripSample source lane time data s).reference = s.reference := State.tripSample_within .reference rfl
@[simp] theorem State.tripSample_settings {source : ℕ} {lane : ℕ} {time : ℤ} {data : Bytes} {s : State} : (State.tripSample source lane time data s).settings = s.settings := State.tripSample_within .settings rfl
@[simp] theorem State.tripSample_access {source : ℕ} {lane : ℕ} {time : ℤ} {data : Bytes} {s : State} : (State.tripSample source lane time data s).access = s.access := State.tripSample_within .access rfl
@[simp] theorem State.tripSample_lanes {source : ℕ} {lane : ℕ} {time : ℤ} {data : Bytes} {s : State} : (State.tripSample source lane time data s).lanes = s.lanes := State.tripSample_within .lanes rfl
@[simp] theorem State.tripSample_routes {source : ℕ} {lane : ℕ} {time : ℤ} {data : Bytes} {s : State} : (State.tripSample source lane time data s).routes = s.routes := State.tripSample_within .routes rfl
@[simp] theorem State.tripSample_guests {source : ℕ} {lane : ℕ} {time : ℤ} {data : Bytes} {s : State} : (State.tripSample source lane time data s).guests = s.guests := State.tripSample_within .guests rfl
@[simp] theorem State.tripSample_ledger {source : ℕ} {lane : ℕ} {time : ℤ} {data : Bytes} {s : State} : (State.tripSample source lane time data s).ledger = s.ledger := State.tripSample_within .ledger rfl
@[simp] theorem State.tripSample_halt {source : ℕ} {lane : ℕ} {time : ℤ} {data : Bytes} {s : State} : (State.tripSample source lane time data s).halt = s.halt := State.tripSample_within .halt rfl
@[simp] theorem State.tripSample_air {source : ℕ} {lane : ℕ} {time : ℤ} {data : Bytes} {s : State} : (State.tripSample source lane time data s).air = s.air := State.tripSample_within .air rfl
@[simp] theorem State.tripSample_airLanes {source : ℕ} {lane : ℕ} {time : ℤ} {data : Bytes} {s : State} : (State.tripSample source lane time data s).airLanes = s.airLanes := State.tripSample_within .airLanes rfl
@[simp] theorem State.tripSample_pair {source : ℕ} {lane : ℕ} {time : ℤ} {data : Bytes} {s : State} : (State.tripSample source lane time data s).pair = s.pair := State.tripSample_within .pair rfl
@[simp] theorem State.tripSample_due {source : ℕ} {lane : ℕ} {time : ℤ} {data : Bytes} {s : State} : (State.tripSample source lane time data s).due = s.due := State.tripSample_within .due rfl
@[simp] theorem State.tripSample_cells {source : ℕ} {lane : ℕ} {time : ℤ} {data : Bytes} {s : State} : (State.tripSample source lane time data s).cells = s.cells := State.tripSample_within .cells rfl
@[simp] theorem State.tripSample_checkpoint {source : ℕ} {lane : ℕ} {time : ℤ} {data : Bytes} {s : State} : (State.tripSample source lane time data s).checkpoint = s.checkpoint := State.tripSample_within .checkpoint rfl
@[simp] theorem State.tripSample_chain {source : ℕ} {lane : ℕ} {time : ℤ} {data : Bytes} {s : State} : (State.tripSample source lane time data s).chain = s.chain := State.tripSample_within .chain rfl
@[simp] theorem State.tripSample_keys {source : ℕ} {lane : ℕ} {time : ℤ} {data : Bytes} {s : State} : (State.tripSample source lane time data s).keys = s.keys := State.tripSample_within .keys rfl
@[simp] theorem State.tripSample_disp {source : ℕ} {lane : ℕ} {time : ℤ} {data : Bytes} {s : State} : (State.tripSample source lane time data s).disp = s.disp := State.tripSample_within .disp rfl
@[simp] theorem State.tripSample_counters {source : ℕ} {lane : ℕ} {time : ℤ} {data : Bytes} {s : State} : (State.tripSample source lane time data s).counters = s.counters := State.tripSample_within .counters rfl
@[simp] theorem State.tripSample_panel {source : ℕ} {lane : ℕ} {time : ℤ} {data : Bytes} {s : State} : (State.tripSample source lane time data s).panel = s.panel := State.tripSample_within .panel rfl
@[simp] theorem State.tripSample_lamps {source : ℕ} {lane : ℕ} {time : ℤ} {data : Bytes} {s : State} : (State.tripSample source lane time data s).lamps = s.lamps := State.tripSample_within .lamps rfl
@[simp] theorem State.tripSample_power {source : ℕ} {lane : ℕ} {time : ℤ} {data : Bytes} {s : State} : (State.tripSample source lane time data s).power = s.power := State.tripSample_within .power rfl
@[simp] theorem State.tripSample_tap {source : ℕ} {lane : ℕ} {time : ℤ} {data : Bytes} {s : State} : (State.tripSample source lane time data s).tap = s.tap := State.tripSample_within .tap rfl
@[simp] theorem State.tripSample_shown {source : ℕ} {lane : ℕ} {time : ℤ} {data : Bytes} {s : State} : (State.tripSample source lane time data s).shown = s.shown := State.tripSample_within .shown rfl
@[simp] theorem State.tripSample_pending {source : ℕ} {lane : ℕ} {time : ℤ} {data : Bytes} {s : State} : (State.tripSample source lane time data s).pending = s.pending := State.tripSample_within .pending rfl

/-! ### State.haltSample -/

@[simp] theorem State.haltSample_clock {lane : ℕ} {kind : ℕ} {s : State} : (State.haltSample lane kind s).clock = s.clock := State.haltSample_within .clock rfl
@[simp] theorem State.haltSample_time {lane : ℕ} {kind : ℕ} {s : State} : (State.haltSample lane kind s).time = s.time := State.haltSample_within .time rfl
@[simp] theorem State.haltSample_gnss {lane : ℕ} {kind : ℕ} {s : State} : (State.haltSample lane kind s).gnss = s.gnss := State.haltSample_within .gnss rfl
@[simp] theorem State.haltSample_update {lane : ℕ} {kind : ℕ} {s : State} : (State.haltSample lane kind s).update = s.update := State.haltSample_within .update rfl
@[simp] theorem State.haltSample_reference {lane : ℕ} {kind : ℕ} {s : State} : (State.haltSample lane kind s).reference = s.reference := State.haltSample_within .reference rfl
@[simp] theorem State.haltSample_settings {lane : ℕ} {kind : ℕ} {s : State} : (State.haltSample lane kind s).settings = s.settings := State.haltSample_within .settings rfl
@[simp] theorem State.haltSample_access {lane : ℕ} {kind : ℕ} {s : State} : (State.haltSample lane kind s).access = s.access := State.haltSample_within .access rfl
@[simp] theorem State.haltSample_lanes {lane : ℕ} {kind : ℕ} {s : State} : (State.haltSample lane kind s).lanes = s.lanes := State.haltSample_within .lanes rfl
@[simp] theorem State.haltSample_routes {lane : ℕ} {kind : ℕ} {s : State} : (State.haltSample lane kind s).routes = s.routes := State.haltSample_within .routes rfl
@[simp] theorem State.haltSample_guests {lane : ℕ} {kind : ℕ} {s : State} : (State.haltSample lane kind s).guests = s.guests := State.haltSample_within .guests rfl
@[simp] theorem State.haltSample_ledger {lane : ℕ} {kind : ℕ} {s : State} : (State.haltSample lane kind s).ledger = s.ledger := State.haltSample_within .ledger rfl
@[simp] theorem State.haltSample_halt {lane : ℕ} {kind : ℕ} {s : State} : (State.haltSample lane kind s).halt = s.halt := State.haltSample_within .halt rfl
@[simp] theorem State.haltSample_air {lane : ℕ} {kind : ℕ} {s : State} : (State.haltSample lane kind s).air = s.air := State.haltSample_within .air rfl
@[simp] theorem State.haltSample_airLanes {lane : ℕ} {kind : ℕ} {s : State} : (State.haltSample lane kind s).airLanes = s.airLanes := State.haltSample_within .airLanes rfl
@[simp] theorem State.haltSample_pair {lane : ℕ} {kind : ℕ} {s : State} : (State.haltSample lane kind s).pair = s.pair := State.haltSample_within .pair rfl
@[simp] theorem State.haltSample_due {lane : ℕ} {kind : ℕ} {s : State} : (State.haltSample lane kind s).due = s.due := State.haltSample_within .due rfl
@[simp] theorem State.haltSample_cells {lane : ℕ} {kind : ℕ} {s : State} : (State.haltSample lane kind s).cells = s.cells := State.haltSample_within .cells rfl
@[simp] theorem State.haltSample_checkpoint {lane : ℕ} {kind : ℕ} {s : State} : (State.haltSample lane kind s).checkpoint = s.checkpoint := State.haltSample_within .checkpoint rfl
@[simp] theorem State.haltSample_chain {lane : ℕ} {kind : ℕ} {s : State} : (State.haltSample lane kind s).chain = s.chain := State.haltSample_within .chain rfl
@[simp] theorem State.haltSample_keys {lane : ℕ} {kind : ℕ} {s : State} : (State.haltSample lane kind s).keys = s.keys := State.haltSample_within .keys rfl
@[simp] theorem State.haltSample_disp {lane : ℕ} {kind : ℕ} {s : State} : (State.haltSample lane kind s).disp = s.disp := State.haltSample_within .disp rfl
@[simp] theorem State.haltSample_counters {lane : ℕ} {kind : ℕ} {s : State} : (State.haltSample lane kind s).counters = s.counters := State.haltSample_within .counters rfl
@[simp] theorem State.haltSample_panel {lane : ℕ} {kind : ℕ} {s : State} : (State.haltSample lane kind s).panel = s.panel := State.haltSample_within .panel rfl
@[simp] theorem State.haltSample_lamps {lane : ℕ} {kind : ℕ} {s : State} : (State.haltSample lane kind s).lamps = s.lamps := State.haltSample_within .lamps rfl
@[simp] theorem State.haltSample_power {lane : ℕ} {kind : ℕ} {s : State} : (State.haltSample lane kind s).power = s.power := State.haltSample_within .power rfl
@[simp] theorem State.haltSample_tap {lane : ℕ} {kind : ℕ} {s : State} : (State.haltSample lane kind s).tap = s.tap := State.haltSample_within .tap rfl
@[simp] theorem State.haltSample_shown {lane : ℕ} {kind : ℕ} {s : State} : (State.haltSample lane kind s).shown = s.shown := State.haltSample_within .shown rfl
@[simp] theorem State.haltSample_pending {lane : ℕ} {kind : ℕ} {s : State} : (State.haltSample lane kind s).pending = s.pending := State.haltSample_within .pending rfl

/-! ### State.push -/

@[simp] theorem State.push_clock {q : ℕ} {typ : ℕ} {body : Bytes} {s : State} : (State.push q typ body s).clock = s.clock := State.push_within .clock rfl
@[simp] theorem State.push_time {q : ℕ} {typ : ℕ} {body : Bytes} {s : State} : (State.push q typ body s).time = s.time := State.push_within .time rfl
@[simp] theorem State.push_gnss {q : ℕ} {typ : ℕ} {body : Bytes} {s : State} : (State.push q typ body s).gnss = s.gnss := State.push_within .gnss rfl
@[simp] theorem State.push_update {q : ℕ} {typ : ℕ} {body : Bytes} {s : State} : (State.push q typ body s).update = s.update := State.push_within .update rfl
@[simp] theorem State.push_reference {q : ℕ} {typ : ℕ} {body : Bytes} {s : State} : (State.push q typ body s).reference = s.reference := State.push_within .reference rfl
@[simp] theorem State.push_settings {q : ℕ} {typ : ℕ} {body : Bytes} {s : State} : (State.push q typ body s).settings = s.settings := State.push_within .settings rfl
@[simp] theorem State.push_lanes {q : ℕ} {typ : ℕ} {body : Bytes} {s : State} : (State.push q typ body s).lanes = s.lanes := State.push_within .lanes rfl
@[simp] theorem State.push_routes {q : ℕ} {typ : ℕ} {body : Bytes} {s : State} : (State.push q typ body s).routes = s.routes := State.push_within .routes rfl
@[simp] theorem State.push_guests {q : ℕ} {typ : ℕ} {body : Bytes} {s : State} : (State.push q typ body s).guests = s.guests := State.push_within .guests rfl
@[simp] theorem State.push_ledger {q : ℕ} {typ : ℕ} {body : Bytes} {s : State} : (State.push q typ body s).ledger = s.ledger := State.push_within .ledger rfl
@[simp] theorem State.push_halt {q : ℕ} {typ : ℕ} {body : Bytes} {s : State} : (State.push q typ body s).halt = s.halt := State.push_within .halt rfl
@[simp] theorem State.push_air {q : ℕ} {typ : ℕ} {body : Bytes} {s : State} : (State.push q typ body s).air = s.air := State.push_within .air rfl
@[simp] theorem State.push_airLanes {q : ℕ} {typ : ℕ} {body : Bytes} {s : State} : (State.push q typ body s).airLanes = s.airLanes := State.push_within .airLanes rfl
@[simp] theorem State.push_pair {q : ℕ} {typ : ℕ} {body : Bytes} {s : State} : (State.push q typ body s).pair = s.pair := State.push_within .pair rfl
@[simp] theorem State.push_due {q : ℕ} {typ : ℕ} {body : Bytes} {s : State} : (State.push q typ body s).due = s.due := State.push_within .due rfl
@[simp] theorem State.push_cells {q : ℕ} {typ : ℕ} {body : Bytes} {s : State} : (State.push q typ body s).cells = s.cells := State.push_within .cells rfl
@[simp] theorem State.push_checkpoint {q : ℕ} {typ : ℕ} {body : Bytes} {s : State} : (State.push q typ body s).checkpoint = s.checkpoint := State.push_within .checkpoint rfl
@[simp] theorem State.push_chain {q : ℕ} {typ : ℕ} {body : Bytes} {s : State} : (State.push q typ body s).chain = s.chain := State.push_within .chain rfl
@[simp] theorem State.push_keys {q : ℕ} {typ : ℕ} {body : Bytes} {s : State} : (State.push q typ body s).keys = s.keys := State.push_within .keys rfl
@[simp] theorem State.push_disp {q : ℕ} {typ : ℕ} {body : Bytes} {s : State} : (State.push q typ body s).disp = s.disp := State.push_within .disp rfl
@[simp] theorem State.push_lamps {q : ℕ} {typ : ℕ} {body : Bytes} {s : State} : (State.push q typ body s).lamps = s.lamps := State.push_within .lamps rfl
@[simp] theorem State.push_power {q : ℕ} {typ : ℕ} {body : Bytes} {s : State} : (State.push q typ body s).power = s.power := State.push_within .power rfl
@[simp] theorem State.push_tap {q : ℕ} {typ : ℕ} {body : Bytes} {s : State} : (State.push q typ body s).tap = s.tap := State.push_within .tap rfl
@[simp] theorem State.push_shown {q : ℕ} {typ : ℕ} {body : Bytes} {s : State} : (State.push q typ body s).shown = s.shown := State.push_within .shown rfl
@[simp] theorem State.push_pending {q : ℕ} {typ : ℕ} {body : Bytes} {s : State} : (State.push q typ body s).pending = s.pending := State.push_within .pending rfl

/-! ### State.notice -/

@[simp] theorem State.notice_clock {code : ℕ} {arg : ℕ} {tick : U32} {s : State} : (State.notice code arg tick s).clock = s.clock := State.notice_within .clock rfl
@[simp] theorem State.notice_time {code : ℕ} {arg : ℕ} {tick : U32} {s : State} : (State.notice code arg tick s).time = s.time := State.notice_within .time rfl
@[simp] theorem State.notice_gnss {code : ℕ} {arg : ℕ} {tick : U32} {s : State} : (State.notice code arg tick s).gnss = s.gnss := State.notice_within .gnss rfl
@[simp] theorem State.notice_update {code : ℕ} {arg : ℕ} {tick : U32} {s : State} : (State.notice code arg tick s).update = s.update := State.notice_within .update rfl
@[simp] theorem State.notice_reference {code : ℕ} {arg : ℕ} {tick : U32} {s : State} : (State.notice code arg tick s).reference = s.reference := State.notice_within .reference rfl
@[simp] theorem State.notice_settings {code : ℕ} {arg : ℕ} {tick : U32} {s : State} : (State.notice code arg tick s).settings = s.settings := State.notice_within .settings rfl
@[simp] theorem State.notice_access {code : ℕ} {arg : ℕ} {tick : U32} {s : State} : (State.notice code arg tick s).access = s.access := State.notice_within .access rfl
@[simp] theorem State.notice_lanes {code : ℕ} {arg : ℕ} {tick : U32} {s : State} : (State.notice code arg tick s).lanes = s.lanes := State.notice_within .lanes rfl
@[simp] theorem State.notice_routes {code : ℕ} {arg : ℕ} {tick : U32} {s : State} : (State.notice code arg tick s).routes = s.routes := State.notice_within .routes rfl
@[simp] theorem State.notice_guests {code : ℕ} {arg : ℕ} {tick : U32} {s : State} : (State.notice code arg tick s).guests = s.guests := State.notice_within .guests rfl
@[simp] theorem State.notice_ledger {code : ℕ} {arg : ℕ} {tick : U32} {s : State} : (State.notice code arg tick s).ledger = s.ledger := State.notice_within .ledger rfl
@[simp] theorem State.notice_halt {code : ℕ} {arg : ℕ} {tick : U32} {s : State} : (State.notice code arg tick s).halt = s.halt := State.notice_within .halt rfl
@[simp] theorem State.notice_airLanes {code : ℕ} {arg : ℕ} {tick : U32} {s : State} : (State.notice code arg tick s).airLanes = s.airLanes := State.notice_within .airLanes rfl
@[simp] theorem State.notice_pair {code : ℕ} {arg : ℕ} {tick : U32} {s : State} : (State.notice code arg tick s).pair = s.pair := State.notice_within .pair rfl
@[simp] theorem State.notice_due {code : ℕ} {arg : ℕ} {tick : U32} {s : State} : (State.notice code arg tick s).due = s.due := State.notice_within .due rfl
@[simp] theorem State.notice_cells {code : ℕ} {arg : ℕ} {tick : U32} {s : State} : (State.notice code arg tick s).cells = s.cells := State.notice_within .cells rfl
@[simp] theorem State.notice_checkpoint {code : ℕ} {arg : ℕ} {tick : U32} {s : State} : (State.notice code arg tick s).checkpoint = s.checkpoint := State.notice_within .checkpoint rfl
@[simp] theorem State.notice_chain {code : ℕ} {arg : ℕ} {tick : U32} {s : State} : (State.notice code arg tick s).chain = s.chain := State.notice_within .chain rfl
@[simp] theorem State.notice_keys {code : ℕ} {arg : ℕ} {tick : U32} {s : State} : (State.notice code arg tick s).keys = s.keys := State.notice_within .keys rfl
@[simp] theorem State.notice_disp {code : ℕ} {arg : ℕ} {tick : U32} {s : State} : (State.notice code arg tick s).disp = s.disp := State.notice_within .disp rfl
@[simp] theorem State.notice_trip {code : ℕ} {arg : ℕ} {tick : U32} {s : State} : (State.notice code arg tick s).trip = s.trip := State.notice_within .trip rfl
@[simp] theorem State.notice_panel {code : ℕ} {arg : ℕ} {tick : U32} {s : State} : (State.notice code arg tick s).panel = s.panel := State.notice_within .panel rfl
@[simp] theorem State.notice_lamps {code : ℕ} {arg : ℕ} {tick : U32} {s : State} : (State.notice code arg tick s).lamps = s.lamps := State.notice_within .lamps rfl
@[simp] theorem State.notice_power {code : ℕ} {arg : ℕ} {tick : U32} {s : State} : (State.notice code arg tick s).power = s.power := State.notice_within .power rfl
@[simp] theorem State.notice_tap {code : ℕ} {arg : ℕ} {tick : U32} {s : State} : (State.notice code arg tick s).tap = s.tap := State.notice_within .tap rfl
@[simp] theorem State.notice_shown {code : ℕ} {arg : ℕ} {tick : U32} {s : State} : (State.notice code arg tick s).shown = s.shown := State.notice_within .shown rfl
@[simp] theorem State.notice_pending {code : ℕ} {arg : ℕ} {tick : U32} {s : State} : (State.notice code arg tick s).pending = s.pending := State.notice_within .pending rfl

/-! ### State.inUse -/

@[simp] theorem State.inUse_clock {resource : String} {owner : String} {s : State} : (State.inUse resource owner s).clock = s.clock := State.inUse_within .clock rfl
@[simp] theorem State.inUse_time {resource : String} {owner : String} {s : State} : (State.inUse resource owner s).time = s.time := State.inUse_within .time rfl
@[simp] theorem State.inUse_gnss {resource : String} {owner : String} {s : State} : (State.inUse resource owner s).gnss = s.gnss := State.inUse_within .gnss rfl
@[simp] theorem State.inUse_update {resource : String} {owner : String} {s : State} : (State.inUse resource owner s).update = s.update := State.inUse_within .update rfl
@[simp] theorem State.inUse_reference {resource : String} {owner : String} {s : State} : (State.inUse resource owner s).reference = s.reference := State.inUse_within .reference rfl
@[simp] theorem State.inUse_settings {resource : String} {owner : String} {s : State} : (State.inUse resource owner s).settings = s.settings := State.inUse_within .settings rfl
@[simp] theorem State.inUse_lanes {resource : String} {owner : String} {s : State} : (State.inUse resource owner s).lanes = s.lanes := State.inUse_within .lanes rfl
@[simp] theorem State.inUse_routes {resource : String} {owner : String} {s : State} : (State.inUse resource owner s).routes = s.routes := State.inUse_within .routes rfl
@[simp] theorem State.inUse_guests {resource : String} {owner : String} {s : State} : (State.inUse resource owner s).guests = s.guests := State.inUse_within .guests rfl
@[simp] theorem State.inUse_ledger {resource : String} {owner : String} {s : State} : (State.inUse resource owner s).ledger = s.ledger := State.inUse_within .ledger rfl
@[simp] theorem State.inUse_halt {resource : String} {owner : String} {s : State} : (State.inUse resource owner s).halt = s.halt := State.inUse_within .halt rfl
@[simp] theorem State.inUse_air {resource : String} {owner : String} {s : State} : (State.inUse resource owner s).air = s.air := State.inUse_within .air rfl
@[simp] theorem State.inUse_airLanes {resource : String} {owner : String} {s : State} : (State.inUse resource owner s).airLanes = s.airLanes := State.inUse_within .airLanes rfl
@[simp] theorem State.inUse_pair {resource : String} {owner : String} {s : State} : (State.inUse resource owner s).pair = s.pair := State.inUse_within .pair rfl
@[simp] theorem State.inUse_due {resource : String} {owner : String} {s : State} : (State.inUse resource owner s).due = s.due := State.inUse_within .due rfl
@[simp] theorem State.inUse_cells {resource : String} {owner : String} {s : State} : (State.inUse resource owner s).cells = s.cells := State.inUse_within .cells rfl
@[simp] theorem State.inUse_checkpoint {resource : String} {owner : String} {s : State} : (State.inUse resource owner s).checkpoint = s.checkpoint := State.inUse_within .checkpoint rfl
@[simp] theorem State.inUse_chain {resource : String} {owner : String} {s : State} : (State.inUse resource owner s).chain = s.chain := State.inUse_within .chain rfl
@[simp] theorem State.inUse_keys {resource : String} {owner : String} {s : State} : (State.inUse resource owner s).keys = s.keys := State.inUse_within .keys rfl
@[simp] theorem State.inUse_disp {resource : String} {owner : String} {s : State} : (State.inUse resource owner s).disp = s.disp := State.inUse_within .disp rfl
@[simp] theorem State.inUse_lamps {resource : String} {owner : String} {s : State} : (State.inUse resource owner s).lamps = s.lamps := State.inUse_within .lamps rfl
@[simp] theorem State.inUse_power {resource : String} {owner : String} {s : State} : (State.inUse resource owner s).power = s.power := State.inUse_within .power rfl
@[simp] theorem State.inUse_tap {resource : String} {owner : String} {s : State} : (State.inUse resource owner s).tap = s.tap := State.inUse_within .tap rfl
@[simp] theorem State.inUse_shown {resource : String} {owner : String} {s : State} : (State.inUse resource owner s).shown = s.shown := State.inUse_within .shown rfl
@[simp] theorem State.inUse_pending {resource : String} {owner : String} {s : State} : (State.inUse resource owner s).pending = s.pending := State.inUse_within .pending rfl

/-! ### State.draw -/

@[simp] theorem State.draw_snd_clock {s : State} : ((State.draw s).2).clock = s.clock := State.draw_within .clock rfl
@[simp] theorem State.draw_snd_time {s : State} : ((State.draw s).2).time = s.time := State.draw_within .time rfl
@[simp] theorem State.draw_snd_gnss {s : State} : ((State.draw s).2).gnss = s.gnss := State.draw_within .gnss rfl
@[simp] theorem State.draw_snd_update {s : State} : ((State.draw s).2).update = s.update := State.draw_within .update rfl
@[simp] theorem State.draw_snd_reference {s : State} : ((State.draw s).2).reference = s.reference := State.draw_within .reference rfl
@[simp] theorem State.draw_snd_settings {s : State} : ((State.draw s).2).settings = s.settings := State.draw_within .settings rfl
@[simp] theorem State.draw_snd_access {s : State} : ((State.draw s).2).access = s.access := State.draw_within .access rfl
@[simp] theorem State.draw_snd_lanes {s : State} : ((State.draw s).2).lanes = s.lanes := State.draw_within .lanes rfl
@[simp] theorem State.draw_snd_routes {s : State} : ((State.draw s).2).routes = s.routes := State.draw_within .routes rfl
@[simp] theorem State.draw_snd_guests {s : State} : ((State.draw s).2).guests = s.guests := State.draw_within .guests rfl
@[simp] theorem State.draw_snd_ledger {s : State} : ((State.draw s).2).ledger = s.ledger := State.draw_within .ledger rfl
@[simp] theorem State.draw_snd_halt {s : State} : ((State.draw s).2).halt = s.halt := State.draw_within .halt rfl
@[simp] theorem State.draw_snd_air {s : State} : ((State.draw s).2).air = s.air := State.draw_within .air rfl
@[simp] theorem State.draw_snd_airLanes {s : State} : ((State.draw s).2).airLanes = s.airLanes := State.draw_within .airLanes rfl
@[simp] theorem State.draw_snd_pair {s : State} : ((State.draw s).2).pair = s.pair := State.draw_within .pair rfl
@[simp] theorem State.draw_snd_due {s : State} : ((State.draw s).2).due = s.due := State.draw_within .due rfl
@[simp] theorem State.draw_snd_cells {s : State} : ((State.draw s).2).cells = s.cells := State.draw_within .cells rfl
@[simp] theorem State.draw_snd_checkpoint {s : State} : ((State.draw s).2).checkpoint = s.checkpoint := State.draw_within .checkpoint rfl
@[simp] theorem State.draw_snd_chain {s : State} : ((State.draw s).2).chain = s.chain := State.draw_within .chain rfl
@[simp] theorem State.draw_snd_keys {s : State} : ((State.draw s).2).keys = s.keys := State.draw_within .keys rfl
@[simp] theorem State.draw_snd_disp {s : State} : ((State.draw s).2).disp = s.disp := State.draw_within .disp rfl
@[simp] theorem State.draw_snd_counters {s : State} : ((State.draw s).2).counters = s.counters := State.draw_within .counters rfl
@[simp] theorem State.draw_snd_trip {s : State} : ((State.draw s).2).trip = s.trip := State.draw_within .trip rfl
@[simp] theorem State.draw_snd_panel {s : State} : ((State.draw s).2).panel = s.panel := State.draw_within .panel rfl
@[simp] theorem State.draw_snd_lamps {s : State} : ((State.draw s).2).lamps = s.lamps := State.draw_within .lamps rfl
@[simp] theorem State.draw_snd_power {s : State} : ((State.draw s).2).power = s.power := State.draw_within .power rfl
@[simp] theorem State.draw_snd_tap {s : State} : ((State.draw s).2).tap = s.tap := State.draw_within .tap rfl
@[simp] theorem State.draw_snd_shown {s : State} : ((State.draw s).2).shown = s.shown := State.draw_within .shown rfl
@[simp] theorem State.draw_snd_pending {s : State} : ((State.draw s).2).pending = s.pending := State.draw_within .pending rfl

/-! ### State.checkQueue -/

@[simp] theorem State.checkQueue_clock {q : ℕ} {s : State} : (State.checkQueue q s).clock = s.clock := State.checkQueue_within .clock rfl
@[simp] theorem State.checkQueue_time {q : ℕ} {s : State} : (State.checkQueue q s).time = s.time := State.checkQueue_within .time rfl
@[simp] theorem State.checkQueue_gnss {q : ℕ} {s : State} : (State.checkQueue q s).gnss = s.gnss := State.checkQueue_within .gnss rfl
@[simp] theorem State.checkQueue_update {q : ℕ} {s : State} : (State.checkQueue q s).update = s.update := State.checkQueue_within .update rfl
@[simp] theorem State.checkQueue_reference {q : ℕ} {s : State} : (State.checkQueue q s).reference = s.reference := State.checkQueue_within .reference rfl
@[simp] theorem State.checkQueue_settings {q : ℕ} {s : State} : (State.checkQueue q s).settings = s.settings := State.checkQueue_within .settings rfl
@[simp] theorem State.checkQueue_lanes {q : ℕ} {s : State} : (State.checkQueue q s).lanes = s.lanes := State.checkQueue_within .lanes rfl
@[simp] theorem State.checkQueue_routes {q : ℕ} {s : State} : (State.checkQueue q s).routes = s.routes := State.checkQueue_within .routes rfl
@[simp] theorem State.checkQueue_guests {q : ℕ} {s : State} : (State.checkQueue q s).guests = s.guests := State.checkQueue_within .guests rfl
@[simp] theorem State.checkQueue_ledger {q : ℕ} {s : State} : (State.checkQueue q s).ledger = s.ledger := State.checkQueue_within .ledger rfl
@[simp] theorem State.checkQueue_halt {q : ℕ} {s : State} : (State.checkQueue q s).halt = s.halt := State.checkQueue_within .halt rfl
@[simp] theorem State.checkQueue_air {q : ℕ} {s : State} : (State.checkQueue q s).air = s.air := State.checkQueue_within .air rfl
@[simp] theorem State.checkQueue_airLanes {q : ℕ} {s : State} : (State.checkQueue q s).airLanes = s.airLanes := State.checkQueue_within .airLanes rfl
@[simp] theorem State.checkQueue_pair {q : ℕ} {s : State} : (State.checkQueue q s).pair = s.pair := State.checkQueue_within .pair rfl
@[simp] theorem State.checkQueue_due {q : ℕ} {s : State} : (State.checkQueue q s).due = s.due := State.checkQueue_within .due rfl
@[simp] theorem State.checkQueue_cells {q : ℕ} {s : State} : (State.checkQueue q s).cells = s.cells := State.checkQueue_within .cells rfl
@[simp] theorem State.checkQueue_checkpoint {q : ℕ} {s : State} : (State.checkQueue q s).checkpoint = s.checkpoint := State.checkQueue_within .checkpoint rfl
@[simp] theorem State.checkQueue_chain {q : ℕ} {s : State} : (State.checkQueue q s).chain = s.chain := State.checkQueue_within .chain rfl
@[simp] theorem State.checkQueue_keys {q : ℕ} {s : State} : (State.checkQueue q s).keys = s.keys := State.checkQueue_within .keys rfl
@[simp] theorem State.checkQueue_disp {q : ℕ} {s : State} : (State.checkQueue q s).disp = s.disp := State.checkQueue_within .disp rfl
@[simp] theorem State.checkQueue_lamps {q : ℕ} {s : State} : (State.checkQueue q s).lamps = s.lamps := State.checkQueue_within .lamps rfl
@[simp] theorem State.checkQueue_power {q : ℕ} {s : State} : (State.checkQueue q s).power = s.power := State.checkQueue_within .power rfl
@[simp] theorem State.checkQueue_tap {q : ℕ} {s : State} : (State.checkQueue q s).tap = s.tap := State.checkQueue_within .tap rfl
@[simp] theorem State.checkQueue_shown {q : ℕ} {s : State} : (State.checkQueue q s).shown = s.shown := State.checkQueue_within .shown rfl
@[simp] theorem State.checkQueue_pending {q : ℕ} {s : State} : (State.checkQueue q s).pending = s.pending := State.checkQueue_within .pending rfl

/-! ### State.placeItem -/

@[simp] theorem State.placeItem_clock {q : ℕ} {typ : ℕ} {body : Bytes} {s : State} : (State.placeItem q typ body s).clock = s.clock := State.placeItem_within .clock rfl
@[simp] theorem State.placeItem_time {q : ℕ} {typ : ℕ} {body : Bytes} {s : State} : (State.placeItem q typ body s).time = s.time := State.placeItem_within .time rfl
@[simp] theorem State.placeItem_gnss {q : ℕ} {typ : ℕ} {body : Bytes} {s : State} : (State.placeItem q typ body s).gnss = s.gnss := State.placeItem_within .gnss rfl
@[simp] theorem State.placeItem_update {q : ℕ} {typ : ℕ} {body : Bytes} {s : State} : (State.placeItem q typ body s).update = s.update := State.placeItem_within .update rfl
@[simp] theorem State.placeItem_reference {q : ℕ} {typ : ℕ} {body : Bytes} {s : State} : (State.placeItem q typ body s).reference = s.reference := State.placeItem_within .reference rfl
@[simp] theorem State.placeItem_settings {q : ℕ} {typ : ℕ} {body : Bytes} {s : State} : (State.placeItem q typ body s).settings = s.settings := State.placeItem_within .settings rfl
@[simp] theorem State.placeItem_lanes {q : ℕ} {typ : ℕ} {body : Bytes} {s : State} : (State.placeItem q typ body s).lanes = s.lanes := State.placeItem_within .lanes rfl
@[simp] theorem State.placeItem_routes {q : ℕ} {typ : ℕ} {body : Bytes} {s : State} : (State.placeItem q typ body s).routes = s.routes := State.placeItem_within .routes rfl
@[simp] theorem State.placeItem_guests {q : ℕ} {typ : ℕ} {body : Bytes} {s : State} : (State.placeItem q typ body s).guests = s.guests := State.placeItem_within .guests rfl
@[simp] theorem State.placeItem_ledger {q : ℕ} {typ : ℕ} {body : Bytes} {s : State} : (State.placeItem q typ body s).ledger = s.ledger := State.placeItem_within .ledger rfl
@[simp] theorem State.placeItem_halt {q : ℕ} {typ : ℕ} {body : Bytes} {s : State} : (State.placeItem q typ body s).halt = s.halt := State.placeItem_within .halt rfl
@[simp] theorem State.placeItem_air {q : ℕ} {typ : ℕ} {body : Bytes} {s : State} : (State.placeItem q typ body s).air = s.air := State.placeItem_within .air rfl
@[simp] theorem State.placeItem_airLanes {q : ℕ} {typ : ℕ} {body : Bytes} {s : State} : (State.placeItem q typ body s).airLanes = s.airLanes := State.placeItem_within .airLanes rfl
@[simp] theorem State.placeItem_pair {q : ℕ} {typ : ℕ} {body : Bytes} {s : State} : (State.placeItem q typ body s).pair = s.pair := State.placeItem_within .pair rfl
@[simp] theorem State.placeItem_due {q : ℕ} {typ : ℕ} {body : Bytes} {s : State} : (State.placeItem q typ body s).due = s.due := State.placeItem_within .due rfl
@[simp] theorem State.placeItem_cells {q : ℕ} {typ : ℕ} {body : Bytes} {s : State} : (State.placeItem q typ body s).cells = s.cells := State.placeItem_within .cells rfl
@[simp] theorem State.placeItem_checkpoint {q : ℕ} {typ : ℕ} {body : Bytes} {s : State} : (State.placeItem q typ body s).checkpoint = s.checkpoint := State.placeItem_within .checkpoint rfl
@[simp] theorem State.placeItem_chain {q : ℕ} {typ : ℕ} {body : Bytes} {s : State} : (State.placeItem q typ body s).chain = s.chain := State.placeItem_within .chain rfl
@[simp] theorem State.placeItem_keys {q : ℕ} {typ : ℕ} {body : Bytes} {s : State} : (State.placeItem q typ body s).keys = s.keys := State.placeItem_within .keys rfl
@[simp] theorem State.placeItem_disp {q : ℕ} {typ : ℕ} {body : Bytes} {s : State} : (State.placeItem q typ body s).disp = s.disp := State.placeItem_within .disp rfl
@[simp] theorem State.placeItem_trip {q : ℕ} {typ : ℕ} {body : Bytes} {s : State} : (State.placeItem q typ body s).trip = s.trip := State.placeItem_within .trip rfl
@[simp] theorem State.placeItem_panel {q : ℕ} {typ : ℕ} {body : Bytes} {s : State} : (State.placeItem q typ body s).panel = s.panel := State.placeItem_within .panel rfl
@[simp] theorem State.placeItem_lamps {q : ℕ} {typ : ℕ} {body : Bytes} {s : State} : (State.placeItem q typ body s).lamps = s.lamps := State.placeItem_within .lamps rfl
@[simp] theorem State.placeItem_power {q : ℕ} {typ : ℕ} {body : Bytes} {s : State} : (State.placeItem q typ body s).power = s.power := State.placeItem_within .power rfl
@[simp] theorem State.placeItem_tap {q : ℕ} {typ : ℕ} {body : Bytes} {s : State} : (State.placeItem q typ body s).tap = s.tap := State.placeItem_within .tap rfl
@[simp] theorem State.placeItem_shown {q : ℕ} {typ : ℕ} {body : Bytes} {s : State} : (State.placeItem q typ body s).shown = s.shown := State.placeItem_within .shown rfl
@[simp] theorem State.placeItem_pending {q : ℕ} {typ : ℕ} {body : Bytes} {s : State} : (State.placeItem q typ body s).pending = s.pending := State.placeItem_within .pending rfl

/-! ### State.put -/

@[simp] theorem State.put_clock {s : State} {x : WriteItem} : (State.put s x).clock = s.clock := State.put_within .clock rfl
@[simp] theorem State.put_time {s : State} {x : WriteItem} : (State.put s x).time = s.time := State.put_within .time rfl
@[simp] theorem State.put_update {s : State} {x : WriteItem} : (State.put s x).update = s.update := State.put_within .update rfl
@[simp] theorem State.put_reference {s : State} {x : WriteItem} : (State.put s x).reference = s.reference := State.put_within .reference rfl
@[simp] theorem State.put_lanes {s : State} {x : WriteItem} : (State.put s x).lanes = s.lanes := State.put_within .lanes rfl
@[simp] theorem State.put_routes {s : State} {x : WriteItem} : (State.put s x).routes = s.routes := State.put_within .routes rfl
@[simp] theorem State.put_guests {s : State} {x : WriteItem} : (State.put s x).guests = s.guests := State.put_within .guests rfl
@[simp] theorem State.put_ledger {s : State} {x : WriteItem} : (State.put s x).ledger = s.ledger := State.put_within .ledger rfl
@[simp] theorem State.put_halt {s : State} {x : WriteItem} : (State.put s x).halt = s.halt := State.put_within .halt rfl
@[simp] theorem State.put_air {s : State} {x : WriteItem} : (State.put s x).air = s.air := State.put_within .air rfl
@[simp] theorem State.put_airLanes {s : State} {x : WriteItem} : (State.put s x).airLanes = s.airLanes := State.put_within .airLanes rfl
@[simp] theorem State.put_pair {s : State} {x : WriteItem} : (State.put s x).pair = s.pair := State.put_within .pair rfl
@[simp] theorem State.put_due {s : State} {x : WriteItem} : (State.put s x).due = s.due := State.put_within .due rfl
@[simp] theorem State.put_cells {s : State} {x : WriteItem} : (State.put s x).cells = s.cells := State.put_within .cells rfl
@[simp] theorem State.put_checkpoint {s : State} {x : WriteItem} : (State.put s x).checkpoint = s.checkpoint := State.put_within .checkpoint rfl
@[simp] theorem State.put_chain {s : State} {x : WriteItem} : (State.put s x).chain = s.chain := State.put_within .chain rfl
@[simp] theorem State.put_keys {s : State} {x : WriteItem} : (State.put s x).keys = s.keys := State.put_within .keys rfl
@[simp] theorem State.put_disp {s : State} {x : WriteItem} : (State.put s x).disp = s.disp := State.put_within .disp rfl
@[simp] theorem State.put_trip {s : State} {x : WriteItem} : (State.put s x).trip = s.trip := State.put_within .trip rfl
@[simp] theorem State.put_panel {s : State} {x : WriteItem} : (State.put s x).panel = s.panel := State.put_within .panel rfl
@[simp] theorem State.put_lamps {s : State} {x : WriteItem} : (State.put s x).lamps = s.lamps := State.put_within .lamps rfl
@[simp] theorem State.put_power {s : State} {x : WriteItem} : (State.put s x).power = s.power := State.put_within .power rfl
@[simp] theorem State.put_tap {s : State} {x : WriteItem} : (State.put s x).tap = s.tap := State.put_within .tap rfl
@[simp] theorem State.put_shown {s : State} {x : WriteItem} : (State.put s x).shown = s.shown := State.put_within .shown rfl
@[simp] theorem State.put_pending {s : State} {x : WriteItem} : (State.put s x).pending = s.pending := State.put_within .pending rfl

/-! ### State.journal -/

@[simp] theorem State.journal_clock {items : List WriteItem} {s : State} : (State.journal items s).clock = s.clock := State.journal_within .clock rfl
@[simp] theorem State.journal_time {items : List WriteItem} {s : State} : (State.journal items s).time = s.time := State.journal_within .time rfl
@[simp] theorem State.journal_gnss {items : List WriteItem} {s : State} : (State.journal items s).gnss = s.gnss := State.journal_within .gnss rfl
@[simp] theorem State.journal_reference {items : List WriteItem} {s : State} : (State.journal items s).reference = s.reference := State.journal_within .reference rfl
@[simp] theorem State.journal_settings {items : List WriteItem} {s : State} : (State.journal items s).settings = s.settings := State.journal_within .settings rfl
@[simp] theorem State.journal_lanes {items : List WriteItem} {s : State} : (State.journal items s).lanes = s.lanes := State.journal_within .lanes rfl
@[simp] theorem State.journal_routes {items : List WriteItem} {s : State} : (State.journal items s).routes = s.routes := State.journal_within .routes rfl
@[simp] theorem State.journal_guests {items : List WriteItem} {s : State} : (State.journal items s).guests = s.guests := State.journal_within .guests rfl
@[simp] theorem State.journal_ledger {items : List WriteItem} {s : State} : (State.journal items s).ledger = s.ledger := State.journal_within .ledger rfl
@[simp] theorem State.journal_halt {items : List WriteItem} {s : State} : (State.journal items s).halt = s.halt := State.journal_within .halt rfl
@[simp] theorem State.journal_air {items : List WriteItem} {s : State} : (State.journal items s).air = s.air := State.journal_within .air rfl
@[simp] theorem State.journal_airLanes {items : List WriteItem} {s : State} : (State.journal items s).airLanes = s.airLanes := State.journal_within .airLanes rfl
@[simp] theorem State.journal_pair {items : List WriteItem} {s : State} : (State.journal items s).pair = s.pair := State.journal_within .pair rfl
@[simp] theorem State.journal_due {items : List WriteItem} {s : State} : (State.journal items s).due = s.due := State.journal_within .due rfl
@[simp] theorem State.journal_cells {items : List WriteItem} {s : State} : (State.journal items s).cells = s.cells := State.journal_within .cells rfl
@[simp] theorem State.journal_checkpoint {items : List WriteItem} {s : State} : (State.journal items s).checkpoint = s.checkpoint := State.journal_within .checkpoint rfl
@[simp] theorem State.journal_chain {items : List WriteItem} {s : State} : (State.journal items s).chain = s.chain := State.journal_within .chain rfl
@[simp] theorem State.journal_keys {items : List WriteItem} {s : State} : (State.journal items s).keys = s.keys := State.journal_within .keys rfl
@[simp] theorem State.journal_disp {items : List WriteItem} {s : State} : (State.journal items s).disp = s.disp := State.journal_within .disp rfl
@[simp] theorem State.journal_lamps {items : List WriteItem} {s : State} : (State.journal items s).lamps = s.lamps := State.journal_within .lamps rfl
@[simp] theorem State.journal_power {items : List WriteItem} {s : State} : (State.journal items s).power = s.power := State.journal_within .power rfl
@[simp] theorem State.journal_tap {items : List WriteItem} {s : State} : (State.journal items s).tap = s.tap := State.journal_within .tap rfl
@[simp] theorem State.journal_shown {items : List WriteItem} {s : State} : (State.journal items s).shown = s.shown := State.journal_within .shown rfl
@[simp] theorem State.journal_pending {items : List WriteItem} {s : State} : (State.journal items s).pending = s.pending := State.journal_within .pending rfl

/-! ### State.sourcesChanged -/

@[simp] theorem State.sourcesChanged_clock {s : State} : (State.sourcesChanged s).clock = s.clock := State.sourcesChanged_within .clock rfl
@[simp] theorem State.sourcesChanged_time {s : State} : (State.sourcesChanged s).time = s.time := State.sourcesChanged_within .time rfl
@[simp] theorem State.sourcesChanged_gnss {s : State} : (State.sourcesChanged s).gnss = s.gnss := State.sourcesChanged_within .gnss rfl
@[simp] theorem State.sourcesChanged_update {s : State} : (State.sourcesChanged s).update = s.update := State.sourcesChanged_within .update rfl
@[simp] theorem State.sourcesChanged_reference {s : State} : (State.sourcesChanged s).reference = s.reference := State.sourcesChanged_within .reference rfl
@[simp] theorem State.sourcesChanged_settings {s : State} : (State.sourcesChanged s).settings = s.settings := State.sourcesChanged_within .settings rfl
@[simp] theorem State.sourcesChanged_routes {s : State} : (State.sourcesChanged s).routes = s.routes := State.sourcesChanged_within .routes rfl
@[simp] theorem State.sourcesChanged_guests {s : State} : (State.sourcesChanged s).guests = s.guests := State.sourcesChanged_within .guests rfl
@[simp] theorem State.sourcesChanged_ledger {s : State} : (State.sourcesChanged s).ledger = s.ledger := State.sourcesChanged_within .ledger rfl
@[simp] theorem State.sourcesChanged_airLanes {s : State} : (State.sourcesChanged s).airLanes = s.airLanes := State.sourcesChanged_within .airLanes rfl
@[simp] theorem State.sourcesChanged_due {s : State} : (State.sourcesChanged s).due = s.due := State.sourcesChanged_within .due rfl
@[simp] theorem State.sourcesChanged_cells {s : State} : (State.sourcesChanged s).cells = s.cells := State.sourcesChanged_within .cells rfl
@[simp] theorem State.sourcesChanged_checkpoint {s : State} : (State.sourcesChanged s).checkpoint = s.checkpoint := State.sourcesChanged_within .checkpoint rfl
@[simp] theorem State.sourcesChanged_chain {s : State} : (State.sourcesChanged s).chain = s.chain := State.sourcesChanged_within .chain rfl
@[simp] theorem State.sourcesChanged_keys {s : State} : (State.sourcesChanged s).keys = s.keys := State.sourcesChanged_within .keys rfl
@[simp] theorem State.sourcesChanged_disp {s : State} : (State.sourcesChanged s).disp = s.disp := State.sourcesChanged_within .disp rfl
@[simp] theorem State.sourcesChanged_lamps {s : State} : (State.sourcesChanged s).lamps = s.lamps := State.sourcesChanged_within .lamps rfl
@[simp] theorem State.sourcesChanged_power {s : State} : (State.sourcesChanged s).power = s.power := State.sourcesChanged_within .power rfl
@[simp] theorem State.sourcesChanged_tap {s : State} : (State.sourcesChanged s).tap = s.tap := State.sourcesChanged_within .tap rfl
@[simp] theorem State.sourcesChanged_shown {s : State} : (State.sourcesChanged s).shown = s.shown := State.sourcesChanged_within .shown rfl
@[simp] theorem State.sourcesChanged_pending {s : State} : (State.sourcesChanged s).pending = s.pending := State.sourcesChanged_within .pending rfl

/-! ### State.releaseReader -/

@[simp] theorem State.releaseReader_clock {reader : U32} {s : State} : (State.releaseReader reader s).clock = s.clock := State.releaseReader_within .clock rfl
@[simp] theorem State.releaseReader_time {reader : U32} {s : State} : (State.releaseReader reader s).time = s.time := State.releaseReader_within .time rfl
@[simp] theorem State.releaseReader_gnss {reader : U32} {s : State} : (State.releaseReader reader s).gnss = s.gnss := State.releaseReader_within .gnss rfl
@[simp] theorem State.releaseReader_update {reader : U32} {s : State} : (State.releaseReader reader s).update = s.update := State.releaseReader_within .update rfl
@[simp] theorem State.releaseReader_reference {reader : U32} {s : State} : (State.releaseReader reader s).reference = s.reference := State.releaseReader_within .reference rfl
@[simp] theorem State.releaseReader_settings {reader : U32} {s : State} : (State.releaseReader reader s).settings = s.settings := State.releaseReader_within .settings rfl
@[simp] theorem State.releaseReader_lanes {reader : U32} {s : State} : (State.releaseReader reader s).lanes = s.lanes := State.releaseReader_within .lanes rfl
@[simp] theorem State.releaseReader_routes {reader : U32} {s : State} : (State.releaseReader reader s).routes = s.routes := State.releaseReader_within .routes rfl
@[simp] theorem State.releaseReader_guests {reader : U32} {s : State} : (State.releaseReader reader s).guests = s.guests := State.releaseReader_within .guests rfl
@[simp] theorem State.releaseReader_ledger {reader : U32} {s : State} : (State.releaseReader reader s).ledger = s.ledger := State.releaseReader_within .ledger rfl
@[simp] theorem State.releaseReader_halt {reader : U32} {s : State} : (State.releaseReader reader s).halt = s.halt := State.releaseReader_within .halt rfl
@[simp] theorem State.releaseReader_air {reader : U32} {s : State} : (State.releaseReader reader s).air = s.air := State.releaseReader_within .air rfl
@[simp] theorem State.releaseReader_airLanes {reader : U32} {s : State} : (State.releaseReader reader s).airLanes = s.airLanes := State.releaseReader_within .airLanes rfl
@[simp] theorem State.releaseReader_pair {reader : U32} {s : State} : (State.releaseReader reader s).pair = s.pair := State.releaseReader_within .pair rfl
@[simp] theorem State.releaseReader_due {reader : U32} {s : State} : (State.releaseReader reader s).due = s.due := State.releaseReader_within .due rfl
@[simp] theorem State.releaseReader_cells {reader : U32} {s : State} : (State.releaseReader reader s).cells = s.cells := State.releaseReader_within .cells rfl
@[simp] theorem State.releaseReader_checkpoint {reader : U32} {s : State} : (State.releaseReader reader s).checkpoint = s.checkpoint := State.releaseReader_within .checkpoint rfl
@[simp] theorem State.releaseReader_chain {reader : U32} {s : State} : (State.releaseReader reader s).chain = s.chain := State.releaseReader_within .chain rfl
@[simp] theorem State.releaseReader_keys {reader : U32} {s : State} : (State.releaseReader reader s).keys = s.keys := State.releaseReader_within .keys rfl
@[simp] theorem State.releaseReader_disp {reader : U32} {s : State} : (State.releaseReader reader s).disp = s.disp := State.releaseReader_within .disp rfl
@[simp] theorem State.releaseReader_counters {reader : U32} {s : State} : (State.releaseReader reader s).counters = s.counters := State.releaseReader_within .counters rfl
@[simp] theorem State.releaseReader_trip {reader : U32} {s : State} : (State.releaseReader reader s).trip = s.trip := State.releaseReader_within .trip rfl
@[simp] theorem State.releaseReader_panel {reader : U32} {s : State} : (State.releaseReader reader s).panel = s.panel := State.releaseReader_within .panel rfl
@[simp] theorem State.releaseReader_lamps {reader : U32} {s : State} : (State.releaseReader reader s).lamps = s.lamps := State.releaseReader_within .lamps rfl
@[simp] theorem State.releaseReader_power {reader : U32} {s : State} : (State.releaseReader reader s).power = s.power := State.releaseReader_within .power rfl
@[simp] theorem State.releaseReader_tap {reader : U32} {s : State} : (State.releaseReader reader s).tap = s.tap := State.releaseReader_within .tap rfl
@[simp] theorem State.releaseReader_shown {reader : U32} {s : State} : (State.releaseReader reader s).shown = s.shown := State.releaseReader_within .shown rfl
@[simp] theorem State.releaseReader_pending {reader : U32} {s : State} : (State.releaseReader reader s).pending = s.pending := State.releaseReader_within .pending rfl

/-! ### State.pushTelemetry -/

@[simp] theorem State.pushTelemetry_clock {typ : ℕ} {lane : ℕ} {body : Bytes} {s : State} : (State.pushTelemetry typ lane body s).clock = s.clock := State.pushTelemetry_within .clock rfl
@[simp] theorem State.pushTelemetry_time {typ : ℕ} {lane : ℕ} {body : Bytes} {s : State} : (State.pushTelemetry typ lane body s).time = s.time := State.pushTelemetry_within .time rfl
@[simp] theorem State.pushTelemetry_gnss {typ : ℕ} {lane : ℕ} {body : Bytes} {s : State} : (State.pushTelemetry typ lane body s).gnss = s.gnss := State.pushTelemetry_within .gnss rfl
@[simp] theorem State.pushTelemetry_update {typ : ℕ} {lane : ℕ} {body : Bytes} {s : State} : (State.pushTelemetry typ lane body s).update = s.update := State.pushTelemetry_within .update rfl
@[simp] theorem State.pushTelemetry_reference {typ : ℕ} {lane : ℕ} {body : Bytes} {s : State} : (State.pushTelemetry typ lane body s).reference = s.reference := State.pushTelemetry_within .reference rfl
@[simp] theorem State.pushTelemetry_settings {typ : ℕ} {lane : ℕ} {body : Bytes} {s : State} : (State.pushTelemetry typ lane body s).settings = s.settings := State.pushTelemetry_within .settings rfl
@[simp] theorem State.pushTelemetry_lanes {typ : ℕ} {lane : ℕ} {body : Bytes} {s : State} : (State.pushTelemetry typ lane body s).lanes = s.lanes := State.pushTelemetry_within .lanes rfl
@[simp] theorem State.pushTelemetry_routes {typ : ℕ} {lane : ℕ} {body : Bytes} {s : State} : (State.pushTelemetry typ lane body s).routes = s.routes := State.pushTelemetry_within .routes rfl
@[simp] theorem State.pushTelemetry_guests {typ : ℕ} {lane : ℕ} {body : Bytes} {s : State} : (State.pushTelemetry typ lane body s).guests = s.guests := State.pushTelemetry_within .guests rfl
@[simp] theorem State.pushTelemetry_ledger {typ : ℕ} {lane : ℕ} {body : Bytes} {s : State} : (State.pushTelemetry typ lane body s).ledger = s.ledger := State.pushTelemetry_within .ledger rfl
@[simp] theorem State.pushTelemetry_halt {typ : ℕ} {lane : ℕ} {body : Bytes} {s : State} : (State.pushTelemetry typ lane body s).halt = s.halt := State.pushTelemetry_within .halt rfl
@[simp] theorem State.pushTelemetry_air {typ : ℕ} {lane : ℕ} {body : Bytes} {s : State} : (State.pushTelemetry typ lane body s).air = s.air := State.pushTelemetry_within .air rfl
@[simp] theorem State.pushTelemetry_airLanes {typ : ℕ} {lane : ℕ} {body : Bytes} {s : State} : (State.pushTelemetry typ lane body s).airLanes = s.airLanes := State.pushTelemetry_within .airLanes rfl
@[simp] theorem State.pushTelemetry_pair {typ : ℕ} {lane : ℕ} {body : Bytes} {s : State} : (State.pushTelemetry typ lane body s).pair = s.pair := State.pushTelemetry_within .pair rfl
@[simp] theorem State.pushTelemetry_due {typ : ℕ} {lane : ℕ} {body : Bytes} {s : State} : (State.pushTelemetry typ lane body s).due = s.due := State.pushTelemetry_within .due rfl
@[simp] theorem State.pushTelemetry_cells {typ : ℕ} {lane : ℕ} {body : Bytes} {s : State} : (State.pushTelemetry typ lane body s).cells = s.cells := State.pushTelemetry_within .cells rfl
@[simp] theorem State.pushTelemetry_checkpoint {typ : ℕ} {lane : ℕ} {body : Bytes} {s : State} : (State.pushTelemetry typ lane body s).checkpoint = s.checkpoint := State.pushTelemetry_within .checkpoint rfl
@[simp] theorem State.pushTelemetry_chain {typ : ℕ} {lane : ℕ} {body : Bytes} {s : State} : (State.pushTelemetry typ lane body s).chain = s.chain := State.pushTelemetry_within .chain rfl
@[simp] theorem State.pushTelemetry_keys {typ : ℕ} {lane : ℕ} {body : Bytes} {s : State} : (State.pushTelemetry typ lane body s).keys = s.keys := State.pushTelemetry_within .keys rfl
@[simp] theorem State.pushTelemetry_disp {typ : ℕ} {lane : ℕ} {body : Bytes} {s : State} : (State.pushTelemetry typ lane body s).disp = s.disp := State.pushTelemetry_within .disp rfl
@[simp] theorem State.pushTelemetry_lamps {typ : ℕ} {lane : ℕ} {body : Bytes} {s : State} : (State.pushTelemetry typ lane body s).lamps = s.lamps := State.pushTelemetry_within .lamps rfl
@[simp] theorem State.pushTelemetry_power {typ : ℕ} {lane : ℕ} {body : Bytes} {s : State} : (State.pushTelemetry typ lane body s).power = s.power := State.pushTelemetry_within .power rfl
@[simp] theorem State.pushTelemetry_tap {typ : ℕ} {lane : ℕ} {body : Bytes} {s : State} : (State.pushTelemetry typ lane body s).tap = s.tap := State.pushTelemetry_within .tap rfl
@[simp] theorem State.pushTelemetry_shown {typ : ℕ} {lane : ℕ} {body : Bytes} {s : State} : (State.pushTelemetry typ lane body s).shown = s.shown := State.pushTelemetry_within .shown rfl
@[simp] theorem State.pushTelemetry_pending {typ : ℕ} {lane : ℕ} {body : Bytes} {s : State} : (State.pushTelemetry typ lane body s).pending = s.pending := State.pushTelemetry_within .pending rfl

end Sys2Proof.Machine
end

