-- ==== Sys2Proof/Laws/Lamps.lean ====
section
/-! SUPPORT. What each operation of Machine/Lamps.lean may change: the parts listed, what goes out, and the free values drawn. -/

namespace Sys2Proof.Machine

theorem State.startLampTest_within {s : State} : Within [Part.lamps] s (State.startLampTest s) :=
  within_lamps rfl

theorem State.setHealth_within {c : ℕ} {h : ℕ} {s : State} : Within [Part.lamps, .access, .counters, .trip, .panel] s
    (State.setHealth c h s) := by
  unfold State.setHealth
  refine Within.ite ?_ ?_
  · exact Within.refl _ _
  · refine Within.after ?_ State.raise_within rfl
    exact within_lamps rfl

theorem State.measured_within {c : ℕ} {op : Bool} {sh : Bool} {s : State} : Within [Part.lamps, .access, .counters, .trip,
    .panel] s (State.measured c op sh s) := by
  unfold State.measured
  refine Within.ite ?_ ?_
  · exact Within.refl _ _
  · refine Within.after ?_ State.setHealth_within rfl
    exact within_lamps rfl

theorem State.driverStatus_within {s : State} {p : ℕ × DriverStatus} : Within [Part.lamps, .access, .counters, .trip,
    .panel] s (State.driverStatus s p) := by
  unfold State.driverStatus
  refine Within.foldl (fun _ _ => ?_) ?_
  · refine Within.ite ?_ ?_
    · exact State.measured_within.mono rfl
    · exact Within.refl _ _
  · refine Within.ite ?_ ?_
    · refine Within.after ?_ State.raise_within rfl
      exact within_lamps rfl
    · refine Within.ite ?_ ?_
      · refine Within.after ?_ State.raise_within rfl
        exact within_lamps rfl
      · exact within_lamps rfl

theorem State.followClaim_within {s : State} {c : ℕ} : Within [Part.lamps, .access, .counters, .trip, .panel] s
    (State.followClaim s c) := by
  unfold State.followClaim
  dsimp only
  split
  · refine Within.trans ?_ (within_lamps rfl)
    exact State.setHealth_within.mono rfl
  · refine Within.ite ?_ ?_
    · exact State.setHealth_within.mono rfl
    · exact Within.refl _ _

theorem State.lampFrame_within {s : State} : Within [Part.lamps, .access, .counters, .trip, .panel] s (State.lampFrame s) :=
    by
  unfold State.lampFrame
  refine Within.after ?_ State.emit_within rfl
  refine Within.trans ?_ (within_lamps rfl)
  refine Within.foldl (fun _ _ => ?_) ?_
  · exact within_lamps rfl
  · refine Within.foldl (fun _ _ => ?_) ?_
    · exact within_lamps rfl
    · refine Within.foldl (fun _ _ => ?_) ?_
      · exact State.followClaim_within.mono rfl
      · exact Within.refl _ _

theorem State.lampLate_within {s : State} : Within [Part.lamps] s (State.lampLate s) :=
  within_lamps rfl

theorem lampReturn_within {b : Bytes} {s : State} : Within [Part.lamps, .access, .counters, .trip, .panel] s (lampReturn b
    s) := by
  unfold lampReturn
  split
  · refine Within.ite ?_ ?_
    · refine Within.after ?_ State.raise_within rfl
      exact within_lamps rfl
    · exact within_lamps rfl
  · refine Within.foldl (fun _ _ => ?_) ?_
    · exact State.driverStatus_within.mono rfl
    · refine Within.ite ?_ ?_
      · refine Within.after ?_ State.raise_within rfl
        exact within_lamps rfl
      · exact within_lamps rfl

theorem execLampReturn_within {start count : ℕ} {shares statuses : Bytes} {s : State} : Within.post [Part.lamps, .access,
    .counters, .trip, .panel] s (execLampReturn start count shares statuses s) := by
  unfold execLampReturn
  refine Within.ite ?_ ?_
  · refine Within.after ?_ lampReturn_within rfl
    exact State.begin_within.mono rfl
  · exact State.begin_within.mono rfl

theorem healthTimeout_within {c : ℕ} {s : State} : Within [Part.lamps, .access, .counters, .trip, .panel] s (healthTimeout c
    s) := by
  unfold healthTimeout
  refine Within.ite ?_ ?_
  · exact Within.refl _ _
  · refine Within.ite ?_ ?_
    · exact State.setHealth_within.mono rfl
    · refine Within.ite ?_ ?_
      · exact State.setHealth_within.mono rfl
      · exact Within.refl _ _

theorem execChannelHealthTimeout_within {channel : ℕ} {s : State} : Within.post [Part.lamps, .access, .counters, .trip,
    .panel] s (execChannelHealthTimeout channel s) := by
  unfold execChannelHealthTimeout
  refine Within.ite ?_ ?_
  · refine Within.after ?_ healthTimeout_within rfl
    exact State.begin_within.mono rfl
  · exact State.begin_within.mono rfl

theorem lampTestEnd_within {s : State} : Within [Part.lamps] s (lampTestEnd s) := by
  unfold lampTestEnd
  refine Within.ite ?_ ?_
  · exact within_lamps rfl
  · exact Within.refl _ _

theorem execLampTestEnd_within {s : State} : Within.post [Part.lamps] s (execLampTestEnd s) := by
  unfold execLampTestEnd
  refine Within.ite ?_ ?_
  · refine Within.after ?_ lampTestEnd_within rfl
    exact State.begin_within.mono rfl
  · exact State.begin_within.mono rfl

end Sys2Proof.Machine
end

