-- ==== Sys2Proof/Laws/Panel.lean ====
section
/-! SUPPORT. What each operation of Machine/Panel.lean may change: the parts listed, what goes out, and the free values drawn. -/

namespace Sys2Proof.Machine

theorem State.acknowledge_within {s : State} : Within [Part.access] s (State.acknowledge s) :=
  within_access rfl

theorem State.toggleEngine_within {p : ℕ} {s : State} : Within [Part.panel] s (State.toggleEngine p s) :=
  within_panel rfl

theorem State.silence_within {s : State} : Within [Part.access, .panel] s (State.silence s) := by
  unfold State.silence
  refine Within.after ?_ State.sound_within rfl
  exact within_access rfl

theorem State.assigned_within {k : ℕ} {code : ℕ} {s : State} : Within [Part.access, .counters, .trip, .panel, .lamps] s
    (State.assigned k code s) := by
  unfold State.assigned
  refine Within.ite ?_ ?_
  · exact State.raise_within.mono rfl
  · refine Within.ite ?_ ?_
    · exact State.toggleEngine_within.mono rfl
    · split
      · exact State.acknowledge_within.mono rfl
      · exact State.startLampTest_within.mono rfl
      · exact State.silence_within.mono rfl
      · exact Within.refl _ _

theorem State.onContactChannel_within {c : ℕ} {f : Channel → Channel} {s : State} : Within [Part.panel] s
    (State.onContactChannel c f s) :=
  within_panel rfl

theorem State.onContact_within {k : ℕ} {f : Contact → Contact} {s : State} : Within [Part.panel] s (State.onContact k f s)
    :=
  within_panel rfl

theorem State.latchFault_within {kind : ℕ} {channel : ℕ} {k : ℕ} {s : State} : Within [Part.panel, .access, .counters,
    .trip] s (State.latchFault kind channel k s) := by
  unfold State.latchFault
  refine Within.ite ?_ ?_
  · exact Within.refl _ _
  · refine Within.after ?_ State.raise_within rfl
    exact State.onContact_within.mono rfl

theorem State.contactSample_within {k : ℕ} {a : Bool} {b : Bool} {s : State} : Within [Part.panel, .access, .counters,
    .trip] s (State.contactSample k a b s) := by
  unfold State.contactSample
  refine Within.ite ?_ ?_
  · refine Within.after ?_ State.latchFault_within rfl
    refine Within.ite ?_ ?_
    · refine Within.after ?_ State.raise_within rfl
      refine Within.after ?_ State.onContact_within rfl
      refine Within.after ?_ State.onContact_within rfl
      refine Within.after ?_ State.onContactChannel_within rfl
      exact State.onContactChannel_within.mono rfl
    · refine Within.after ?_ State.onContact_within rfl
      refine Within.after ?_ State.onContactChannel_within rfl
      exact State.onContactChannel_within.mono rfl
  · refine Within.ite ?_ ?_
    · refine Within.after ?_ State.raise_within rfl
      refine Within.after ?_ State.onContact_within rfl
      refine Within.after ?_ State.onContact_within rfl
      refine Within.after ?_ State.onContactChannel_within rfl
      exact State.onContactChannel_within.mono rfl
    · refine Within.after ?_ State.onContact_within rfl
      refine Within.after ?_ State.onContactChannel_within rfl
      exact State.onContactChannel_within.mono rfl

theorem State.contactSource_within {k : ℕ} {s : State} : Within [Part.halt] s (State.contactSource k s) := by
  unfold State.contactSource
  refine Within.ite ?_ ?_
  · exact within_halt rfl (fun h => h)
  · exact within_halt rfl (fun h => h)

theorem State.contactSources_within {s : State} : Within [Part.halt, .air, .access, .counters, .trip, .panel, .lanes, .pair]
    s (State.contactSources s) := by
  unfold State.contactSources
  refine Within.ite ?_ ?_
  · refine Within.after ?_ State.contactSource_within rfl
    exact State.contactSource_within.mono rfl
  · refine Within.after ?_ State.sourcesChanged_within rfl
    refine Within.after ?_ State.contactSource_within rfl
    exact State.contactSource_within.mono rfl

theorem State.contactSlice_within {e : SliceEnv} {s : State} : Within [Part.panel, .access, .counters, .trip, .halt, .air,
    .lanes, .pair] s (State.contactSlice e s) := by
  unfold State.contactSlice
  refine Within.after ?_ State.contactSources_within rfl
  refine Within.after ?_ State.contactSample_within rfl
  exact State.contactSample_within.mono rfl

theorem State.keyTouched_within {s : State} {k : ℕ} : Within [Part.access, .lamps, .panel, .counters, .trip] s
    (State.keyTouched s k) := by
  unfold State.keyTouched
  split
  · exact State.acknowledge_within.mono rfl
  · exact Within.refl _ _
  · exact State.startLampTest_within.mono rfl
  · exact State.silence_within.mono rfl
  · exact State.assigned_within.mono rfl

theorem State.onTouchKey_within {k : ℕ} {f : TouchKey → TouchKey} {s : State} : Within [Part.panel] s (State.onTouchKey k f
    s) :=
  within_panel rfl

theorem State.plugRemoved_within {s : State} : Within [Part.update, .access] s (State.plugRemoved s) := by
  unfold State.plugRemoved
  refine Within.after ?_ State.releaseReader_within rfl
  intro p hp
  cases p <;> first | rfl | exact Power.sameSupply_refl _ | exact Power.sameReadiness_refl _ | exact State.sameSchedule_refl _ | exact Keys.sameCustody_refl _ |
    exact absurd hp (by decide) | exact id


theorem contactTestPulse_within {channel : ℕ} {low : List Bool} {s : State} : Within [Part.panel, .access, .counters, .trip,
    .halt, .air, .lanes, .pair] s (contactTestPulse channel low s) := by
  unfold contactTestPulse
  refine Within.ite ?_ ?_
  · exact Within.refl _ _
  · refine Within.after ?_ State.contactSources_within rfl
    refine Within.foldl (fun _ _ => ?_) ?_
    · exact State.latchFault_within.mono rfl
    · refine Within.ite ?_ ?_
      · refine Within.after ?_ State.onContactChannel_within rfl
        exact State.emit_within.mono rfl
      · refine Within.after ?_ State.latchFault_within rfl
        exact State.emit_within.mono rfl

theorem execContactTestPulse_within {channel : ℕ} {low : List Bool} {s : State} : Within.post [Part.panel, .access,
    .counters, .trip, .halt, .air, .lanes, .pair] s (execContactTestPulse channel low s) := by
  unfold execContactTestPulse
  refine running_within (fun _ => ?_) ?_ rfl
  · exact contactTestPulse_within.mono rfl
  · exact Within.refl _ _

theorem servicePlugChange_within {present : Bool} {run : ℕ} {s : State} : Within [Part.panel, .update, .access, .counters,
    .trip] s (servicePlugChange present run s) := by
  unfold servicePlugChange
  refine Within.ite ?_ ?_
  · exact Within.refl _ _
  · refine Within.ite ?_ ?_
    · refine Within.after ?_ State.raise_within rfl
      refine Within.ite ?_ ?_
      · exact within_panel rfl
      · refine Within.after ?_ State.plugRemoved_within rfl
        exact within_panel rfl
    · refine Within.ite ?_ ?_
      · exact within_panel rfl
      · refine Within.after ?_ State.plugRemoved_within rfl
        exact within_panel rfl

theorem execServicePlugChange_within {present : Bool} {run : ℕ} {s : State} : Within.post [Part.panel, .update, .access,
    .counters, .trip] s (execServicePlugChange present run s) := by
  unfold execServicePlugChange
  refine Within.ite ?_ ?_
  · refine Within.after ?_ servicePlugChange_within rfl
    exact State.begin_within.mono rfl
  · exact State.begin_within.mono rfl

theorem touchScan_within {levels : List ℕ} {s : State} : Within [Part.panel, .access, .counters, .trip, .lamps] s (touchScan
    levels s) := by
  unfold touchScan
  refine Within.ite ?_ ?_
  · refine Within.after ?_ State.raise_within rfl
    refine Within.trans ?_ (within_panel rfl)
    exact within_panel rfl
  · refine Within.ite ?_ ?_
    · exact within_panel rfl
    · refine Within.foldl (fun _ _ => ?_) ?_
      · exact State.keyTouched_within.mono rfl
      · exact within_panel rfl

theorem execTouchScan_within {levels : List ℕ} {s : State} : Within.post [Part.panel, .access, .counters, .trip, .lamps] s
    (execTouchScan levels s) := by
  unfold execTouchScan
  refine running_within (fun _ => ?_) ?_ rfl
  · exact touchScan_within.mono rfl
  · exact Within.refl _ _

theorem keysWetEnd_within {s : State} : Within [Part.panel] s (keysWetEnd s) := by
  unfold keysWetEnd
  refine Within.ite ?_ ?_
  · exact within_panel rfl
  · exact Within.refl _ _

theorem execKeysWetEnd_within {s : State} : Within.post [Part.panel] s (execKeysWetEnd s) := by
  unfold execKeysWetEnd
  refine running_within (fun _ => ?_) ?_ rfl
  · exact keysWetEnd_within.mono rfl
  · exact Within.refl _ _

theorem keyStuck_within {k : ℕ} {s : State} : Within [Part.panel, .access, .counters, .trip] s (keyStuck k s) := by
  unfold keyStuck
  refine Within.ite ?_ ?_
  · refine Within.after ?_ State.raise_within rfl
    exact State.onTouchKey_within.mono rfl
  · exact Within.refl _ _

theorem execKeyStuck_within {key : ℕ} {s : State} : Within.post [Part.panel, .access, .counters, .trip] s (execKeyStuck key
    s) := by
  unfold execKeyStuck
  refine running_within (fun _ => ?_) ?_ rfl
  · exact keyStuck_within.mono rfl
  · exact Within.refl _ _

theorem wakeRisingEdge_within {s : State} : Within [Part.panel, .access, .counters, .trip] s (wakeRisingEdge s) := by
  unfold wakeRisingEdge
  refine Within.after ?_ State.raise_within rfl
  refine Within.after ?_ State.draw_within rfl
  exact within_panel rfl

theorem execWakeRisingEdge_within {s : State} : Within.post [Part.panel, .access, .counters, .trip] s (execWakeRisingEdge s)
    := by
  unfold execWakeRisingEdge
  refine running_within (fun _ => ?_) ?_ rfl
  · exact wakeRisingEdge_within.mono rfl
  · exact Within.refl _ _

end Sys2Proof.Machine
end

