-- ==== Sys2Proof/Laws/Deciding.lean ====
section
/-! SUPPORT. What a decision of the halt chain does to records and IDs. -/

namespace Sys2Proof.Machine

theorem coded1 : coded 1 = 0xFE01 := by decide
theorem lane_same_onLane (m : Nat) (f : Lane → Lane) (s : State) : (s.onLane m f).lane m = f (s.lane m) := by
  simp [State.onLane, State.setLane, State.lane]
theorem lane_other_onLane {m n : Nat} {f : Lane → Lane} {s : State} (h : n ≠ m) (hv : f (s.lane m) ≠ {}) : (s.onLane m f).lane n = s.lane n := by
  simp only [State.onLane, State.setLane, State.lane]
  exact tget_tput_other _ h hv
theorem setRecord_one (j k : Nat) (s : State) : (s.setRecord j 1).haltRecord k = if k = j then coded 1 else s.haltRecord k := by
  match j, k with
  | 0, 0 => rfl
  | 0, 1 => rfl
  | 0, m + 2 => rfl
  | 1, 0 => rfl
  | 1, 1 => rfl
  | 1, m + 2 => simp; rfl
  | n + 2, 0 => rfl
  | n + 2, 1 => simp; rfl
  | n + 2, m + 2 =>
    simp only [State.setRecord, State.haltRecord, Nat.add_right_cancel_iff]
    split
    · rename_i h; rw [h, lane_same_onLane]
    · rename_i h
      rw [lane_other_onLane h]
      intro e
      have : coded 1 = 0xFF00 := congrArg Lane.haltRecord e
      exact absurd this (by decide)
theorem setRecord_lane (j m : Nat) (s : State) : ((s.setRecord j 1).lane m) = s.lane m ∨ ((s.setRecord j 1).lane m) = { s.lane m with haltRecord := coded 1 } := by
  match j with
  | 0 => exact .inl rfl
  | 1 => exact .inl rfl
  | n + 2 =>
    by_cases h : m = n
    · subst h; right; exact lane_same_onLane _ _ _
    · left
      refine lane_other_onLane h ?_
      intro e
      have : coded 1 = 0xFF00 := congrArg Lane.haltRecord e
      exact absurd this (by decide)
theorem fold_set (l : List Nat) (s : State) : (∀ k, (l.foldl (fun (t : State) k => t.setRecord k 1) s).haltRecord k = if k ∈ l then coded 1 else s.haltRecord k) ∧
    (∀ m, ((l.foldl (fun (t : State) k => t.setRecord k 1) s).lane m) = s.lane m ∨ ((l.foldl (fun (t : State) k => t.setRecord k 1) s).lane m) = { s.lane m with haltRecord := coded 1 }) := by
  induction l generalizing s with
  | nil => exact ⟨fun k => by simp, fun m => .inl rfl⟩
  | cons x l ih =>
    obtain ⟨i1, i2⟩ := ih (s.setRecord x 1)
    refine ⟨fun k => ?_, fun m => ?_⟩
    · rw [List.foldl_cons, i1, setRecord_one]
      by_cases h : k ∈ l
      · simp [h]
      · by_cases h' : k = x <;> simp [h, h']
    · rw [List.foldl_cons]
      rcases i2 m with a | a <;> rcases setRecord_lane x m s with b | b <;> rw [a, b]
      · exact .inl rfl
      · exact .inr rfl
      · exact .inr rfl
      · exact .inr rfl
structure Keeps (s t : State) : Prop where
  lanes : t.lanes = s.lanes
  site : t.halt.site = s.halt.site
  cell : t.halt.cell = s.halt.cell
  hostCell : t.halt.hostCell = s.halt.hostCell
  hostSite : t.halt.hostSite = s.halt.hostSite
  haltId : t.halt.haltId = s.halt.haltId
  decided : t.halt.decided = s.halt.decided
  silent : t.halt.silent = s.halt.silent
theorem Keeps.of {s t : State} (h : t.halt = s.halt) (g : t.lanes = s.lanes) : Keeps s t := by
  constructor <;> simp only [h, g]
theorem Keeps.trans {s t u : State} (h : Keeps s t) (g : Keeps t u) : Keeps s u :=
  ⟨g.1.trans h.1, g.2.trans h.2, g.3.trans h.3, g.4.trans h.4, g.5.trans h.5, g.6.trans h.6, g.7.trans h.7, g.8.trans h.8⟩
theorem Keeps.of_within {l : List Part} {s t : State} (h : Within l s t) (h1 : l.contains .halt = false) (h2 : l.contains .lanes = false) : Keeps s t :=
  Keeps.of (h .halt h1) (h .lanes h2)
theorem Keeps.record {s t : State} (h : Keeps s t) (k : Nat) : t.haltRecord k = s.haltRecord k := by
  match k with
  | 0 => exact h.site
  | 1 => exact h.cell
  | m + 2 => unfold State.haltRecord State.lane; simp only [h.lanes]
theorem Keeps.lane {s t : State} (h : Keeps s t) (k : Nat) : t.lane k = s.lane k := by unfold State.lane; rw [h.lanes]
theorem driveLine_keeps (s : State) : Keeps s s.driveLine := by
  unfold State.driveLine
  dsimp only
  by_cases h : (s.halt.silent || decide ((s.ownSite && s.cfgOn 0x2202 7) = s.halt.driving)) = true
  · rw [if_pos (by simpa using h)]; exact Keeps.of rfl rfl
  · rw [if_neg (by simpa using h)]; exact ⟨rfl, rfl, rfl, rfl, rfl, rfl, rfl, rfl⟩
theorem codeOf_one {v : U16} (h : recordCode v = 1) : v = coded 1 := by
  unfold recordCode at h
  cases hc : codeOf v with
  | none => rw [hc] at h; cases h
  | some c =>
    rw [hc] at h
    simp only [Option.getD_some] at h
    subst h
    unfold codeOf at hc
    split at hc
    · rename_i hv
      simp only [Option.some.injEq] at hc
      rw [hc] at hv; exact hv
    · cases hc
theorem samples_within (l : List Nat) (k : Nat) (s : State) : Within [Part.trip] s (l.foldl (fun (t : State) j => t.haltSample (recordLane j) k) s) :=
  Within.foldl (fun _ _ => State.haltSample_within.mono rfl) (Within.refl _ _)
def active (s : State) : List Nat := s.records.filter (fun k => s.recordActive k && recordCode (s.haltRecord k) ≠ 1)
theorem decideHalt_spec (s : State) :
    ∃ u : State, (∀ k, u.haltRecord k = if k ∈ active s then coded 1 else s.haltRecord k) ∧
      (∀ m, u.lane m = s.lane m ∨ u.lane m = { s.lane m with haltRecord := coded 1 }) ∧
      u.halt.hostCell = s.halt.hostCell ∧ u.halt.hostSite = s.halt.hostSite ∧
      (s.decideHalt).lanes = u.lanes ∧ s.decideHalt.halt.site = u.halt.site ∧ s.decideHalt.halt.cell = u.halt.cell ∧
      s.decideHalt.halt.hostCell = u.halt.hostCell ∧ s.decideHalt.halt.hostSite = u.halt.hostSite ∧
      ((∃ k ∈ active s, recordCode (s.haltRecord k) = 0) → s.decideHalt.halt.haltId = s.halt.haltId + 1 ∧ s.decideHalt.halt.decided = s.halt.decided + 1) ∧
      (¬ (∃ k ∈ active s, recordCode (s.haltRecord k) = 0) → s.decideHalt.halt.haltId = s.halt.haltId ∧ s.decideHalt.halt.decided = s.halt.decided) := by
  have hset := fold_set (active s) s
  have hk : ∀ l : List Nat, ∀ s : State, (l.foldl (fun (t : State) k => t.setRecord k 1) s).halt.hostCell = s.halt.hostCell ∧ 
     (l.foldl (fun (t : State) k => t.setRecord k 1) s).halt.hostSite = s.halt.hostSite ∧ (l.foldl (fun (t : State) k => t.setRecord k 1) s).halt.haltId = s.halt.haltId ∧ (l.foldl (fun (t : State) k => t.setRecord k 1) s).halt.decided = s.halt.decided := by
    intro l
    induction l with
    | nil => exact fun s => ⟨rfl, rfl, rfl, rfl⟩
    | cons x l ih =>
      intro s
      rw [List.foldl_cons]
      obtain ⟨a, b, c, d⟩ := ih (s.setRecord x 1)
      rw [a, b, c, d]
      match x with
      | 0 => exact ⟨rfl, rfl, rfl, rfl⟩
      | 1 => exact ⟨rfl, rfl, rfl, rfl⟩
      | m + 2 => exact ⟨rfl, rfl, rfl, rfl⟩
  have hk := hk (active s) s
  unfold State.decideHalt
  dsimp only
  rw [show (s.records.filter (fun k => s.recordActive k && decide (recordCode (s.haltRecord k) ≠ 1))) = active s from rfl]
  generalize (active s).foldl (fun (t : State) k => t.setRecord k 1) s = u at hset hk
  refine ⟨u, hset.1, hset.2, hk.1, hk.2.1, ?_⟩
  have hd := driveLine_keeps { u with halt := { u.halt with half := u.halt.half.filter (fun h => !((active s).any (fun x => decide (x = h.1)))) } }
  generalize State.driveLine _ = v at hd
  have hv : Keeps u v := ⟨hd.1, hd.2, hd.3, hd.4, hd.5, hd.6, hd.7, hd.8⟩
  by_cases he : (active s).isEmpty = true
  · rw [if_pos he]
    have : ¬ ∃ k ∈ active s, recordCode (s.haltRecord k) = 0 := by
      rintro ⟨k, hk, _⟩
      rw [List.isEmpty_iff.mp he] at hk
      cases hk
    exact ⟨hv.1, hv.2, hv.3, hv.4, hv.5, fun h => absurd h this, fun _ => ⟨hv.6.trans hk.2.2.1, hv.7.trans hk.2.2.2⟩⟩
  · rw [if_neg he]
    by_cases hf : ((active s).filter (fun k => recordCode (s.haltRecord k) = 0)).isEmpty = true
    · rw [if_pos hf]
      have : ¬ ∃ k ∈ active s, recordCode (s.haltRecord k) = 0 := by
        rintro ⟨k, hk, h0⟩
        have := List.mem_filter (p := fun k => decide (recordCode (s.haltRecord k) = 0)).mpr ⟨hk, decide_eq_true h0⟩
        rw [List.isEmpty_iff.mp hf] at this
        cases this
      have hw : Keeps v _ := Keeps.of_within (State.sendHalt_within (lanes := ((active s).filterMap (fun k => if k < 2 then none else some (k - 2)))) (decisions := [])) rfl rfl
      have hx := Keeps.of_within (samples_within (active s) 0 (State.sendHalt ((active s).filterMap (fun k => if k < 2 then none else some (k - 2))) [] v)) rfl rfl
      have h := hv.trans (hw.trans hx)
      exact ⟨h.1, h.2, h.3, h.4, h.5, fun h => absurd h this, fun _ => ⟨h.6.trans hk.2.2.1, h.7.trans hk.2.2.2⟩⟩
    · rw [if_neg hf]
      have : ∃ k ∈ active s, recordCode (s.haltRecord k) = 0 := by
        obtain ⟨k, hk⟩ := List.exists_mem_of_ne_nil _ (fun h => hf (List.isEmpty_iff.mpr h))
        have := List.mem_filter.mp hk
        exact ⟨k, this.1, of_decide_eq_true this.2⟩
      have tail : ∀ (X : State) (a b e : List Nat) (c : List RemoteDecision) (d : List Nat), Keeps X ((active s).foldl (fun (t : State) k => t.haltSample (recordLane k) 0)
          (d.foldl (fun (t : State) k => t.trigger 0 t.now (recordLane k)) (((X.sendHalt a c).sendFirstHalt e).oweHalt b))) := by
        intro X a b e c d
        refine Keeps.of_within (l := [.pair, .air, .counters, .trip, .access, .panel]) ?_ rfl rfl
        refine Within.trans ?_ ((samples_within _ _ _).mono rfl)
        refine Within.foldl (fun _ _ => State.trigger_within.mono rfl) ?_
        exact (((State.sendHalt_within.mono rfl).after State.sendFirstHalt_within rfl).after State.oweHalt_within rfl)
      refine ⟨?_, ?_, ?_, ?_, ?_, fun _ => ?_, fun h => absurd this h⟩
      · rw [(tail ..).1]; exact hv.1
      · rw [(tail ..).2]; exact hv.2
      · rw [(tail ..).3]; exact hv.3
      · rw [(tail ..).4]; exact hv.4
      · rw [(tail ..).5]; exact hv.5
      · rw [(tail ..).6, (tail ..).7]
        refine ⟨?_, ?_⟩
        · show v.halt.haltId + 1 = _
          rw [hv.6, hk.2.2.1]
        · show v.halt.decided + 1 = _
          rw [hv.7, hk.2.2.2]
theorem checkRecords_ok {s : State} (h : ∀ k ∈ s.records, (codeOf (s.haltRecord k)).isSome) : s.checkRecords = s := by
  unfold State.checkRecords
  rw [if_neg]
  intro hh
  obtain ⟨k, hk, hn⟩ := List.any_eq_true.mp hh
  have := h k hk
  rw [Option.isNone_iff_eq_none.mp hn] at this
  cases this
theorem sourcesChanged_spec {s : State} (hs : s.halt.silent = false) (h : ∀ k ∈ s.records, (codeOf (s.haltRecord k)).isSome) :
    Keeps s.decideHalt s.sourcesChanged := by
  unfold State.sourcesChanged State.haltDecision
  rw [checkRecords_ok h]
  simp only [hs, Bool.false_eq_true, if_false]
  have hd := driveLine_keeps s.decideHalt
  split
  · exact hd
  · exact hd.trans (Keeps.of_within (State.sendHalt_within (lanes := []) (decisions := [])) rfl rfl)
theorem answer_within' (s : State) (r : Req) (a : Answer) : Within [.access, .update] s (s.answer r a) := State.answer_within

/-- After a change of sources every record whose source is active is IN_FORCE. -/
theorem sourcesChanged_active {s : State} {k : Nat} (hs : s.halt.silent = false)
    (h : ∀ k ∈ s.records, (codeOf (s.haltRecord k)).isSome) (hk : k ∈ s.records) (ha : s.recordActive k = true) :
    s.sourcesChanged.haltRecord k = coded 1 := by
  obtain ⟨x, x1, x2, x3, x4, d1, d2, d3, d4, d5, d6, d7⟩ := decideHalt_spec s
  rw [(sourcesChanged_spec hs h).record]
  have : s.decideHalt.haltRecord k = x.haltRecord k := by
    match k with
    | 0 => exact d2
    | 1 => exact d3
    | m + 2 => unfold State.haltRecord State.lane; simp only [d1]
  rw [this, x1]
  by_cases hn : k ∈ active s
  · rw [if_pos hn]
  · rw [if_neg hn]
    apply codeOf_one
    by_contra hc
    exact hn (List.mem_filter.mpr ⟨hk, by simp [ha, hc]⟩)

theorem Panel.butSounder_of {a b : Panel} (h : b = a) : a.butSounder b := h ▸ Panel.butSounder_refl _
theorem butSounder_ite {p : Panel} {c : Prop} [Decidable c] {a b : State} (h : p.butSounder a.panel) (g : p.butSounder b.panel) : p.butSounder (if c then a else b).panel := by
  split <;> assumption
theorem raise_but {p : Panel} {c l r n k : Nat} {x : Bytes} {s : State} (h : s.panel = p) : p.butSounder (s.raise c l r n k x).panel := h ▸ State.raise_panel ..
theorem addDuty_panel (us : Nat) (s : State) : s.panel.butSounder (s.addDuty us).panel := by
  unfold State.addDuty
  exact butSounder_ite (raise_but rfl) (Panel.butSounder_of rfl)
theorem cutVerge_panel (s : State) : s.panel.butSounder s.cutVerge.panel := by
  unfold State.cutVerge
  split
  · exact Panel.butSounder_refl _
  · refine Panel.butSounder_trans ?_ (addDuty_panel _ _)
    refine Panel.butSounder_of ?_
    exact State.linesClose_within .panel rfl
theorem fallSilent_panel (c : Nat) (s : State) : s.panel.butSounder (s.fallSilent c).panel := by
  unfold State.fallSilent
  refine butSounder_ite (Panel.butSounder_refl _) ?_
  refine Panel.butSounder_trans ?_ (State.raise_panel ..)
  show s.panel.butSounder (State.cutVerge { s with halt := { s.halt with silent := true } }).panel
  exact cutVerge_panel { s with halt := { s.halt with silent := true } }
theorem sendFirstHalt_panel (l : List Nat) (s : State) : s.panel.butSounder (s.sendFirstHalt l).panel := by
  unfold State.sendFirstHalt
  refine butSounder_ite ?_ (Panel.butSounder_refl _)
  rw [show (State.beginVerge 9 (s.vergeHalt 0 l) s.cutVerge).panel = s.cutVerge.panel from State.beginVerge_within .panel rfl]
  exact cutVerge_panel _
theorem fold_set_panel (l : List Nat) (s : State) : (l.foldl (fun (t : State) k => t.setRecord k 1) s).panel = s.panel :=
  (Within.foldl (fun _ _ => State.setRecord_within.mono rfl) (Within.refl [.halt, .lanes] s) : Within [.halt, .lanes] s _) .panel rfl
theorem decideHalt_panel (s : State) : s.panel.butSounder s.decideHalt.panel := by
  unfold State.decideHalt
  have hf := fold_set_panel
  have hd : ∀ u : State, u.driveLine.panel = u.panel := fun u => State.driveLine_within .panel rfl
  have hs : ∀ (l : List Nat) (k : Nat) (u : State), (l.foldl (fun (t : State) j => t.haltSample (recordLane j) k) u).panel = u.panel := fun l k u => samples_within l k u .panel rfl
  have ht : ∀ (l : List Nat) (u : State), (l.foldl (fun (t : State) k => t.trigger 0 t.now (recordLane k)) u).panel = u.panel :=
    fun l u => (Within.foldl (fun _ _ => State.trigger_within.mono rfl) (Within.refl [.trip] u) : Within [.trip] u _) .panel rfl
  have hh : ∀ (a : List Nat) (b : List RemoteDecision) (u : State), (u.sendHalt a b).panel = u.panel := fun a b u => State.sendHalt_within .panel rfl
  refine butSounder_ite ?_ (butSounder_ite ?_ ?_)
  · refine Panel.butSounder_of ?_
    rw [hd]
    exact hf _ _
  · refine Panel.butSounder_of ?_
    rw [hs, hh, hd]
    exact hf _ _
  · rw [hs, ht]
    refine Panel.butSounder_trans ?_ (sendFirstHalt_panel _ _)
    rw [hh]
    refine Panel.butSounder_of ?_
    exact (hd _).trans (hf _ _)
theorem checkRecords_panel (s : State) : s.panel.butSounder s.checkRecords.panel := by
  unfold State.checkRecords
  exact butSounder_ite (fallSilent_panel _ _) (Panel.butSounder_refl _)
theorem sourcesChanged_panel (s : State) : s.panel.butSounder s.sourcesChanged.panel := by
  have h1 : s.panel.butSounder s.haltDecision.panel := by
    unfold State.haltDecision
    refine butSounder_ite (Panel.butSounder_refl _) (butSounder_ite (checkRecords_panel _) ?_)
    exact Panel.butSounder_trans (checkRecords_panel _) (decideHalt_panel _)
  unfold State.sourcesChanged
  refine butSounder_ite (Panel.butSounder_refl _) (butSounder_ite ?_ ?_)
  · rw [show (State.driveLine _).panel = _ from State.driveLine_within .panel rfl]; exact h1
  · rw [show (State.sendHalt _ _ _).panel = _ from State.sendHalt_within .panel rfl, show (State.driveLine _).panel = _ from State.driveLine_within .panel rfl]; exact h1

def Halt.contacts (h : Halt) : Bool × Bool := (h.contact1, h.contact2)
theorem driveLine_contacts (s : State) : s.driveLine.halt.contacts = s.halt.contacts := by
  unfold State.driveLine
  exact State.ite_same (fun u => u.halt.contacts) rfl rfl
theorem fallSilent_contacts (c : Nat) (s : State) : (s.fallSilent c).halt.contacts = s.halt.contacts := by
  unfold State.fallSilent
  refine State.ite_same (fun u => u.halt.contacts) rfl ?_
  rw [State.raise_halt]
  show (State.cutVerge _).halt.contacts = _
  rw [show (State.cutVerge _).halt = _ from State.cutVerge_within .halt rfl]
  rfl
theorem set_contacts (l : List Nat) (s : State) : (l.foldl (fun (t : State) k => t.setRecord k 1) s).halt.contacts = s.halt.contacts := by
  induction l generalizing s with
  | nil => rfl
  | cons k l ih =>
    rw [List.foldl_cons, ih]
    match k with | 0 => rfl | 1 => rfl | m + 2 => rfl
theorem decideHalt_contacts (s : State) : s.decideHalt.halt.contacts = s.halt.contacts := by
  unfold State.decideHalt
  have hs : ∀ (l : List Nat) (k : Nat) (u : State), (l.foldl (fun (t : State) j => t.haltSample (recordLane j) k) u).halt = u.halt := fun l k u => samples_within l k u .halt rfl
  have ht : ∀ (l : List Nat) (u : State), (l.foldl (fun (t : State) k => t.trigger 0 t.now (recordLane k)) u).halt = u.halt :=
    fun l u => (Within.foldl (fun _ _ => State.trigger_within.mono rfl) (Within.refl [.trip] u) : Within [.trip] u _) .halt rfl
  have hh : ∀ (a : List Nat) (b : List RemoteDecision) (u : State), (u.sendHalt a b).halt = u.halt := fun a b u => State.sendHalt_within .halt rfl
  have hf : ∀ (a : List Nat) (u : State), (u.sendFirstHalt a).halt = u.halt := fun a u => State.sendFirstHalt_within .halt rfl
  have ho : ∀ (a : List Nat) (u : State), (u.oweHalt a).halt = u.halt := fun a u => State.oweHalt_within .halt rfl
  refine State.ite_same (fun u => u.halt.contacts) ?_ (State.ite_same (fun u => u.halt.contacts) ?_ ?_)
  · exact (driveLine_contacts _).trans (set_contacts _ _)
  · rw [hs, hh]; exact (driveLine_contacts _).trans (set_contacts _ _)
  · rw [hs, ht, ho, hf, hh]; exact (driveLine_contacts _).trans (set_contacts _ _)
theorem sourcesChanged_contacts (s : State) : s.sourcesChanged.halt.contacts = s.halt.contacts := by
  have h1 : s.haltDecision.halt.contacts = s.halt.contacts := by
    unfold State.haltDecision State.checkRecords
    have : (if (s.records.any fun k => (codeOf (s.haltRecord k)).isNone) = true then s.fallSilent 1 else s).halt.contacts = s.halt.contacts :=
      State.ite_same (fun u => u.halt.contacts) (fallSilent_contacts _ _) rfl
    refine State.ite_same (fun u => u.halt.contacts) rfl (State.ite_same (fun u => u.halt.contacts) this ?_)
    rw [decideHalt_contacts]; exact this
  unfold State.sourcesChanged
  refine State.ite_same (fun u => u.halt.contacts) rfl (State.ite_same (fun u => u.halt.contacts) ?_ ?_)
  · rw [driveLine_contacts]; exact h1
  · rw [show (State.sendHalt _ _ _).halt = _ from State.sendHalt_within .halt rfl, driveLine_contacts]; exact h1

theorem contactSources_spec (s : State) : s.panel.butSounder s.contactSources.panel ∧ 
   (s.contactSources).halt.contacts = ((s.contactSource 1).contactSource 2).halt.contacts := by
  unfold State.contactSources
  have hp : ((s.contactSource 1).contactSource 2).panel = s.panel := rfl
  dsimp only
  split
  · exact ⟨Panel.butSounder_of hp, rfl⟩
  · refine ⟨?_, sourcesChanged_contacts _⟩
    have := sourcesChanged_panel ((s.contactSource 1).contactSource 2)
    rw [hp] at this
    exact this
theorem contactSources_fault (s : State) (k : Nat) (hk : k = 1 ∨ k = 2) (hf : (s.contact k).fault = true) : s.contactSources.contactActive k = true := by
  have h := (contactSources_spec s).2
  unfold State.contactActive
  rcases hk with rfl | rfl
  · have h1 := congrArg Prod.fst h
    show s.contactSources.halt.contact1 = true
    have : ((s.contactSource 1).contactSource 2).halt.contact1 = true := by
      show (_ || (s.contact 1).fault || _) = true
      rw [hf]; simp
    exact h1.trans this
  · have h1 := congrArg Prod.snd h
    show s.contactSources.halt.contact2 = true
    have : ((s.contactSource 1).contactSource 2).halt.contact2 = true := by
      show (_ || (s.contact 2).fault || _) = true
      rw [hf]; simp
    exact h1.trans this
theorem contact_congr {s t : State} (h : s.panel.butSounder t.panel) (k : Nat) : t.contact k = s.contact k ∧ t.contactChannel k = s.contactChannel k := by
  obtain ⟨b, h⟩ := h
  unfold State.contact State.contactChannel
  rw [h]; exact ⟨rfl, rfl⟩
theorem latchFault_spec (a b k : Nat) (s : State) : ((s.latchFault a b k).contact k).fault = true ∧ 
   (∀ j, (s.contact j).fault = true → ((s.latchFault a b k).contact j).fault = true) ∧ (∀ c, (s.latchFault a b k).contactChannel c = s.contactChannel c) := by
  unfold State.latchFault
  by_cases h : (s.contact k).fault = true
  · rw [if_pos h]; exact ⟨h, fun _ => id, fun _ => rfl⟩
  · rw [if_neg h]
    dsimp only
    have hr := fun j => contact_congr (State.raise_panel 0x1901 2 7 0xFF k (le 1 k ++ le 1 a ++ le 1 b ++ le 1 0) (s.onContact k (fun x => { x with fault := true, openTogether := 0, closedTogether := 0, opened := false }))) j
    have hs : (s.onContact k (fun x => { x with fault := true, openTogether := 0, closedTogether := 0, opened := false })).contact k = { s.contact k with fault := true, openTogether := 0, closedTogether := 0, opened := false } := by
      simp [State.onContact, State.contact]
    refine ⟨by rw [(hr k).1, hs], fun j hj => ?_, fun c => by rw [(hr c).2]; rfl⟩
    rw [(hr j).1]
    by_cases hjk : j = k
    · rw [hjk, hs]
    · have : (s.onContact k (fun x => { x with fault := true, openTogether := 0, closedTogether := 0, opened := false })).contact j = s.contact j := by
        simp only [State.onContact, State.contact]
        exact tget_tput_other _ hjk (by simp)
      rw [this]; exact hj
theorem latches (f : Nat → Nat) (l : List Nat) (s : State) : 
   (∀ j, (s.contact j).fault = true → ((l.foldl (fun (t : State) d => t.latchFault 3 (d % 2) (f d)) s).contact j).fault = true) ∧
   (∀ d ∈ l, ((l.foldl (fun (t : State) d => t.latchFault 3 (d % 2) (f d)) s).contact (f d)).fault = true) ∧
   (∀ c, (l.foldl (fun (t : State) d => t.latchFault 3 (d % 2) (f d)) s).contactChannel c = s.contactChannel c) := by
  induction l generalizing s with
  | nil => exact ⟨fun _ => id, nofun, fun _ => rfl⟩
  | cons x l ih =>
    obtain ⟨i1, i2, i3⟩ := ih (s.latchFault 3 (x % 2) (f x))
    obtain ⟨h1, h2, h3⟩ := latchFault_spec 3 (x % 2) (f x) s
    rw [List.foldl_cons]
    refine ⟨fun j h => i1 j (h2 j h), fun d hd => ?_, fun c => (i3 c).trans (h3 c)⟩
    rcases List.mem_cons.mp hd with rfl | hd
    · exact i1 _ h1
    · exact i2 d hd
theorem contactOf_12 {c : Nat} (h : c < 4) : contactOf c = 1 ∨ contactOf c = 2 := by unfold contactOf; omega

end Sys2Proof.Machine
end

