-- ==== Sys2Proof/Laws/Commit.lean ====
section
/-! SUPPORT. What each operation of Machine/Commit.lean may change: the parts listed, what goes out, and the free values drawn. -/

namespace Sys2Proof.Machine

theorem State.settle_within {k : ℕ} {v : ℤ} {s : State} : Within [Part.settings] s (State.settle k v s) :=
  within_settings rfl

theorem State.undo_within {p : Plan} {s : State} : Within [Part.settings, .gnss, .counters, .access] s (State.undo p s) := by
  unfold State.undo
  dsimp only
  split
  · refine Within.foldl (fun _ _ => ?_) ?_
    · exact within_settings rfl
    · exact Within.refl _ _
  · refine Within.foldl (fun _ _ => ?_) ?_
    · exact State.settle_within.mono rfl
    · exact Within.refl _ _
  · refine Within.foldl (fun _ _ => ?_) ?_
    · exact State.put_within.mono rfl
    · refine Within.foldl (fun _ _ => ?_) ?_
      · exact within_settings rfl
      · exact Within.refl _ _
  · exact Within.refl _ _

theorem State.report_within {p : Plan} {result : ℕ} {s : State} : Within [Part.access, .counters, .trip, .panel, .lanes,
    .ledger] s (State.report p result s) := by
  unfold State.report
  refine Within.ite ?_ ?_
  · refine Within.after ?_ State.trigger_within rfl
    refine Within.trans ?_ (within_ledger rfl)
    refine Within.ite ?_ ?_
    · refine Within.after ?_ State.onLane_within rfl
      refine Within.after ?_ State.tripSample_within rfl
      exact State.raise_within.mono rfl
    · refine Within.after ?_ State.tripSample_within rfl
      exact State.raise_within.mono rfl
  · refine Within.ite ?_ ?_
    · refine Within.after ?_ State.trigger_within rfl
      refine Within.trans ?_ (within_ledger rfl)
      refine Within.ite ?_ ?_
      · refine Within.after ?_ State.onLane_within rfl
        refine Within.after ?_ State.tripSample_within rfl
        exact State.raise_within.mono rfl
      · refine Within.after ?_ State.tripSample_within rfl
        exact State.raise_within.mono rfl
    · refine Within.trans ?_ (within_ledger rfl)
      refine Within.ite ?_ ?_
      · refine Within.after ?_ State.onLane_within rfl
        refine Within.after ?_ State.tripSample_within rfl
        exact State.raise_within.mono rfl
      · refine Within.after ?_ State.tripSample_within rfl
        exact State.raise_within.mono rfl

theorem State.failPlan_within {p : Plan} {result : ℕ} {s : State} : Within [Part.access, .counters, .trip, .panel, .lanes,
    .ledger, .settings, .gnss, .update] s (State.failPlan p result s) := by
  unfold State.failPlan
  refine Within.ite ?_ ?_
  · split
    · refine Within.after ?_ State.raise_within rfl
      refine Within.after ?_ State.undo_within rfl
      split
      · exact Within.refl _ _
      · exact State.report_within.mono rfl
    · refine Within.ite ?_ ?_
      · refine Within.after ?_ State.undo_within rfl
        split
        · exact Within.refl _ _
        · exact State.report_within.mono rfl
      · refine Within.after ?_ State.raise_within rfl
        refine Within.after ?_ State.undo_within rfl
        split
        · exact Within.refl _ _
        · exact State.report_within.mono rfl
    · refine Within.after ?_ State.undo_within rfl
      split
      · exact Within.refl _ _
      · exact State.report_within.mono rfl
  · refine Within.after ?_ State.answerOpt_within rfl
    split
    · refine Within.after ?_ State.raise_within rfl
      refine Within.after ?_ State.undo_within rfl
      split
      · exact Within.refl _ _
      · exact State.report_within.mono rfl
    · refine Within.ite ?_ ?_
      · refine Within.after ?_ State.undo_within rfl
        split
        · exact Within.refl _ _
        · exact State.report_within.mono rfl
      · refine Within.after ?_ State.raise_within rfl
        refine Within.after ?_ State.undo_within rfl
        split
        · exact Within.refl _ _
        · exact State.report_within.mono rfl
    · refine Within.after ?_ State.undo_within rfl
      split
      · exact Within.refl _ _
      · exact State.report_within.mono rfl

theorem State.takeDue_within {s : State} {c : DueWhat → Bool} : Within [Part.due] s (State.takeDue s c).2 := by
  unfold State.takeDue
  refine Within.snd_mk ?_
  exact within_due rfl

theorem State.answerCommands_within {s : State} : Within [Part.due, .lanes, .access, .counters, .trip, .panel, .checkpoint,
    .airLanes, .routes, .update] s (State.answerCommands s) := by
  unfold State.answerCommands
  refine Within.foldl (fun _ _ => ?_) ?_
  · split
    · refine Within.after ?_ State.answerOpt_within rfl
      exact State.laneCommand_within.mono rfl
    · refine Within.after ?_ State.answerOpt_within rfl
      exact State.cancelLane_within.mono rfl
    · exact Within.refl _ _
  · exact State.takeDue_within.mono rfl

theorem State.haltSteps_within {s : State} : Within [Part.halt, .air, .access, .counters, .trip, .panel, .lanes, .routes,
    .ledger, .update] s (State.haltSteps s) := by
  unfold State.haltSteps
  refine Within.ite ?_ ?_
  · exact Within.refl _ _
  · refine Within.foldl (fun _ _ => ?_) ?_
    · exact State.clearHalt_within.mono rfl
    · refine Within.after ?_ State.resumeRecords_within rfl
      refine Within.foldl (fun _ _ => ?_) ?_
      · exact State.applyHalt_within.mono rfl
      · refine Within.after ?_ State.restoreRecords_within rfl
        exact State.checkRecords_within.mono rfl

theorem State.handoverFails_within {n : ℕ} {s : State} : Within [Part.lanes, .access, .counters, .trip, .panel, .cells] s
    (State.handoverFails n s) := by
  unfold State.handoverFails
  dsimp only
  split
  · refine Within.after ?_ State.withdraw_within rfl
    refine Within.trans ?_ (within_cells rfl)
    refine Within.after ?_ State.raise_within rfl
    exact State.transition_within.mono rfl
  · refine Within.trans ?_ (within_cells rfl)
    refine Within.after ?_ State.raise_within rfl
    exact State.transition_within.mono rfl

theorem State.handoverStep_within {s : State} : Within [Part.due, .lanes, .access, .counters, .trip, .panel, .checkpoint,
    .airLanes, .routes, .cells, .keys] s (State.handoverStep s) := by
  unfold State.handoverStep
  refine Within.foldl (fun _ _ => ?_) ?_
  · refine Within.ite ?_ ?_
    · exact Within.refl _ _
    · split
      · dsimp only
        split
        · refine Within.trans ?_ (within_cells rfl)
          refine Within.after ?_ State.sendCell_within rfl
          refine Within.trans ?_ (within_cells rfl)
          refine Within.after ?_ State.onLane_within rfl
          exact State.closeLane_within.mono rfl
        · refine Within.trans ?_ (within_cells rfl)
          refine Within.after ?_ State.onLane_within rfl
          exact State.closeLane_within.mono rfl
      · exact State.handoverFails_within.mono rfl
  · exact State.takeDue_within.mono rfl

theorem State.selfStopStep_within {s : State} : Within [Part.due, .lanes, .access, .counters, .trip, .panel, .routes,
    .ledger] s (State.selfStopStep s) := by
  unfold State.selfStopStep
  refine Within.foldl (fun _ _ => ?_) ?_
  · split
    · exact State.applySelfStop_within.mono rfl
    · exact Within.refl _ _
  · exact State.takeDue_within.mono rfl

theorem State.commitGuest_within {p : Plan} {pair : ℕ} {remote : U32} {border : U32} {handover : U32} {commit : U32} {s :
    State} : Within [Part.lanes, .guests, .routes, .keys, .access, .counters, .trip, .panel, .ledger] s (State.commitGuest p
    pair remote border handover commit s) := by
  unfold State.commitGuest
  refine Within.after ?_ State.report_within rfl
  refine Within.after ?_ State.sendCell_within rfl
  refine Within.after ?_ State.onRoute_within rfl
  refine Within.trans ?_ (within_guests rfl)
  exact State.onLane_within.mono rfl

theorem State.deferLimit_within {p : Plan} {s : State} : Within [Part.routes, .access, .counters, .trip, .panel, .lanes,
    .ledger, .update] s (State.deferLimit p s) := by
  unfold State.deferLimit
  refine Within.ite ?_ ?_
  · refine Within.after ?_ State.raise_within rfl
    refine Within.after ?_ State.report_within rfl
    exact State.onRoute_within.mono rfl
  · refine Within.after ?_ State.answerOpt_within rfl
    refine Within.after ?_ State.journal_within rfl
    refine Within.after ?_ State.raise_within rfl
    refine Within.after ?_ State.report_within rfl
    exact State.onRoute_within.mono rfl

theorem State.committedRoute_within {s : State} {p : Plan} {cut : Bool} : Within [Part.routes] s (State.committedRoute s p
    cut) :=
  State.onRoute_within.mono rfl

theorem State.commitTransition_within {p : Plan} {s : State} : Within [Part.lanes, .access, .counters, .trip, .panel] s
    (State.commitTransition p s) := by
  unfold State.commitTransition
  split
  · refine Within.ite ?_ ?_
    · exact State.transition_within.mono rfl
    · exact Within.refl _ _
  · exact State.transition_within.mono rfl
  · exact State.transition_within.mono rfl
  · exact Within.refl _ _

theorem State.commitLane_within {p : Plan} {cut : Bool} {s : State} : Within [Part.cells, .routes, .lanes, .access,
    .counters, .trip, .panel, .ledger, .update] s (State.commitLane p cut s) := by
  unfold State.commitLane
  refine Within.ite ?_ ?_
  · refine Within.ite ?_ ?_
    · refine Within.after ?_ State.raise_within rfl
      refine Within.after ?_ State.report_within rfl
      refine Within.after ?_ State.commitTransition_within rfl
      refine Within.after ?_ State.onLane_within rfl
      refine Within.after ?_ State.committedRoute_within rfl
      split
      · exact State.withdraw_within.mono rfl
      · exact Within.refl _ _
    · refine Within.after ?_ State.report_within rfl
      refine Within.after ?_ State.commitTransition_within rfl
      refine Within.after ?_ State.onLane_within rfl
      refine Within.after ?_ State.committedRoute_within rfl
      split
      · exact State.withdraw_within.mono rfl
      · exact Within.refl _ _
  · refine Within.after ?_ State.answerOpt_within rfl
    refine Within.after ?_ State.journal_within rfl
    refine Within.ite ?_ ?_
    · refine Within.after ?_ State.raise_within rfl
      refine Within.after ?_ State.report_within rfl
      refine Within.after ?_ State.commitTransition_within rfl
      refine Within.after ?_ State.onLane_within rfl
      refine Within.after ?_ State.committedRoute_within rfl
      split
      · exact State.withdraw_within.mono rfl
      · exact Within.refl _ _
    · refine Within.after ?_ State.report_within rfl
      refine Within.after ?_ State.commitTransition_within rfl
      refine Within.after ?_ State.onLane_within rfl
      refine Within.after ?_ State.committedRoute_within rfl
      split
      · exact State.withdraw_within.mono rfl
      · exact Within.refl _ _

theorem State.commitPlan_within {p : Plan} {s : State} : Within [Part.settings, .access, .counters, .trip, .panel, .lanes,
    .ledger, .update, .guests, .routes, .keys, .cells] s (State.commitPlan p s) := by
  unfold State.commitPlan
  split
  · refine Within.ite ?_ ?_
    · refine Within.after ?_ State.report_within rfl
      refine Within.foldl (fun _ _ => ?_) ?_
      · exact State.settle_within.mono rfl
      · exact Within.refl _ _
    · refine Within.after ?_ State.answerOpt_within rfl
      refine Within.after ?_ State.journal_within rfl
      refine Within.after ?_ State.report_within rfl
      refine Within.foldl (fun _ _ => ?_) ?_
      · exact State.settle_within.mono rfl
      · exact Within.refl _ _
  · refine Within.ite ?_ ?_
    · refine Within.foldl (fun _ _ => ?_) ?_
      · exact State.settle_within.mono rfl
      · exact Within.refl _ _
    · refine Within.after ?_ State.journal_within rfl
      refine Within.foldl (fun _ _ => ?_) ?_
      · exact State.settle_within.mono rfl
      · exact Within.refl _ _
  · exact State.commitGuest_within.mono rfl
  · refine Within.ite ?_ ?_
    · exact State.deferLimit_within.mono rfl
    · exact State.commitLane_within.mono rfl

theorem State.timeOut_within {n : ℕ} {s : State} : Within [Part.lanes, .access, .counters, .trip, .panel, .checkpoint,
    .airLanes, .routes] s (State.timeOut n s) := by
  unfold State.timeOut
  split
  · refine Within.ite ?_ ?_
    · exact State.closeLane_within.mono rfl
    · exact Within.refl _ _
  · exact Within.refl _ _

theorem State.completeStep_within {s : State} : Within [Part.lanes, .access, .counters, .trip, .panel, .checkpoint,
    .airLanes, .routes, .due] s (State.completeStep s) := by
  unfold State.completeStep
  refine Within.foldl (fun _ _ => ?_) ?_
  · exact State.timeOut_within.mono rfl
  · refine Within.after ?_ State.takeDue_within rfl
    refine Within.foldl (fun _ _ => ?_) ?_
    · exact State.complete_within.mono rfl
    · exact Within.refl _ _

theorem State.commandStep_within {s : State} : Within [Part.due, .lanes, .access, .counters, .trip, .panel, .checkpoint,
    .airLanes, .routes, .update] s (State.commandStep s) := by
  unfold State.commandStep
  refine Within.foldl (fun t d => ?_) ((State.answerCommands_within.mono rfl).after State.takeDue_within rfl)
  cases d.what <;> dsimp only
  case keyAck => exact State.onLane_within.mono rfl
  case releaseAck => exact State.onLane_within.mono rfl
  case admission =>
    refine Within.ite ?_ (State.onAirLane_within.mono rfl)
    refine Within.after ?_ State.deliverKeys_within rfl
    refine Within.after ?_ State.onAirLane_within rfl
    refine Within.after ?_ State.onLane_within rfl
    exact (State.openLane_within.mono rfl).after State.transition_within rfl
  all_goals exact Within.refl _ _


theorem State.resolveFirst_within {all : List Plan} {s : State} {p : Plan} : Within [Part.cells, .access, .update,
    .counters, .trip, .panel, .lanes, .ledger, .settings, .gnss, .keys, .guests, .routes] s (State.resolveFirst all s p) :=
    by
  unfold State.resolveFirst
  refine Within.ite ?_ ?_
  · refine Within.ite ?_ ?_
    · refine Within.after ?_ State.report_within rfl
      exact State.answerSuperseded_within.mono rfl
    · refine Within.after ?_ State.report_within rfl
      exact State.onPlan_within.mono rfl
  · refine Within.ite ?_ ?_
    · refine Within.after ?_ State.failPlan_within rfl
      exact State.raise_within.mono rfl
    · refine Within.ite ?_ ?_
      · split
        · refine Within.after ?_ State.sendCell_within rfl
          exact State.report_within.mono rfl
        · exact State.failPlan_within.mono rfl
      · refine Within.ite ?_ ?_
        · exact State.failPlan_within.mono rfl
        · split
          · exact State.failPlan_within.mono rfl
          · refine Within.ite ?_ ?_
            · exact State.commitPlan_within.mono rfl
            · exact State.failPlan_within.mono rfl

theorem State.resolveWait_within {s : State} {p : Plan} : Within [Part.cells, .access, .counters, .trip, .panel, .lanes,
    .ledger, .settings, .gnss, .update, .routes, .keys, .airLanes] s (State.resolveWait s p) := by
  unfold State.resolveWait
  split
  · exact Within.refl _ _
  · refine Within.ite ?_ ?_
    · refine Within.after ?_ State.failPlan_within rfl
      refine Within.after ?_ State.raise_within rfl
      exact State.withdraw_within.mono rfl
    · refine Within.ite ?_ ?_
      · refine Within.ite ?_ ?_
        · refine Within.after ?_ State.failPlan_within rfl
          exact State.withdraw_within.mono rfl
        · refine Within.ite ?_ ?_
          · refine Within.after ?_ State.failPlan_within rfl
            exact State.withdraw_within.mono rfl
          · refine Within.after ?_ State.tell_within rfl
            refine Within.after ?_ State.sendCell_within rfl
            exact State.commitLane_within.mono rfl
      · refine Within.ite ?_ ?_
        · refine Within.after ?_ State.failPlan_within rfl
          exact State.withdraw_within.mono rfl
        · refine Within.ite ?_ ?_
          · refine Within.after ?_ State.failPlan_within rfl
            exact State.withdraw_within.mono rfl
          · refine Within.ite ?_ ?_
            · refine Within.after ?_ State.failPlan_within rfl
              exact State.withdraw_within.mono rfl
            · refine Within.after ?_ State.commitLane_within rfl
              exact State.withdraw_within.mono rfl

theorem State.commitStep_within {s : State} : Within [Part.cells, .access, .update, .counters, .trip, .panel, .lanes,
    .ledger, .settings, .gnss, .keys, .guests, .routes, .airLanes] s (State.commitStep s) := by
  unfold State.commitStep
  refine Within.trans ?_ (within_ledger rfl)
  refine Within.foldl (fun _ _ => ?_) ?_
  · split
    · exact State.answerOpt_within.mono rfl
    · refine Within.ite ?_ ?_
      · refine Within.after ?_ State.answerOpt_within rfl
        exact State.journal_within.mono rfl
      · exact State.answerOpt_within.mono rfl
  · refine Within.foldl (fun _ _ => ?_) ?_
    · exact State.resolveWait_within.mono rfl
    · refine Within.foldl (fun _ _ => ?_) ?_
      · exact State.resolveFirst_within.mono rfl
      · exact Within.refl _ _

end Sys2Proof.Machine
end

