-- ==== Sys2Proof/Laws/LaneCommands.lean ====
section
/-! SUPPORT. What each operation of Machine/LaneCommands.lean may change: the parts listed, what goes out, and the free values drawn. -/

namespace Sys2Proof.Machine

theorem State.submitRoute_within {lane : ℕ} {route : Bytes} {s : State} : Within [Part.lanes, .access, .counters, .trip,
    .panel, .cells, .update, .ledger, .pair, .routes] s (State.submitRoute lane route s).1 := by
  unfold State.submitRoute
  refine Within.ite_fst ?_ ?_
  · refine Within.after ?_ refuse_within rfl
    exact State.checkLane_within.mono rfl
  · refine Within.after ?_ confirm_within rfl
    refine Within.after ?_ State.acceptPlan_within rfl
    exact State.checkLane_within.mono rfl

theorem State.storeArea_within {a : ℕ} {items : List (ℕ × ℤ)} {s : State} : Within [Part.settings] s (State.storeArea a
    items s) :=
  within_settings rfl

theorem State.changeArea_within {r : Option Req} {a : ℕ} {items : List (ℕ × ℤ)} {s : State} : Within [Part.settings, .pair,
    .counters, .access, .trip, .panel, .update, .cells, .ledger, .routes] s (State.changeArea r a items s).1 := by
  unfold State.changeArea
  refine Within.ite_fst ?_ ?_
  · exact refuse_within.mono rfl
  · split
    · exact refuse_within.mono rfl
    · refine Within.fst_mk ?_
      refine Within.after ?_ State.journal_within rfl
      refine Within.after ?_ State.mirror_within rfl
      exact State.storeArea_within.mono rfl
    · refine Within.fst_mk ?_
      refine Within.after ?_ State.acceptPlan_within rfl
      exact State.storeArea_within.mono rfl

theorem State.storeLimits_within {req : Option Req} {lane : ℕ} {items : List (ℕ × ℤ)} {s : State} : Within [Part.settings,
    .cells, .access, .update, .ledger, .pair, .counters, .routes, .trip, .panel] s (State.storeLimits req lane items s).1 :=
    by
  unfold State.storeLimits
  refine Within.ite_fst ?_ ?_
  · exact refuse_within.mono rfl
  · refine Within.ite_fst ?_ ?_
    · refine Within.fst_mk ?_
      refine Within.after ?_ State.acceptPlan_within rfl
      exact within_settings rfl
    · refine Within.fst_mk ?_
      refine Within.after ?_ State.journal_within rfl
      refine Within.after ?_ State.mirror_within rfl
      exact within_settings rfl

theorem State.changeLimit_within {r : Req} {lane : ℕ} {sub : ℕ} {v : ℤ} {s : State} : Within [Part.lanes, .access,
    .counters, .trip, .panel, .settings, .cells, .update, .ledger, .pair, .routes] s (State.changeLimit r lane sub v s).1 :=
    by
  unfold State.changeLimit
  refine Within.ite_fst ?_ ?_
  · refine Within.after ?_ refuse_within rfl
    exact State.checkLane_within.mono rfl
  · split
    · refine Within.after ?_ refuse_within rfl
      exact State.checkLane_within.mono rfl
    · refine Within.after ?_ State.storeLimits_within rfl
      exact State.checkLane_within.mono rfl

theorem State.orderLane_within {r : Req} {lane : ℕ} {code : ℕ} {s : State} : Within [Part.lanes, .access, .counters, .trip,
    .panel, .due] s (State.orderLane r lane code s).1 := by
  unfold State.orderLane
  refine Within.ite_fst ?_ ?_
  · refine Within.after ?_ refuse_within rfl
    exact State.checkLane_within.mono rfl
  · refine Within.ite_fst ?_ ?_
    · refine Within.after ?_ refuse_within rfl
      exact State.checkLane_within.mono rfl
    · refine Within.ite_fst ?_ ?_
      · refine Within.after ?_ refuse_within rfl
        exact State.checkLane_within.mono rfl
      · refine Within.ite_fst ?_ ?_
        · refine Within.after ?_ refuse_within rfl
          exact State.checkLane_within.mono rfl
        · refine Within.fst_mk ?_
          refine Within.trans ?_ (within_due rfl)
          exact State.checkLane_within.mono rfl

theorem State.routeCommand_within {r : Req} {lane : ℕ} {code : ℕ} {s : State} : Within [Part.lanes, .access, .counters,
    .trip, .panel, .cells, .update, .ledger, .pair, .routes, .due] s (State.routeCommand r lane code s).1 := by
  unfold State.routeCommand
  refine Within.ite_fst ?_ ?_
  · refine Within.after ?_ refuse_within rfl
    exact State.checkLane_within.mono rfl
  · refine Within.ite_fst ?_ ?_
    · refine Within.after ?_ refuse_within rfl
      exact State.checkLane_within.mono rfl
    · refine Within.ite_fst ?_ ?_
      · refine Within.after ?_ refuse_within rfl
        exact State.checkLane_within.mono rfl
      · split
        · refine Within.ite_fst ?_ ?_
          · refine Within.fst_mk ?_
            refine Within.after ?_ State.acceptPlan_within rfl
            exact State.checkLane_within.mono rfl
          · refine Within.after ?_ refuse_within rfl
            exact State.checkLane_within.mono rfl
        · refine Within.ite_fst ?_ ?_
          · refine Within.fst_mk ?_
            refine Within.after ?_ State.acceptPlan_within rfl
            exact State.checkLane_within.mono rfl
          · refine Within.after ?_ refuse_within rfl
            exact State.checkLane_within.mono rfl
        · refine Within.ite_fst ?_ ?_
          · refine Within.fst_mk ?_
            refine Within.trans ?_ (within_due rfl)
            exact State.checkLane_within.mono rfl
          · refine Within.after ?_ refuse_within rfl
            exact State.checkLane_within.mono rfl

theorem closureChange_within {r : Req} {area : ℕ} {writes : List (ℕ × Bytes)} {s : State} : Within [Part.access, .clock,
    .update, .settings, .pair, .counters, .trip, .panel, .cells, .ledger, .routes] s (closureChange r area writes s) := by
  unfold closureChange
  refine State.serve_within (fun _ => ?_) ?_ rfl
  · split
    · exact refuse_within.mono rfl
    · exact State.changeArea_within.mono rfl
  · exact Within.refl _ _

theorem routeSubmit_within {r : Req} {lane : ℕ} {route : Bytes} {s : State} : Within [Part.access, .clock, .update,
    .counters, .panel, .trip, .lanes, .cells, .ledger, .pair, .routes] s (routeSubmit r lane route s) := by
  unfold routeSubmit
  refine State.serveWrite_within (fun _ => ?_) ?_ rfl
  · exact State.submitRoute_within.mono rfl
  · exact Within.refl _ _

theorem execRouteSubmit_within {r : Req} {lane : ℕ} {route : Bytes} {s : State} : Within.post [Part.access, .clock, .update,
    .counters, .panel, .trip, .lanes, .cells, .ledger, .pair, .routes] s (execRouteSubmit r lane route s) := by
  unfold execRouteSubmit
  refine running_within (fun _ => ?_) ?_ rfl
  · exact routeSubmit_within.mono rfl
  · exact Within.refl _ _

theorem routeCommand_within {r : Req} {lane : ℕ} {code : ℕ} {s : State} : Within [Part.access, .clock, .update, .counters,
    .panel, .trip, .lanes, .cells, .ledger, .pair, .routes, .due] s (routeCommand r lane code s) := by
  unfold routeCommand
  refine State.serveWrite_within (fun _ => ?_) ?_ rfl
  · exact State.routeCommand_within.mono rfl
  · exact Within.refl _ _

theorem execHold_within {r : Req} {lane : ℕ} {s : State} : Within.post [Part.access, .clock, .update, .counters, .panel,
    .trip, .lanes, .cells, .ledger, .pair, .routes, .due] s (execHold r lane s) := by
  unfold execHold
  refine running_within (fun _ => ?_) ?_ rfl
  · exact routeCommand_within.mono rfl
  · exact Within.refl _ _

theorem execResumeRoute_within {r : Req} {lane : ℕ} {s : State} : Within.post [Part.access, .clock, .update, .counters,
    .panel, .trip, .lanes, .cells, .ledger, .pair, .routes, .due] s (execResumeRoute r lane s) := by
  unfold execResumeRoute
  refine running_within (fun _ => ?_) ?_ rfl
  · exact routeCommand_within.mono rfl
  · exact Within.refl _ _

theorem execCancelRoute_within {r : Req} {lane : ℕ} {s : State} : Within.post [Part.access, .clock, .update, .counters,
    .panel, .trip, .lanes, .cells, .ledger, .pair, .routes, .due] s (execCancelRoute r lane s) := by
  unfold execCancelRoute
  refine running_within (fun _ => ?_) ?_ rfl
  · exact routeCommand_within.mono rfl
  · exact Within.refl _ _

theorem limitChange_within {r : Req} {lane : ℕ} {sub : ℕ} {value : Bytes} {s : State} : Within [Part.access, .clock,
    .update, .counters, .panel, .trip, .lanes, .settings, .cells, .ledger, .pair, .routes] s (limitChange r lane sub value
    s) := by
  unfold limitChange
  refine State.serveWrite_within (fun _ => ?_) ?_ rfl
  · split
    · exact State.changeLimit_within.mono rfl
    · exact refuse_within.mono rfl
  · exact Within.refl _ _

theorem execLimitChange_within {r : Req} {lane : ℕ} {sub : ℕ} {value : Bytes} {s : State} : Within.post [Part.access,
    .clock, .update, .counters, .panel, .trip, .lanes, .settings, .cells, .ledger, .pair, .routes] s (execLimitChange r lane
    sub value s) := by
  unfold execLimitChange
  refine running_within (fun _ => ?_) ?_ rfl
  · exact limitChange_within.mono rfl
  · exact Within.refl _ _

theorem laneOrder_within {r : Req} {lane : ℕ} {code : ℕ} {s : State} : Within [Part.access, .clock, .update, .counters,
    .panel, .trip, .lanes, .due] s (laneOrder r lane code s) := by
  unfold laneOrder
  refine State.serveWrite_within (fun _ => ?_) ?_ rfl
  · exact State.orderLane_within.mono rfl
  · exact Within.refl _ _

theorem execApproveAdmission_within {r : Req} {lane : ℕ} {s : State} : Within.post [Part.access, .clock, .update, .counters,
    .panel, .trip, .lanes, .due] s (execApproveAdmission r lane s) := by
  unfold execApproveAdmission
  refine running_within (fun _ => ?_) ?_ rfl
  · exact laneOrder_within.mono rfl
  · exact Within.refl _ _

theorem execRefuseAdmission_within {r : Req} {lane : ℕ} {s : State} : Within.post [Part.access, .clock, .update, .counters,
    .panel, .trip, .lanes, .due] s (execRefuseAdmission r lane s) := by
  unfold execRefuseAdmission
  refine running_within (fun _ => ?_) ?_ rfl
  · exact laneOrder_within.mono rfl
  · exact Within.refl _ _

theorem execResumeStoppedLane_within {r : Req} {lane : ℕ} {s : State} : Within.post [Part.access, .clock, .update,
    .counters, .panel, .trip, .lanes, .due] s (execResumeStoppedLane r lane s) := by
  unfold execResumeStoppedLane
  refine running_within (fun _ => ?_) ?_ rfl
  · exact laneOrder_within.mono rfl
  · exact Within.refl _ _

theorem execRelease_within {r : Req} {lane : ℕ} {s : State} : Within.post [Part.access, .clock, .update, .counters, .panel,
    .trip, .lanes, .due] s (execRelease r lane s) := by
  unfold execRelease
  refine running_within (fun _ => ?_) ?_ rfl
  · exact laneOrder_within.mono rfl
  · exact Within.refl _ _

theorem execEvict_within {r : Req} {lane : ℕ} {s : State} : Within.post [Part.access, .clock, .update, .counters, .panel,
    .trip, .lanes, .due] s (execEvict r lane s) := by
  unfold execEvict
  refine running_within (fun _ => ?_) ?_ rfl
  · exact laneOrder_within.mono rfl
  · exact Within.refl _ _

theorem execClosureChange_within {r : Req} {area : ℕ} {writes : List (ℕ × Bytes)} {s : State} : Within.post [Part.access,
    .clock, .update, .settings, .pair, .counters, .trip, .panel, .cells, .ledger, .routes] s (execClosureChange r area
    writes s) := by
  unfold execClosureChange
  refine running_within (fun _ => ?_) ?_ rfl
  · exact closureChange_within.mono rfl
  · exact Within.refl _ _

end Sys2Proof.Machine
end

