-- ==== Sys2Proof/Laws/State.lean ====
section
/-! SUPPORT. The named updates of the state, field by field: each leaves every field but its own. -/

namespace Sys2Proof.Machine

@[simp] theorem State.begin_out (s : State) : s.begin.out = [] := rfl

@[simp] theorem State.emit_out (s : State) (o : Output) : (s.emit o).out = s.out ++ [o] := rfl

theorem State.draw_fst (s : State) : s.draw.1 = Config.free s.free := rfl

theorem State.draw_snd (s : State) : s.draw.2 = { s with free := s.free + 1 } := rfl

/-- Reading a lane after a change to one. -/
theorem State.onLane_lane {s : State} (n m : Nat) (f : Lane → Lane) (h : tableWf (fun _ => ({} : Lane)) s.lanes = true) :
    (s.onLane n f).lane m = if m = n then f (s.lane n) else s.lane m := tget_tput n m _ h

/-- Reading a route record after a change to one. -/
theorem State.onRoute_route {s : State} (n m : Nat) (f : Route → Route) (h : tableWf (fun _ => ({} : Route)) s.routes = true) :
    (s.onRoute n f).route m = if m = n then f (s.route n) else s.route m := tget_tmod n m f h

/-! ### State.begin -/

@[simp] theorem State.begin_clock (s : State) : (s.begin).clock = s.clock := rfl
@[simp] theorem State.begin_time (s : State) : (s.begin).time = s.time := rfl
@[simp] theorem State.begin_gnss (s : State) : (s.begin).gnss = s.gnss := rfl
@[simp] theorem State.begin_update (s : State) : (s.begin).update = s.update := rfl
@[simp] theorem State.begin_reference (s : State) : (s.begin).reference = s.reference := rfl
@[simp] theorem State.begin_settings (s : State) : (s.begin).settings = s.settings := rfl
@[simp] theorem State.begin_access (s : State) : (s.begin).access = s.access := rfl
@[simp] theorem State.begin_lanes (s : State) : (s.begin).lanes = s.lanes := rfl
@[simp] theorem State.begin_routes (s : State) : (s.begin).routes = s.routes := rfl
@[simp] theorem State.begin_guests (s : State) : (s.begin).guests = s.guests := rfl
@[simp] theorem State.begin_ledger (s : State) : (s.begin).ledger = s.ledger := rfl
@[simp] theorem State.begin_halt (s : State) : (s.begin).halt = s.halt := rfl
@[simp] theorem State.begin_air (s : State) : (s.begin).air = s.air := rfl
@[simp] theorem State.begin_airLanes (s : State) : (s.begin).airLanes = s.airLanes := rfl
@[simp] theorem State.begin_pair (s : State) : (s.begin).pair = s.pair := rfl
@[simp] theorem State.begin_due (s : State) : (s.begin).due = s.due := rfl
@[simp] theorem State.begin_cells (s : State) : (s.begin).cells = s.cells := rfl
@[simp] theorem State.begin_checkpoint (s : State) : (s.begin).checkpoint = s.checkpoint := rfl
@[simp] theorem State.begin_chain (s : State) : (s.begin).chain = s.chain := rfl
@[simp] theorem State.begin_keys (s : State) : (s.begin).keys = s.keys := rfl
@[simp] theorem State.begin_disp (s : State) : (s.begin).disp = s.disp := rfl
@[simp] theorem State.begin_counters (s : State) : (s.begin).counters = s.counters := rfl
@[simp] theorem State.begin_trip (s : State) : (s.begin).trip = s.trip := rfl
@[simp] theorem State.begin_panel (s : State) : (s.begin).panel = s.panel := rfl
@[simp] theorem State.begin_lamps (s : State) : (s.begin).lamps = s.lamps := rfl
@[simp] theorem State.begin_power (s : State) : (s.begin).power = s.power := rfl
@[simp] theorem State.begin_tap (s : State) : (s.begin).tap = s.tap := rfl
@[simp] theorem State.begin_shown (s : State) : (s.begin).shown = s.shown := rfl
@[simp] theorem State.begin_free (s : State) : (s.begin).free = s.free := rfl
@[simp] theorem State.begin_pending (s : State) : (s.begin).pending = s.pending := rfl

/-! ### State.emit -/

@[simp] theorem State.emit_clock (s : State) (o : Output) : (s.emit o).clock = s.clock := rfl
@[simp] theorem State.emit_time (s : State) (o : Output) : (s.emit o).time = s.time := rfl
@[simp] theorem State.emit_gnss (s : State) (o : Output) : (s.emit o).gnss = s.gnss := rfl
@[simp] theorem State.emit_update (s : State) (o : Output) : (s.emit o).update = s.update := rfl
@[simp] theorem State.emit_reference (s : State) (o : Output) : (s.emit o).reference = s.reference := rfl
@[simp] theorem State.emit_settings (s : State) (o : Output) : (s.emit o).settings = s.settings := rfl
@[simp] theorem State.emit_access (s : State) (o : Output) : (s.emit o).access = s.access := rfl
@[simp] theorem State.emit_lanes (s : State) (o : Output) : (s.emit o).lanes = s.lanes := rfl
@[simp] theorem State.emit_routes (s : State) (o : Output) : (s.emit o).routes = s.routes := rfl
@[simp] theorem State.emit_guests (s : State) (o : Output) : (s.emit o).guests = s.guests := rfl
@[simp] theorem State.emit_ledger (s : State) (o : Output) : (s.emit o).ledger = s.ledger := rfl
@[simp] theorem State.emit_halt (s : State) (o : Output) : (s.emit o).halt = s.halt := rfl
@[simp] theorem State.emit_air (s : State) (o : Output) : (s.emit o).air = s.air := rfl
@[simp] theorem State.emit_airLanes (s : State) (o : Output) : (s.emit o).airLanes = s.airLanes := rfl
@[simp] theorem State.emit_pair (s : State) (o : Output) : (s.emit o).pair = s.pair := rfl
@[simp] theorem State.emit_due (s : State) (o : Output) : (s.emit o).due = s.due := rfl
@[simp] theorem State.emit_cells (s : State) (o : Output) : (s.emit o).cells = s.cells := rfl
@[simp] theorem State.emit_checkpoint (s : State) (o : Output) : (s.emit o).checkpoint = s.checkpoint := rfl
@[simp] theorem State.emit_chain (s : State) (o : Output) : (s.emit o).chain = s.chain := rfl
@[simp] theorem State.emit_keys (s : State) (o : Output) : (s.emit o).keys = s.keys := rfl
@[simp] theorem State.emit_disp (s : State) (o : Output) : (s.emit o).disp = s.disp := rfl
@[simp] theorem State.emit_counters (s : State) (o : Output) : (s.emit o).counters = s.counters := rfl
@[simp] theorem State.emit_trip (s : State) (o : Output) : (s.emit o).trip = s.trip := rfl
@[simp] theorem State.emit_panel (s : State) (o : Output) : (s.emit o).panel = s.panel := rfl
@[simp] theorem State.emit_lamps (s : State) (o : Output) : (s.emit o).lamps = s.lamps := rfl
@[simp] theorem State.emit_power (s : State) (o : Output) : (s.emit o).power = s.power := rfl
@[simp] theorem State.emit_tap (s : State) (o : Output) : (s.emit o).tap = s.tap := rfl
@[simp] theorem State.emit_shown (s : State) (o : Output) : (s.emit o).shown = s.shown := rfl
@[simp] theorem State.emit_free (s : State) (o : Output) : (s.emit o).free = s.free := rfl
@[simp] theorem State.emit_pending (s : State) (o : Output) : (s.emit o).pending = s.pending := rfl

/-! ### State.stamped -/

@[simp] theorem State.stamped_time (s : State) (n : Nat) : (s.stamped n).time = s.time := rfl
@[simp] theorem State.stamped_gnss (s : State) (n : Nat) : (s.stamped n).gnss = s.gnss := rfl
@[simp] theorem State.stamped_update (s : State) (n : Nat) : (s.stamped n).update = s.update := rfl
@[simp] theorem State.stamped_reference (s : State) (n : Nat) : (s.stamped n).reference = s.reference := rfl
@[simp] theorem State.stamped_settings (s : State) (n : Nat) : (s.stamped n).settings = s.settings := rfl
@[simp] theorem State.stamped_access (s : State) (n : Nat) : (s.stamped n).access = s.access := rfl
@[simp] theorem State.stamped_lanes (s : State) (n : Nat) : (s.stamped n).lanes = s.lanes := rfl
@[simp] theorem State.stamped_routes (s : State) (n : Nat) : (s.stamped n).routes = s.routes := rfl
@[simp] theorem State.stamped_guests (s : State) (n : Nat) : (s.stamped n).guests = s.guests := rfl
@[simp] theorem State.stamped_ledger (s : State) (n : Nat) : (s.stamped n).ledger = s.ledger := rfl
@[simp] theorem State.stamped_halt (s : State) (n : Nat) : (s.stamped n).halt = s.halt := rfl
@[simp] theorem State.stamped_air (s : State) (n : Nat) : (s.stamped n).air = s.air := rfl
@[simp] theorem State.stamped_airLanes (s : State) (n : Nat) : (s.stamped n).airLanes = s.airLanes := rfl
@[simp] theorem State.stamped_pair (s : State) (n : Nat) : (s.stamped n).pair = s.pair := rfl
@[simp] theorem State.stamped_due (s : State) (n : Nat) : (s.stamped n).due = s.due := rfl
@[simp] theorem State.stamped_cells (s : State) (n : Nat) : (s.stamped n).cells = s.cells := rfl
@[simp] theorem State.stamped_checkpoint (s : State) (n : Nat) : (s.stamped n).checkpoint = s.checkpoint := rfl
@[simp] theorem State.stamped_chain (s : State) (n : Nat) : (s.stamped n).chain = s.chain := rfl
@[simp] theorem State.stamped_keys (s : State) (n : Nat) : (s.stamped n).keys = s.keys := rfl
@[simp] theorem State.stamped_disp (s : State) (n : Nat) : (s.stamped n).disp = s.disp := rfl
@[simp] theorem State.stamped_counters (s : State) (n : Nat) : (s.stamped n).counters = s.counters := rfl
@[simp] theorem State.stamped_trip (s : State) (n : Nat) : (s.stamped n).trip = s.trip := rfl
@[simp] theorem State.stamped_panel (s : State) (n : Nat) : (s.stamped n).panel = s.panel := rfl
@[simp] theorem State.stamped_lamps (s : State) (n : Nat) : (s.stamped n).lamps = s.lamps := rfl
@[simp] theorem State.stamped_power (s : State) (n : Nat) : (s.stamped n).power = s.power := rfl
@[simp] theorem State.stamped_tap (s : State) (n : Nat) : (s.stamped n).tap = s.tap := rfl
@[simp] theorem State.stamped_shown (s : State) (n : Nat) : (s.stamped n).shown = s.shown := rfl
@[simp] theorem State.stamped_free (s : State) (n : Nat) : (s.stamped n).free = s.free := rfl
@[simp] theorem State.stamped_pending (s : State) (n : Nat) : (s.stamped n).pending = s.pending := rfl
@[simp] theorem State.stamped_out (s : State) (n : Nat) : (s.stamped n).out = s.out := rfl

/-! ### State.setLane -/

@[simp] theorem State.setLane_clock (s : State) (n : Nat) (l : Lane) : (s.setLane n l).clock = s.clock := rfl
@[simp] theorem State.setLane_time (s : State) (n : Nat) (l : Lane) : (s.setLane n l).time = s.time := rfl
@[simp] theorem State.setLane_gnss (s : State) (n : Nat) (l : Lane) : (s.setLane n l).gnss = s.gnss := rfl
@[simp] theorem State.setLane_update (s : State) (n : Nat) (l : Lane) : (s.setLane n l).update = s.update := rfl
@[simp] theorem State.setLane_reference (s : State) (n : Nat) (l : Lane) : (s.setLane n l).reference = s.reference := rfl
@[simp] theorem State.setLane_settings (s : State) (n : Nat) (l : Lane) : (s.setLane n l).settings = s.settings := rfl
@[simp] theorem State.setLane_access (s : State) (n : Nat) (l : Lane) : (s.setLane n l).access = s.access := rfl
@[simp] theorem State.setLane_routes (s : State) (n : Nat) (l : Lane) : (s.setLane n l).routes = s.routes := rfl
@[simp] theorem State.setLane_guests (s : State) (n : Nat) (l : Lane) : (s.setLane n l).guests = s.guests := rfl
@[simp] theorem State.setLane_ledger (s : State) (n : Nat) (l : Lane) : (s.setLane n l).ledger = s.ledger := rfl
@[simp] theorem State.setLane_halt (s : State) (n : Nat) (l : Lane) : (s.setLane n l).halt = s.halt := rfl
@[simp] theorem State.setLane_air (s : State) (n : Nat) (l : Lane) : (s.setLane n l).air = s.air := rfl
@[simp] theorem State.setLane_airLanes (s : State) (n : Nat) (l : Lane) : (s.setLane n l).airLanes = s.airLanes := rfl
@[simp] theorem State.setLane_pair (s : State) (n : Nat) (l : Lane) : (s.setLane n l).pair = s.pair := rfl
@[simp] theorem State.setLane_due (s : State) (n : Nat) (l : Lane) : (s.setLane n l).due = s.due := rfl
@[simp] theorem State.setLane_cells (s : State) (n : Nat) (l : Lane) : (s.setLane n l).cells = s.cells := rfl
@[simp] theorem State.setLane_checkpoint (s : State) (n : Nat) (l : Lane) : (s.setLane n l).checkpoint = s.checkpoint := rfl
@[simp] theorem State.setLane_chain (s : State) (n : Nat) (l : Lane) : (s.setLane n l).chain = s.chain := rfl
@[simp] theorem State.setLane_keys (s : State) (n : Nat) (l : Lane) : (s.setLane n l).keys = s.keys := rfl
@[simp] theorem State.setLane_disp (s : State) (n : Nat) (l : Lane) : (s.setLane n l).disp = s.disp := rfl
@[simp] theorem State.setLane_counters (s : State) (n : Nat) (l : Lane) : (s.setLane n l).counters = s.counters := rfl
@[simp] theorem State.setLane_trip (s : State) (n : Nat) (l : Lane) : (s.setLane n l).trip = s.trip := rfl
@[simp] theorem State.setLane_panel (s : State) (n : Nat) (l : Lane) : (s.setLane n l).panel = s.panel := rfl
@[simp] theorem State.setLane_lamps (s : State) (n : Nat) (l : Lane) : (s.setLane n l).lamps = s.lamps := rfl
@[simp] theorem State.setLane_power (s : State) (n : Nat) (l : Lane) : (s.setLane n l).power = s.power := rfl
@[simp] theorem State.setLane_tap (s : State) (n : Nat) (l : Lane) : (s.setLane n l).tap = s.tap := rfl
@[simp] theorem State.setLane_shown (s : State) (n : Nat) (l : Lane) : (s.setLane n l).shown = s.shown := rfl
@[simp] theorem State.setLane_free (s : State) (n : Nat) (l : Lane) : (s.setLane n l).free = s.free := rfl
@[simp] theorem State.setLane_pending (s : State) (n : Nat) (l : Lane) : (s.setLane n l).pending = s.pending := rfl
@[simp] theorem State.setLane_out (s : State) (n : Nat) (l : Lane) : (s.setLane n l).out = s.out := rfl

/-! ### State.onLane -/

@[simp] theorem State.onLane_clock (s : State) (n : Nat) (f : Lane → Lane) : (s.onLane n f).clock = s.clock := rfl
@[simp] theorem State.onLane_time (s : State) (n : Nat) (f : Lane → Lane) : (s.onLane n f).time = s.time := rfl
@[simp] theorem State.onLane_gnss (s : State) (n : Nat) (f : Lane → Lane) : (s.onLane n f).gnss = s.gnss := rfl
@[simp] theorem State.onLane_update (s : State) (n : Nat) (f : Lane → Lane) : (s.onLane n f).update = s.update := rfl
@[simp] theorem State.onLane_reference (s : State) (n : Nat) (f : Lane → Lane) : (s.onLane n f).reference = s.reference := rfl
@[simp] theorem State.onLane_settings (s : State) (n : Nat) (f : Lane → Lane) : (s.onLane n f).settings = s.settings := rfl
@[simp] theorem State.onLane_access (s : State) (n : Nat) (f : Lane → Lane) : (s.onLane n f).access = s.access := rfl
@[simp] theorem State.onLane_routes (s : State) (n : Nat) (f : Lane → Lane) : (s.onLane n f).routes = s.routes := rfl
@[simp] theorem State.onLane_guests (s : State) (n : Nat) (f : Lane → Lane) : (s.onLane n f).guests = s.guests := rfl
@[simp] theorem State.onLane_ledger (s : State) (n : Nat) (f : Lane → Lane) : (s.onLane n f).ledger = s.ledger := rfl
@[simp] theorem State.onLane_halt (s : State) (n : Nat) (f : Lane → Lane) : (s.onLane n f).halt = s.halt := rfl
@[simp] theorem State.onLane_air (s : State) (n : Nat) (f : Lane → Lane) : (s.onLane n f).air = s.air := rfl
@[simp] theorem State.onLane_airLanes (s : State) (n : Nat) (f : Lane → Lane) : (s.onLane n f).airLanes = s.airLanes := rfl
@[simp] theorem State.onLane_pair (s : State) (n : Nat) (f : Lane → Lane) : (s.onLane n f).pair = s.pair := rfl
@[simp] theorem State.onLane_due (s : State) (n : Nat) (f : Lane → Lane) : (s.onLane n f).due = s.due := rfl
@[simp] theorem State.onLane_cells (s : State) (n : Nat) (f : Lane → Lane) : (s.onLane n f).cells = s.cells := rfl
@[simp] theorem State.onLane_checkpoint (s : State) (n : Nat) (f : Lane → Lane) : (s.onLane n f).checkpoint = s.checkpoint := rfl
@[simp] theorem State.onLane_chain (s : State) (n : Nat) (f : Lane → Lane) : (s.onLane n f).chain = s.chain := rfl
@[simp] theorem State.onLane_keys (s : State) (n : Nat) (f : Lane → Lane) : (s.onLane n f).keys = s.keys := rfl
@[simp] theorem State.onLane_disp (s : State) (n : Nat) (f : Lane → Lane) : (s.onLane n f).disp = s.disp := rfl
@[simp] theorem State.onLane_counters (s : State) (n : Nat) (f : Lane → Lane) : (s.onLane n f).counters = s.counters := rfl
@[simp] theorem State.onLane_trip (s : State) (n : Nat) (f : Lane → Lane) : (s.onLane n f).trip = s.trip := rfl
@[simp] theorem State.onLane_panel (s : State) (n : Nat) (f : Lane → Lane) : (s.onLane n f).panel = s.panel := rfl
@[simp] theorem State.onLane_lamps (s : State) (n : Nat) (f : Lane → Lane) : (s.onLane n f).lamps = s.lamps := rfl
@[simp] theorem State.onLane_power (s : State) (n : Nat) (f : Lane → Lane) : (s.onLane n f).power = s.power := rfl
@[simp] theorem State.onLane_tap (s : State) (n : Nat) (f : Lane → Lane) : (s.onLane n f).tap = s.tap := rfl
@[simp] theorem State.onLane_shown (s : State) (n : Nat) (f : Lane → Lane) : (s.onLane n f).shown = s.shown := rfl
@[simp] theorem State.onLane_free (s : State) (n : Nat) (f : Lane → Lane) : (s.onLane n f).free = s.free := rfl
@[simp] theorem State.onLane_pending (s : State) (n : Nat) (f : Lane → Lane) : (s.onLane n f).pending = s.pending := rfl
@[simp] theorem State.onLane_out (s : State) (n : Nat) (f : Lane → Lane) : (s.onLane n f).out = s.out := rfl

/-! ### State.onRoute -/

@[simp] theorem State.onRoute_clock (s : State) (n : Nat) (f : Route → Route) : (s.onRoute n f).clock = s.clock := rfl
@[simp] theorem State.onRoute_time (s : State) (n : Nat) (f : Route → Route) : (s.onRoute n f).time = s.time := rfl
@[simp] theorem State.onRoute_gnss (s : State) (n : Nat) (f : Route → Route) : (s.onRoute n f).gnss = s.gnss := rfl
@[simp] theorem State.onRoute_update (s : State) (n : Nat) (f : Route → Route) : (s.onRoute n f).update = s.update := rfl
@[simp] theorem State.onRoute_reference (s : State) (n : Nat) (f : Route → Route) : (s.onRoute n f).reference = s.reference := rfl
@[simp] theorem State.onRoute_settings (s : State) (n : Nat) (f : Route → Route) : (s.onRoute n f).settings = s.settings := rfl
@[simp] theorem State.onRoute_access (s : State) (n : Nat) (f : Route → Route) : (s.onRoute n f).access = s.access := rfl
@[simp] theorem State.onRoute_lanes (s : State) (n : Nat) (f : Route → Route) : (s.onRoute n f).lanes = s.lanes := rfl
@[simp] theorem State.onRoute_guests (s : State) (n : Nat) (f : Route → Route) : (s.onRoute n f).guests = s.guests := rfl
@[simp] theorem State.onRoute_ledger (s : State) (n : Nat) (f : Route → Route) : (s.onRoute n f).ledger = s.ledger := rfl
@[simp] theorem State.onRoute_halt (s : State) (n : Nat) (f : Route → Route) : (s.onRoute n f).halt = s.halt := rfl
@[simp] theorem State.onRoute_air (s : State) (n : Nat) (f : Route → Route) : (s.onRoute n f).air = s.air := rfl
@[simp] theorem State.onRoute_airLanes (s : State) (n : Nat) (f : Route → Route) : (s.onRoute n f).airLanes = s.airLanes := rfl
@[simp] theorem State.onRoute_pair (s : State) (n : Nat) (f : Route → Route) : (s.onRoute n f).pair = s.pair := rfl
@[simp] theorem State.onRoute_due (s : State) (n : Nat) (f : Route → Route) : (s.onRoute n f).due = s.due := rfl
@[simp] theorem State.onRoute_cells (s : State) (n : Nat) (f : Route → Route) : (s.onRoute n f).cells = s.cells := rfl
@[simp] theorem State.onRoute_checkpoint (s : State) (n : Nat) (f : Route → Route) : (s.onRoute n f).checkpoint = s.checkpoint := rfl
@[simp] theorem State.onRoute_chain (s : State) (n : Nat) (f : Route → Route) : (s.onRoute n f).chain = s.chain := rfl
@[simp] theorem State.onRoute_keys (s : State) (n : Nat) (f : Route → Route) : (s.onRoute n f).keys = s.keys := rfl
@[simp] theorem State.onRoute_disp (s : State) (n : Nat) (f : Route → Route) : (s.onRoute n f).disp = s.disp := rfl
@[simp] theorem State.onRoute_counters (s : State) (n : Nat) (f : Route → Route) : (s.onRoute n f).counters = s.counters := rfl
@[simp] theorem State.onRoute_trip (s : State) (n : Nat) (f : Route → Route) : (s.onRoute n f).trip = s.trip := rfl
@[simp] theorem State.onRoute_panel (s : State) (n : Nat) (f : Route → Route) : (s.onRoute n f).panel = s.panel := rfl
@[simp] theorem State.onRoute_lamps (s : State) (n : Nat) (f : Route → Route) : (s.onRoute n f).lamps = s.lamps := rfl
@[simp] theorem State.onRoute_power (s : State) (n : Nat) (f : Route → Route) : (s.onRoute n f).power = s.power := rfl
@[simp] theorem State.onRoute_tap (s : State) (n : Nat) (f : Route → Route) : (s.onRoute n f).tap = s.tap := rfl
@[simp] theorem State.onRoute_shown (s : State) (n : Nat) (f : Route → Route) : (s.onRoute n f).shown = s.shown := rfl
@[simp] theorem State.onRoute_free (s : State) (n : Nat) (f : Route → Route) : (s.onRoute n f).free = s.free := rfl
@[simp] theorem State.onRoute_pending (s : State) (n : Nat) (f : Route → Route) : (s.onRoute n f).pending = s.pending := rfl
@[simp] theorem State.onRoute_out (s : State) (n : Nat) (f : Route → Route) : (s.onRoute n f).out = s.out := rfl

/-! ### State.onAirLane -/

@[simp] theorem State.onAirLane_clock (s : State) (n : Nat) (f : AirLane → AirLane) : (s.onAirLane n f).clock = s.clock := rfl
@[simp] theorem State.onAirLane_time (s : State) (n : Nat) (f : AirLane → AirLane) : (s.onAirLane n f).time = s.time := rfl
@[simp] theorem State.onAirLane_gnss (s : State) (n : Nat) (f : AirLane → AirLane) : (s.onAirLane n f).gnss = s.gnss := rfl
@[simp] theorem State.onAirLane_update (s : State) (n : Nat) (f : AirLane → AirLane) : (s.onAirLane n f).update = s.update := rfl
@[simp] theorem State.onAirLane_reference (s : State) (n : Nat) (f : AirLane → AirLane) : (s.onAirLane n f).reference = s.reference := rfl
@[simp] theorem State.onAirLane_settings (s : State) (n : Nat) (f : AirLane → AirLane) : (s.onAirLane n f).settings = s.settings := rfl
@[simp] theorem State.onAirLane_access (s : State) (n : Nat) (f : AirLane → AirLane) : (s.onAirLane n f).access = s.access := rfl
@[simp] theorem State.onAirLane_lanes (s : State) (n : Nat) (f : AirLane → AirLane) : (s.onAirLane n f).lanes = s.lanes := rfl
@[simp] theorem State.onAirLane_routes (s : State) (n : Nat) (f : AirLane → AirLane) : (s.onAirLane n f).routes = s.routes := rfl
@[simp] theorem State.onAirLane_guests (s : State) (n : Nat) (f : AirLane → AirLane) : (s.onAirLane n f).guests = s.guests := rfl
@[simp] theorem State.onAirLane_ledger (s : State) (n : Nat) (f : AirLane → AirLane) : (s.onAirLane n f).ledger = s.ledger := rfl
@[simp] theorem State.onAirLane_halt (s : State) (n : Nat) (f : AirLane → AirLane) : (s.onAirLane n f).halt = s.halt := rfl
@[simp] theorem State.onAirLane_air (s : State) (n : Nat) (f : AirLane → AirLane) : (s.onAirLane n f).air = s.air := rfl
@[simp] theorem State.onAirLane_pair (s : State) (n : Nat) (f : AirLane → AirLane) : (s.onAirLane n f).pair = s.pair := rfl
@[simp] theorem State.onAirLane_due (s : State) (n : Nat) (f : AirLane → AirLane) : (s.onAirLane n f).due = s.due := rfl
@[simp] theorem State.onAirLane_cells (s : State) (n : Nat) (f : AirLane → AirLane) : (s.onAirLane n f).cells = s.cells := rfl
@[simp] theorem State.onAirLane_checkpoint (s : State) (n : Nat) (f : AirLane → AirLane) : (s.onAirLane n f).checkpoint = s.checkpoint := rfl
@[simp] theorem State.onAirLane_chain (s : State) (n : Nat) (f : AirLane → AirLane) : (s.onAirLane n f).chain = s.chain := rfl
@[simp] theorem State.onAirLane_keys (s : State) (n : Nat) (f : AirLane → AirLane) : (s.onAirLane n f).keys = s.keys := rfl
@[simp] theorem State.onAirLane_disp (s : State) (n : Nat) (f : AirLane → AirLane) : (s.onAirLane n f).disp = s.disp := rfl
@[simp] theorem State.onAirLane_counters (s : State) (n : Nat) (f : AirLane → AirLane) : (s.onAirLane n f).counters = s.counters := rfl
@[simp] theorem State.onAirLane_trip (s : State) (n : Nat) (f : AirLane → AirLane) : (s.onAirLane n f).trip = s.trip := rfl
@[simp] theorem State.onAirLane_panel (s : State) (n : Nat) (f : AirLane → AirLane) : (s.onAirLane n f).panel = s.panel := rfl
@[simp] theorem State.onAirLane_lamps (s : State) (n : Nat) (f : AirLane → AirLane) : (s.onAirLane n f).lamps = s.lamps := rfl
@[simp] theorem State.onAirLane_power (s : State) (n : Nat) (f : AirLane → AirLane) : (s.onAirLane n f).power = s.power := rfl
@[simp] theorem State.onAirLane_tap (s : State) (n : Nat) (f : AirLane → AirLane) : (s.onAirLane n f).tap = s.tap := rfl
@[simp] theorem State.onAirLane_shown (s : State) (n : Nat) (f : AirLane → AirLane) : (s.onAirLane n f).shown = s.shown := rfl
@[simp] theorem State.onAirLane_free (s : State) (n : Nat) (f : AirLane → AirLane) : (s.onAirLane n f).free = s.free := rfl
@[simp] theorem State.onAirLane_pending (s : State) (n : Nat) (f : AirLane → AirLane) : (s.onAirLane n f).pending = s.pending := rfl
@[simp] theorem State.onAirLane_out (s : State) (n : Nat) (f : AirLane → AirLane) : (s.onAirLane n f).out = s.out := rfl

/-! ### State.onCw -/

@[simp] theorem State.onCw_clock (s : State) (c : Nat) (f : Carriageway → Carriageway) : (s.onCw c f).clock = s.clock := rfl
@[simp] theorem State.onCw_time (s : State) (c : Nat) (f : Carriageway → Carriageway) : (s.onCw c f).time = s.time := rfl
@[simp] theorem State.onCw_gnss (s : State) (c : Nat) (f : Carriageway → Carriageway) : (s.onCw c f).gnss = s.gnss := rfl
@[simp] theorem State.onCw_update (s : State) (c : Nat) (f : Carriageway → Carriageway) : (s.onCw c f).update = s.update := rfl
@[simp] theorem State.onCw_reference (s : State) (c : Nat) (f : Carriageway → Carriageway) : (s.onCw c f).reference = s.reference := rfl
@[simp] theorem State.onCw_settings (s : State) (c : Nat) (f : Carriageway → Carriageway) : (s.onCw c f).settings = s.settings := rfl
@[simp] theorem State.onCw_access (s : State) (c : Nat) (f : Carriageway → Carriageway) : (s.onCw c f).access = s.access := rfl
@[simp] theorem State.onCw_lanes (s : State) (c : Nat) (f : Carriageway → Carriageway) : (s.onCw c f).lanes = s.lanes := rfl
@[simp] theorem State.onCw_routes (s : State) (c : Nat) (f : Carriageway → Carriageway) : (s.onCw c f).routes = s.routes := rfl
@[simp] theorem State.onCw_guests (s : State) (c : Nat) (f : Carriageway → Carriageway) : (s.onCw c f).guests = s.guests := rfl
@[simp] theorem State.onCw_ledger (s : State) (c : Nat) (f : Carriageway → Carriageway) : (s.onCw c f).ledger = s.ledger := rfl
@[simp] theorem State.onCw_halt (s : State) (c : Nat) (f : Carriageway → Carriageway) : (s.onCw c f).halt = s.halt := rfl
@[simp] theorem State.onCw_airLanes (s : State) (c : Nat) (f : Carriageway → Carriageway) : (s.onCw c f).airLanes = s.airLanes := rfl
@[simp] theorem State.onCw_pair (s : State) (c : Nat) (f : Carriageway → Carriageway) : (s.onCw c f).pair = s.pair := rfl
@[simp] theorem State.onCw_due (s : State) (c : Nat) (f : Carriageway → Carriageway) : (s.onCw c f).due = s.due := rfl
@[simp] theorem State.onCw_cells (s : State) (c : Nat) (f : Carriageway → Carriageway) : (s.onCw c f).cells = s.cells := rfl
@[simp] theorem State.onCw_checkpoint (s : State) (c : Nat) (f : Carriageway → Carriageway) : (s.onCw c f).checkpoint = s.checkpoint := rfl
@[simp] theorem State.onCw_chain (s : State) (c : Nat) (f : Carriageway → Carriageway) : (s.onCw c f).chain = s.chain := rfl
@[simp] theorem State.onCw_keys (s : State) (c : Nat) (f : Carriageway → Carriageway) : (s.onCw c f).keys = s.keys := rfl
@[simp] theorem State.onCw_disp (s : State) (c : Nat) (f : Carriageway → Carriageway) : (s.onCw c f).disp = s.disp := rfl
@[simp] theorem State.onCw_counters (s : State) (c : Nat) (f : Carriageway → Carriageway) : (s.onCw c f).counters = s.counters := rfl
@[simp] theorem State.onCw_trip (s : State) (c : Nat) (f : Carriageway → Carriageway) : (s.onCw c f).trip = s.trip := rfl
@[simp] theorem State.onCw_panel (s : State) (c : Nat) (f : Carriageway → Carriageway) : (s.onCw c f).panel = s.panel := rfl
@[simp] theorem State.onCw_lamps (s : State) (c : Nat) (f : Carriageway → Carriageway) : (s.onCw c f).lamps = s.lamps := rfl
@[simp] theorem State.onCw_power (s : State) (c : Nat) (f : Carriageway → Carriageway) : (s.onCw c f).power = s.power := rfl
@[simp] theorem State.onCw_tap (s : State) (c : Nat) (f : Carriageway → Carriageway) : (s.onCw c f).tap = s.tap := rfl
@[simp] theorem State.onCw_shown (s : State) (c : Nat) (f : Carriageway → Carriageway) : (s.onCw c f).shown = s.shown := rfl
@[simp] theorem State.onCw_free (s : State) (c : Nat) (f : Carriageway → Carriageway) : (s.onCw c f).free = s.free := rfl
@[simp] theorem State.onCw_pending (s : State) (c : Nat) (f : Carriageway → Carriageway) : (s.onCw c f).pending = s.pending := rfl
@[simp] theorem State.onCw_out (s : State) (c : Nat) (f : Carriageway → Carriageway) : (s.onCw c f).out = s.out := rfl

/-! ### State.onStream -/

@[simp] theorem State.onStream_clock (s : State) (q : Nat) (f : Stream → Stream) : (s.onStream q f).clock = s.clock := rfl
@[simp] theorem State.onStream_time (s : State) (q : Nat) (f : Stream → Stream) : (s.onStream q f).time = s.time := rfl
@[simp] theorem State.onStream_gnss (s : State) (q : Nat) (f : Stream → Stream) : (s.onStream q f).gnss = s.gnss := rfl
@[simp] theorem State.onStream_update (s : State) (q : Nat) (f : Stream → Stream) : (s.onStream q f).update = s.update := rfl
@[simp] theorem State.onStream_reference (s : State) (q : Nat) (f : Stream → Stream) : (s.onStream q f).reference = s.reference := rfl
@[simp] theorem State.onStream_settings (s : State) (q : Nat) (f : Stream → Stream) : (s.onStream q f).settings = s.settings := rfl
@[simp] theorem State.onStream_lanes (s : State) (q : Nat) (f : Stream → Stream) : (s.onStream q f).lanes = s.lanes := rfl
@[simp] theorem State.onStream_routes (s : State) (q : Nat) (f : Stream → Stream) : (s.onStream q f).routes = s.routes := rfl
@[simp] theorem State.onStream_guests (s : State) (q : Nat) (f : Stream → Stream) : (s.onStream q f).guests = s.guests := rfl
@[simp] theorem State.onStream_ledger (s : State) (q : Nat) (f : Stream → Stream) : (s.onStream q f).ledger = s.ledger := rfl
@[simp] theorem State.onStream_halt (s : State) (q : Nat) (f : Stream → Stream) : (s.onStream q f).halt = s.halt := rfl
@[simp] theorem State.onStream_air (s : State) (q : Nat) (f : Stream → Stream) : (s.onStream q f).air = s.air := rfl
@[simp] theorem State.onStream_airLanes (s : State) (q : Nat) (f : Stream → Stream) : (s.onStream q f).airLanes = s.airLanes := rfl
@[simp] theorem State.onStream_pair (s : State) (q : Nat) (f : Stream → Stream) : (s.onStream q f).pair = s.pair := rfl
@[simp] theorem State.onStream_due (s : State) (q : Nat) (f : Stream → Stream) : (s.onStream q f).due = s.due := rfl
@[simp] theorem State.onStream_cells (s : State) (q : Nat) (f : Stream → Stream) : (s.onStream q f).cells = s.cells := rfl
@[simp] theorem State.onStream_checkpoint (s : State) (q : Nat) (f : Stream → Stream) : (s.onStream q f).checkpoint = s.checkpoint := rfl
@[simp] theorem State.onStream_chain (s : State) (q : Nat) (f : Stream → Stream) : (s.onStream q f).chain = s.chain := rfl
@[simp] theorem State.onStream_keys (s : State) (q : Nat) (f : Stream → Stream) : (s.onStream q f).keys = s.keys := rfl
@[simp] theorem State.onStream_disp (s : State) (q : Nat) (f : Stream → Stream) : (s.onStream q f).disp = s.disp := rfl
@[simp] theorem State.onStream_counters (s : State) (q : Nat) (f : Stream → Stream) : (s.onStream q f).counters = s.counters := rfl
@[simp] theorem State.onStream_trip (s : State) (q : Nat) (f : Stream → Stream) : (s.onStream q f).trip = s.trip := rfl
@[simp] theorem State.onStream_panel (s : State) (q : Nat) (f : Stream → Stream) : (s.onStream q f).panel = s.panel := rfl
@[simp] theorem State.onStream_lamps (s : State) (q : Nat) (f : Stream → Stream) : (s.onStream q f).lamps = s.lamps := rfl
@[simp] theorem State.onStream_power (s : State) (q : Nat) (f : Stream → Stream) : (s.onStream q f).power = s.power := rfl
@[simp] theorem State.onStream_tap (s : State) (q : Nat) (f : Stream → Stream) : (s.onStream q f).tap = s.tap := rfl
@[simp] theorem State.onStream_shown (s : State) (q : Nat) (f : Stream → Stream) : (s.onStream q f).shown = s.shown := rfl
@[simp] theorem State.onStream_free (s : State) (q : Nat) (f : Stream → Stream) : (s.onStream q f).free = s.free := rfl
@[simp] theorem State.onStream_pending (s : State) (q : Nat) (f : Stream → Stream) : (s.onStream q f).pending = s.pending := rfl
@[simp] theorem State.onStream_out (s : State) (q : Nat) (f : Stream → Stream) : (s.onStream q f).out = s.out := rfl

/-! ### State.onKeys -/

@[simp] theorem State.onKeys_clock (s : State) (f : Keys → Keys) : (s.onKeys f).clock = s.clock := rfl
@[simp] theorem State.onKeys_time (s : State) (f : Keys → Keys) : (s.onKeys f).time = s.time := rfl
@[simp] theorem State.onKeys_gnss (s : State) (f : Keys → Keys) : (s.onKeys f).gnss = s.gnss := rfl
@[simp] theorem State.onKeys_update (s : State) (f : Keys → Keys) : (s.onKeys f).update = s.update := rfl
@[simp] theorem State.onKeys_reference (s : State) (f : Keys → Keys) : (s.onKeys f).reference = s.reference := rfl
@[simp] theorem State.onKeys_settings (s : State) (f : Keys → Keys) : (s.onKeys f).settings = s.settings := rfl
@[simp] theorem State.onKeys_access (s : State) (f : Keys → Keys) : (s.onKeys f).access = s.access := rfl
@[simp] theorem State.onKeys_lanes (s : State) (f : Keys → Keys) : (s.onKeys f).lanes = s.lanes := rfl
@[simp] theorem State.onKeys_routes (s : State) (f : Keys → Keys) : (s.onKeys f).routes = s.routes := rfl
@[simp] theorem State.onKeys_guests (s : State) (f : Keys → Keys) : (s.onKeys f).guests = s.guests := rfl
@[simp] theorem State.onKeys_ledger (s : State) (f : Keys → Keys) : (s.onKeys f).ledger = s.ledger := rfl
@[simp] theorem State.onKeys_halt (s : State) (f : Keys → Keys) : (s.onKeys f).halt = s.halt := rfl
@[simp] theorem State.onKeys_air (s : State) (f : Keys → Keys) : (s.onKeys f).air = s.air := rfl
@[simp] theorem State.onKeys_airLanes (s : State) (f : Keys → Keys) : (s.onKeys f).airLanes = s.airLanes := rfl
@[simp] theorem State.onKeys_pair (s : State) (f : Keys → Keys) : (s.onKeys f).pair = s.pair := rfl
@[simp] theorem State.onKeys_due (s : State) (f : Keys → Keys) : (s.onKeys f).due = s.due := rfl
@[simp] theorem State.onKeys_cells (s : State) (f : Keys → Keys) : (s.onKeys f).cells = s.cells := rfl
@[simp] theorem State.onKeys_checkpoint (s : State) (f : Keys → Keys) : (s.onKeys f).checkpoint = s.checkpoint := rfl
@[simp] theorem State.onKeys_chain (s : State) (f : Keys → Keys) : (s.onKeys f).chain = s.chain := rfl
@[simp] theorem State.onKeys_disp (s : State) (f : Keys → Keys) : (s.onKeys f).disp = s.disp := rfl
@[simp] theorem State.onKeys_counters (s : State) (f : Keys → Keys) : (s.onKeys f).counters = s.counters := rfl
@[simp] theorem State.onKeys_trip (s : State) (f : Keys → Keys) : (s.onKeys f).trip = s.trip := rfl
@[simp] theorem State.onKeys_panel (s : State) (f : Keys → Keys) : (s.onKeys f).panel = s.panel := rfl
@[simp] theorem State.onKeys_lamps (s : State) (f : Keys → Keys) : (s.onKeys f).lamps = s.lamps := rfl
@[simp] theorem State.onKeys_power (s : State) (f : Keys → Keys) : (s.onKeys f).power = s.power := rfl
@[simp] theorem State.onKeys_tap (s : State) (f : Keys → Keys) : (s.onKeys f).tap = s.tap := rfl
@[simp] theorem State.onKeys_shown (s : State) (f : Keys → Keys) : (s.onKeys f).shown = s.shown := rfl
@[simp] theorem State.onKeys_free (s : State) (f : Keys → Keys) : (s.onKeys f).free = s.free := rfl
@[simp] theorem State.onKeys_pending (s : State) (f : Keys → Keys) : (s.onKeys f).pending = s.pending := rfl
@[simp] theorem State.onKeys_out (s : State) (f : Keys → Keys) : (s.onKeys f).out = s.out := rfl

end Sys2Proof.Machine
end

