-- ==== Sys2Proof/Laws/Serving.lean ====
section
/-! SUPPORT. What becomes of a request that is taken: it reaches its body, and the answer of the body goes out. -/

namespace Sys2Proof.Machine

/-- What a request that is taken finds: the state as it was, but for its session and the instant. -/
theorem State.admitted_takes {s : State} {r : Req} (h : s.takes r) :
    ∃ u, s.begin.admitted r = .go u ∧ Within [.access, .clock] s u ∧ s.sameSchedule u ∧ u.out = [] ∧ u.free = s.free ∧
      u.roles r.origin = s.roles r.origin ∧ u.access.streams = s.access.streams ∧ u.access.transfers = s.access.transfers ∧
      u.access.conditions = s.access.conditions ∧ u.access.errors = s.access.errors ∧ u.access.nmt = s.access.nmt ∧
      u.clock = { s.clock with offset := max s.clock.offset r.stamp } := by
  obtain ⟨hp, h⟩ := h
  have hv : (!(s.begin.stamped r.stamp).serving) = false := by simp [State.serving, hp]
  have hw : Within [Part.access, .clock] s (s.begin.stamped r.stamp) :=
    (State.begin_within.mono rfl).after State.stamped_within rfl
  have hn : s.sameSchedule (s.begin.stamped r.stamp) := ⟨rfl, rfl, rfl, rfl, rfl⟩
  unfold State.admitted
  simp only [hv]
  cases ho : r.origin with
  | can n =>
    rw [ho] at h
    exact ⟨_, if_pos h, hw, hn, rfl, rfl, rfl, rfl, rfl, rfl, rfl, rfl, rfl⟩
  | service =>
    rw [ho] at h
    exact ⟨_, if_pos h, hw, hn, rfl, rfl, rfl, rfl, rfl, rfl, rfl, rfl, rfl⟩
  | vap k =>
    rw [ho] at h
    obtain ⟨e, he, ht, hj, hd, ho16, hp16⟩ := h
    have he' : tfind (s.begin.stamped r.stamp).access.sessions k = some e := he
    simp only [he', Bool.false_eq_true, if_false]
    unfold admitVap
    have hf : e.answers.find? (fun a => decide (a.1 = r.id)) = none := by simpa [List.find?_eq_none] using hd
    have ha : ¬ (e.answers.length = 16 ∧ (e.answers.all fun a => decide (r.id < a.1)) = true) := by simpa using ho16
    simp only [ht, hj, hf, ha, Bool.not_true, Bool.false_eq_true, if_false, Nat.not_le.mpr hp16]
    refine ⟨_, rfl, hw.trans (within_access rfl), hn, rfl, rfl, ?_, rfl, rfl, rfl, rfl, rfl, rfl⟩
    simp only [State.roles, tfind_tset, he]

/-- A request that is taken is answered as its body says, on a state that is as before but for session and instant. -/
theorem State.serve_takes {s : State} {r : Req} (body : State → State × Answer) (h : s.takes r) :
    ∃ u, s.begin.serve r body = (body u).1.answer r (body u).2 ∧ Within [.access, .clock] s u ∧ s.sameSchedule u ∧ u.out = [] ∧
      u.free = s.free ∧ u.roles r.origin = s.roles r.origin ∧ u.access.streams = s.access.streams ∧
      u.access.transfers = s.access.transfers ∧ u.access.conditions = s.access.conditions ∧ u.access.errors = s.access.errors ∧
      u.access.nmt = s.access.nmt ∧
      u.clock = { s.clock with offset := max s.clock.offset r.stamp } := by
  obtain ⟨u, hu, hr⟩ := State.admitted_takes h
  exact ⟨u, by simp only [State.serve, hu], hr⟩

/-- The checks on an entry do not depend on session and instant. -/
theorem State.commandCheck_congr {s u : State} {r : Req} {index sub : Nat} {data : Bytes} (hw : Within [.access, .clock] s u)
    (hr : u.roles r.origin = s.roles r.origin) : u.commandCheck r index sub data = s.commandCheck r index sub data := by
  have h1 : u.update = s.update := hw .update rfl
  have h2 : u.pair = s.pair := hw .pair rfl
  unfold State.commandCheck State.precheck State.isStandby
  rw [hr, h1, h2]

/-- A write that is taken and passes the checks on its entry is answered as its body says. -/
theorem State.serveWrite_takes {s : State} {r : Req} {index sub : Nat} {data : Bytes} (body : State → State × Answer)
    (h : s.takes r) (hc : s.commandCheck r index sub data = none) :
    ∃ u, s.begin.serveWrite r index sub data body = (body u).1.answer r (body u).2 ∧ Within [.access, .clock] s u ∧
      s.sameSchedule u ∧ u.out = [] ∧ u.free = s.free ∧ u.roles r.origin = s.roles r.origin ∧
      u.access.streams = s.access.streams ∧ u.access.transfers = s.access.transfers ∧
      u.access.conditions = s.access.conditions ∧ u.access.errors = s.access.errors ∧ u.access.nmt = s.access.nmt ∧
      u.clock = { s.clock with offset := max s.clock.offset r.stamp } := by
  obtain ⟨u, hu, hr⟩ := State.serve_takes (State.checkedWrite r index sub data body) h
  refine ⟨u, ?_, hr⟩
  unfold State.serveWrite
  rw [hu]
  simp only [State.checkedWrite, State.commandCheck_congr hr.1 hr.2.2.2.2.1, hc]

/-- An answer goes out. -/
theorem State.answer_says (s : State) (r : Req) (a : Answer) : (s.answer r a).says r a := by
  unfold State.says State.answer
  split
  · dsimp only; split <;> simp [State.emit]
  · dsimp only; split <;> simp [State.emit]
  · simp [State.emit]

/-- The state `u` that the body of the request `r` finds: the state `s` but for the session and the instant. -/
structure Arrived (s u : State) (r : Req) : Prop where
  within : Within [.access, .clock] s u
  schedule : s.sameSchedule u
  out : u.out = []
  free : u.free = s.free
  roles : u.roles r.origin = s.roles r.origin
  streams : u.access.streams = s.access.streams
  transfers : u.access.transfers = s.access.transfers
  conditions : u.access.conditions = s.access.conditions
  errors : u.access.errors = s.access.errors
  nmt : u.access.nmt = s.access.nmt
  clock : u.clock = { s.clock with offset := max s.clock.offset r.stamp }

/-- What a request that is taken finds, by name. -/
theorem Arrived.mk' {s u : State} {r : Req} (h : Within [.access, .clock] s u ∧ s.sameSchedule u ∧ u.out = [] ∧ u.free = s.free ∧
    u.roles r.origin = s.roles r.origin ∧ u.access.streams = s.access.streams ∧ u.access.transfers = s.access.transfers ∧
    u.access.conditions = s.access.conditions ∧ u.access.errors = s.access.errors ∧ u.access.nmt = s.access.nmt ∧
    u.clock = { s.clock with offset := max s.clock.offset r.stamp }) : Arrived s u r := by
  obtain ⟨a, b, c, d, e, f, g, h, i, j, k⟩ := h
  exact ⟨a, b, c, d, e, f, g, h, i, j, k⟩

/-- A request that is taken and whose body answers `a` on the state it finds completes with that answer. -/
theorem State.serve_completes {s : State} {r : Req} {body : State → State × Answer} {a : Answer} {P : State → Prop}
    (h : s.takes r) (hb : ∀ u, Arrived s u r → ∃ y, body u = (y, a) ∧ ∀ z, Within [.access, .update] y z → P z) :
    (s.begin.serve r body).says r a ∧ P (s.begin.serve r body) := by
  obtain ⟨u, hu, hw⟩ := State.serve_takes body h
  obtain ⟨y, hy, hp⟩ := hb u (Arrived.mk' hw)
  rw [hu, hy]
  exact ⟨State.answer_says y r a, hp _ State.answer_within⟩

/-- A write that is taken, passes the checks and whose body answers `a` on the state it finds completes with that answer. -/
theorem State.serveWrite_completes {s : State} {r : Req} {index sub : Nat} {data : Bytes} {body : State → State × Answer}
    {a : Answer} {P : State → Prop} (h : s.grants r index sub data)
    (hb : ∀ u, Arrived s u r → ∃ y, body u = (y, a) ∧ ∀ z, Within [.access, .update] y z → P z) :
    (s.begin.serveWrite r index sub data body).says r a ∧ P (s.begin.serveWrite r index sub data body) := by
  obtain ⟨u, hu, hw⟩ := State.serveWrite_takes body h.1 h.2
  obtain ⟨y, hy, hp⟩ := hb u (Arrived.mk' hw)
  rw [hu, hy]
  exact ⟨State.answer_says y r a, hp _ State.answer_within⟩

end Sys2Proof.Machine
end

