-- ==== Sys2Proof/Laws/Accepting.lean ====
section
/-! SUPPORT. Requests that order something of a lane: what their body finds, and what the acceptance of a plan does. -/

namespace Sys2Proof.Machine

/-- A lane whose stored value is sound passes the check of R19 as it is. -/
theorem State.checkLane_sound {s : State} {n : Nat} (h : s.frozen n = false) : s.checkLane n = s := by
  unfold State.frozen at h
  unfold State.checkLane
  rw [Bool.or_eq_false_iff] at h
  simp [h.2]
/-- Superseded plans are answered; the ledger stays. -/
theorem State.answerAll_within (l : List Plan) (s : State) :
    Within [.cells, .access, .update] s (l.foldl (fun (t : State) p => t.answerSuperseded p) s) :=
  Within.foldl (f := fun (t : State) (p : Plan) => t.answerSuperseded p) (fun _ _ => State.answerSuperseded_within) (Within.refl _ _)
/-- A queue within its size sheds nothing. -/
theorem State.shedPlan_short {s : State} (h : s.queuedPlans.length ≤ 256) : s.shedPlan = s := by
  unfold State.shedPlan
  cases hq : s.queuedPlans with
  | nil => rfl
  | cons p t =>
    rw [hq, List.length_cons] at h
    exact if_pos (by omega)
theorem length_filter_map_le {α : Type} (p : α → Bool) (f : α → α) (hf : ∀ x, p (f x) = true → p x = true) (l : List α) :
    ((l.map f).filter p).length ≤ (l.filter p).length := by
  induction l with
  | nil => exact Nat.le_refl _
  | cons x l ih =>
    rw [List.map_cons, List.filter_cons, List.filter_cons]
    by_cases h : p (f x) = true
    · rw [if_pos h, if_pos (hf x h)]; exact Nat.succ_le_succ ih
    · rw [if_neg h]
      split
      · exact Nat.le_succ_of_le ih
      · exact ih
theorem State.accept_core {s x : State} {lane : Nat} {what : PlanWhat} {req : Option Req} (m : State → State)
    (hm : ∀ y, Within [.pair, .counters] y (m y)) (hl : x.ledger = s.ledger) (hn : x.lanes = s.lanes)
    (hq : s.queuedPlans.length < 256) :
    s.acceptedPlan ((((m { x with ledger := { x.ledger with
        plans := x.ledger.plans.map (fun q => if q.supersededBy lane s.window then
          { q with result := some 3, awaiting := false, req := none } else q) ++
          [{ id := x.ledger.nextPlan, lane := lane, what := what, req := req, submit := s.window, epoch := (x.lane lane).epoch, first := s.window + 3 }]
        nextPlan := x.ledger.nextPlan + 1 } }).onRoute lane
        (fun r => { r with lastAccepted := x.ledger.nextPlan })).count 0x409 1).shedPlan) lane what req s.window := by
  rw [show x.lane lane = s.lane lane by unfold State.lane; rw [hn], hl]
  generalize hp : ({ id := s.ledger.nextPlan, lane := lane, what := what, req := req, submit := s.window, epoch := (s.lane lane).epoch, first := s.window + 3 } : Plan) = p
  generalize hps : List.map (fun q => if q.supersededBy lane s.window = true then { q with result := some 3, awaiting := false, req := none } else q) s.ledger.plans ++ [p] = ps
  generalize hy : ({ x with ledger := { s.ledger with plans := ps, nextPlan := s.ledger.nextPlan + 1 } } : State) = y
  have hpq : ((ps.filter (fun q => q.what.ofLane && q.result = none && !q.profiled)).length ≤ 256) := by
    rw [← hps, List.filter_append, List.length_append]
    have h1 := length_filter_map_le (fun q : Plan => q.what.ofLane && q.result = none && !q.profiled)
      (fun q => if q.supersededBy lane s.window = true then { q with result := some 3, awaiting := false, req := none } else q) (by
        intro q h
        split at h
        · simp at h
        · exact h) s.ledger.plans
    have h2 : ([p].filter (fun q => q.what.ofLane && q.result = none && !q.profiled)).length ≤ 1 := List.length_filter_le _ [p]
    unfold State.queuedPlans at hq
    omega
  have hyl : y.ledger = { s.ledger with plans := ps, nextPlan := s.ledger.nextPlan + 1 } := by rw [← hy]
  generalize hzz : m y = z
  have hz : Within [.pair, .counters] y z := hzz ▸ hm y
  have hzl : z.ledger = y.ledger := hz .ledger rfl
  rw [State.shedPlan_short (by
    unfold State.queuedPlans
    rw [State.count_ledger]
    show ((z.ledger.plans.filter _).length ≤ 256)
    rw [hzl, hyl]; exact hpq)]
  unfold State.acceptedPlan
  rw [State.count_ledger]
  refine ⟨?_, ?_, ?_⟩
  · show z.ledger.plans = _
    rw [hzl, hyl, ← hps, ← hp]
  · show z.ledger.nextPlan = _
    rw [hzl, hyl]
  · unfold State.route
    rw [State.count_routes]
    simp [State.onRoute]
/-- What the acceptance of a lane's plan does to the ledger and to the lane's route record. -/
theorem State.acceptPlan_spec {s : State} {lane : Nat} {what : PlanWhat} {req : Option Req} (ho : what.ofLane = true)
    (hq : s.queuedPlans.length < 256) : s.acceptedPlan (s.acceptPlan lane what req) lane what req s.window := by
  have hw := State.answerAll_within (s.ledger.plans.filter (fun p => what.ofLane && p.supersededBy lane s.window)) s
  unfold State.acceptPlan
  dsimp only
  generalize List.foldl (fun (t : State) p => t.answerSuperseded p) s
    (s.ledger.plans.filter (fun p => what.ofLane && p.supersededBy lane s.window)) = x at hw ⊢
  have hl : x.ledger = s.ledger := hw .ledger rfl
  have hn : x.lanes = s.lanes := hw .lanes rfl
  cases what with
  | route b =>
    simp only [PlanWhat.ofLane, if_true, Bool.true_and, Bool.not_true]
    exact State.accept_core (fun y => y.mirror 0 (.route lane b x.ledger.nextPlan)) (fun y => State.mirror_within) hl hn hq
  | hold b =>
    simp only [PlanWhat.ofLane, if_true, Bool.true_and, Bool.not_true]
    exact State.accept_core (fun y => y.mirror 0 (.command lane 1 x.ledger.nextPlan)) (fun y => State.mirror_within) hl hn hq
  | resume =>
    simp only [PlanWhat.ofLane, if_true, Bool.true_and, Bool.not_true]
    exact State.accept_core (fun y => y.mirror 0 (.command lane 2 x.ledger.nextPlan)) (fun y => State.mirror_within) hl hn hq
  | limit prev =>
    simp only [PlanWhat.ofLane, if_true, Bool.true_and, Bool.not_true]
    generalize (InputItem.limit lane _ _) = item
    exact State.accept_core (fun y => y.mirror 0 item) (fun y => State.mirror_within) hl hn hq
  | permit _ _ _ _ _ _ =>
    simp only [PlanWhat.ofLane, if_true, Bool.true_and, Bool.not_true]
    exact State.accept_core (fun y => y) (fun y => Within.refl _ _) hl hn hq
  | closure _ _ => cases ho
  | settings _ _ => cases ho
/-- The vocabulary of an accepted plan reads ledger, lane and route records only. -/
theorem State.acceptedPlan_congr {s t u v : State} {lane : Nat} {what : PlanWhat} {req : Option Req} {w : U32}
    (h : u.acceptedPlan v lane what req w) (hl : u.ledger = s.ledger) (hn : u.lanes = s.lanes) (hl' : t.ledger = v.ledger)
    (hr : t.routes = v.routes) : s.acceptedPlan t lane what req w := by
  unfold State.acceptedPlan State.route State.lane at h ⊢
  rw [hl', hr, ← hl, ← hn]
  exact h
theorem Arrived.window {s u : State} {r : Req} (h : Arrived s u r) : u.window = (s.stamped r.stamp).window := by
  unfold State.window
  rw [h.clock]
  rfl
/-- A request whose body accepts a plan completes with the plan accepted. -/
theorem State.serveWrite_accepts {s : State} {r : Req} {index sub : Nat} {data : Bytes} {body : State → State × Answer} {a : Answer}
    {lane : Nat} {what : PlanWhat} {req : Option Req} (h : s.grants r index sub data) (ho : what.ofLane = true)
    (hq : s.queuedPlans.length < 256) (hb : ∀ u, Arrived s u r → body u = (u.acceptPlan lane what req, a)) :
    (s.begin.serveWrite r index sub data body).says r a ∧
      s.acceptedPlan (s.begin.serveWrite r index sub data body) lane what req (s.stamped r.stamp).window := by
  refine State.serveWrite_completes (P := fun t => s.acceptedPlan t lane what req (s.stamped r.stamp).window) h fun u hu => ?_
  refine ⟨_, hb u hu, fun z hz => ?_⟩
  have h1 : u.ledger = s.ledger := hu.within .ledger rfl
  have h2 : u.lanes = s.lanes := hu.within .lanes rfl
  rw [← hu.window]
  exact State.acceptedPlan_congr (State.acceptPlan_spec ho (by unfold State.queuedPlans; rw [h1]; exact hq)) h1 h2 (hz .ledger rfl) (hz .routes rfl)
theorem Arrived.laneIs {s u : State} {r : Req} {n : Nat} {l : LaneState} (h : Arrived s u r) : u.laneIs n l = s.laneIs n l := by
  unfold State.laneIs State.lane; rw [show u.lanes = s.lanes from h.within .lanes rfl]
theorem Arrived.frozen {s u : State} {r : Req} {n : Nat} (h : Arrived s u r) : u.frozen n = s.frozen n := by
  unfold State.frozen State.lane; rw [show u.lanes = s.lanes from h.within .lanes rfl]
theorem Arrived.ck {s u : State} {r : Req} {n : Nat} (h : Arrived s u r) : u.ck n = s.ck n := by
  unfold State.ck; rw [show u.checkpoint = s.checkpoint from h.within .checkpoint rfl]

theorem State.laneOrder_completes {s : State} {r : Req} {lane code : Nat} (hm : code = 1 ∨ code = 2 ∨ code = 3 ∨ code = 4 ∨ code = 5)
    (hg : s.grants r (0x4000 + lane) 0x10 (le 1 code)) (hr : permitted (s.roles r.origin) (laneCommandRoles code) = true)
    (hf : s.frozen lane = false ∨ code = 5) (hh : code = 1 → s.laneIs lane .halted = false) :
    (laneOrder r lane code s.begin).says r .pending ∧
      (laneOrder r lane code s.begin).due = s.due ++ [{ lane := lane, what := .command code r }] ∧
      (s.frozen lane = false → (laneOrder r lane code s.begin).lanes = s.lanes) := by
  refine State.serveWrite_completes (P := fun t => t.due = s.due ++ [{ lane := lane, what := .command code r }] ∧
      (s.frozen lane = false → t.lanes = s.lanes)) hg fun u hu => ?_
  have hw := State.checkLane_within (n := lane) (s := u)
  have hroles : (u.checkLane lane).roles r.origin = s.roles r.origin := by
    rw [← hu.roles]
    unfold State.checkLane
    dsimp only
    split
    · unfold State.roles
      cases r.origin <;> simp [State.raise_sessions, State.onLane, State.raise_settings, Units.cfgNat, Units.cfg]
    · rfl
  have h1 : ¬ (code = 0 ∨ 5 < code) := by omega
  have h2 : ¬ ((u.checkLane lane).frozen lane = true ∧ code ≠ 5) := by
    rintro ⟨h, h'⟩
    rcases hf with hf | hf
    · rw [State.checkLane_sound (hu.frozen.trans hf), hu.frozen, hf] at h; cases h
    · exact h' hf
  have h3 : ¬ (code = 1 ∧ (u.checkLane lane).laneIs lane .halted = true) := by
    rintro ⟨h, h'⟩
    rcases hf with hf | hf
    · rw [State.checkLane_sound (hu.frozen.trans hf), hu.laneIs, hh h] at h'; cases h'
    · omega
  refine ⟨{ (u.checkLane lane) with due := (u.checkLane lane).due ++ [{ lane := lane, what := .command code r }] }, ?_, ?_⟩
  · unfold State.orderLane
    dsimp only
    rw [if_neg h1, if_neg (by rw [hroles, hr]; decide), if_neg h2, if_neg h3]
  · intro z hz
    refine ⟨?_, fun hfr => ?_⟩
    · rw [show z.due = _ from hz .due rfl]
      show (u.checkLane lane).due ++ _ = _
      rw [show (u.checkLane lane).due = u.due from hw .due rfl, show u.due = s.due from hu.within .due rfl]
    · rw [show z.lanes = _ from hz .lanes rfl]
      show (u.checkLane lane).lanes = _
      rw [State.checkLane_sound (hu.frozen.trans hfr)]
      exact hu.within .lanes rfl

/-- A limit stored without a limit plan. -/
theorem State.storeLimits_plain {s : State} {req : Option Req} {lane sub : Nat} {v : Int}
    (hs : s.storeFull [numberItem (key (0x4100 + lane) sub) v] = false)
    (hn : ¬ ((sub ≤ 5 ∨ sub = 9) ∧ s.laneIs lane .moving = true ∧ s.otherPlan lane = false)) :
    ∃ y, s.storeLimits req lane [(sub, v)] = (y, .done []) ∧ y.settings = s.settings.accept (0x4100 + lane) sub v ∧ y.ledger = s.ledger := by
  unfold State.storeLimits
  dsimp only [List.map, List.foldl]
  generalize hx : ({ s with settings := s.settings.accept (0x4100 + lane) sub v } : State) = x
  have h1 : x.laneIs lane .moving = s.laneIs lane .moving := by rw [← hx]; rfl
  have h2 : x.otherPlan lane = s.otherPlan lane := by rw [← hx]; rfl
  rw [if_neg (by rw [hs]; decide), if_neg (by rw [h1, h2]; simpa using hn)]
  have hw : Within [.pair, .counters, .access, .trip, .panel, .update] x ((x.mirror 0 (.settings [numberItem (key (0x4100 + lane) sub) v])).journal [numberItem (key (0x4100 + lane) sub) v]) :=
    (State.mirror_within.mono rfl).trans (State.journal_within.mono rfl)
  exact ⟨_, rfl, (hw .settings rfl).trans (by rw [← hx]), (hw .ledger rfl).trans (by rw [← hx])⟩
/-- A limit stored with a limit plan. -/
theorem State.storeLimits_plan {s : State} {req : Option Req} {lane sub : Nat} {v : Int}
    (hs : s.storeFull [numberItem (key (0x4100 + lane) sub) v] = false) (hq : s.queuedPlans.length < 256)
    (h1 : sub ≤ 5 ∨ sub = 9) (h2 : s.laneIs lane .moving = true) (h3 : s.otherPlan lane = false) :
    ∃ y, s.storeLimits req lane [(sub, v)] = (y, .pending) ∧ y.settings = s.settings.accept (0x4100 + lane) sub v ∧
      s.acceptedPlan y lane (.limit [(sub, s.cfgAccepted (0x4100 + lane) sub)]) req s.window := by
  unfold State.storeLimits
  dsimp only [List.map, List.foldl]
  generalize hx : ({ s with settings := s.settings.accept (0x4100 + lane) sub v } : State) = x
  have h1' : x.laneIs lane .moving = s.laneIs lane .moving := by rw [← hx]; rfl
  have h2' : x.otherPlan lane = s.otherPlan lane := by rw [← hx]; rfl
  have hl : x.ledger = s.ledger := by rw [← hx]
  have hn : x.lanes = s.lanes := by rw [← hx]
  have hc : x.window = s.window := by rw [← hx]; rfl
  rw [if_neg (by rw [hs]; decide), if_pos (by rw [h1', h2', h2, h3]; simpa using h1)]
  have hw := State.acceptPlan_within (lane := lane) (what := .limit [(sub, s.cfgAccepted (0x4100 + lane) sub)]) (req := req) (s := x)
  refine ⟨_, rfl, (hw .settings rfl).trans (by rw [← hx]), ?_⟩
  rw [← hc]
  exact State.acceptedPlan_congr (State.acceptPlan_spec rfl (by unfold State.queuedPlans at hq ⊢; rw [hl]; exact hq)) hl hn rfl rfl
theorem State.commandCheck_arrived {s u : State} {r : Req} {index sub : Nat} {data : Bytes} (h : Arrived s u r) :
    u.commandCheck r index sub data = s.commandCheck r index sub data := State.commandCheck_congr h.within h.roles
theorem State.areaCheck_arrived {s u : State} {r : Req} {area : Nat} (h : Arrived s u r) (l : List (Nat × Bytes)) :
    u.areaCheck r area l = s.areaCheck r area l := by
  induction l with
  | nil => rfl
  | cons x l ih => unfold State.areaCheck; rw [State.commandCheck_arrived h, ih]
/-- What the acceptance of a closure change does to the ledger. -/
theorem State.acceptPlan_closure {s : State} {lane area : Nat} {items : List (Nat × Int)} {req : Option Req} :
    ∃ x, s.acceptPlan lane (.closure area items) req = x ∧ Within [.ledger, .pair, .counters] s x ∧ x.ledger.nextPlan = s.ledger.nextPlan ∧
      ∃ p, x.ledger.plans = s.ledger.plans ++ [p] ∧ p.id = BitVec.ofNat 32 area ∧ p.req = req ∧ p.submit = s.window ∧
        p.first = p.submit + 2 ∧ p.what = .closure area items := by
  unfold State.acceptPlan
  dsimp only
  simp only [PlanWhat.ofLane, Bool.false_and, List.filter_false, List.foldl_nil, Bool.false_eq_true, if_false, List.map_id', Bool.not_false]
  generalize hp : ({ id := BitVec.ofNat 32 area, lane := lane, what := .closure area items, req := req, submit := s.window, epoch := 0, first := s.window + 2, profiled := true } : Plan) = p
  generalize hx : ({ s with ledger := { s.ledger with plans := s.ledger.plans ++ [p] } } : State) = x
  have hw : Within [.ledger, .pair, .counters] s (x.mirror 0 (.closure area (items.map (fun x => (x.1, le 4 x.2))) (BitVec.ofNat 32 area))) :=
    Within.trans (by rw [← hx]; exact within_ledger rfl) (State.mirror_within.mono rfl)
  have hl : (x.mirror 0 (.closure area (items.map (fun x => (x.1, le 4 x.2))) (BitVec.ofNat 32 area))).ledger = x.ledger := State.mirror_within .ledger rfl
  refine ⟨_, rfl, hw, ?_, p, ?_, ?_⟩
  · rw [hl, ← hx]
  · rw [hl, ← hx]
  · rw [← hp]; exact ⟨rfl, rfl, rfl, rfl, rfl⟩

end Sys2Proof.Machine
end

