-- ==== Sys2Proof/Laws/Cells.lean ====
section
/-! SUPPORT. What each operation of Machine/Cells.lean may change: the parts listed, what goes out, and the free values drawn. -/

namespace Sys2Proof.Machine

theorem State.acceptPermit_within {pair : ℕ} {plan : U32} {lane : ℕ} {border : U32} {handover : U32} {commit : U32} {run :
    EnvelopeRun} {s : State} : Within [Part.ledger] s (State.acceptPermit pair plan lane border handover commit run s) :=
  within_ledger rfl

theorem State.beginHandovers_within {s : State} : Within [Part.lanes, .access, .counters, .trip, .panel] s
    (State.beginHandovers s) := by
  unfold State.beginHandovers
  refine Within.foldl (fun _ _ => ?_) ?_
  · split
    · refine Within.ite ?_ ?_
      · refine Within.after ?_ State.onLane_within rfl
        exact State.transition_within.mono rfl
      · exact Within.refl _ _
    · exact Within.refl _ _
  · exact Within.refl _ _

theorem State.takeLane_within {s : State} {x : ℕ × HandoverMsg} : Within [Part.lanes, .airLanes, .settings, .guests, .cells,
    .checkpoint, .routes, .access, .counters, .trip, .panel, .ledger] s (State.takeLane s x) := by
  unfold State.takeLane
  dsimp only
  split
  · refine Within.after ?_ State.applyHalt_within rfl
    refine Within.after ?_ State.configure_within rfl
    refine Within.after ?_ State.verdictChange_within rfl
    refine Within.after ?_ State.transition_within rfl
    refine Within.after ?_ State.onRoute_within rfl
    refine Within.trans ?_ (within_guests_cells_checkpoint rfl rfl rfl)
    refine Within.after ?_ State.settle_within rfl
    refine Within.after ?_ State.settle_within rfl
    refine Within.after ?_ State.settle_within rfl
    refine Within.after ?_ State.settle_within rfl
    refine Within.after ?_ State.settle_within rfl
    refine Within.after ?_ State.settle_within rfl
    refine Within.after ?_ State.settle_within rfl
    refine Within.after ?_ State.settle_within rfl
    refine Within.after ?_ State.settle_within rfl
    refine Within.after ?_ State.settle_within rfl
    refine Within.after ?_ State.settle_within rfl
    refine Within.after ?_ State.settle_within rfl
    refine Within.after ?_ State.settle_within rfl
    refine Within.after ?_ State.onAirLane_within rfl
    exact State.onLane_within.mono rfl
  · exact Within.refl _ _

theorem State.takeLanes_within {s : State} : Within [Part.lanes, .airLanes, .settings, .guests, .cells, .checkpoint,
    .routes, .access, .counters, .trip, .panel, .ledger] s (State.takeLanes s) := by
  unfold State.takeLanes
  refine Within.ite ?_ ?_
  · exact Within.refl _ _
  · refine Within.foldl (fun _ _ => ?_) ?_
    · exact State.takeLane_within.mono rfl
    · exact Within.refl _ _

theorem State.dropGuest_within {n : ℕ} {s : State} : Within [Part.lanes, .guests, .cells, .routes] s (State.dropGuest n s)
    := by
  unfold State.dropGuest
  refine Within.after ?_ State.onRoute_within rfl
  refine Within.trans ?_ (within_guests_cells rfl rfl)
  exact State.onLane_within.mono rfl

theorem State.endGuest_within {n : ℕ} {s : State} : Within [Part.lanes, .guests, .cells, .routes, .ledger] s (State.endGuest
    n s) := by
  unfold State.endGuest
  refine Within.trans ?_ (within_ledger rfl)
  exact State.dropGuest_within.mono rfl

theorem State.dropWithdrawn_within {s : State} : Within [Part.lanes, .guests, .cells, .routes, .ledger] s
    (State.dropWithdrawn s) := by
  unfold State.dropWithdrawn
  refine Within.foldl (fun _ _ => ?_) ?_
  · exact State.endGuest_within.mono rfl
  · exact Within.refl _ _

theorem State.mismatchedGuests_within {s : State} : Within [Part.cells, .routes] s (State.mismatchedGuests s) := by
  unfold State.mismatchedGuests
  refine Within.foldl (fun _ _ => ?_) ?_
  · split
    · refine Within.ite ?_ ?_
      · exact Within.refl _ _
      · refine Within.after ?_ State.onRoute_within rfl
        exact State.withdraw_within.mono rfl
    · exact Within.refl _ _
  · exact Within.refl _ _

theorem State.arrive_within {n : ℕ} {msg : HandoverMsg} {s : State} : Within [Part.cells] s (State.arrive n msg s) :=
  within_cells rfl

theorem State.noteRegion_within {pair : ℕ} {vertices : List (ℤ × ℤ)} {horizon : ℕ} {numbering : ℕ} {s : State} : Within
    [Part.ledger, .access, .counters, .trip, .panel] s (State.noteRegion pair vertices horizon numbering s) := by
  unfold State.noteRegion
  refine Within.ite ?_ ?_
  · exact Within.refl _ _
  · refine Within.ite ?_ ?_
    · refine Within.after ?_ State.raise_within rfl
      exact within_ledger rfl
    · refine Within.ite ?_ ?_
      · refine Within.after ?_ State.raise_within rfl
        exact within_ledger rfl
      · exact within_ledger rfl

theorem State.grantPlan_within {plan : U32} {lane : ℕ} {keySet : Bytes} {s : State} : Within [Part.ledger] s
    (State.grantPlan plan lane keySet s) := by
  unfold State.grantPlan
  refine Within.trans ?_ (within_ledger rfl)
  exact State.onPlan_within.mono rfl

theorem State.refusePlan_within {plan : U32} {s : State} : Within [Part.ledger] s (State.refusePlan plan s) := by
  unfold State.refusePlan
  refine Within.trans ?_ (within_ledger rfl)
  exact State.onPlan_within.mono rfl

theorem State.finalGuest_within {n : ℕ} {g : Guest} {start : Pose} {legs : List Leg} {stretches : List Stretch} {s : State}
    : Within [Part.guests] s (State.finalGuest n g start legs stretches s) :=
  within_guests rfl

theorem State.withdrawGuest_within {n : ℕ} {s : State} : Within [Part.guests] s (State.withdrawGuest n s) := by
  unfold State.withdrawGuest
  split
  · exact Within.refl _ _
  · exact within_guests rfl

theorem State.cellTick_within {s : State} : Within [Part.keys, .cells] s (State.cellTick s) := by
  unfold State.cellTick
  refine Within.trans ?_ (within_cells rfl)
  refine Within.foldl (fun _ _ => ?_) ?_
  · exact State.sendCell_within.mono rfl
  · refine Within.foldl (fun _ _ => ?_) ?_
    · exact State.sendCell_within.mono rfl
    · exact Within.refl _ _

theorem State.sendRegions_within {s : State} : Within [Part.keys] s (State.sendRegions s) := by
  unfold State.sendRegions
  refine Within.foldl (fun _ _ => ?_) ?_
  · exact State.sendCell_within.mono rfl
  · exact Within.refl _ _

theorem State.sendHandovers_within {s : State} : Within [Part.keys] s (State.sendHandovers s) := by
  unfold State.sendHandovers
  refine Within.foldl (fun _ _ => ?_) ?_
  · split
    · refine Within.ite ?_ ?_
      · exact State.sendCell_within.mono rfl
      · exact Within.refl _ _
    · exact Within.refl _ _
  · exact Within.refl _ _

theorem State.timeoutDue_within {n : ℕ} {what : DueWhat} {s : State} : Within [Part.due] s (State.timeoutDue n what s) := by
  unfold State.timeoutDue
  refine Within.ite ?_ ?_
  · exact Within.refl _ _
  · exact within_due rfl

theorem admissionTimeout_within {lane : ℕ} {s : State} : Within [Part.due] s (admissionTimeout lane s) := by
  unfold admissionTimeout
  refine Within.ite ?_ ?_
  · exact State.timeoutDue_within.mono rfl
  · exact Within.refl _ _

theorem commitNotice_within {pair : ℕ} {plan : U32} {start : Pose} {legs : List Leg} {stretches : List Stretch} {stamp : ℕ}
    {s : State} : Within [Part.clock, .pair, .counters, .guests] s (commitNotice pair plan start legs stretches stamp s) :=
    by
  unfold commitNotice
  dsimp only
  split
  · exact State.stamped_within.mono rfl
  · refine Within.ite ?_ ?_
    · exact State.stamped_within.mono rfl
    · refine Within.after ?_ State.finalGuest_within rfl
      refine Within.after ?_ State.mirror_within rfl
      exact State.stamped_within.mono rfl

theorem confirmReceive_within {pair : ℕ} {plan : U32} {_lane : ℕ} {stamp : ℕ} {s : State} : Within [Part.clock, .due, .keys,
    .access, .counters, .trip, .panel] s (confirmReceive pair plan _lane stamp s) := by
  unfold confirmReceive
  refine Within.ite ?_ ?_
  · exact State.stamped_within.mono rfl
  · split
    · refine Within.ite ?_ ?_
      · exact State.stamped_within.mono rfl
      · refine Within.trans ?_ (within_due rfl)
        exact State.stamped_within.mono rfl
    · refine Within.ite ?_ ?_
      · refine Within.after ?_ State.sendCell_within rfl
        exact State.stamped_within.mono rfl
      · refine Within.ite ?_ ?_
        · refine Within.after ?_ State.raise_within rfl
          exact State.stamped_within.mono rfl
        · exact State.stamped_within.mono rfl

theorem execAdmissionTimeout_within {lane : ℕ} {s : State} : Within.post [Part.due] s (execAdmissionTimeout lane s) := by
  unfold execAdmissionTimeout
  refine running_within (fun _ => ?_) ?_ rfl
  · exact admissionTimeout_within.mono rfl
  · exact Within.refl _ _

theorem releaseTimeout_within {lane : ℕ} {s : State} : Within [Part.due] s (releaseTimeout lane s) := by
  unfold releaseTimeout
  refine Within.ite ?_ ?_
  · exact State.timeoutDue_within.mono rfl
  · exact Within.refl _ _

theorem execReleaseTimeout_within {lane : ℕ} {s : State} : Within.post [Part.due] s (execReleaseTimeout lane s) := by
  unfold execReleaseTimeout
  refine running_within (fun _ => ?_) ?_ rfl
  · exact releaseTimeout_within.mono rfl
  · exact Within.refl _ _

theorem handoverTimeout_within {lane : ℕ} {s : State} : Within [Part.due] s (handoverTimeout lane s) := by
  unfold handoverTimeout
  refine Within.ite ?_ ?_
  · exact State.timeoutDue_within.mono rfl
  · exact Within.refl _ _

theorem execHandoverConfirmationTimeout_within {lane : ℕ} {s : State} : Within.post [Part.due] s
    (execHandoverConfirmationTimeout lane s) := by
  unfold execHandoverConfirmationTimeout
  refine running_within (fun _ => ?_) ?_ rfl
  · exact handoverTimeout_within.mono rfl
  · exact Within.refl _ _

theorem permitWaitExpire_within {plan : U32} {s : State} : Within [Part.clock, .ledger, .cells] s (permitWaitExpire plan s)
    := by
  unfold permitWaitExpire
  split
  · exact Within.refl _ _
  · split
    · exact Within.refl _ _
    · refine Within.ite ?_ ?_
      · refine Within.after ?_ State.withdraw_within rfl
        refine Within.after ?_ State.onPlan_within rfl
        exact State.stamped_within.mono rfl
      · exact Within.refl _ _

theorem execPermitWaitExpire_within {plan : U32} {s : State} : Within.post [Part.clock, .ledger, .cells] s
    (execPermitWaitExpire plan s) := by
  unfold execPermitWaitExpire
  refine running_within (fun _ => ?_) ?_ rfl
  · exact permitWaitExpire_within.mono rfl
  · exact Within.refl _ _

theorem guestPlanExpire_within {lane : ℕ} {s : State} : Within [Part.clock, .guests] s (guestPlanExpire lane s) := by
  unfold guestPlanExpire
  split
  · exact Within.refl _ _
  · refine Within.ite ?_ ?_
    · exact Within.refl _ _
    · refine Within.after ?_ State.withdrawGuest_within rfl
      exact State.stamped_within.mono rfl

theorem execGuestPlanExpire_within {lane : ℕ} {s : State} : Within.post [Part.clock, .guests] s (execGuestPlanExpire lane s)
    := by
  unfold execGuestPlanExpire
  refine running_within (fun _ => ?_) ?_ rfl
  · exact guestPlanExpire_within.mono rfl
  · exact Within.refl _ _

theorem fromCell_within {k : List Part} {f : State → State} {s t : State} (h : ∀ t, Within k t (f t)) (g : Within k s t)
    (hk : [Part.counters].all k.contains = true) : Within k s (fromCell f t) :=
  (g.trans (State.count_within.mono hk)).trans (h _)

theorem regionReceive_within {pair : ℕ} {vertices : List (ℤ × ℤ)} {horizon : ℕ} {numbering : ℕ} {s : State} : Within
    [Part.pair, .counters, .ledger, .access, .trip, .panel] s (regionReceive pair vertices horizon numbering s) := by
  unfold regionReceive
  refine Within.ite ?_ ?_
  · exact Within.refl _ _
  · refine Within.after ?_ State.noteRegion_within rfl
    exact State.mirror_within.mono rfl

theorem execRegion_within {pair : ℕ} {vertices : List (ℤ × ℤ)} {horizon : ℕ} {numbering : ℕ} {s : State} : Within.post
    [Part.counters, .pair, .ledger, .access, .trip, .panel] s (execRegion pair vertices horizon numbering s) := by
  unfold execRegion
  refine running_within (fun _ => ?_) ?_ rfl
  · refine fromCell_within (fun _ => ?_) ?_ rfl
    · exact regionReceive_within.mono rfl
    · exact Within.refl _ _
  · exact Within.refl _ _

theorem permitRequest_within {pair : ℕ} {plan : U32} {lane : ℕ} {epoch : U16} {border : U32} {handover : U32} {commit : U32}
    {run : EnvelopeRun} {stamp : ℕ} {s : State} : Within [Part.clock, .keys, .pair, .counters, .ledger] s (permitRequest
    pair plan lane epoch border handover commit run stamp s) := by
  unfold permitRequest
  refine Within.ite ?_ ?_
  · exact State.stamped_within.mono rfl
  · refine Within.ite ?_ ?_
    · refine Within.after ?_ State.sendCell_within rfl
      exact State.stamped_within.mono rfl
    · refine Within.after ?_ State.acceptPermit_within rfl
      refine Within.after ?_ State.mirror_within rfl
      exact State.stamped_within.mono rfl

theorem execPermitRequest_within {head : CellHead} {asker : LaneName} {border handover commit : U32} {run : EnvelopeRun} {stamp :
    ℕ} {s : State} : Within.post [Part.counters, .clock, .keys, .pair, .ledger] s (execPermitRequest head asker border handover
    commit run stamp s) := by
  unfold execPermitRequest
  refine running_within (fun _ => ?_) ?_ rfl
  · refine fromCell_within (fun _ => ?_) ?_ rfl
    · exact permitRequest_within.mono rfl
    · exact Within.refl _ _
  · exact Within.refl _ _

theorem grantReceive_within {pair : ℕ} {plan : U32} {lane : ℕ} {keySet : Bytes} {stamp : ℕ} {s : State} : Within
    [Part.clock, .pair, .counters, .ledger] s (grantReceive pair plan lane keySet stamp s) := by
  unfold grantReceive
  dsimp only
  split
  · exact State.stamped_within.mono rfl
  · refine Within.ite ?_ ?_
    · exact State.stamped_within.mono rfl
    · refine Within.after ?_ State.grantPlan_within rfl
      refine Within.after ?_ State.mirror_within rfl
      exact State.stamped_within.mono rfl

theorem execGrant_within {pair : ℕ} {plan : U32} {lane : ℕ} {keySet : Bytes} {stamp : ℕ} {s : State} : Within.post
    [Part.counters, .clock, .pair, .ledger] s (execGrant pair plan lane keySet stamp s) := by
  unfold execGrant
  refine running_within (fun _ => ?_) ?_ rfl
  · refine fromCell_within (fun _ => ?_) ?_ rfl
    · exact grantReceive_within.mono rfl
    · exact Within.refl _ _
  · exact Within.refl _ _

theorem refusalReceive_within {pair : ℕ} {plan : U32} {record : ResultRecord} {stamp : ℕ} {s : State} : Within [Part.clock,
    .due, .pair, .counters, .ledger] s (refusalReceive pair plan record stamp s) := by
  unfold refusalReceive
  refine Within.ite ?_ ?_
  · exact State.stamped_within.mono rfl
  · split
    · refine Within.trans ?_ (within_due rfl)
      exact State.stamped_within.mono rfl
    · split
      · exact State.stamped_within.mono rfl
      · refine Within.ite ?_ ?_
        · exact State.stamped_within.mono rfl
        · refine Within.after ?_ State.refusePlan_within rfl
          refine Within.after ?_ State.mirror_within rfl
          exact State.stamped_within.mono rfl

theorem execRefusal_within {head : CellHead} {record : ResultRecord} {stamp : ℕ} {s : State} : Within.post [Part.counters, .clock,
    .due, .pair, .ledger] s (execRefusal head record stamp s) := by
  unfold execRefusal
  refine running_within (fun _ => ?_) ?_ rfl
  · refine fromCell_within (fun _ => ?_) ?_ rfl
    · exact refusalReceive_within.mono rfl
    · exact Within.refl _ _
  · exact Within.refl _ _

theorem execCommitNotice_within {pair : ℕ} {plan : U32} {start : Pose} {legs : List Leg} {stretches : List Stretch} {stamp :
    ℕ} {s : State} : Within.post [Part.counters, .clock, .pair, .guests] s (execCommitNotice pair plan start legs stretches
    stamp s) := by
  unfold execCommitNotice
  refine running_within (fun _ => ?_) ?_ rfl
  · refine fromCell_within (fun _ => ?_) ?_ rfl
    · exact commitNotice_within.mono rfl
    · exact Within.refl _ _
  · exact Within.refl _ _

theorem withdrawal_within {pair : ℕ} {plan : U32} {stamp : ℕ} {s : State} : Within [Part.clock, .pair, .counters, .guests,
    .access, .trip, .panel, .ledger] s (withdrawal pair plan stamp s) := by
  unfold withdrawal
  refine Within.ite ?_ ?_
  · exact State.stamped_within.mono rfl
  · split
    · refine Within.after ?_ State.withdrawGuest_within rfl
      refine Within.after ?_ State.mirror_within rfl
      exact State.stamped_within.mono rfl
    · split
      · refine Within.after ?_ State.raise_within rfl
        exact State.stamped_within.mono rfl
      · refine Within.after ?_ State.onPlans_within rfl
        exact State.stamped_within.mono rfl

theorem execWithdrawal_within {head : CellHead} {stamp : ℕ} {s : State} : Within.post [Part.counters, .clock, .pair, .guests,
    .access, .trip, .panel, .ledger] s (execWithdrawal head stamp s) := by
  unfold execWithdrawal
  refine running_within (fun _ => ?_) ?_ rfl
  · refine fromCell_within (fun _ => ?_) ?_ rfl
    · exact withdrawal_within.mono rfl
    · exact Within.refl _ _
  · exact Within.refl _ _

theorem handoverReceive_within {pair : ℕ} {msg : HandoverMsg} {stamp : ℕ} {s : State} : Within [Part.clock, .keys, .pair,
    .counters, .cells, .lanes, .guests, .routes] s (handoverReceive pair msg stamp s) := by
  unfold handoverReceive
  refine Within.ite ?_ ?_
  · exact State.stamped_within.mono rfl
  · split
    · refine Within.ite ?_ ?_
      · exact State.stamped_within.mono rfl
      · refine Within.after ?_ State.sendCell_within rfl
        exact State.stamped_within.mono rfl
    · refine Within.ite ?_ ?_
      · exact State.stamped_within.mono rfl
      · refine Within.ite ?_ ?_
        · refine Within.after ?_ State.arrive_within rfl
          refine Within.after ?_ State.mirror_within rfl
          exact State.stamped_within.mono rfl
        · refine Within.after ?_ State.sendCell_within rfl
          refine Within.after ?_ State.dropGuest_within rfl
          exact State.stamped_within.mono rfl

theorem execHandover_within {pair : ℕ} {msg : HandoverMsg} {stamp : ℕ} {s : State} : Within.post [Part.counters, .clock,
    .keys, .pair, .cells, .lanes, .guests, .routes] s (execHandover pair msg stamp s) := by
  unfold execHandover
  refine running_within (fun _ => ?_) ?_ rfl
  · refine fromCell_within (fun _ => ?_) ?_ rfl
    · exact handoverReceive_within.mono rfl
    · exact Within.refl _ _
  · exact Within.refl _ _

theorem execConfirm_within {head : CellHead} {lane stamp : ℕ} {s : State} : Within.post [Part.counters, .clock, .due, .keys,
    .access, .trip, .panel] s (execConfirm head lane stamp s) := by
  unfold execConfirm
  refine running_within (fun _ => ?_) ?_ rfl
  · refine fromCell_within (fun _ => ?_) ?_ rfl
    · exact confirmReceive_within.mono rfl
    · exact Within.refl _ _
  · exact Within.refl _ _

theorem releasedReceive_within {pair : ℕ} {plan : U32} {s : State} : Within [Part.cells] s (releasedReceive pair plan s) :=
    by
  unfold releasedReceive
  refine Within.ite ?_ ?_
  · exact Within.refl _ _
  · exact within_cells rfl

theorem execReleased_within {pair : ℕ} {plan : U32} {s : State} : Within.post [Part.counters, .cells] s (execReleased pair
    plan s) := by
  unfold execReleased
  refine running_within (fun _ => ?_) ?_ rfl
  · refine fromCell_within (fun _ => ?_) ?_ rfl
    · exact releasedReceive_within.mono rfl
    · exact Within.refl _ _
  · exact Within.refl _ _

end Sys2Proof.Machine
end

