-- ==== Sys2Proof/Laws/Checkpoint.lean ====
section
/-! SUPPORT. What each operation of Machine/Checkpoint.lean may change: the parts listed, what goes out, and the free values drawn. -/

namespace Sys2Proof.Machine

theorem State.reportVerdict_within {n : ℕ} {before : ℕ} {s : State} : Within [Part.access, .counters, .trip, .panel] s
    (State.reportVerdict n before s) := by
  unfold State.reportVerdict
  refine Within.ite ?_ ?_
  · refine Within.after ?_ State.trigger_within rfl
    refine Within.after ?_ State.raise_within rfl
    exact State.verdictChange_within.mono rfl
  · exact State.verdictChange_within.mono rfl

theorem State.policy_within {n : ℕ} {verdict : ℕ} {s : State} : Within [Part.checkpoint, .cells, .access, .update, .ledger,
    .pair, .counters, .routes] s (State.policy n verdict s) := by
  unfold State.policy
  refine Within.ite ?_ ?_
  · exact State.onCk_within.mono rfl
  · refine Within.ite ?_ ?_
    · refine Within.ite ?_ ?_
      · refine Within.after ?_ State.acceptPlan_within rfl
        exact State.onCk_within.mono rfl
      · exact State.onCk_within.mono rfl
    · exact Within.refl _ _

theorem State.commitVerdict_within {s : State} {v : CkVerdict} : Within [Part.checkpoint, .lanes, .routes, .access,
    .counters, .trip, .panel, .cells, .update, .ledger, .pair] s (State.commitVerdict s v) := by
  unfold State.commitVerdict
  refine Within.after ?_ State.policy_within rfl
  refine Within.after ?_ State.reportVerdict_within rfl
  refine Within.ite ?_ ?_
  · refine Within.after ?_ State.standAt_within rfl
    refine Within.ite ?_ ?_
    · refine Within.after ?_ State.onLane_within rfl
      exact State.onCk_within.mono rfl
    · exact State.onCk_within.mono rfl
  · refine Within.ite ?_ ?_
    · refine Within.after ?_ State.onLane_within rfl
      exact State.onCk_within.mono rfl
    · exact State.onCk_within.mono rfl

theorem State.commitVerdicts_within {s : State} : Within [Part.checkpoint, .lanes, .routes, .access, .counters, .trip,
    .panel, .cells, .update, .ledger, .pair] s (State.commitVerdicts s) := by
  unfold State.commitVerdicts
  refine Within.ite ?_ ?_
  · exact within_checkpoint rfl
  · refine Within.foldl (fun _ _ => ?_) ?_
    · exact State.commitVerdict_within.mono rfl
    · exact within_checkpoint rfl

theorem State.solveDropped_within {q : CkRequest} {s : State} : Within [Part.checkpoint] s (State.solveDropped q s) := by
  unfold State.solveDropped
  refine Within.after ?_ State.onCk_within rfl
  exact within_checkpoint rfl

theorem State.dropLate_within {s : State} : Within [Part.checkpoint] s (State.dropLate s) := by
  unfold State.dropLate
  refine Within.foldl (fun _ _ => ?_) ?_
  · exact State.solveDropped_within.mono rfl
  · exact within_checkpoint rfl

theorem State.incomplete_within {n : ℕ} {e : U32} {s : State} : Within [Part.checkpoint] s (State.incomplete n e s) :=
  State.onCk_within.mono rfl

theorem State.enqueue_within {q : CkRequest} {s : State} : Within [Part.checkpoint, .counters] s (State.enqueue q s) := by
  unfold State.enqueue
  refine Within.after ?_ State.occupy_within rfl
  refine Within.after ?_ State.count_within rfl
  refine Within.trans ?_ (within_checkpoint rfl)
  refine Within.ite ?_ ?_
  · exact Within.refl _ _
  · split
    · exact Within.refl _ _
    · refine Within.after ?_ State.count_within rfl
      refine Within.after ?_ State.onCk_within rfl
      refine Within.trans ?_ (within_checkpoint rfl)
      exact within_checkpoint rfl

theorem State.segment_within {n : ℕ} {b : Bytes} {s : State} : Within [Part.checkpoint, .counters] s (State.segment n b s)
    := by
  unfold State.segment
  refine Within.ite ?_ ?_
  · exact Within.refl _ _
  · dsimp only
    split
    · refine Within.ite ?_ ?_
      · refine Within.after ?_ State.onCk_within rfl
        split
        · refine Within.ite ?_ ?_
          · exact Within.refl _ _
          · exact State.incomplete_within.mono rfl
        · exact Within.refl _ _
      · refine Within.ite ?_ ?_
        · refine Within.after ?_ State.incomplete_within rfl
          split
          · refine Within.ite ?_ ?_
            · exact Within.refl _ _
            · exact State.incomplete_within.mono rfl
          · exact Within.refl _ _
        · refine Within.after ?_ State.onCk_within rfl
          split
          · refine Within.ite ?_ ?_
            · exact Within.refl _ _
            · exact State.incomplete_within.mono rfl
          · exact Within.refl _ _
    · refine Within.ite ?_ ?_
      · refine Within.after ?_ State.onCk_within rfl
        split
        · refine Within.ite ?_ ?_
          · exact Within.refl _ _
          · exact State.incomplete_within.mono rfl
        · exact Within.refl _ _
      · refine Within.ite ?_ ?_
        · refine Within.after ?_ State.enqueue_within rfl
          refine Within.after ?_ State.onCk_within rfl
          split
          · refine Within.ite ?_ ?_
            · exact Within.refl _ _
            · exact State.incomplete_within.mono rfl
          · exact Within.refl _ _
        · refine Within.after ?_ State.incomplete_within rfl
          split
          · refine Within.ite ?_ ?_
            · exact Within.refl _ _
            · exact State.incomplete_within.mono rfl
          · exact Within.refl _ _

theorem State.holdBlock_within {tick : U32} {sats : List HeldSat} {s : State} : Within [Part.checkpoint] s (State.holdBlock
    tick sats s) :=
  within_checkpoint rfl

theorem State.holdEpoch_within {s : State} : Within [Part.checkpoint] s (State.holdEpoch s) :=
  within_checkpoint rfl

theorem State.stale_within {n : ℕ} {reason : ℕ} {s : State} : Within [Part.checkpoint, .access, .counters, .trip, .panel] s
    (State.stale n reason s) := by
  unfold State.stale
  refine Within.ite ?_ ?_
  · refine Within.trans ?_ (within_checkpoint rfl)
    refine Within.after ?_ State.reportVerdict_within rfl
    exact State.onCk_within.mono rfl
  · refine Within.after ?_ State.reportVerdict_within rfl
    exact State.onCk_within.mono rfl

theorem State.staleAll_within {s : State} : Within [Part.checkpoint, .access, .counters, .trip, .panel] s (State.staleAll s)
    := by
  unfold State.staleAll
  refine Within.ite ?_ ?_
  · exact Within.refl _ _
  · refine Within.foldl (fun _ _ => ?_) ?_
    · exact State.stale_within.mono rfl
    · exact within_checkpoint rfl

theorem State.recordsEnd_within {s : State} : Within [Part.checkpoint] s (State.recordsEnd s) := by
  unfold State.recordsEnd
  refine Within.foldl (fun _ _ => ?_) ?_
  · refine Within.ite ?_ ?_
    · exact Within.refl _ _
    · exact State.incomplete_within.mono rfl
  · exact Within.refl _ _

theorem takeRequest_within {s : State} {l : List CkRequest} : Within [.checkpoint] s (takeRequest s l).1 := by
  induction l generalizing s with
  | nil => exact within_checkpoint rfl
  | cons q t ih =>
    unfold takeRequest
    split
    · exact (State.solveDropped_within.mono rfl).trans ih
    · exact within_checkpoint rfl

theorem solveStart_within {dsp : ℕ} {stamp : ℕ} {s : State} : Within [Part.clock, .checkpoint] s (solveStart dsp stamp s) :=
    by
  unfold solveStart
  refine Within.ite ?_ ?_
  · exact State.stamped_within.mono rfl
  · dsimp only
    split
    · refine Within.after ?_ takeRequest_within rfl
      exact State.stamped_within.mono rfl
    · refine Within.trans ?_ (within_checkpoint rfl)
      refine Within.after ?_ takeRequest_within rfl
      exact State.stamped_within.mono rfl

theorem execCheckpointSolveStart_within {dsp : ℕ} {stamp : ℕ} {s : State} : Within.post [Part.clock, .checkpoint] s
    (execCheckpointSolveStart dsp stamp s) := by
  unfold execCheckpointSolveStart
  refine running_within (fun _ => ?_) ?_ rfl
  · exact solveStart_within.mono rfl
  · exact Within.refl _ _

theorem solveDone_within {dsp : ℕ} {out : SolveOut} {stamp : ℕ} {s : State} : Within [Part.clock, .checkpoint, .counters] s
    (solveDone dsp out stamp s) := by
  unfold solveDone
  dsimp only
  split
  · exact State.stamped_within.mono rfl
  · refine Within.ite ?_ ?_
    · refine Within.after ?_ State.solveDropped_within rfl
      refine Within.trans ?_ (within_checkpoint rfl)
      exact State.stamped_within.mono rfl
    · refine Within.after ?_ State.count_within rfl
      refine Within.trans ?_ (within_checkpoint rfl)
      exact State.stamped_within.mono rfl


theorem execCheckpointSolveDone_within {dsp : ℕ} {out : SolveOut} {stamp : ℕ} {s : State} : Within.post [Part.clock,
    .checkpoint, .counters] s (execCheckpointSolveDone dsp out stamp s) := by
  unfold execCheckpointSolveDone
  refine running_within (fun _ => ?_) ?_ rfl
  · exact solveDone_within.mono rfl
  · exact Within.refl _ _

theorem solveLate_within {dsp : ℕ} {s : State} : Within [Part.checkpoint] s (solveLate dsp s) := by
  unfold solveLate
  split
  · exact Within.refl _ _
  · refine Within.ite ?_ ?_
    · exact Within.refl _ _
    · refine Within.after ?_ State.solveDropped_within rfl
      exact within_checkpoint rfl

theorem execCheckpointSolveLate_within {dsp : ℕ} {s : State} : Within.post [Part.checkpoint] s (execCheckpointSolveLate dsp
    s) := by
  unfold execCheckpointSolveLate
  refine running_within (fun _ => ?_) ?_ rfl
  · exact solveLate_within.mono rfl
  · exact Within.refl _ _

theorem verdictStaleTimeout_within {n : ℕ} {s : State} : Within [Part.checkpoint, .access, .counters, .trip, .panel] s
    (verdictStaleTimeout n s) := by
  unfold verdictStaleTimeout
  refine Within.ite ?_ ?_
  · exact State.stale_within.mono rfl
  · exact Within.refl _ _

theorem execVerdictStaleTimeout_within {lane : ℕ} {s : State} : Within.post [Part.checkpoint, .access, .counters, .trip,
    .panel] s (execVerdictStaleTimeout lane s) := by
  unfold execVerdictStaleTimeout
  refine running_within (fun _ => ?_) ?_ rfl
  · exact verdictStaleTimeout_within.mono rfl
  · exact Within.refl _ _

end Sys2Proof.Machine
end

