-- ==== Sys2Proof/Laws/Time.lean ====
section
/-! SUPPORT. What each operation of Machine/Time.lean may change: the parts listed, what goes out, and the free values drawn. -/

namespace Sys2Proof.Machine

theorem State.setDiscipline_within {d : ℕ} {s : State} : Within [Part.time, .access, .counters, .trip, .panel] s
    (State.setDiscipline d s) := by
  unfold State.setDiscipline
  refine Within.ite ?_ ?_
  · exact Within.refl _ _
  · refine Within.after ?_ State.raise_within rfl
    exact within_time rfl ⟨rfl, rfl, rfl, rfl, rfl⟩

theorem State.declareStep_within {delta : ℤ} {s : State} : Within [Part.time, .schedule, .air, .counters, .access, .trip,
    .panel] s (State.declareStep delta s) := by
  unfold State.declareStep
  refine Within.after ?_ State.raise_within rfl
  refine Within.after ?_ State.notice_within rfl
  exact within_time_schedule rfl rfl

theorem State.returnDecision_within {src : ℕ} {s : State} : Within [Part.time, .access, .counters, .trip, .panel, .schedule,
    .air] s (State.returnDecision src s) := by
  unfold State.returnDecision
  split
  · exact Within.refl _ _
  · refine Within.ite ?_ ?_
    · refine Within.trans ?_ (within_time rfl ⟨rfl, rfl, rfl, rfl, rfl⟩)
      refine Within.after ?_ State.setDiscipline_within rfl
      exact within_time rfl ⟨rfl, rfl, rfl, rfl, rfl⟩
    · refine Within.after ?_ State.declareStep_within rfl
      refine Within.after ?_ State.setDiscipline_within rfl
      exact within_time rfl ⟨rfl, rfl, rfl, rfl, rfl⟩

theorem State.switchTo_within {d : ℕ} {s : State} : Within [Part.time, .access, .counters, .trip, .panel] s (State.switchTo
    d s) := by
  unfold State.switchTo
  refine Within.after ?_ State.setDiscipline_within rfl
  exact within_time rfl ⟨rfl, rfl, rfl, rfl, rfl⟩

theorem State.holdover_within {s : State} : Within [Part.time, .access, .counters, .trip, .panel] s (State.holdover s) := by
  unfold State.holdover
  refine Within.after ?_ State.setDiscipline_within rfl
  exact within_time rfl ⟨rfl, rfl, rfl, rfl, rfl⟩

theorem State.chooseDiscipline_within {s : State} : Within [Part.time, .access, .counters, .trip, .panel, .schedule, .air] s
    (State.chooseDiscipline s) := by
  unfold State.chooseDiscipline
  refine Within.ite ?_ ?_
  · split
    · refine Within.ite ?_ ?_
      · refine Within.after ?_ State.returnDecision_within rfl
        split
        · refine Within.ite ?_ ?_
          · exact within_time rfl ⟨rfl, rfl, rfl, rfl, rfl⟩
          · exact Within.refl _ _
        · exact Within.refl _ _
      · split
        · refine Within.ite ?_ ?_
          · exact within_time rfl ⟨rfl, rfl, rfl, rfl, rfl⟩
          · exact Within.refl _ _
        · exact Within.refl _ _
    · split
      · refine Within.ite ?_ ?_
        · exact within_time rfl ⟨rfl, rfl, rfl, rfl, rfl⟩
        · exact Within.refl _ _
      · exact Within.refl _ _
  · refine Within.ite ?_ ?_
    · refine Within.after ?_ State.switchTo_within rfl
      refine Within.trans ?_ (within_time rfl ⟨rfl, rfl, rfl, rfl, rfl⟩)
      split
      · refine Within.ite ?_ ?_
        · exact within_time rfl ⟨rfl, rfl, rfl, rfl, rfl⟩
        · exact Within.refl _ _
      · exact Within.refl _ _
    · refine Within.ite ?_ ?_
      · split
        · refine Within.ite ?_ ?_
          · refine Within.after ?_ State.switchTo_within rfl
            split
            · refine Within.ite ?_ ?_
              · exact within_time rfl ⟨rfl, rfl, rfl, rfl, rfl⟩
              · exact Within.refl _ _
            · exact Within.refl _ _
          · refine Within.after ?_ State.holdover_within rfl
            split
            · refine Within.ite ?_ ?_
              · exact within_time rfl ⟨rfl, rfl, rfl, rfl, rfl⟩
              · exact Within.refl _ _
            · exact Within.refl _ _
        · refine Within.after ?_ State.holdover_within rfl
          split
          · refine Within.ite ?_ ?_
            · exact within_time rfl ⟨rfl, rfl, rfl, rfl, rfl⟩
            · exact Within.refl _ _
          · exact Within.refl _ _
      · refine Within.ite ?_ ?_
        · refine Within.after ?_ State.returnDecision_within rfl
          split
          · refine Within.ite ?_ ?_
            · exact within_time rfl ⟨rfl, rfl, rfl, rfl, rfl⟩
            · exact Within.refl _ _
          · exact Within.refl _ _
        · split
          · refine Within.ite ?_ ?_
            · exact within_time rfl ⟨rfl, rfl, rfl, rfl, rfl⟩
            · exact Within.refl _ _
          · exact Within.refl _ _

theorem State.enablePps_within {v : ℤ} {s : State} : Within [Part.access, .counters, .trip, .panel, .settings, .gnss, .pair,
    .update] s (State.enablePps v s).1 := by
  unfold State.enablePps
  refine Within.ite_fst ?_ ?_
  · refine Within.fst_mk ?_
    exact State.inUse_within.mono rfl
  · exact State.writeItems_within.mono rfl

theorem State.shiftTicks_within {k : U32} {s : State} : Within [Part.clock, .routes, .guests, .ledger, .halt, .keys,
    .schedule] s (State.shiftTicks k s) := by
  unfold State.shiftTicks
  refine within_clock_routes_guests_ledger_halt_keys_schedule rfl rfl rfl rfl rfl rfl rfl (fun h => h) ⟨rfl, rfl, rfl, rfl, rfl, rfl⟩ ?_
  intro h
  refine ⟨h.1, ?_, h.2.2⟩
  dsimp only
  apply tmap_wf

theorem State.followPhase_within {s : State} : Within [Part.clock, .pair] s (State.followPhase s) :=
  within_clock_pair rfl rfl ⟨rfl, rfl, rfl, rfl, rfl⟩

theorem State.onBase_within {b : ℕ} {f : Base → Base} {s : State} : Within [Part.time] s (State.onBase b f s) :=
  within_time rfl ⟨rfl, rfl, rfl, rfl, rfl⟩

theorem State.lockBase_within {b : ℕ} {on : Bool} {s : State} : Within [Part.time] s (State.lockBase b on s) := by
  unfold State.lockBase
  refine Within.ite ?_ ?_
  · refine Within.after ?_ State.onBase_within rfl
    refine Within.ite ?_ ?_
    · exact Within.refl _ _
    · exact State.draw_within.mono rfl
  · exact State.onBase_within.mono rfl

theorem State.stepBy_within {delta : ℤ} {s : State} : Within [Part.clock, .routes, .guests, .ledger, .halt, .keys,
    .schedule, .time, .access, .counters, .trip, .panel] s (State.stepBy delta s) := by
  unfold State.stepBy
  refine Within.after ?_ State.trigger_within rfl
  refine Within.after ?_ State.raise_within rfl
  refine Within.trans ?_ (within_clock_time_schedule rfl rfl rfl)
  exact State.shiftTicks_within.mono rfl

theorem State.makeSteps_within {s : State} : Within [Part.clock, .routes, .guests, .ledger, .halt, .keys, .schedule, .time,
    .access, .counters, .trip, .panel, .air] s (State.makeSteps s) := by
  unfold State.makeSteps
  refine Within.ite ?_ ?_
  · split
    · refine Within.after ?_ State.declareStep_within rfl
      refine Within.trans ?_ (within_time rfl ⟨rfl, rfl, rfl, rfl, rfl⟩)
      refine Within.ite ?_ ?_
      · refine Within.ite ?_ ?_
        · refine Within.trans ?_ (within_time rfl ⟨rfl, rfl, rfl, rfl, rfl⟩)
          refine Within.ite ?_ ?_
          · refine Within.after ?_ State.setDiscipline_within rfl
            refine Within.trans ?_ (within_clock_schedule rfl rfl)
            refine Within.after ?_ State.stepBy_within rfl
            split
            · refine Within.ite ?_ ?_
              · exact State.stepBy_within.mono rfl
              · exact Within.refl _ _
            · exact Within.refl _ _
          · split
            · refine Within.ite ?_ ?_
              · exact State.stepBy_within.mono rfl
              · exact Within.refl _ _
            · exact Within.refl _ _
        · refine Within.after ?_ State.stepBy_within rfl
          refine Within.trans ?_ (within_time rfl ⟨rfl, rfl, rfl, rfl, rfl⟩)
          refine Within.ite ?_ ?_
          · refine Within.after ?_ State.setDiscipline_within rfl
            refine Within.trans ?_ (within_clock_schedule rfl rfl)
            refine Within.after ?_ State.stepBy_within rfl
            split
            · refine Within.ite ?_ ?_
              · exact State.stepBy_within.mono rfl
              · exact Within.refl _ _
            · exact Within.refl _ _
          · split
            · refine Within.ite ?_ ?_
              · exact State.stepBy_within.mono rfl
              · exact Within.refl _ _
            · exact Within.refl _ _
      · refine Within.ite ?_ ?_
        · refine Within.after ?_ State.setDiscipline_within rfl
          refine Within.trans ?_ (within_clock_schedule rfl rfl)
          refine Within.after ?_ State.stepBy_within rfl
          split
          · refine Within.ite ?_ ?_
            · exact State.stepBy_within.mono rfl
            · exact Within.refl _ _
          · exact Within.refl _ _
        · split
          · refine Within.ite ?_ ?_
            · exact State.stepBy_within.mono rfl
            · exact Within.refl _ _
          · exact Within.refl _ _
    · refine Within.ite ?_ ?_
      · refine Within.ite ?_ ?_
        · refine Within.trans ?_ (within_time rfl ⟨rfl, rfl, rfl, rfl, rfl⟩)
          refine Within.ite ?_ ?_
          · refine Within.after ?_ State.setDiscipline_within rfl
            refine Within.trans ?_ (within_clock_schedule rfl rfl)
            refine Within.after ?_ State.stepBy_within rfl
            split
            · refine Within.ite ?_ ?_
              · exact State.stepBy_within.mono rfl
              · exact Within.refl _ _
            · exact Within.refl _ _
          · split
            · refine Within.ite ?_ ?_
              · exact State.stepBy_within.mono rfl
              · exact Within.refl _ _
            · exact Within.refl _ _
        · refine Within.after ?_ State.stepBy_within rfl
          refine Within.trans ?_ (within_time rfl ⟨rfl, rfl, rfl, rfl, rfl⟩)
          refine Within.ite ?_ ?_
          · refine Within.after ?_ State.setDiscipline_within rfl
            refine Within.trans ?_ (within_clock_schedule rfl rfl)
            refine Within.after ?_ State.stepBy_within rfl
            split
            · refine Within.ite ?_ ?_
              · exact State.stepBy_within.mono rfl
              · exact Within.refl _ _
            · exact Within.refl _ _
          · split
            · refine Within.ite ?_ ?_
              · exact State.stepBy_within.mono rfl
              · exact Within.refl _ _
            · exact Within.refl _ _
      · refine Within.ite ?_ ?_
        · refine Within.after ?_ State.setDiscipline_within rfl
          refine Within.trans ?_ (within_clock_schedule rfl rfl)
          refine Within.after ?_ State.stepBy_within rfl
          split
          · refine Within.ite ?_ ?_
            · exact State.stepBy_within.mono rfl
            · exact Within.refl _ _
          · exact Within.refl _ _
        · split
          · refine Within.ite ?_ ?_
            · exact State.stepBy_within.mono rfl
            · exact Within.refl _ _
          · exact Within.refl _ _
  · refine Within.ite ?_ ?_
    · refine Within.ite ?_ ?_
      · refine Within.trans ?_ (within_time rfl ⟨rfl, rfl, rfl, rfl, rfl⟩)
        refine Within.ite ?_ ?_
        · refine Within.after ?_ State.setDiscipline_within rfl
          refine Within.trans ?_ (within_clock_schedule rfl rfl)
          refine Within.after ?_ State.stepBy_within rfl
          split
          · refine Within.ite ?_ ?_
            · exact State.stepBy_within.mono rfl
            · exact Within.refl _ _
          · exact Within.refl _ _
        · split
          · refine Within.ite ?_ ?_
            · exact State.stepBy_within.mono rfl
            · exact Within.refl _ _
          · exact Within.refl _ _
      · refine Within.after ?_ State.stepBy_within rfl
        refine Within.trans ?_ (within_time rfl ⟨rfl, rfl, rfl, rfl, rfl⟩)
        refine Within.ite ?_ ?_
        · refine Within.after ?_ State.setDiscipline_within rfl
          refine Within.trans ?_ (within_clock_schedule rfl rfl)
          refine Within.after ?_ State.stepBy_within rfl
          split
          · refine Within.ite ?_ ?_
            · exact State.stepBy_within.mono rfl
            · exact Within.refl _ _
          · exact Within.refl _ _
        · split
          · refine Within.ite ?_ ?_
            · exact State.stepBy_within.mono rfl
            · exact Within.refl _ _
          · exact Within.refl _ _
    · refine Within.ite ?_ ?_
      · refine Within.after ?_ State.setDiscipline_within rfl
        refine Within.trans ?_ (within_clock_schedule rfl rfl)
        refine Within.after ?_ State.stepBy_within rfl
        split
        · refine Within.ite ?_ ?_
          · exact State.stepBy_within.mono rfl
          · exact Within.refl _ _
        · exact Within.refl _ _
      · split
        · refine Within.ite ?_ ?_
          · exact State.stepBy_within.mono rfl
          · exact Within.refl _ _
        · exact Within.refl _ _

theorem State.measure_within {b : ℕ} {raw : ℤ} {s : State} : Within [Part.time] s (State.measure b raw s) :=
  State.onBase_within.mono rfl

theorem State.onPtp_within {k : ℕ} {f : PtpPort → PtpPort} {s : State} : Within [Part.time] s (State.onPtp k f s) :=
  within_time rfl ⟨rfl, rfl, rfl, rfl, rfl⟩

theorem State.orderTb1_within {value : ℕ} {s : State} : Within [Part.time] s (State.orderTb1 value s).1 := by
  unfold State.orderTb1
  refine Within.ite_fst ?_ ?_
  · exact refuse_within.mono rfl
  · refine Within.after ?_ confirm_within rfl
    exact within_time rfl ⟨rfl, rfl, rfl, rfl, rfl⟩

theorem State.ptpTick_within {s : State} {k : ℕ} : Within [Part.time] s (State.ptpTick s k) :=
  State.onPtp_within.mono rfl

theorem State.validity_within {s : State} : Within [Part.time, .access, .counters, .trip, .panel] s (State.validity s) := by
  unfold State.validity
  refine Within.ite ?_ ?_
  · refine Within.after ?_ State.trigger_within rfl
    refine Within.after ?_ State.raise_within rfl
    refine Within.trans ?_ (within_time rfl ⟨rfl, rfl, rfl, rfl, rfl⟩)
    exact within_time rfl ⟨rfl, rfl, rfl, rfl, rfl⟩
  · refine Within.ite ?_ ?_
    · refine Within.after ?_ State.raise_within rfl
      refine Within.trans ?_ (within_time rfl ⟨rfl, rfl, rfl, rfl, rfl⟩)
      exact within_time rfl ⟨rfl, rfl, rfl, rfl, rfl⟩
    · refine Within.trans ?_ (within_time rfl ⟨rfl, rfl, rfl, rfl, rfl⟩)
      exact within_time rfl ⟨rfl, rfl, rfl, rfl, rfl⟩

theorem State.slew_within {s : State} : Within [Part.time, .clock] s (State.slew s) := by
  unfold State.slew
  refine Within.ite ?_ ?_
  · exact within_time rfl ⟨rfl, rfl, rfl, rfl, rfl⟩
  · exact within_clock_time rfl rfl ⟨rfl, rfl, rfl, rfl, rfl⟩

theorem State.timeTick_within {s : State} : Within [Part.time, .clock, .pair, .access, .counters, .trip, .panel, .routes,
    .guests, .ledger, .halt, .keys, .schedule, .air] s (State.timeTick s) := by
  unfold State.timeTick
  refine Within.ite ?_ ?_
  · refine Within.after ?_ State.validity_within rfl
    refine Within.after ?_ State.followPhase_within rfl
    refine Within.trans ?_ (within_time rfl ⟨rfl, rfl, rfl, rfl, rfl⟩)
    refine Within.after ?_ State.lockBase_within rfl
    refine Within.after ?_ State.lockBase_within rfl
    refine Within.after ?_ State.lockBase_within rfl
    refine Within.foldl (fun _ _ => ?_) ?_
    · exact State.ptpTick_within.mono rfl
    · exact Within.refl _ _
  · refine Within.after ?_ State.validity_within rfl
    refine Within.ite ?_ ?_
    · refine Within.after ?_ State.makeSteps_within rfl
      refine Within.trans ?_ (within_time rfl ⟨rfl, rfl, rfl, rfl, rfl⟩)
      refine Within.after ?_ State.lockBase_within rfl
      refine Within.after ?_ State.lockBase_within rfl
      refine Within.after ?_ State.lockBase_within rfl
      refine Within.foldl (fun _ _ => ?_) ?_
      · exact State.ptpTick_within.mono rfl
      · exact Within.refl _ _
    · refine Within.after ?_ State.slew_within rfl
      refine Within.after ?_ State.chooseDiscipline_within rfl
      refine Within.after ?_ State.makeSteps_within rfl
      refine Within.trans ?_ (within_time rfl ⟨rfl, rfl, rfl, rfl, rfl⟩)
      refine Within.after ?_ State.lockBase_within rfl
      refine Within.after ?_ State.lockBase_within rfl
      refine Within.after ?_ State.lockBase_within rfl
      refine Within.foldl (fun _ _ => ?_) ?_
      · exact State.ptpTick_within.mono rfl
      · exact Within.refl _ _

theorem State.stepCheck_within {s : State} : Within [Part.clock, .time, .schedule, .access, .counters, .trip, .panel] s
    (State.stepCheck s) := by
  unfold State.stepCheck
  split
  · exact Within.refl _ _
  · refine Within.ite ?_ ?_
    · exact Within.refl _ _
    · refine Within.ite ?_ ?_
      · exact within_clock_time rfl rfl ⟨rfl, rfl, rfl, rfl, rfl⟩
      · refine Within.after ?_ State.raise_within rfl
        exact within_time_schedule rfl rfl

theorem State.syncDone_within {k : ℕ} {t1 : ℤ} {t2 : ℤ} {s : State} : Within [Part.time] s (State.syncDone k t1 t2 s) := by
  unfold State.syncDone
  refine Within.after ?_ State.measure_within rfl
  exact State.onPtp_within.mono rfl

theorem announceTimeout_within {k : ℕ} {s : State} : Within [Part.time] s (announceTimeout k s) := by
  unfold announceTimeout
  refine Within.ite ?_ ?_
  · exact Within.refl _ _
  · exact State.onPtp_within.mono rfl

theorem ptpReceive_within {k : ℕ} {m : PtpMsg} {s : State} : Within [Part.time] s (ptpReceive k m s) := by
  unfold ptpReceive
  refine Within.ite ?_ ?_
  · exact Within.refl _ _
  · dsimp only
    split
    · refine Within.ite ?_ ?_
      · refine Within.ite ?_ ?_
        · exact State.onPtp_within.mono rfl
        · exact Within.refl _ _
      · refine Within.ite ?_ ?_
        · exact State.onPtp_within.mono rfl
        · exact Within.refl _ _
    · refine Within.ite ?_ ?_
      · exact Within.refl _ _
      · refine Within.ite ?_ ?_
        · exact State.onPtp_within.mono rfl
        · exact State.syncDone_within.mono rfl
    · split
      · refine Within.ite ?_ ?_
        · exact State.syncDone_within.mono rfl
        · exact Within.refl _ _
      · exact Within.refl _ _
    · split
      · refine Within.ite ?_ ?_
        · exact State.onPtp_within.mono rfl
        · exact Within.refl _ _
      · exact Within.refl _ _
    · refine Within.ite ?_ ?_
      · exact State.emit_within.mono rfl
      · exact Within.refl _ _
    · exact Within.refl _ _

theorem execPtpMessageReceive_within {port : ℕ} {msg : PtpMsg} {s : State} : Within.post [Part.time] s
    (execPtpMessageReceive port msg s) := by
  unfold execPtpMessageReceive
  refine running_within (fun _ => ?_) ?_ rfl
  · exact ptpReceive_within.mono rfl
  · exact Within.refl _ _

theorem returnToTb1_within {r : Req} {value : ℕ} {s : State} : Within [Part.access, .clock, .update, .counters, .panel,
    .trip, .time] s (returnToTb1 r value s) := by
  unfold returnToTb1
  refine State.serveWrite_within (fun _ => ?_) ?_ rfl
  · exact State.orderTb1_within.mono rfl
  · exact Within.refl _ _

theorem execReturnToTb1_within {r : Req} {value : ℕ} {s : State} : Within.post [Part.access, .clock, .update, .counters,
    .panel, .trip, .time] s (execReturnToTb1 r value s) := by
  unfold execReturnToTb1
  refine running_within (fun _ => ?_) ?_ rfl
  · exact returnToTb1_within.mono rfl
  · exact Within.refl _ _

theorem ppsOutEdge_within {instant : ℤ} {s : State} : Within [Part.time] s (ppsOutEdge instant s) := by
  unfold ppsOutEdge
  refine Within.ite ?_ ?_
  · exact Within.refl _ _
  · refine Within.after ?_ State.emit_within rfl
    exact within_time rfl ⟨rfl, rfl, rfl, rfl, rfl⟩

theorem execPpsOutEdge_within {instant : ℤ} {s : State} : Within.post [Part.time] s (execPpsOutEdge instant s) := by
  unfold execPpsOutEdge
  refine running_within (fun _ => ?_) ?_ rfl
  · exact ppsOutEdge_within.mono rfl
  · exact Within.refl _ _

theorem ppsInEdge_within {instant : ℤ} {s : State} : Within [Part.time] s (ppsInEdge instant s) := by
  unfold ppsInEdge
  refine Within.ite ?_ ?_
  · exact Within.refl _ _
  · refine Within.ite ?_ ?_
    · exact within_time rfl ⟨rfl, rfl, rfl, rfl, rfl⟩
    · exact within_time rfl ⟨rfl, rfl, rfl, rfl, rfl⟩

theorem execPpsInEdge_within {instant : ℤ} {s : State} : Within.post [Part.time] s (execPpsInEdge instant s) := by
  unfold execPpsInEdge
  refine running_within (fun _ => ?_) ?_ rfl
  · exact ppsInEdge_within.mono rfl
  · exact Within.refl _ _

theorem ppsOutEnable_within {r : Req} {value : ℕ} {s : State} : Within [Part.access, .clock, .update, .counters, .panel,
    .trip, .settings, .gnss, .pair] s (ppsOutEnable r value s) := by
  unfold ppsOutEnable
  refine State.serveWrite_within (fun _ => ?_) ?_ rfl
  · exact State.enablePps_within.mono rfl
  · exact Within.refl _ _

theorem execPpsOutEnable_within {r : Req} {value : ℕ} {s : State} : Within.post [Part.access, .clock, .update, .counters,
    .panel, .trip, .settings, .gnss, .pair] s (execPpsOutEnable r value s) := by
  unfold execPpsOutEnable
  refine running_within (fun _ => ?_) ?_ rfl
  · exact ppsOutEnable_within.mono rfl
  · exact Within.refl _ _

theorem ptpInterval_within {k : ℕ} {kind : ℕ} {s : State} : Within [Part.time] s (ptpInterval k kind s) := by
  unfold ptpInterval
  refine Within.ite ?_ ?_
  · exact Within.refl _ _
  · refine Within.ite ?_ ?_
    · refine Within.ite ?_ ?_
      · refine Within.after ?_ State.onPtp_within rfl
        exact State.emit_within.mono rfl
      · refine Within.ite ?_ ?_
        · refine Within.ite ?_ ?_
          · refine Within.after ?_ State.emit_within rfl
            refine Within.after ?_ State.onPtp_within rfl
            exact State.emit_within.mono rfl
          · refine Within.after ?_ State.onPtp_within rfl
            exact State.emit_within.mono rfl
        · exact Within.refl _ _
    · refine Within.ite ?_ ?_
      · refine Within.after ?_ State.onPtp_within rfl
        refine Within.after ?_ State.onPtp_within rfl
        exact State.emit_within.mono rfl
      · exact Within.refl _ _

theorem execPtpMessageInterval_within {port : ℕ} {kind : ℕ} {s : State} : Within.post [Part.time] s (execPtpMessageInterval
    port kind s) := by
  unfold execPtpMessageInterval
  refine running_within (fun _ => ?_) ?_ rfl
  · exact ptpInterval_within.mono rfl
  · exact Within.refl _ _

theorem execAnnounceReceiptTimeout_within {port : ℕ} {s : State} : Within.post [Part.time] s (execAnnounceReceiptTimeout
    port s) := by
  unfold execAnnounceReceiptTimeout
  refine running_within (fun _ => ?_) ?_ rfl
  · exact announceTimeout_within.mono rfl
  · exact Within.refl _ _

end Sys2Proof.Machine
end

