-- ==== Sys2Proof/Laws/Pair.lean ====
section
/-! SUPPORT. What each operation of Machine/Pair.lean may change: the parts listed, what goes out, and the free values drawn. -/

namespace Sys2Proof.Machine

theorem State.acceptItems_within {items : List WriteItem} {s : State} : Within [Part.settings, .gnss, .counters, .access] s
    (State.acceptItems items s) := by
  unfold State.acceptItems
  refine Within.foldl (fun _ _ => ?_) ?_
  · exact State.put_within.mono rfl
  · exact Within.refl _ _

theorem State.setRole_within {role : ℕ} {s : State} : Within [Part.pair, .trip] s (State.setRole role s) := by
  unfold State.setRole
  refine Within.ite ?_ ?_
  · exact Within.refl _ _
  · refine Within.after ?_ State.trigger_within rfl
    exact within_pair rfl

theorem State.ackCounted_within {s : State} : Within [Part.pair, .checkpoint, .access, .counters, .trip, .panel] s
    (State.ackCounted s) := by
  unfold State.ackCounted
  refine Within.ite ?_ ?_
  · refine Within.ite ?_ ?_
    · refine Within.after ?_ State.setRole_within rfl
      refine Within.after ?_ State.raise_within rfl
      refine Within.ite ?_ ?_
      · refine Within.trans ?_ (within_checkpoint rfl)
        refine Within.ite ?_ ?_
        · exact within_pair rfl
        · exact within_pair rfl
      · refine Within.ite ?_ ?_
        · exact within_pair rfl
        · exact within_pair rfl
    · refine Within.ite ?_ ?_
      · refine Within.trans ?_ (within_checkpoint rfl)
        refine Within.ite ?_ ?_
        · exact within_pair rfl
        · exact within_pair rfl
      · refine Within.ite ?_ ?_
        · exact within_pair rfl
        · exact within_pair rfl
  · refine Within.ite ?_ ?_
    · refine Within.after ?_ State.setRole_within rfl
      refine Within.after ?_ State.raise_within rfl
      exact within_pair_checkpoint rfl rfl
    · exact Within.refl _ _

theorem State.holdLane_within {n : ℕ} {l : Lane} {s : State} : Within [Part.lanes] s (State.holdLane n l s) :=
  State.onLane_within.mono rfl

theorem State.holdCheckpoint_within {n : ℕ} {c : CkLane} {s : State} : Within [Part.checkpoint] s (State.holdCheckpoint n c
    s) :=
  State.onCk_within.mono rfl

theorem State.holdVerdict_within {n : ℕ} {c : CkLane} {heading : ℕ} {s : State} : Within [Part.checkpoint, .lanes, .routes,
    .access, .counters, .trip, .panel] s (State.holdVerdict n c heading s) := by
  unfold State.holdVerdict
  refine Within.after ?_ State.reportVerdict_within rfl
  refine Within.ite ?_ ?_
  · refine Within.after ?_ State.standAt_within rfl
    refine Within.ite ?_ ?_
    · refine Within.after ?_ State.onLane_within rfl
      exact State.holdCheckpoint_within.mono rfl
    · exact State.holdCheckpoint_within.mono rfl
  · refine Within.ite ?_ ?_
    · refine Within.after ?_ State.onLane_within rfl
      exact State.holdCheckpoint_within.mono rfl
    · exact State.holdCheckpoint_within.mono rfl

theorem State.applyFact_within {s : State} {f : Fact} : Within [Part.due, .lanes, .checkpoint, .routes, .access, .counters,
    .trip, .panel, .halt, .settings, .gnss, .airLanes, .keys, .custody, .pair, .guests] s (State.applyFact s f) := by
  unfold State.applyFact
  split
  · exact within_due rfl
  · exact State.onLane_within.mono rfl
  · exact State.holdLane_within.mono rfl
  · exact State.holdVerdict_within.mono rfl
  · exact State.holdCheckpoint_within.mono rfl
  · refine Within.trans ?_ (within_halt rfl (fun h => h))
    split
    · exact within_halt rfl (fun h => h)
    · exact within_halt rfl (fun h => h)
    · exact State.onLane_within.mono rfl
  · exact State.settle_within.mono rfl
  · exact State.put_within.mono rfl
  · exact State.onAirLane_within.mono rfl
  · exact within_keys_custody rfl rfl
  · exact within_pair rfl
  · exact State.onRoute_within.mono rfl
  · exact within_guests rfl

theorem State.commitMirrored_within {s : State} {c : CommitRecord} : Within [Part.lanes, .guests, .cells, .routes,
    .settings, .access, .counters, .trip, .panel, .ledger, .update, .keys, .gnss] s (State.commitMirrored s c) := by
  unfold State.commitMirrored
  refine Within.ite ?_ ?_
  · exact State.dropGuest_within.mono rfl
  · split
    · refine Within.ite ?_ ?_
      · exact State.commitPlan_within.mono rfl
      · exact State.failPlan_within.mono rfl
    · exact Within.refl _ _

theorem State.standbyBoundary_within {s : State} : Within [Part.due, .lanes, .checkpoint, .routes, .access, .counters,
    .trip, .panel, .halt, .settings, .gnss, .airLanes, .keys, .custody, .pair, .guests, .ledger, .cells, .update] s
    (State.standbyBoundary s) := by
  unfold State.standbyBoundary
  refine Within.after ?_ State.mismatchedGuests_within rfl
  refine Within.ite ?_ ?_
  · refine Within.after ?_ State.completeStep_within rfl
    refine Within.after ?_ State.commandStep_within rfl
    refine Within.trans ?_ (within_ledger rfl)
    refine Within.foldl (fun _ _ => ?_) ?_
    · exact State.commitMirrored_within.mono rfl
    · refine Within.after ?_ State.beginHandovers_within rfl
      refine Within.after ?_ State.takeLanes_within rfl
      refine Within.after ?_ State.dropWithdrawn_within rfl
      refine Within.ite ?_ ?_
      · refine Within.after ?_ State.handoverStep_within rfl
        refine Within.after ?_ State.selfStopStep_within rfl
        refine Within.foldl (fun _ _ => ?_) ?_
        · exact State.applyFact_within.mono rfl
        · exact Within.refl _ _
      · exact Within.refl _ _
  · refine Within.trans ?_ (within_ledger rfl)
    refine Within.foldl (fun _ _ => ?_) ?_
    · exact State.commitMirrored_within.mono rfl
    · refine Within.after ?_ State.beginHandovers_within rfl
      refine Within.after ?_ State.takeLanes_within rfl
      refine Within.after ?_ State.dropWithdrawn_within rfl
      refine Within.ite ?_ ?_
      · refine Within.after ?_ State.handoverStep_within rfl
        refine Within.after ?_ State.selfStopStep_within rfl
        refine Within.foldl (fun _ _ => ?_) ?_
        · exact State.applyFact_within.mono rfl
        · exact Within.refl _ _
      · exact Within.refl _ _

theorem State.asStamped_within {k : List Part} {tick : U32} {stamp : Nat} {f : State → State} {s t : State}
    (h : ∀ t, Within k t (f t)) (g : Within k s t) (hk : [Part.clock].all k.contains = true) :
    Within k s (t.asStamped tick stamp f) := by
  have hc : k.contains .clock = true := List.all_eq_true.mp hk _ (by decide)
  unfold State.asStamped
  refine Within.trans ?_ (within_clock hc ⟨rfl, rfl, rfl, rfl, rfl⟩)
  refine Within.trans ?_ (h _)
  exact g.trans (within_clock hc ⟨rfl, rfl, rfl, rfl, rfl⟩)

theorem State.askHandover_within {r : Req} {value : ℕ} {s : State} : Within [Part.pair] s (State.askHandover r value s).1 :=
    by
  unfold State.askHandover
  refine Within.ite_fst ?_ ?_
  · exact refuse_within.mono rfl
  · refine Within.ite_fst ?_ ?_
    · exact refuse_within.mono rfl
    · refine Within.fst_mk ?_
      exact within_pair rfl

theorem State.takeRight_within {epoch : U16} {s : State} : Within [Part.pair, .trip] s (State.takeRight epoch s) := by
  unfold State.takeRight
  refine Within.after ?_ State.setRole_within rfl
  exact within_pair rfl

theorem State.discardWork_within {s : State} : Within [Part.checkpoint, .ledger, .due, .access, .counters, .trip, .panel,
    .lanes, .settings, .gnss, .update] s (State.discardWork s) := by
  unfold State.discardWork
  refine Within.foldl (fun _ _ => ?_) ?_
  · exact State.failPlan_within.mono rfl
  · refine Within.trans ?_ (within_ledger_due rfl rfl)
    refine Within.foldl (fun _ _ => ?_) ?_
    · exact State.solveDropped_within.mono rfl
    · exact within_checkpoint rfl

theorem State.soundLanes_within {s : State} : Within [Part.lanes, .access, .counters, .trip, .panel] s (State.soundLanes s)
    := by
  unfold State.soundLanes
  refine Within.foldl (fun _ _ => ?_) ?_
  · refine Within.ite ?_ ?_
    · refine Within.after ?_ State.raise_within rfl
      exact State.onLane_within.mono rfl
    · exact Within.refl _ _
  · exact Within.refl _ _

theorem State.resumeBursts_within {s : State} : Within [Part.halt] s (State.resumeBursts s) :=
  within_halt rfl (fun h => h)

theorem State.freshAir_within {s : State} : Within [Part.air, .airLanes] s (State.freshAir s) :=
  within_air_airLanes rfl rfl (fun h => ⟨h.1, h.2.1, by dsimp only; apply tmap_wf⟩)

theorem State.becomeActive_within {epoch : U16} {discard : Bool} {s : State} : Within [Part.pair, .trip, .checkpoint,
    .ledger, .due, .access, .counters, .panel, .lanes, .settings, .gnss, .update, .air, .airLanes, .halt] s
    (State.becomeActive epoch discard s) := by
  unfold State.becomeActive
  refine Within.after ?_ State.soundLanes_within rfl
  refine Within.after ?_ State.resumeBursts_within rfl
  refine Within.after ?_ State.freshAir_within rfl
  refine Within.ite ?_ ?_
  · refine Within.after ?_ State.discardWork_within rfl
    exact State.takeRight_within.mono rfl
  · exact State.takeRight_within.mono rfl

theorem State.cellInput_within {pair : ℕ} {msg : CellMsg} {s : State} : Within [Part.ledger, .access, .counters, .trip,
    .panel, .guests, .cells] s (State.cellInput pair msg s) := by
  unfold State.cellInput
  split
  · exact State.noteRegion_within.mono rfl
  · exact State.acceptPermit_within.mono rfl
  · exact State.grantPlan_within.mono rfl
  · exact State.refusePlan_within.mono rfl
  · split
    · exact State.finalGuest_within.mono rfl
    · exact Within.refl _ _
  · split
    · exact State.withdrawGuest_within.mono rfl
    · exact Within.refl _ _
  · split
    · exact State.arrive_within.mono rfl
    · exact Within.refl _ _
  · exact Within.refl _ _

theorem State.followNumber_within {tick : U32} {s : State} : Within [Part.clock, .routes, .guests, .ledger, .halt, .keys,
    .schedule, .time, .pair] s (State.followNumber tick s) := by
  unfold State.followNumber
  refine Within.ite ?_ ?_
  · exact Within.refl _ _
  · refine Within.trans ?_ (within_clock_time_pair_schedule rfl rfl rfl rfl)
    exact State.shiftTicks_within.mono rfl

theorem State.handOver_within {s : State} : Within [Part.pair, .trip, .access, .update] s (State.handOver s) := by
  unfold State.handOver
  split
  · refine Within.ite ?_ ?_
    · exact Within.refl _ _
    · dsimp only
      split
      · refine Within.after ?_ State.answer_within rfl
        refine Within.after ?_ State.setRole_within rfl
        exact within_pair rfl
      · refine Within.after ?_ State.answer_within rfl
        exact within_pair rfl
      · refine Within.after ?_ State.answer_within rfl
        exact within_pair rfl
  · exact Within.refl _ _

theorem State.hearEpoch_within {e : U16} {s : State} : Within [Part.air, .access, .counters, .trip, .panel, .pair] s
    (State.hearEpoch e s) := by
  unfold State.hearEpoch
  refine Within.ite ?_ ?_
  · exact Within.refl _ _
  · refine Within.ite ?_ ?_
    · refine Within.after ?_ State.setRole_within rfl
      refine Within.after ?_ State.raise_within rfl
      refine Within.trans ?_ (within_air rfl)
      refine Within.after ?_ State.emit_within rfl
      exact State.cutVerge_within.mono rfl
    · refine Within.ite ?_ ?_
      · exact within_pair rfl
      · exact Within.refl _ _

theorem State.hearSources_within {sources : U16} {s : State} : Within [Part.halt] s (State.hearSources sources s) :=
  within_halt rfl (fun h => h)

theorem State.holdDecision_within {site : U16} {cell : U16} {lanes : List (ℕ × U16)} {d : RemoteDecision} {s : State} :
    Within [Part.halt] s (State.holdDecision site cell lanes d s) :=
  within_halt rfl (fun h => h)

theorem State.holdRecords_within {site cell : U16} {lanes : List (ℕ × U16)} {haltId : U16} {ids : List (ℕ × U16)} {decisions :
    List RemoteDecision} {s : State} : Within [Part.lanes, .halt] s (State.holdRecords site cell lanes haltId ids decisions s) :=
    by
  unfold State.holdRecords
  refine Within.foldl (fun _ _ => ?_) ?_
  · exact State.holdDecision_within.mono rfl
  · refine Within.trans ?_ (within_halt rfl (fun h => h))
    refine Within.foldl (fun _ _ => ?_) ?_
    · exact State.onLane_within.mono rfl
    · exact Within.refl _ _

theorem State.linkFrame_within {k : List Part} {h : LinkHead} {body : State → State} {s t : State} (hb : ∀ t, Within k t (body t))
    (g : Within k s t) (hk : [Part.access, .counters, .trip, .panel, .pair, .air, .clock].all k.contains = true) :
    Within k s (t.linkFrame h body) := by
  have hc : k.contains .pair = true := List.all_eq_true.mp hk _ (by decide)
  have hr : [Part.access, .counters, .trip, .panel].all k.contains = true := by
    rw [List.all_eq_true] at hk ⊢
    exact fun x hx => hk x (by revert x; decide)
  have he : [Part.air, .access, .counters, .trip, .panel, .pair].all k.contains = true := by
    rw [List.all_eq_true] at hk ⊢
    exact fun x hx => hk x (by revert x; decide)
  have g' : Within k s (t.stamped h.stamp) := g.trans (State.stamped_within.mono (by
    rw [List.all_eq_true] at hk ⊢
    exact fun x hx => hk x (by revert x; decide)))
  unfold State.linkFrame
  dsimp only
  generalize t.stamped h.stamp = t at g'
  refine Within.ite g' (Within.ite (g'.trans (State.raise_within.mono hr)) (Within.ite (g'.trans (State.raise_within.mono hr))
    (Within.ite g' ?_)))
  refine Within.trans ?_ (hb _)
  refine Within.trans ?_ (State.hearEpoch_within.mono he)
  exact Within.ite ((g'.trans (within_pair hc)).trans (State.raise_within.mono hr)) (g'.trans (within_pair hc))

theorem State.pathEvents_within {s : State} : Within [Part.pair, .access, .counters, .trip, .panel] s (State.pathEvents s)
    := by
  unfold State.pathEvents
  refine Within.ite ?_ ?_
  · refine Within.after ?_ State.raise_within rfl
    refine Within.ite ?_ ?_
    · refine Within.after ?_ State.raise_within rfl
      refine Within.ite ?_ ?_
      · refine Within.after ?_ State.raise_within rfl
        refine Within.ite ?_ ?_
        · refine Within.after ?_ State.raise_within rfl
          refine Within.ite ?_ ?_
          · refine Within.after ?_ State.raise_within rfl
            exact within_pair rfl
          · exact within_pair rfl
        · refine Within.ite ?_ ?_
          · refine Within.after ?_ State.raise_within rfl
            exact within_pair rfl
          · exact within_pair rfl
      · refine Within.ite ?_ ?_
        · refine Within.after ?_ State.raise_within rfl
          refine Within.ite ?_ ?_
          · refine Within.after ?_ State.raise_within rfl
            exact within_pair rfl
          · exact within_pair rfl
        · refine Within.ite ?_ ?_
          · refine Within.after ?_ State.raise_within rfl
            exact within_pair rfl
          · exact within_pair rfl
    · refine Within.ite ?_ ?_
      · refine Within.after ?_ State.raise_within rfl
        refine Within.ite ?_ ?_
        · refine Within.after ?_ State.raise_within rfl
          refine Within.ite ?_ ?_
          · refine Within.after ?_ State.raise_within rfl
            exact within_pair rfl
          · exact within_pair rfl
        · refine Within.ite ?_ ?_
          · refine Within.after ?_ State.raise_within rfl
            exact within_pair rfl
          · exact within_pair rfl
      · refine Within.ite ?_ ?_
        · refine Within.after ?_ State.raise_within rfl
          refine Within.ite ?_ ?_
          · refine Within.after ?_ State.raise_within rfl
            exact within_pair rfl
          · exact within_pair rfl
        · refine Within.ite ?_ ?_
          · refine Within.after ?_ State.raise_within rfl
            exact within_pair rfl
          · exact within_pair rfl
  · refine Within.ite ?_ ?_
    · refine Within.after ?_ State.raise_within rfl
      refine Within.ite ?_ ?_
      · refine Within.after ?_ State.raise_within rfl
        refine Within.ite ?_ ?_
        · refine Within.after ?_ State.raise_within rfl
          refine Within.ite ?_ ?_
          · refine Within.after ?_ State.raise_within rfl
            exact within_pair rfl
          · exact within_pair rfl
        · refine Within.ite ?_ ?_
          · refine Within.after ?_ State.raise_within rfl
            exact within_pair rfl
          · exact within_pair rfl
      · refine Within.ite ?_ ?_
        · refine Within.after ?_ State.raise_within rfl
          refine Within.ite ?_ ?_
          · refine Within.after ?_ State.raise_within rfl
            exact within_pair rfl
          · exact within_pair rfl
        · refine Within.ite ?_ ?_
          · refine Within.after ?_ State.raise_within rfl
            exact within_pair rfl
          · exact within_pair rfl
    · refine Within.ite ?_ ?_
      · refine Within.after ?_ State.raise_within rfl
        refine Within.ite ?_ ?_
        · refine Within.after ?_ State.raise_within rfl
          refine Within.ite ?_ ?_
          · refine Within.after ?_ State.raise_within rfl
            exact within_pair rfl
          · exact within_pair rfl
        · refine Within.ite ?_ ?_
          · refine Within.after ?_ State.raise_within rfl
            exact within_pair rfl
          · exact within_pair rfl
      · refine Within.ite ?_ ?_
        · refine Within.after ?_ State.raise_within rfl
          refine Within.ite ?_ ?_
          · refine Within.after ?_ State.raise_within rfl
            exact within_pair rfl
          · exact within_pair rfl
        · refine Within.ite ?_ ?_
          · refine Within.after ?_ State.raise_within rfl
            exact within_pair rfl
          · exact within_pair rfl

theorem State.sendStart_within {s : State} : Within [] s (State.sendStart s) :=
  State.emit_within.mono rfl

theorem State.sendHeartbeat_within {s : State} : Within [Part.pair] s (State.sendHeartbeat s) :=
  State.sendLink_within.mono rfl

theorem State.pairCloses_within {s : State} : Within [Part.pair, .trip, .access, .update, .checkpoint, .counters, .panel,
    .due, .ledger, .lanes, .settings, .gnss, .air, .airLanes, .halt] s (State.pairCloses s) := by
  unfold State.pairCloses
  refine Within.ite ?_ ?_
  · refine Within.ite ?_ ?_
    · refine Within.trans ?_ (within_pair rfl)
      refine Within.after ?_ State.sendLink_within rfl
      refine Within.ite ?_ ?_
      · refine Within.after ?_ State.becomeActive_within rfl
        refine Within.trans ?_ (within_pair_due rfl rfl)
        refine Within.after ?_ State.pathEvents_within rfl
        refine Within.ite ?_ ?_
        · refine Within.after ?_ State.setRole_within rfl
          refine Within.after ?_ State.ackCounted_within rfl
          exact State.handOver_within.mono rfl
        · refine Within.ite ?_ ?_
          · refine Within.after ?_ State.setRole_within rfl
            refine Within.trans ?_ (within_pair rfl)
            refine Within.after ?_ State.ackCounted_within rfl
            exact State.handOver_within.mono rfl
          · refine Within.after ?_ State.ackCounted_within rfl
            exact State.handOver_within.mono rfl
      · refine Within.trans ?_ (within_pair_due rfl rfl)
        refine Within.after ?_ State.pathEvents_within rfl
        refine Within.ite ?_ ?_
        · refine Within.after ?_ State.setRole_within rfl
          refine Within.after ?_ State.ackCounted_within rfl
          exact State.handOver_within.mono rfl
        · refine Within.ite ?_ ?_
          · refine Within.after ?_ State.setRole_within rfl
            refine Within.trans ?_ (within_pair rfl)
            refine Within.after ?_ State.ackCounted_within rfl
            exact State.handOver_within.mono rfl
          · refine Within.after ?_ State.ackCounted_within rfl
            exact State.handOver_within.mono rfl
    · refine Within.ite ?_ ?_
      · refine Within.after ?_ State.becomeActive_within rfl
        refine Within.trans ?_ (within_pair_due rfl rfl)
        refine Within.after ?_ State.pathEvents_within rfl
        refine Within.ite ?_ ?_
        · refine Within.after ?_ State.setRole_within rfl
          refine Within.after ?_ State.ackCounted_within rfl
          exact State.handOver_within.mono rfl
        · refine Within.ite ?_ ?_
          · refine Within.after ?_ State.setRole_within rfl
            refine Within.trans ?_ (within_pair rfl)
            refine Within.after ?_ State.ackCounted_within rfl
            exact State.handOver_within.mono rfl
          · refine Within.after ?_ State.ackCounted_within rfl
            exact State.handOver_within.mono rfl
      · refine Within.trans ?_ (within_pair_due rfl rfl)
        refine Within.after ?_ State.pathEvents_within rfl
        refine Within.ite ?_ ?_
        · refine Within.after ?_ State.setRole_within rfl
          refine Within.after ?_ State.ackCounted_within rfl
          exact State.handOver_within.mono rfl
        · refine Within.ite ?_ ?_
          · refine Within.after ?_ State.setRole_within rfl
            refine Within.trans ?_ (within_pair rfl)
            refine Within.after ?_ State.ackCounted_within rfl
            exact State.handOver_within.mono rfl
          · refine Within.after ?_ State.ackCounted_within rfl
            exact State.handOver_within.mono rfl
  · refine Within.ite ?_ ?_
    · refine Within.after ?_ State.sendHeartbeat_within rfl
      refine Within.ite ?_ ?_
      · refine Within.after ?_ State.sendStart_within rfl
        refine Within.after ?_ State.emit_within rfl
        refine Within.ite ?_ ?_
        · refine Within.trans ?_ (within_pair rfl)
          refine Within.after ?_ State.sendLink_within rfl
          refine Within.ite ?_ ?_
          · refine Within.after ?_ State.becomeActive_within rfl
            refine Within.trans ?_ (within_pair_due rfl rfl)
            refine Within.after ?_ State.pathEvents_within rfl
            refine Within.ite ?_ ?_
            · refine Within.after ?_ State.setRole_within rfl
              refine Within.after ?_ State.ackCounted_within rfl
              exact State.handOver_within.mono rfl
            · refine Within.ite ?_ ?_
              · refine Within.after ?_ State.setRole_within rfl
                refine Within.trans ?_ (within_pair rfl)
                refine Within.after ?_ State.ackCounted_within rfl
                exact State.handOver_within.mono rfl
              · refine Within.after ?_ State.ackCounted_within rfl
                exact State.handOver_within.mono rfl
          · refine Within.trans ?_ (within_pair_due rfl rfl)
            refine Within.after ?_ State.pathEvents_within rfl
            refine Within.ite ?_ ?_
            · refine Within.after ?_ State.setRole_within rfl
              refine Within.after ?_ State.ackCounted_within rfl
              exact State.handOver_within.mono rfl
            · refine Within.ite ?_ ?_
              · refine Within.after ?_ State.setRole_within rfl
                refine Within.trans ?_ (within_pair rfl)
                refine Within.after ?_ State.ackCounted_within rfl
                exact State.handOver_within.mono rfl
              · refine Within.after ?_ State.ackCounted_within rfl
                exact State.handOver_within.mono rfl
        · refine Within.ite ?_ ?_
          · refine Within.after ?_ State.becomeActive_within rfl
            refine Within.trans ?_ (within_pair_due rfl rfl)
            refine Within.after ?_ State.pathEvents_within rfl
            refine Within.ite ?_ ?_
            · refine Within.after ?_ State.setRole_within rfl
              refine Within.after ?_ State.ackCounted_within rfl
              exact State.handOver_within.mono rfl
            · refine Within.ite ?_ ?_
              · refine Within.after ?_ State.setRole_within rfl
                refine Within.trans ?_ (within_pair rfl)
                refine Within.after ?_ State.ackCounted_within rfl
                exact State.handOver_within.mono rfl
              · refine Within.after ?_ State.ackCounted_within rfl
                exact State.handOver_within.mono rfl
          · refine Within.trans ?_ (within_pair_due rfl rfl)
            refine Within.after ?_ State.pathEvents_within rfl
            refine Within.ite ?_ ?_
            · refine Within.after ?_ State.setRole_within rfl
              refine Within.after ?_ State.ackCounted_within rfl
              exact State.handOver_within.mono rfl
            · refine Within.ite ?_ ?_
              · refine Within.after ?_ State.setRole_within rfl
                refine Within.trans ?_ (within_pair rfl)
                refine Within.after ?_ State.ackCounted_within rfl
                exact State.handOver_within.mono rfl
              · refine Within.after ?_ State.ackCounted_within rfl
                exact State.handOver_within.mono rfl
      · refine Within.after ?_ State.emit_within rfl
        refine Within.ite ?_ ?_
        · refine Within.trans ?_ (within_pair rfl)
          refine Within.after ?_ State.sendLink_within rfl
          refine Within.ite ?_ ?_
          · refine Within.after ?_ State.becomeActive_within rfl
            refine Within.trans ?_ (within_pair_due rfl rfl)
            refine Within.after ?_ State.pathEvents_within rfl
            refine Within.ite ?_ ?_
            · refine Within.after ?_ State.setRole_within rfl
              refine Within.after ?_ State.ackCounted_within rfl
              exact State.handOver_within.mono rfl
            · refine Within.ite ?_ ?_
              · refine Within.after ?_ State.setRole_within rfl
                refine Within.trans ?_ (within_pair rfl)
                refine Within.after ?_ State.ackCounted_within rfl
                exact State.handOver_within.mono rfl
              · refine Within.after ?_ State.ackCounted_within rfl
                exact State.handOver_within.mono rfl
          · refine Within.trans ?_ (within_pair_due rfl rfl)
            refine Within.after ?_ State.pathEvents_within rfl
            refine Within.ite ?_ ?_
            · refine Within.after ?_ State.setRole_within rfl
              refine Within.after ?_ State.ackCounted_within rfl
              exact State.handOver_within.mono rfl
            · refine Within.ite ?_ ?_
              · refine Within.after ?_ State.setRole_within rfl
                refine Within.trans ?_ (within_pair rfl)
                refine Within.after ?_ State.ackCounted_within rfl
                exact State.handOver_within.mono rfl
              · refine Within.after ?_ State.ackCounted_within rfl
                exact State.handOver_within.mono rfl
        · refine Within.ite ?_ ?_
          · refine Within.after ?_ State.becomeActive_within rfl
            refine Within.trans ?_ (within_pair_due rfl rfl)
            refine Within.after ?_ State.pathEvents_within rfl
            refine Within.ite ?_ ?_
            · refine Within.after ?_ State.setRole_within rfl
              refine Within.after ?_ State.ackCounted_within rfl
              exact State.handOver_within.mono rfl
            · refine Within.ite ?_ ?_
              · refine Within.after ?_ State.setRole_within rfl
                refine Within.trans ?_ (within_pair rfl)
                refine Within.after ?_ State.ackCounted_within rfl
                exact State.handOver_within.mono rfl
              · refine Within.after ?_ State.ackCounted_within rfl
                exact State.handOver_within.mono rfl
          · refine Within.trans ?_ (within_pair_due rfl rfl)
            refine Within.after ?_ State.pathEvents_within rfl
            refine Within.ite ?_ ?_
            · refine Within.after ?_ State.setRole_within rfl
              refine Within.after ?_ State.ackCounted_within rfl
              exact State.handOver_within.mono rfl
            · refine Within.ite ?_ ?_
              · refine Within.after ?_ State.setRole_within rfl
                refine Within.trans ?_ (within_pair rfl)
                refine Within.after ?_ State.ackCounted_within rfl
                exact State.handOver_within.mono rfl
              · refine Within.after ?_ State.ackCounted_within rfl
                exact State.handOver_within.mono rfl
    · refine Within.ite ?_ ?_
      · refine Within.after ?_ State.sendStart_within rfl
        refine Within.after ?_ State.emit_within rfl
        refine Within.ite ?_ ?_
        · refine Within.trans ?_ (within_pair rfl)
          refine Within.after ?_ State.sendLink_within rfl
          refine Within.ite ?_ ?_
          · refine Within.after ?_ State.becomeActive_within rfl
            refine Within.trans ?_ (within_pair_due rfl rfl)
            refine Within.after ?_ State.pathEvents_within rfl
            refine Within.ite ?_ ?_
            · refine Within.after ?_ State.setRole_within rfl
              refine Within.after ?_ State.ackCounted_within rfl
              exact State.handOver_within.mono rfl
            · refine Within.ite ?_ ?_
              · refine Within.after ?_ State.setRole_within rfl
                refine Within.trans ?_ (within_pair rfl)
                refine Within.after ?_ State.ackCounted_within rfl
                exact State.handOver_within.mono rfl
              · refine Within.after ?_ State.ackCounted_within rfl
                exact State.handOver_within.mono rfl
          · refine Within.trans ?_ (within_pair_due rfl rfl)
            refine Within.after ?_ State.pathEvents_within rfl
            refine Within.ite ?_ ?_
            · refine Within.after ?_ State.setRole_within rfl
              refine Within.after ?_ State.ackCounted_within rfl
              exact State.handOver_within.mono rfl
            · refine Within.ite ?_ ?_
              · refine Within.after ?_ State.setRole_within rfl
                refine Within.trans ?_ (within_pair rfl)
                refine Within.after ?_ State.ackCounted_within rfl
                exact State.handOver_within.mono rfl
              · refine Within.after ?_ State.ackCounted_within rfl
                exact State.handOver_within.mono rfl
        · refine Within.ite ?_ ?_
          · refine Within.after ?_ State.becomeActive_within rfl
            refine Within.trans ?_ (within_pair_due rfl rfl)
            refine Within.after ?_ State.pathEvents_within rfl
            refine Within.ite ?_ ?_
            · refine Within.after ?_ State.setRole_within rfl
              refine Within.after ?_ State.ackCounted_within rfl
              exact State.handOver_within.mono rfl
            · refine Within.ite ?_ ?_
              · refine Within.after ?_ State.setRole_within rfl
                refine Within.trans ?_ (within_pair rfl)
                refine Within.after ?_ State.ackCounted_within rfl
                exact State.handOver_within.mono rfl
              · refine Within.after ?_ State.ackCounted_within rfl
                exact State.handOver_within.mono rfl
          · refine Within.trans ?_ (within_pair_due rfl rfl)
            refine Within.after ?_ State.pathEvents_within rfl
            refine Within.ite ?_ ?_
            · refine Within.after ?_ State.setRole_within rfl
              refine Within.after ?_ State.ackCounted_within rfl
              exact State.handOver_within.mono rfl
            · refine Within.ite ?_ ?_
              · refine Within.after ?_ State.setRole_within rfl
                refine Within.trans ?_ (within_pair rfl)
                refine Within.after ?_ State.ackCounted_within rfl
                exact State.handOver_within.mono rfl
              · refine Within.after ?_ State.ackCounted_within rfl
                exact State.handOver_within.mono rfl
      · refine Within.after ?_ State.emit_within rfl
        refine Within.ite ?_ ?_
        · refine Within.trans ?_ (within_pair rfl)
          refine Within.after ?_ State.sendLink_within rfl
          refine Within.ite ?_ ?_
          · refine Within.after ?_ State.becomeActive_within rfl
            refine Within.trans ?_ (within_pair_due rfl rfl)
            refine Within.after ?_ State.pathEvents_within rfl
            refine Within.ite ?_ ?_
            · refine Within.after ?_ State.setRole_within rfl
              refine Within.after ?_ State.ackCounted_within rfl
              exact State.handOver_within.mono rfl
            · refine Within.ite ?_ ?_
              · refine Within.after ?_ State.setRole_within rfl
                refine Within.trans ?_ (within_pair rfl)
                refine Within.after ?_ State.ackCounted_within rfl
                exact State.handOver_within.mono rfl
              · refine Within.after ?_ State.ackCounted_within rfl
                exact State.handOver_within.mono rfl
          · refine Within.trans ?_ (within_pair_due rfl rfl)
            refine Within.after ?_ State.pathEvents_within rfl
            refine Within.ite ?_ ?_
            · refine Within.after ?_ State.setRole_within rfl
              refine Within.after ?_ State.ackCounted_within rfl
              exact State.handOver_within.mono rfl
            · refine Within.ite ?_ ?_
              · refine Within.after ?_ State.setRole_within rfl
                refine Within.trans ?_ (within_pair rfl)
                refine Within.after ?_ State.ackCounted_within rfl
                exact State.handOver_within.mono rfl
              · refine Within.after ?_ State.ackCounted_within rfl
                exact State.handOver_within.mono rfl
        · refine Within.ite ?_ ?_
          · refine Within.after ?_ State.becomeActive_within rfl
            refine Within.trans ?_ (within_pair_due rfl rfl)
            refine Within.after ?_ State.pathEvents_within rfl
            refine Within.ite ?_ ?_
            · refine Within.after ?_ State.setRole_within rfl
              refine Within.after ?_ State.ackCounted_within rfl
              exact State.handOver_within.mono rfl
            · refine Within.ite ?_ ?_
              · refine Within.after ?_ State.setRole_within rfl
                refine Within.trans ?_ (within_pair rfl)
                refine Within.after ?_ State.ackCounted_within rfl
                exact State.handOver_within.mono rfl
              · refine Within.after ?_ State.ackCounted_within rfl
                exact State.handOver_within.mono rfl
          · refine Within.trans ?_ (within_pair_due rfl rfl)
            refine Within.after ?_ State.pathEvents_within rfl
            refine Within.ite ?_ ?_
            · refine Within.after ?_ State.setRole_within rfl
              refine Within.after ?_ State.ackCounted_within rfl
              exact State.handOver_within.mono rfl
            · refine Within.ite ?_ ?_
              · refine Within.after ?_ State.setRole_within rfl
                refine Within.trans ?_ (within_pair rfl)
                refine Within.after ?_ State.ackCounted_within rfl
                exact State.handOver_within.mono rfl
              · refine Within.after ?_ State.ackCounted_within rfl
                exact State.handOver_within.mono rfl

theorem State.pairOpens_within {s : State} : Within [Part.pair, .trip] s (State.pairOpens s) := by
  unfold State.pairOpens
  refine Within.trans ?_ (within_pair rfl)
  refine Within.ite ?_ ?_
  · refine Within.ite ?_ ?_
    · exact State.setRole_within.mono rfl
    · exact Within.refl _ _
  · refine Within.ite ?_ ?_
    · refine Within.after ?_ State.setRole_within rfl
      exact within_pair rfl
    · exact Within.refl _ _

theorem State.vergeHeard_within {verge : Option Bytes} {s : State} : Within [Part.air] s (State.vergeHeard verge s).2 := by
  unfold State.vergeHeard
  split
  · exact Within.refl _ _
  · refine Within.ite_snd ?_ ?_
    · exact Within.refl _ _
    · refine Within.ite_snd ?_ ?_
      · exact Within.refl _ _
      · refine Within.snd_mk ?_
        exact within_air rfl

theorem deltaReceive_within {head : LinkHead} {part : ℕ} {facts : List Fact} {commits : List CommitRecord} {last : Bool} {s
    : State} : Within [Part.access, .counters, .panel, .trip, .pair, .air, .clock] s (deltaReceive head part facts commits
    last s) := by
  unfold deltaReceive
  refine State.linkFrame_within (fun _ => ?_) ?_ rfl
  · refine Within.ite ?_ ?_
    · exact Within.refl _ _
    · refine Within.ite ?_ ?_
      · exact within_pair rfl
      · refine Within.after ?_ State.sendLink_within rfl
        refine Within.ite ?_ ?_
        · refine Within.after ?_ State.raise_within rfl
          refine Within.trans ?_ (within_pair rfl)
          exact within_pair rfl
        · refine Within.trans ?_ (within_pair rfl)
          exact within_pair rfl
  · exact Within.refl _ _

theorem mirrorDeltaStart_within {s : State} : Within [Part.clock, .pair, .lanes, .due, .checkpoint, .keys] s
    (mirrorDeltaStart s) := by
  unfold mirrorDeltaStart
  refine Within.ite ?_ ?_
  · exact State.stamped_within.mono rfl
  · refine Within.trans ?_ (within_lanes_pair_due_checkpoint_keys rfl rfl rfl rfl rfl ⟨rfl, rfl, rfl, rfl, rfl, rfl⟩ (fun h => ⟨by dsimp only; apply tmap_wf, h.2.1, h.2.2⟩))
    refine Within.after ?_ State.sendLink_within rfl
    refine Within.ite ?_ ?_
    · refine Within.after ?_ State.sendLink_within rfl
      exact State.stamped_within.mono rfl
    · exact State.stamped_within.mono rfl

theorem execMirrorDeltaStart_within {s : State} : Within.post [Part.clock, .pair, .lanes, .due, .checkpoint, .keys] s
    (execMirrorDeltaStart s) := by
  unfold execMirrorDeltaStart
  refine running_within (fun _ => ?_) ?_ rfl
  · exact mirrorDeltaStart_within.mono rfl
  · exact Within.refl _ _

theorem pairAck_within {head : LinkHead} {tick : U32} {result : ℕ} {s : State} : Within [Part.access, .counters, .panel,
    .trip, .pair, .air, .clock] s (pairAck head tick result s) := by
  unfold pairAck
  refine State.linkFrame_within (fun _ => ?_) ?_ rfl
  · refine Within.ite ?_ ?_
    · exact within_pair rfl
    · exact Within.refl _ _
  · exact Within.refl _ _

theorem execPairAckReceive_within {head : LinkHead} {tick : U32} {result checked : ℕ} {s : State} : Within.post [Part.access,
    .counters, .panel, .trip, .pair, .air, .clock] s (execPairAckReceive head tick result checked s) := by
  unfold execPairAckReceive
  refine running_within (fun _ => ?_) ?_ rfl
  · exact pairAck_within.mono rfl
  · exact Within.refl _ _

theorem ownPairBeacon_within {verge : Option Bytes} {epoch : U16} {authentic : Bool} {stamp : ℕ} {s : State} : Within
    [Part.clock, .air, .access, .counters, .trip, .panel, .pair] s (ownPairBeacon verge epoch authentic stamp s) := by
  unfold ownPairBeacon
  refine Within.ite ?_ ?_
  · refine Within.after ?_ State.vergeHeard_within rfl
    exact State.stamped_within.mono rfl
  · refine Within.ite ?_ ?_
    · refine Within.trans ?_ (within_pair rfl)
      refine Within.after ?_ State.hearEpoch_within rfl
      refine Within.after ?_ State.vergeHeard_within rfl
      exact State.stamped_within.mono rfl
    · refine Within.after ?_ State.hearEpoch_within rfl
      refine Within.after ?_ State.vergeHeard_within rfl
      exact State.stamped_within.mono rfl

theorem execOwnPairBeaconReceive_within {beacon : OwnBeacon} {stamp : ℕ} {s : State} : Within.post [Part.clock, .air, .access,
    .counters, .trip, .panel, .pair] s (execOwnPairBeaconReceive beacon stamp s) := by
  unfold execOwnPairBeaconReceive
  refine running_within (fun _ => ?_) ?_ rfl
  · exact ownPairBeacon_within.mono rfl
  · exact Within.refl _ _

theorem heartbeatReceive_within {head : LinkHead} {role : ℕ} {firmware : U32} {version : ℕ} {sent : ℤ} {echo : ℤ} {resync :
    Bool} {s : State} : Within [Part.access, .counters, .panel, .trip, .pair, .air, .clock, .routes, .guests, .ledger,
    .halt, .keys, .schedule, .time] s (heartbeatReceive head role firmware version sent echo resync s) := by
  unfold heartbeatReceive
  refine State.linkFrame_within (fun _ => ?_) ?_ rfl
  · refine Within.ite ?_ ?_
    · refine Within.after ?_ State.sendHeartbeat_within rfl
      refine Within.ite ?_ ?_
      · refine Within.trans ?_ (within_pair rfl)
        refine Within.trans ?_ (within_pair rfl)
        refine Within.ite ?_ ?_
        · exact State.followNumber_within.mono rfl
        · exact Within.refl _ _
      · refine Within.trans ?_ (within_pair rfl)
        refine Within.ite ?_ ?_
        · exact State.followNumber_within.mono rfl
        · exact Within.refl _ _
    · refine Within.ite ?_ ?_
      · refine Within.trans ?_ (within_pair rfl)
        refine Within.trans ?_ (within_pair rfl)
        refine Within.ite ?_ ?_
        · exact State.followNumber_within.mono rfl
        · exact Within.refl _ _
      · refine Within.trans ?_ (within_pair rfl)
        refine Within.ite ?_ ?_
        · exact State.followNumber_within.mono rfl
        · exact Within.refl _ _
  · exact Within.refl _ _

theorem execHeartbeat_within {head : LinkHead} {role : ℕ} {build : PartnerBuild} {stamps : BeatStamps} {resync : Bool} {s : State}
    : Within.post [Part.access, .counters, .panel, .trip, .pair, .air, .clock, .routes, .guests, .ledger, .halt, .keys, .schedule,
    .time] s (execHeartbeat head role build stamps resync s) := by
  unfold execHeartbeat
  refine running_within (fun _ => ?_) ?_ rfl
  · exact heartbeatReceive_within.mono rfl
  · exact Within.refl _ _

theorem pairPulseEdge_within {width : ℕ} {offset : ℤ} {stamp : ℕ} {s : State} : Within [Part.clock, .pair] s (pairPulseEdge
    width offset stamp s) := by
  unfold pairPulseEdge
  refine Within.ite ?_ ?_
  · exact State.stamped_within.mono rfl
  · refine Within.ite ?_ ?_
    · refine Within.trans ?_ (within_pair rfl)
      exact State.stamped_within.mono rfl
    · exact State.stamped_within.mono rfl

theorem execPairPulseEdge_within {pulse : Pulse} {stamp : ℕ} {s : State} : Within.post [Part.clock, .pair] s (execPairPulseEdge
    pulse stamp s) := by
  unfold execPairPulseEdge
  refine running_within (fun _ => ?_) ?_ rfl
  · exact pairPulseEdge_within.mono rfl
  · exact Within.refl _ _

theorem takeover_within {s : State} : Within [Part.pair, .trip, .checkpoint, .ledger, .due, .access, .counters, .panel,
    .lanes, .settings, .gnss, .update, .air, .airLanes, .halt] s (takeover s) := by
  unfold takeover
  refine Within.ite ?_ ?_
  · refine Within.after ?_ State.raise_within rfl
    refine Within.trans ?_ (within_pair rfl)
    exact State.becomeActive_within.mono rfl
  · exact Within.refl _ _

theorem execTakeover_within {s : State} : Within.post [Part.pair, .trip, .checkpoint, .ledger, .due, .access, .counters,
    .panel, .lanes, .settings, .gnss, .update, .air, .airLanes, .halt] s (execTakeover s) := by
  unfold execTakeover
  refine running_within (fun _ => ?_) ?_ rfl
  · exact takeover_within.mono rfl
  · exact Within.refl _ _

theorem pairStartupTimeout_within {s : State} : Within [Part.pair, .trip, .checkpoint, .ledger, .due, .access, .counters,
    .panel, .lanes, .settings, .gnss, .update, .air, .airLanes, .halt] s (pairStartupTimeout s) := by
  unfold pairStartupTimeout
  refine Within.ite ?_ ?_
  · exact State.becomeActive_within.mono rfl
  · exact Within.refl _ _

theorem execPairStartupTimeout_within {s : State} : Within.post [Part.pair, .trip, .checkpoint, .ledger, .due, .access,
    .counters, .panel, .lanes, .settings, .gnss, .update, .air, .airLanes, .halt] s (execPairStartupTimeout s) := by
  unfold execPairStartupTimeout
  refine running_within (fun _ => ?_) ?_ rfl
  · exact pairStartupTimeout_within.mono rfl
  · exact Within.refl _ _

theorem linkStart_within {s : State} : Within [Part.pair] s (linkStart s) := by
  unfold linkStart
  refine Within.ite ?_ ?_
  · exact Within.refl _ _
  · refine Within.after ?_ State.sendStart_within rfl
    refine Within.trans ?_ (within_pair rfl)
    exact State.draw_within.mono rfl

theorem execLinkStart_within {s : State} : Within.post [Part.pair] s (execLinkStart s) := by
  unfold execLinkStart
  refine running_within (fun _ => ?_) ?_ rfl
  · exact linkStart_within.mono rfl
  · exact Within.refl _ _

theorem startReceive_within {nonce : Bytes} {address : ℕ} {serial : U64} {low : ℕ} {high : ℕ} {s : State} : Within
    [Part.pair, .keys, .access, .counters, .trip, .panel] s (startReceive nonce address serial low high s) := by
  unfold startReceive
  refine Within.ite ?_ ?_
  · exact Within.refl _ _
  · refine Within.ite ?_ ?_
    · refine Within.after ?_ State.raise_within rfl
      refine Within.trans ?_ (within_pair_keys rfl rfl ⟨rfl, rfl, rfl, rfl, rfl, rfl⟩)
      refine Within.ite ?_ ?_
      · exact Within.refl _ _
      · exact linkStart_within.mono rfl
    · refine Within.trans ?_ (within_pair_keys rfl rfl ⟨rfl, rfl, rfl, rfl, rfl, rfl⟩)
      refine Within.ite ?_ ?_
      · exact Within.refl _ _
      · exact linkStart_within.mono rfl

theorem execStart_within {nonce : Bytes} {address : ℕ} {serial : U64} {low : ℕ} {high : ℕ} {s : State} : Within.post
    [Part.pair, .keys, .access, .counters, .trip, .panel] s (execStart nonce address serial low high s) := by
  unfold execStart
  refine running_within (fun _ => ?_) ?_ rfl
  · exact startReceive_within.mono rfl
  · exact Within.refl _ _

theorem inputReceive_within {head : LinkHead} {stamp : ℕ} {item : InputItem} {s : State} : Within [Part.access, .counters,
    .panel, .trip, .pair, .air, .clock, .ledger, .lanes, .cells, .update, .routes, .settings, .power, .gnss, .guests] s
    (inputReceive head stamp item s) := by
  unfold inputReceive
  refine State.linkFrame_within (fun _ => ?_) ?_ rfl
  · refine Within.ite ?_ ?_
    · exact Within.refl _ _
    · refine State.asStamped_within (fun _ => ?_) ?_ rfl
      · split
        · refine Within.after ?_ State.submitRoute_within rfl
          exact within_ledger rfl
        · refine Within.ite ?_ ?_
          · refine Within.after ?_ State.acceptPlan_within rfl
            exact within_ledger rfl
          · refine Within.ite ?_ ?_
            · refine Within.after ?_ State.acceptPlan_within rfl
              exact within_ledger rfl
            · exact Within.refl _ _
        · refine Within.after ?_ State.storeLimits_within rfl
          exact within_ledger rfl
        · exact State.changeArea_within.mono rfl
        · refine Within.ite ?_ ?_
          · exact within_power rfl ⟨rfl, rfl, rfl⟩ ⟨rfl, rfl⟩
          · refine Within.after ?_ State.journal_within rfl
            exact State.acceptItems_within.mono rfl
        · refine Within.after ?_ State.journal_within rfl
          exact State.acceptItems_within.mono rfl
        · refine Within.after ?_ State.cellInput_within rfl
          exact within_ledger rfl
        · exact Within.refl _ _
      · exact Within.refl _ _
  · exact Within.refl _ _

theorem execInput_within {head : LinkHead} {source : ℕ} {stamp : ℕ} {item : InputItem} {s : State} : Within.post
    [Part.access, .counters, .panel, .trip, .pair, .air, .clock, .ledger, .lanes, .cells, .update, .routes, .settings,
    .power, .gnss, .guests] s (execInput head source stamp item s) := by
  unfold execInput
  refine running_within (fun _ => ?_) ?_ rfl
  · refine Within.ite ?_ ?_
    · exact inputReceive_within.mono rfl
    · exact Within.refl _ _
  · exact Within.refl _ _

theorem execDelta_within {head : LinkHead} {part : DeltaPart} {facts : List Fact} {commits : List CommitRecord} {s : State} :
    Within.post [Part.access, .counters, .panel, .trip, .pair, .air, .clock] s (execDelta head part facts commits s) := by
  unfold execDelta
  refine running_within (fun _ => ?_) ?_ rfl
  · exact deltaReceive_within.mono rfl
  · exact Within.refl _ _

theorem haltReceive_within {head : LinkHead} {site cell : U16} {lanes : List (ℕ × U16)} {haltId : U16} {ids : List (ℕ × U16)}
    {sources : U16} {decisions : List RemoteDecision} {s : State} : Within [Part.access, .counters, .panel, .trip, .pair, .air,
    .clock, .halt, .lanes] s (haltReceive head site cell lanes haltId ids sources decisions s) := by
  unfold haltReceive
  refine State.linkFrame_within (fun _ => ?_) ?_ rfl
  · refine Within.ite ?_ ?_
    · refine Within.after ?_ State.holdRecords_within rfl
      exact State.hearSources_within.mono rfl
    · refine Within.after ?_ State.sourcesChanged_within rfl
      exact State.hearSources_within.mono rfl
  · exact Within.refl _ _

theorem execHalt_within {head : LinkHead} {site cell : U16} {lanes : List (ℕ × U16)} {haltId : U16} {ids : List (ℕ × U16)}
    {sources : U16} {decisions : List RemoteDecision} {s : State} : Within.post [Part.access, .counters, .panel, .trip, .pair,
    .air, .clock, .halt, .lanes] s (execHalt head site cell lanes haltId ids sources decisions s) := by
  unfold execHalt
  refine running_within (fun _ => ?_) ?_ rfl
  · exact haltReceive_within.mono rfl
  · exact Within.refl _ _

theorem transferReceive_within {head : LinkHead} {facts : List Fact} {generation : U32} {last : Bool} {s : State} : Within
    [Part.access, .counters, .panel, .trip, .pair, .air, .clock, .due, .lanes, .checkpoint, .routes, .halt, .settings,
    .gnss, .airLanes, .keys, .custody, .guests, .update] s (transferReceive head facts generation last s) := by
  unfold transferReceive
  refine State.linkFrame_within (fun _ => ?_) ?_ rfl
  · refine Within.ite ?_ ?_
    · exact Within.refl _ _
    · refine Within.trans ?_ (within_pair rfl)
      refine Within.ite ?_ ?_
      · refine Within.after ?_ State.journalAs_within rfl
        refine Within.foldl (fun _ _ => ?_) ?_
        · exact State.applyFact_within.mono rfl
        · exact Within.refl _ _
      · refine Within.foldl (fun _ _ => ?_) ?_
        · exact State.applyFact_within.mono rfl
        · exact Within.refl _ _
  · exact Within.refl _ _

theorem execTransfer_within {head : LinkHead} {facts : List Fact} {generation : U32} {last : Bool} {s : State} : Within.post
    [Part.access, .counters, .panel, .trip, .pair, .air, .clock, .due, .lanes, .checkpoint, .routes, .halt, .settings,
    .gnss, .airLanes, .keys, .custody, .guests, .update] s (execTransfer head facts generation last s) := by
  unfold execTransfer
  refine running_within (fun _ => ?_) ?_ rfl
  · exact transferReceive_within.mono rfl
  · exact Within.refl _ _

theorem plannedReceive_within {head : LinkHead} {boundary : U32} {s : State} : Within [Part.access, .counters, .panel,
    .trip, .pair, .air, .clock] s (plannedReceive head boundary s) := by
  unfold plannedReceive
  refine State.linkFrame_within (fun _ => ?_) ?_ rfl
  · refine Within.ite ?_ ?_
    · exact within_pair rfl
    · exact Within.refl _ _
  · exact Within.refl _ _

theorem execPlanned_within {head : LinkHead} {boundary : U32} {s : State} : Within.post [Part.access, .counters, .panel,
    .trip, .pair, .air, .clock] s (execPlanned head boundary s) := by
  unfold execPlanned
  refine running_within (fun _ => ?_) ?_ rfl
  · exact plannedReceive_within.mono rfl
  · exact Within.refl _ _

theorem plannedHandover_within {r : Req} {value : ℕ} {s : State} : Within [Part.access, .clock, .update, .counters, .panel,
    .trip, .pair] s (plannedHandover r value s) := by
  unfold plannedHandover
  refine State.serveWrite_within (fun _ => ?_) ?_ rfl
  · exact State.askHandover_within.mono rfl
  · exact Within.refl _ _

theorem execPlannedHandover_within {r : Req} {value : ℕ} {s : State} : Within.post [Part.access, .clock, .update, .counters,
    .panel, .trip, .pair] s (execPlannedHandover r value s) := by
  unfold execPlannedHandover
  refine running_within (fun _ => ?_) ?_ rfl
  · exact plannedHandover_within.mono rfl
  · exact Within.refl _ _

end Sys2Proof.Machine
end

