-- ==== Sys2Proof/Laws/Chain.lean ====
section
/-! SUPPORT. What each operation of Machine/Chain.lean may change: the parts listed, what goes out, and the free values drawn. -/

namespace Sys2Proof.Machine

theorem State.selectOut_within {on : Bool} {s : State} : Within [Part.chain] s (State.selectOut on s) := by
  unfold State.selectOut
  refine Within.ite ?_ ?_
  · exact Within.refl _ _
  · refine Within.ite ?_ ?_
    · exact within_chain rfl
    · refine Within.after ?_ State.emit_within rfl
      exact within_chain rfl

theorem State.sendAnnounce_within {address : ℕ} {stored : Bool} {claiming : Bool} {s : State} : Within [] s
    (State.sendAnnounce address stored claiming s) :=
  State.emit_within.mono rfl

theorem State.announceStored_within {s : State} : Within [Part.chain] s (State.announceStored s) := by
  unfold State.announceStored
  refine Within.ite ?_ ?_
  · exact Within.refl _ _
  · refine Within.after ?_ State.selectOut_within rfl
    refine Within.after ?_ State.sendAnnounce_within rfl
    exact within_chain rfl

theorem State.bootUp_within {s : State} : Within [Part.access] s (State.bootUp s) := by
  unfold State.bootUp
  refine Within.after ?_ State.emit_within rfl
  exact within_access rfl

theorem State.chainTick_within {s : State} : Within [Part.chain, .access] s (State.chainTick s) := by
  unfold State.chainTick
  refine Within.ite ?_ ?_
  · refine Within.after ?_ State.bootUp_within rfl
    exact within_chain rfl
  · exact Within.refl _ _

theorem State.sendQuery_within {s : State} : Within [] s (State.sendQuery s) :=
  State.emit_within.mono rfl

theorem State.claim_within {s : State} : Within [Part.chain] s (State.claim s) := by
  unfold State.claim
  refine Within.after ?_ State.sendQuery_within rfl
  exact within_chain rfl

theorem State.forgetAddress_within {value : ℕ} {s : State} : Within [Part.chain, .access, .counters, .trip, .panel] s
    (State.forgetAddress value s).1 := by
  unfold State.forgetAddress
  refine Within.ite_fst ?_ ?_
  · exact refuse_within.mono rfl
  · refine Within.ite_fst ?_ ?_
    · exact refuse_within.mono rfl
    · refine Within.fst_mk ?_
      refine Within.ite ?_ ?_
      · refine Within.after ?_ State.raise_within rfl
        refine Within.trans ?_ (within_access_chain rfl rfl)
        exact State.selectOut_within.mono rfl
      · refine Within.trans ?_ (within_access_chain rfl rfl)
        exact State.selectOut_within.mono rfl

theorem addressClaimConfirm_within {s : State} : Within [Part.chain, .access] s (addressClaimConfirm s) := by
  unfold addressClaimConfirm
  refine Within.ite ?_ ?_
  · exact Within.refl _ _
  · refine Within.after ?_ State.bootUp_within rfl
    refine Within.after ?_ State.selectOut_within rfl
    exact within_chain rfl

theorem addressClaimRetry_within {s : State} : Within [Part.chain] s (addressClaimRetry s) := by
  unfold addressClaimRetry
  refine Within.ite ?_ ?_
  · exact State.claim_within.mono rfl
  · exact Within.refl _ _

theorem addressClaimStart_within {s : State} : Within [Part.access, .counters, .trip, .panel, .chain] s (addressClaimStart
    s) := by
  unfold addressClaimStart
  refine Within.ite ?_ ?_
  · refine Within.ite ?_ ?_
    · exact State.inUse_within.mono rfl
    · exact Within.refl _ _
  · refine Within.ite ?_ ?_
    · refine Within.after ?_ State.claim_within rfl
      exact within_chain rfl
    · exact within_chain rfl

theorem addressClaimTimeout_within {s : State} : Within [Part.chain, .access, .counters, .trip, .panel] s
    (addressClaimTimeout s) := by
  unfold addressClaimTimeout
  refine Within.ite ?_ ?_
  · exact Within.refl _ _
  · split
    · refine Within.after ?_ State.sendAnnounce_within rfl
      exact within_chain rfl
    · refine Within.after ?_ State.raise_within rfl
      exact within_chain rfl

theorem addressCommand_within {r : Req} {value : ℕ} {s : State} : Within [Part.access, .clock, .update, .counters, .panel,
    .trip, .chain] s (addressCommand r value s) := by
  unfold addressCommand
  refine State.serveWrite_within (fun _ => ?_) ?_ rfl
  · exact State.forgetAddress_within.mono rfl
  · exact Within.refl _ _

theorem announce_within {address : ℕ} {stored : Bool} {_claiming : Bool} {_role : ℕ} {serial : U64} {_site : U32} {s :
    State} : Within [Part.chain, .access, .counters, .trip, .panel] s (announce address stored _claiming _role serial _site
    s) := by
  unfold announce
  refine Within.ite ?_ ?_
  · exact Within.refl _ _
  · refine Within.ite ?_ ?_
    · refine Within.after ?_ State.raise_within rfl
      refine Within.trans ?_ (within_access_chain rfl rfl)
      exact within_chain rfl
    · exact within_chain rfl

theorem canHeartbeat_within {s : State} : Within [] s (canHeartbeat s) := by
  unfold canHeartbeat
  refine Within.ite ?_ ?_
  · exact Within.refl _ _
  · exact State.emit_within.mono rfl

theorem execAddressClaimStart_within {s : State} : Within.post [Part.access, .counters, .trip, .panel, .chain] s
    (execAddressClaimStart s) := by
  unfold execAddressClaimStart
  refine running_within (fun _ => ?_) ?_ rfl
  · exact addressClaimStart_within.mono rfl
  · exact Within.refl _ _

theorem query_within {serial : U64} {s : State} : Within [Part.chain, .access, .counters, .trip, .panel] s (query serial s)
    := by
  unfold query
  refine Within.ite ?_ ?_
  · exact Within.refl _ _
  · refine Within.ite ?_ ?_
    · refine Within.after ?_ State.bootUp_within rfl
      refine Within.after ?_ State.raise_within rfl
      refine Within.trans ?_ (within_chain rfl)
      exact State.sendAnnounce_within.mono rfl
    · exact State.sendAnnounce_within.mono rfl

theorem execQuery_within {serial : U64} {s : State} : Within.post [Part.chain, .access, .counters, .trip, .panel] s
    (execQuery serial s) := by
  unfold execQuery
  refine running_within (fun _ => ?_) ?_ rfl
  · exact query_within.mono rfl
  · exact Within.refl _ _

theorem execAnnounce_within {address : ℕ} {stored : Bool} {claiming : Bool} {role : ℕ} {serial : U64} {site : U32} {s :
    State} : Within.post [Part.chain, .access, .counters, .trip, .panel] s (execAnnounce address stored claiming role serial
    site s) := by
  unfold execAnnounce
  refine running_within (fun _ => ?_) ?_ rfl
  · exact announce_within.mono rfl
  · exact Within.refl _ _

theorem execAddressClaimTimeout_within {s : State} : Within.post [Part.chain, .access, .counters, .trip, .panel] s
    (execAddressClaimTimeout s) := by
  unfold execAddressClaimTimeout
  refine running_within (fun _ => ?_) ?_ rfl
  · exact addressClaimTimeout_within.mono rfl
  · exact Within.refl _ _

theorem execAddressClaimConfirm_within {s : State} : Within.post [Part.chain, .access] s (execAddressClaimConfirm s) := by
  unfold execAddressClaimConfirm
  refine running_within (fun _ => ?_) ?_ rfl
  · exact addressClaimConfirm_within.mono rfl
  · exact Within.refl _ _

theorem execAddressClaimRetry_within {s : State} : Within.post [Part.chain] s (execAddressClaimRetry s) := by
  unfold execAddressClaimRetry
  refine running_within (fun _ => ?_) ?_ rfl
  · exact addressClaimRetry_within.mono rfl
  · exact Within.refl _ _

theorem execAddressCommand_within {r : Req} {value : ℕ} {s : State} : Within.post [Part.access, .clock, .update, .counters,
    .panel, .trip, .chain] s (execAddressCommand r value s) := by
  unfold execAddressCommand
  refine running_within (fun _ => ?_) ?_ rfl
  · exact addressCommand_within.mono rfl
  · exact Within.refl _ _

theorem execCanHeartbeatProduce_within {s : State} : Within.post [] s (execCanHeartbeatProduce s) := by
  unfold execCanHeartbeatProduce
  refine running_within (fun _ => ?_) ?_ rfl
  · exact canHeartbeat_within.mono rfl
  · exact Within.refl _ _

theorem nmtCommand_within {code : ℕ} {s : State} : Within [Part.access] s (nmtCommand code s) := by
  unfold nmtCommand
  refine Within.ite ?_ ?_
  · exact Within.refl _ _
  · split
    · exact within_access rfl
    · exact within_access rfl
    · exact within_access rfl
    · exact State.bootUp_within.mono rfl
    · exact State.bootUp_within.mono rfl
    · exact Within.refl _ _

theorem execNmtCommand_within {code : ℕ} {s : State} : Within.post [Part.access] s (execNmtCommand code s) := by
  unfold execNmtCommand
  refine running_within (fun _ => ?_) ?_ rfl
  · exact nmtCommand_within.mono rfl
  · exact Within.refl _ _

end Sys2Proof.Machine
end

