-- ==== Sys2Proof/Laws/Keys.lean ====
section
/-! SUPPORT. What each operation of Machine/Keys.lean may change: the parts listed, what goes out, and the free values drawn. -/

namespace Sys2Proof.Machine

theorem State.onKeys_within {f : Keys → Keys} {s : State} : Within [Part.keys, .custody] s (State.onKeys f s) :=
  within_keys_custody rfl rfl

theorem State.announceKey_within {r : Req} {s : State} : Within [Part.keys, .custody] s (State.announceKey r s).1 := by
  unfold State.announceKey
  refine Within.ite_fst ?_ ?_
  · exact refuse_within.mono rfl
  · refine Within.fst_mk ?_
    exact State.onKeys_within.mono rfl

theorem State.beginRollover_within {s : State} : Within [Part.keys, .custody, .air, .counters, .airLanes] s
    (State.beginRollover s) := by
  unfold State.beginRollover
  refine Within.foldl (fun _ _ => ?_) ?_
  · exact State.tell_within.mono rfl
  · refine Within.after ?_ State.notice_within rfl
    exact State.onKeys_within.mono rfl

theorem State.announceMilestone_within {s : State} : Within [Part.keys, .custody, .air, .counters, .airLanes, .access,
    .update] s (State.announceMilestone s) := by
  unfold State.announceMilestone
  split
  · exact Within.refl _ _
  · refine Within.after ?_ State.answer_within rfl
    refine Within.ite ?_ ?_
    · exact State.onKeys_within.mono rfl
    · exact State.beginRollover_within.mono rfl

theorem State.loadPending_within {generation : ℕ} {reserved : Bytes} {k : Option Bytes} {check : U32} {s : State} : Within
    [Part.keys, .custody] s (State.loadPending generation reserved k check s).1 := by
  unfold State.loadPending
  refine Within.ite_fst ?_ ?_
  · exact refuse_within.mono rfl
  · refine Within.ite_fst ?_ ?_
    · exact refuse_within.mono rfl
    · refine Within.ite_fst ?_ ?_
      · exact refuse_within.mono rfl
      · split
        · exact refuse_within.mono rfl
        · refine Within.after ?_ confirm_within rfl
          exact State.onKeys_within.mono rfl

theorem State.debugCertificate_within {opens : Bool} {version : ℕ} {serial : U64} {count : U32} {sigOk : Bool} {s : State} :
    Within [Part.keys, .custody, .power] s (State.debugCertificate opens version serial count sigOk s).1 := by
  unfold State.debugCertificate
  refine Within.ite_fst ?_ ?_
  · exact refuse_within.mono rfl
  · refine Within.ite_fst ?_ ?_
    · exact refuse_within.mono rfl
    · refine Within.ite_fst ?_ ?_
      · exact refuse_within.mono rfl
      · refine Within.after ?_ confirm_within rfl
        refine Within.trans ?_ (within_power rfl ⟨rfl, rfl, rfl⟩ ⟨rfl, rfl⟩)
        exact State.onKeys_within.mono rfl

theorem State.discardKey_within {s : State} : Within [Part.access, .update, .keys, .custody] s (State.discardKey s).1 := by
  unfold State.discardKey
  refine Within.ite_fst ?_ ?_
  · exact refuse_within.mono rfl
  · refine Within.after ?_ confirm_within rfl
    refine Within.after ?_ State.onKeys_within rfl
    exact State.answerOpt_within.mono rfl

theorem State.endRollover_within {s : State} : Within [Part.air, .access, .counters, .trip, .panel, .keys, .custody,
    .airLanes] s (State.endRollover s) := by
  unfold State.endRollover
  refine Within.trans ?_ (within_airLanes rfl (fun h => ⟨h.1, h.2.1, by dsimp only; apply tmap_wf⟩))
  refine Within.after ?_ State.onKeys_within rfl
  refine Within.foldl (fun _ _ => ?_) ?_
  · refine Within.after ?_ State.raise_within rfl
    exact within_air rfl
  · exact Within.refl _ _

theorem State.verifyKey_within {r : Req} {s : State} : Within [Part.keys, .custody] s (State.verifyKey r s).1 := by
  unfold State.verifyKey
  refine Within.ite_fst ?_ ?_
  · exact refuse_within.mono rfl
  · refine Within.ite_fst ?_ ?_
    · refine Within.after ?_ refuse_within rfl
      exact State.onKeys_within.mono rfl
    · refine Within.fst_mk ?_
      exact State.onKeys_within.mono rfl

theorem State.keyOrder_within {r : Req} {code : ℕ} {s : State} : Within [Part.keys, .custody, .access, .update] s
    (State.keyOrder r code s).1 := by
  unfold State.keyOrder
  split
  · exact State.verifyKey_within.mono rfl
  · exact State.announceKey_within.mono rfl
  · exact State.discardKey_within.mono rfl
  · exact refuse_within.mono rfl

theorem State.rolloverSwitch_within {s : State} : Within [Part.keys, .custody, .air, .airLanes] s (State.rolloverSwitch s)
    := by
  unfold State.rolloverSwitch
  split
  · refine Within.ite ?_ ?_
    · refine Within.trans ?_ (within_air_airLanes rfl rfl (fun h => ⟨h.1, h.2.1, by dsimp only; apply tmap_wf⟩))
      exact State.onKeys_within.mono rfl
    · exact Within.refl _ _
  · exact Within.refl _ _

theorem State.rolloverAfterStart_within {s : State} : Within [Part.keys, .custody, .air, .airLanes, .access, .counters,
    .trip, .panel] s (State.rolloverAfterStart s) := by
  unfold State.rolloverAfterStart
  refine Within.ite ?_ ?_
  · refine Within.after ?_ State.endRollover_within rfl
    exact State.rolloverSwitch_within.mono rfl
  · exact Within.refl _ _

theorem State.verifyBoundary_within {s : State} : Within [Part.keys, .custody, .access, .update] s (State.verifyBoundary s)
    := by
  unfold State.verifyBoundary
  refine Within.after ?_ State.onKeys_within rfl
  split
  · refine Within.ite ?_ ?_
    · refine Within.after ?_ State.answer_within rfl
      exact State.onKeys_within.mono rfl
    · exact State.onKeys_within.mono rfl
  · exact Within.refl _ _

theorem debugCertificate_within {opens : Bool} {r : Req} {version : ℕ} {serial : U64} {count : U32} {sigOk : Bool} {s :
    State} : Within [Part.access, .clock, .update, .counters, .panel, .trip, .keys, .custody, .power] s (debugCertificate
    opens r version serial count sigOk s) := by
  unfold debugCertificate
  refine State.serveWrite_within (fun _ => ?_) ?_ rfl
  · exact State.debugCertificate_within.mono rfl
  · exact Within.refl _ _

theorem pendingKeyWrite_within {r : Req} {generation : ℕ} {reserved : Bytes} {wrapped : Bytes} {check : U32} {s : State} :
    Within [Part.access, .clock, .update, .counters, .panel, .trip, .keys, .custody] s (pendingKeyWrite r generation
    reserved wrapped check s) := by
  unfold pendingKeyWrite
  refine State.serveWrite_within (fun _ => ?_) ?_ rfl
  · refine Within.ite_fst ?_ ?_
    · exact refuse_within.mono rfl
    · exact State.loadPending_within.mono rfl
  · exact Within.refl _ _

theorem execPendingKeyWrite_within {r : Req} {generation : ℕ} {reserved : Bytes} {wrapped : Bytes} {check : U32} {s : State}
    : Within.post [Part.access, .clock, .update, .counters, .panel, .trip, .keys, .custody] s (execPendingKeyWrite r
    generation reserved wrapped check s) := by
  unfold execPendingKeyWrite
  refine running_within (fun _ => ?_) ?_ rfl
  · exact pendingKeyWrite_within.mono rfl
  · exact Within.refl _ _

theorem keyCommand_within {r : Req} {code : ℕ} {s : State} : Within [Part.access, .clock, .update, .counters, .panel, .trip,
    .keys, .custody] s (keyCommand r code s) := by
  unfold keyCommand
  refine State.serveWrite_within (fun _ => ?_) ?_ rfl
  · exact State.keyOrder_within.mono rfl
  · exact Within.refl _ _

theorem execKeyVerify_within {r : Req} {s : State} : Within.post [Part.access, .clock, .update, .counters, .panel, .trip,
    .keys, .custody] s (execKeyVerify r s) := by
  unfold execKeyVerify
  refine running_within (fun _ => ?_) ?_ rfl
  · exact keyCommand_within.mono rfl
  · exact Within.refl _ _

theorem execKeyAnnounce_within {r : Req} {s : State} : Within.post [Part.access, .clock, .update, .counters, .panel, .trip,
    .keys, .custody] s (execKeyAnnounce r s) := by
  unfold execKeyAnnounce
  refine running_within (fun _ => ?_) ?_ rfl
  · exact keyCommand_within.mono rfl
  · exact Within.refl _ _

theorem execKeyDiscard_within {r : Req} {s : State} : Within.post [Part.access, .clock, .update, .counters, .panel, .trip,
    .keys, .custody] s (execKeyDiscard r s) := by
  unfold execKeyDiscard
  refine running_within (fun _ => ?_) ?_ rfl
  · exact keyCommand_within.mono rfl
  · exact Within.refl _ _

theorem rolloverWindowEnd_within {s : State} : Within [Part.keys, .custody, .air, .airLanes, .access, .counters, .trip,
    .panel] s (rolloverWindowEnd s) := by
  unfold rolloverWindowEnd
  split
  · refine Within.ite ?_ ?_
    · refine Within.after ?_ State.endRollover_within rfl
      exact State.rolloverSwitch_within.mono rfl
    · exact Within.refl _ _
  · exact Within.refl _ _

theorem execRolloverWindowEnd_within {s : State} : Within.post [Part.keys, .custody, .air, .airLanes, .access, .counters,
    .trip, .panel] s (execRolloverWindowEnd s) := by
  unfold execRolloverWindowEnd
  refine running_within (fun _ => ?_) ?_ rfl
  · exact rolloverWindowEnd_within.mono rfl
  · exact Within.refl _ _

theorem execDebugCertificateOpen_within {r : Req} {version : ℕ} {serial : U64} {count : U32} {sigOk : Bool} {s : State} :
    Within.post [Part.access, .clock, .update, .counters, .panel, .trip, .keys, .custody, .power] s
    (execDebugCertificateOpen r version serial count sigOk s) := by
  unfold execDebugCertificateOpen
  refine running_within (fun _ => ?_) ?_ rfl
  · exact debugCertificate_within.mono rfl
  · exact Within.refl _ _

theorem execDebugCertificateClose_within {r : Req} {version : ℕ} {serial : U64} {count : U32} {sigOk : Bool} {s : State} :
    Within.post [Part.access, .clock, .update, .counters, .panel, .trip, .keys, .custody, .power] s
    (execDebugCertificateClose r version serial count sigOk s) := by
  unfold execDebugCertificateClose
  refine running_within (fun _ => ?_) ?_ rfl
  · exact debugCertificate_within.mono rfl
  · exact Within.refl _ _

theorem tamperDetected_within {s : State} : Within [Part.keys, .custody, .access, .counters, .trip, .panel, .power] s
    (tamperDetected s) := by
  unfold tamperDetected
  refine Within.ite ?_ ?_
  · refine Within.after ?_ State.raise_within rfl
    exact State.onKeys_within.mono rfl
  · refine Within.trans ?_ (within_power rfl ⟨rfl, rfl, rfl⟩ ⟨rfl, rfl⟩)
    exact State.onKeys_within.mono rfl

theorem execTamperDetected_within {s : State} : Within.post [Part.keys, .custody, .access, .counters, .trip, .panel, .power]
    s (execTamperDetected s) := by
  unfold execTamperDetected
  refine Within.after ?_ tamperDetected_within rfl
  exact State.begin_within.mono rfl

theorem vbatLost_within {s : State} : Within [Part.power, .access, .counters, .trip, .panel, .supply] s (vbatLost s) := by
  unfold vbatLost
  refine Within.ite ?_ ?_
  · exact Within.refl _ _
  · dsimp only
    split
    · refine Within.after ?_ State.raise_within rfl
      exact within_power rfl ⟨rfl, rfl, rfl⟩ ⟨rfl, rfl⟩
    · refine Within.trans ?_ (within_power rfl ⟨rfl, rfl, rfl⟩ ⟨rfl, rfl⟩)
      exact within_power rfl ⟨rfl, rfl, rfl⟩ ⟨rfl, rfl⟩
    · refine Within.trans ?_ (within_power_supply rfl rfl ⟨rfl, rfl⟩)
      exact within_power rfl ⟨rfl, rfl, rfl⟩ ⟨rfl, rfl⟩
    · exact within_power rfl ⟨rfl, rfl, rfl⟩ ⟨rfl, rfl⟩

theorem execVbatLost_within {s : State} : Within.post [Part.power, .access, .counters, .trip, .panel, .supply] s
    (execVbatLost s) := by
  unfold execVbatLost
  refine Within.after ?_ vbatLost_within rfl
  exact State.begin_within.mono rfl

theorem vbatRestored_within {unobserved : ℕ} {s : State} : Within [Part.power, .access, .counters, .trip, .panel] s
    (vbatRestored unobserved s) := by
  unfold vbatRestored
  refine Within.ite ?_ ?_
  · exact Within.refl _ _
  · refine Within.ite ?_ ?_
    · refine Within.after ?_ State.raise_within rfl
      exact within_power rfl ⟨rfl, rfl, rfl⟩ ⟨rfl, rfl⟩
    · refine Within.trans ?_ (within_power rfl ⟨rfl, rfl, rfl⟩ ⟨rfl, rfl⟩)
      exact within_power rfl ⟨rfl, rfl, rfl⟩ ⟨rfl, rfl⟩

theorem execVbatRestored_within {unobserved : ℕ} {s : State} : Within.post [Part.power, .access, .counters, .trip, .panel] s
    (execVbatRestored unobserved s) := by
  unfold execVbatRestored
  refine Within.after ?_ vbatRestored_within rfl
  exact State.begin_within.mono rfl

end Sys2Proof.Machine
end

