-- ==== Sys2Proof/Laws/Gnss.lean ====
section
/-! SUPPORT. What each operation of Machine/Gnss.lean may change: the parts listed, what goes out, and the free values drawn. -/

namespace Sys2Proof.Machine

theorem State.agc_within {c : ℕ} {rms : ℕ × ℕ} {s : State} : Within [Part.gnss, .access, .counters, .trip, .panel] s
    (State.agc c rms s) := by
  unfold State.agc
  refine Within.ite ?_ ?_
  · exact Within.refl _ _
  · refine Within.ite ?_ ?_
    · refine Within.after ?_ State.raise_within rfl
      exact within_gnss rfl
    · refine Within.ite ?_ ?_
      · refine Within.after ?_ State.raise_within rfl
        exact within_gnss rfl
      · exact within_gnss rfl

theorem State.captureSlice_within {s : State} : Within [Part.gnss] s (State.captureSlice s) :=
  within_gnss rfl

theorem State.onChannel_within {c : ℕ} {f : TrackChannel → TrackChannel} {s : State} : Within [Part.gnss] s (State.onChannel
    c f s) :=
  within_gnss rfl

theorem State.queueSearch_within {r : SearchReq} {s : State} : Within [Part.gnss] s (State.queueSearch r s) := by
  unfold State.queueSearch
  refine Within.ite ?_ ?_
  · exact Within.refl _ _
  · exact within_gnss rfl

theorem State.assignSat_within {v : SatView} {portB : Bool} {s : State} : Within [Part.gnss] s (State.assignSat v portB s)
    := by
  unfold State.assignSat
  refine Within.ite ?_ ?_
  · exact Within.refl _ _
  · split
    · refine Within.after ?_ State.queueSearch_within rfl
      exact State.onChannel_within.mono rfl
    · exact Within.refl _ _

theorem State.assignChannels_within {view : List SatView} {s : State} : Within [Part.gnss] s (State.assignChannels view s)
    := by
  unfold State.assignChannels
  refine Within.ite ?_ ?_
  · refine Within.foldl (fun _ _ => ?_) ?_
    · exact State.assignSat_within.mono rfl
    · refine Within.ite ?_ ?_
      · refine Within.foldl (fun _ _ => ?_) ?_
        · exact State.assignSat_within.mono rfl
        · refine Within.foldl (fun _ _ => ?_) ?_
          · refine Within.after ?_ State.onChannel_within rfl
            refine Within.ite ?_ ?_
            · exact Within.refl _ _
            · exact State.onChannel_within.mono rfl
          · exact Within.refl _ _
      · refine Within.foldl (fun _ _ => ?_) ?_
        · refine Within.after ?_ State.onChannel_within rfl
          refine Within.ite ?_ ?_
          · exact Within.refl _ _
          · exact State.onChannel_within.mono rfl
        · exact Within.refl _ _
  · refine Within.ite ?_ ?_
    · refine Within.foldl (fun _ _ => ?_) ?_
      · exact State.assignSat_within.mono rfl
      · refine Within.foldl (fun _ _ => ?_) ?_
        · refine Within.after ?_ State.onChannel_within rfl
          refine Within.ite ?_ ?_
          · exact Within.refl _ _
          · exact State.onChannel_within.mono rfl
        · exact Within.refl _ _
    · refine Within.foldl (fun _ _ => ?_) ?_
      · refine Within.after ?_ State.onChannel_within rfl
        refine Within.ite ?_ ?_
        · exact Within.refl _ _
        · exact State.onChannel_within.mono rfl
      · exact Within.refl _ _

theorem State.beginSearch_within {unit : ℕ} {r : SearchReq} {s : State} : Within [Part.gnss, .counters] s (State.beginSearch
    unit r s) := by
  unfold State.beginSearch
  dsimp only
  split
  · exact Within.refl _ _
  · refine Within.after ?_ State.count_within rfl
    exact within_gnss rfl

theorem State.onPort_within {k : ℕ} {f : Port → Port} {s : State} : Within [Part.gnss] s (State.onPort k f s) := by
  unfold State.onPort
  refine Within.ite ?_ ?_
  · exact within_gnss rfl
  · exact within_gnss rfl

theorem State.driveBias_within {k : ℕ} {s : State} : Within [Part.gnss] s (State.driveBias k s) := by
  unfold State.driveBias
  refine Within.ite ?_ ?_
  · exact Within.refl _ _
  · refine Within.after ?_ State.emit_within rfl
    exact State.onPort_within.mono rfl

theorem State.latchTick_within {s : State} : Within [Part.gnss] s (State.latchTick s) :=
  within_gnss rfl

theorem State.gnssTick_within {view : List SatView} {s : State} : Within [Part.gnss] s (State.gnssTick view s) := by
  unfold State.gnssTick
  refine Within.after ?_ State.latchTick_within rfl
  refine Within.trans ?_ (within_gnss rfl)
  refine Within.after ?_ State.assignChannels_within rfl
  exact within_gnss rfl

theorem State.handDetection_within {q : Search} {d : Detection} {s : State} : Within [Part.gnss] s (State.handDetection q d
    s) := by
  unfold State.handDetection
  dsimp only
  split
  · exact State.onChannel_within.mono rfl
  · split
    · exact State.onChannel_within.mono rfl
    · exact Within.refl _ _

theorem State.portState_within {k : ℕ} {new : ℕ} {s : State} : Within [Part.gnss, .access, .counters, .trip, .panel] s
    (State.portState k new s) := by
  unfold State.portState
  refine Within.ite ?_ ?_
  · exact Within.refl _ _
  · refine Within.ite ?_ ?_
    · refine Within.after ?_ State.trigger_within rfl
      refine Within.ite ?_ ?_
      · refine Within.after ?_ State.raise_within rfl
        refine Within.after ?_ State.raise_within rfl
        exact State.onPort_within.mono rfl
      · refine Within.ite ?_ ?_
        · refine Within.after ?_ State.raise_within rfl
          refine Within.after ?_ State.raise_within rfl
          exact State.onPort_within.mono rfl
        · refine Within.after ?_ State.raise_within rfl
          exact State.onPort_within.mono rfl
    · refine Within.ite ?_ ?_
      · refine Within.after ?_ State.raise_within rfl
        refine Within.after ?_ State.raise_within rfl
        exact State.onPort_within.mono rfl
      · refine Within.ite ?_ ?_
        · refine Within.after ?_ State.raise_within rfl
          refine Within.after ?_ State.raise_within rfl
          exact State.onPort_within.mono rfl
        · refine Within.after ?_ State.raise_within rfl
          exact State.onPort_within.mono rfl

theorem State.portSample_within {k : ℕ} {current : ℕ} {s : State} : Within [Part.gnss, .access, .counters, .trip, .panel] s
    (State.portSample k current s) := by
  unfold State.portSample
  refine Within.after ?_ State.driveBias_within rfl
  refine Within.ite ?_ ?_
  · refine Within.after ?_ State.portState_within rfl
    refine Within.after ?_ State.driveBias_within rfl
    refine Within.after ?_ State.onPort_within rfl
    refine Within.ite ?_ ?_
    · refine Within.after ?_ State.portState_within rfl
      exact State.onPort_within.mono rfl
    · exact State.onPort_within.mono rfl
  · refine Within.ite ?_ ?_
    · refine Within.after ?_ State.portState_within rfl
      exact State.onPort_within.mono rfl
    · exact State.onPort_within.mono rfl

theorem State.searchAgain_within {r : SearchReq} {s : State} : Within [Part.gnss] s (State.searchAgain r s) := by
  unfold State.searchAgain
  split
  · exact Within.refl _ _
  · exact State.queueSearch_within.mono rfl

theorem integrationBoundary_within {c : ℕ} {l5 : Bool} {sums : TapSums} {sides : SideSums} {s : State} : Within [Part.gnss] s
    (integrationBoundary c l5 sums sides s) := by
  unfold integrationBoundary
  dsimp only
  split
  · exact Within.refl _ _
  · refine Within.ite ?_ ?_
    · exact Within.refl _ _
    · refine Within.after ?_ State.onChannel_within rfl
      refine Within.after ?_ State.draw_within rfl
      exact State.draw_within.mono rfl

theorem execTrackerIntegrationBoundary_within {channel : ℕ} {l5 : Bool} {taps : TapSums} {sides : SideSums} {s : State} :
    Within.post [Part.gnss] s (execTrackerIntegrationBoundary channel l5 taps sides s) := by
  unfold execTrackerIntegrationBoundary
  refine running_within (fun _ => ?_) ?_ rfl
  · exact integrationBoundary_within.mono rfl
  · exact Within.refl _ _

theorem loopUpdate_within {c : ℕ} {l5 : Bool} {o : LoopOut} {s : State} : Within [Part.gnss, .time] s (loopUpdate c l5 o s)
    := by
  unfold loopUpdate
  refine Within.ite ?_ ?_
  · exact Within.refl _ _
  · refine Within.ite ?_ ?_
    · exact State.onChannel_within.mono rfl
    · dsimp only
      split
      · refine Within.ite ?_ ?_
        · refine Within.after ?_ State.onChannel_within rfl
          refine Within.trans ?_ (within_time_gnss rfl rfl ⟨rfl, rfl, rfl, rfl, rfl⟩)
          exact State.onChannel_within.mono rfl
        · refine Within.trans ?_ (within_time_gnss rfl rfl ⟨rfl, rfl, rfl, rfl, rfl⟩)
          exact State.onChannel_within.mono rfl
      · refine Within.trans ?_ (within_time_gnss rfl rfl ⟨rfl, rfl, rfl, rfl, rfl⟩)
        exact State.onChannel_within.mono rfl

theorem execTrackerLoopUpdate_within {channel : ℕ} {l5 : Bool} {out : LoopOut} {s : State} : Within.post [Part.gnss, .time]
    s (execTrackerLoopUpdate channel l5 out s) := by
  unfold execTrackerLoopUpdate
  refine running_within (fun _ => ?_) ?_ rfl
  · exact loopUpdate_within.mono rfl
  · exact Within.refl _ _

theorem reacquisitionGiveUp_within {c : ℕ} {l5 : Bool} {s : State} : Within [Part.gnss] s (reacquisitionGiveUp c l5 s) := by
  unfold reacquisitionGiveUp
  refine Within.ite ?_ ?_
  · exact Within.refl _ _
  · split
    · refine Within.after ?_ State.queueSearch_within rfl
      exact State.onChannel_within.mono rfl
    · exact Within.refl _ _

theorem execReacquisitionGiveUp_within {channel : ℕ} {l5 : Bool} {s : State} : Within.post [Part.gnss] s
    (execReacquisitionGiveUp channel l5 s) := by
  unfold execReacquisitionGiveUp
  refine running_within (fun _ => ?_) ?_ rfl
  · exact reacquisitionGiveUp_within.mono rfl
  · exact Within.refl _ _

theorem l5Timeout_within {c : ℕ} {s : State} : Within [Part.gnss, .access, .counters, .trip, .panel] s (l5Timeout c s) := by
  unfold l5Timeout
  refine Within.ite ?_ ?_
  · exact Within.refl _ _
  · refine Within.ite ?_ ?_
    · exact State.onChannel_within.mono rfl
    · split
      · refine Within.after ?_ State.raise_within rfl
        exact State.onChannel_within.mono rfl
      · exact State.onChannel_within.mono rfl

theorem execL5HandoverTimeout_within {channel : ℕ} {s : State} : Within.post [Part.gnss, .access, .counters, .trip, .panel]
    s (execL5HandoverTimeout channel s) := by
  unfold execL5HandoverTimeout
  refine running_within (fun _ => ?_) ?_ rfl
  · exact l5Timeout_within.mono rfl
  · exact Within.refl _ _

theorem searchStart_within {s : State} : Within [Part.gnss, .counters] s (searchStart s) := by
  unfold searchStart
  split
  · exact State.beginSearch_within.mono rfl
  · exact Within.refl _ _

theorem execAcquisitionSearchStart_within {s : State} : Within.post [Part.gnss, .counters] s (execAcquisitionSearchStart s)
    := by
  unfold execAcquisitionSearchStart
  refine running_within (fun _ => ?_) ?_ rfl
  · exact searchStart_within.mono rfl
  · exact Within.refl _ _

theorem searchDone_within {unit : ℕ} {found : Option Detection} {s : State} : Within [Part.gnss] s (searchDone unit found s)
    := by
  unfold searchDone
  split
  · exact Within.refl _ _
  · dsimp only
    split
    · refine Within.after ?_ State.handDetection_within rfl
      exact within_gnss rfl
    · refine Within.after ?_ State.searchAgain_within rfl
      exact within_gnss rfl

theorem execAcquisitionSearchDone_within {result : SearchResult} {s : State} : Within.post [Part.gnss] s
    (execAcquisitionSearchDone result s) := by
  unfold execAcquisitionSearchDone
  refine running_within (fun _ => ?_) ?_ rfl
  · exact searchDone_within.mono rfl
  · exact Within.refl _ _

end Sys2Proof.Machine
end

