-- ==== Sys2Proof/Laws/Rtcm.lean ====
section
/-! SUPPORT. What each operation of Machine/Rtcm.lean may change: the parts listed, what goes out, and the free values drawn. -/

namespace Sys2Proof.Machine

theorem State.rtcm_within {l : Fields} {s : State} : Within [Part.access, .counters, .trip, .panel] s (State.rtcm l s) :=
  State.push_within.mono rfl

theorem State.rtcmMilestone_within {s : State} : Within [Part.access, .counters, .trip, .panel] s (State.rtcmMilestone s) :=
    by
  unfold State.rtcmMilestone
  refine Within.ite ?_ ?_
  · refine Within.after ?_ State.rtcm_within rfl
    refine Within.ite ?_ ?_
    · split
      · exact State.rtcm_within.mono rfl
      · exact State.rtcm_within.mono rfl
      · exact Within.refl _ _
    · exact Within.refl _ _
  · refine Within.ite ?_ ?_
    · split
      · exact State.rtcm_within.mono rfl
      · exact State.rtcm_within.mono rfl
      · exact Within.refl _ _
    · exact Within.refl _ _

theorem State.msm_within {time : ℤ} {cells : ℕ → List Cell} {s : State} : Within [Part.access, .counters, .trip, .panel] s
    (State.msm time cells s) := by
  unfold State.msm
  refine Within.foldl (fun _ _ => ?_) ?_
  · exact State.rtcm_within.mono rfl
  · exact Within.refl _ _

end Sys2Proof.Machine
end

