-- ==== Sys2Proof/Laws/Reference.lean ====
section
/-! SUPPORT. What each operation of Machine/Reference.lean may change: the parts listed, what goes out, and the free values drawn. -/

namespace Sys2Proof.Machine

theorem State.newReference_within {state : ℕ} {p : ℤ × ℤ × ℤ} {o : List ℤ} {s : State} : Within [Part.reference] s
    (State.newReference state p o s) :=
  within_reference rfl

theorem State.adoptSurvey_within {s : State} : Within [Part.settings, .gnss, .counters, .access, .pair, .trip, .panel,
    .update, .reference] s (State.adoptSurvey s) := by
  unfold State.adoptSurvey
  refine Within.ite ?_ ?_
  · refine Within.ite ?_ ?_
    · exact Within.refl _ _
    · refine Within.after ?_ State.newReference_within rfl
      refine Within.after ?_ State.settle_within rfl
      refine Within.after ?_ State.settle_within rfl
      refine Within.after ?_ State.settle_within rfl
      refine Within.after ?_ State.settle_within rfl
      exact State.writeItems_within.mono rfl
  · refine Within.ite ?_ ?_
    · exact State.newReference_within.mono rfl
    · exact Within.refl _ _

theorem State.buildGnoez_within {l : List Rec} {s : State} : Within [Part.reference] s (State.buildGnoez l s) := by
  unfold State.buildGnoez
  refine Within.trans ?_ (within_reference rfl)
  exact within_reference rfl

theorem State.clockSolved_within {out : ObsOut} {s : State} : Within [Part.reference] s (State.clockSolved out s) :=
  within_reference rfl

theorem State.findBaseline_within {ratio : Option ℕ} {s : State} : Within [Part.reference] s (State.findBaseline ratio s) :=
    by
  unfold State.findBaseline
  refine Within.ite ?_ ?_
  · exact within_reference rfl
  · exact Within.refl _ _

theorem State.firstAcquisition_within {l : List Rec} {s : State} : Within [Part.gnss] s (State.firstAcquisition l s) := by
  unfold State.firstAcquisition
  dsimp only
  split
  · refine Within.ite ?_ ?_
    · exact Within.refl _ _
    · exact within_gnss rfl
  · exact Within.refl _ _

theorem State.gnoezAccount_within {s : State} : Within [Part.reference] s (State.gnoezAccount s) := by
  unfold State.gnoezAccount
  split
  · exact Within.refl _ _
  · refine Within.ite ?_ ?_
    · exact Within.refl _ _
    · exact within_reference rfl

theorem State.gnoezOpen_within {s : State} : Within [Part.reference] s (State.gnoezOpen s) := by
  unfold State.gnoezOpen
  refine Within.ite ?_ ?_
  · exact within_reference rfl
  · exact Within.refl _ _

theorem State.integrity_within {l : List Rec} {time : ℤ} {s : State} : Within [Part.reference] s (State.integrity l time s)
    :=
  within_reference rfl

theorem State.referenceMilestone_within {s : State} : Within [Part.reference, .settings, .gnss, .counters, .access, .pair,
    .trip, .panel, .update] s (State.referenceMilestone s) := by
  unfold State.referenceMilestone
  refine Within.trans ?_ (within_reference rfl)
  refine Within.ite ?_ ?_
  · refine Within.trans ?_ (within_reference rfl)
    refine Within.after ?_ State.newReference_within rfl
    refine Within.ite ?_ ?_
    · refine Within.after ?_ State.adoptSurvey_within rfl
      refine Within.trans ?_ (within_reference rfl)
      exact within_reference rfl
    · exact within_reference rfl
  · refine Within.ite ?_ ?_
    · refine Within.after ?_ State.newReference_within rfl
      refine Within.ite ?_ ?_
      · refine Within.after ?_ State.adoptSurvey_within rfl
        refine Within.trans ?_ (within_reference rfl)
        exact within_reference rfl
      · exact within_reference rfl
    · refine Within.ite ?_ ?_
      · refine Within.after ?_ State.adoptSurvey_within rfl
        refine Within.trans ?_ (within_reference rfl)
        exact within_reference rfl
      · exact within_reference rfl

theorem State.surveySecond_within {o : Option SurveyOut} {s : State} : Within [Part.reference] s (State.surveySecond o s) :=
   
  within_reference rfl

theorem State.surveyEnds_within {s : State} : Within [Part.reference, .settings, .gnss, .counters, .access, .pair, .trip,
    .panel, .update] s (State.surveyEnds s) := by
  unfold State.surveyEnds
  refine Within.after ?_ State.raise_within rfl
  refine Within.ite ?_ ?_
  · refine Within.after ?_ State.adoptSurvey_within rfl
    exact within_reference rfl
  · refine Within.trans ?_ (within_reference rfl)
    exact within_reference rfl

theorem State.surveyLimit_within {s : State} : Within [Part.reference, .access, .counters, .trip, .panel] s
    (State.surveyLimit s) := by
  unfold State.surveyLimit
  refine Within.ite ?_ ?_
  · refine Within.after ?_ State.raise_within rfl
    exact within_reference rfl
  · exact Within.refl _ _

theorem State.surveyTick_within {o : Option SurveyOut} {s : State} : Within [Part.reference, .settings, .gnss, .counters,
    .access, .pair, .trip, .panel, .update] s (State.surveyTick o s) := by
  unfold State.surveyTick
  refine Within.ite ?_ ?_
  · exact Within.refl _ _
  · refine Within.ite ?_ ?_
    · refine Within.after ?_ State.surveyEnds_within rfl
      exact State.surveySecond_within.mono rfl
    · refine Within.after ?_ State.surveyLimit_within rfl
      exact State.surveySecond_within.mono rfl

theorem State.referenceOpens_within {o : Option SurveyOut} {s : State} : Within [Part.reference, .settings, .gnss,
    .counters, .access, .pair, .trip, .panel, .update] s (State.referenceOpens o s) := by
  unfold State.referenceOpens
  refine Within.after ?_ State.referenceMilestone_within rfl
  refine Within.after ?_ State.surveyTick_within rfl
  exact within_reference rfl

theorem State.startSurvey_within {s : State} : Within [Part.reference] s (State.startSurvey s) :=
  within_reference rfl

theorem State.surveyCommand_within {v : ℕ} {s : State} : Within [Part.reference] s (State.surveyCommand v s).1 := by
  unfold State.surveyCommand
  refine Within.ite_fst ?_ ?_
  · exact refuse_within.mono rfl
  · refine Within.ite_fst ?_ ?_
    · exact refuse_within.mono rfl
    · refine Within.ite_fst ?_ ?_
      · refine Within.after ?_ confirm_within rfl
        exact State.startSurvey_within.mono rfl
      · refine Within.ite_fst ?_ ?_
        · exact confirm_within.mono rfl
        · refine Within.after ?_ confirm_within rfl
          exact within_reference rfl

theorem State.positioningBoundary_within {s : State} : Within [Part.checkpoint, .access, .counters, .trip, .panel] s
    (State.positioningBoundary s) := by
  unfold State.positioningBoundary
  refine Within.ite ?_ ?_
  · refine Within.after ?_ State.trigger_within rfl
    refine Within.ite ?_ ?_
    · exact State.staleAll_within.mono rfl
    · exact Within.refl _ _
  · refine Within.ite ?_ ?_
    · exact State.staleAll_within.mono rfl
    · exact Within.refl _ _

theorem State.positioningTick_within {s : State} : Within [Part.reference, .access, .counters, .trip, .panel] s
    (State.positioningTick s) := by
  unfold State.positioningTick
  refine Within.ite ?_ ?_
  · refine Within.after ?_ State.raise_within rfl
    exact within_reference rfl
  · refine Within.ite ?_ ?_
    · refine Within.after ?_ State.raise_within rfl
      exact within_reference rfl
    · exact within_reference rfl

theorem observablesReady_within {out : ObsOut} {s : State} : Within [Part.trip, .counters, .gnss, .reference, .access,
    .panel, .time, .checkpoint] s (observablesReady out s) := by
  unfold observablesReady
  split
  · exact Within.refl _ _
  · refine Within.ite ?_ ?_
    · refine Within.after ?_ State.msm_within rfl
      refine Within.ite ?_ ?_
      · refine Within.after ?_ State.buildGnoez_within rfl
        refine Within.after ?_ State.holdBlock_within rfl
        refine Within.after ?_ State.measure_within rfl
        refine Within.after ?_ State.positioningTick_within rfl
        refine Within.after ?_ State.integrity_within rfl
        refine Within.after ?_ State.findBaseline_within rfl
        refine Within.after ?_ State.firstAcquisition_within rfl
        refine Within.after ?_ State.clockSolved_within rfl
        refine Within.trans ?_ (within_gnss rfl)
        refine Within.foldl (fun _ _ => ?_) ?_
        · exact State.onChannel_within.mono rfl
        · refine Within.after ?_ State.count_within rfl
          refine Within.after ?_ State.tripSample_within rfl
          exact within_free
      · refine Within.after ?_ State.holdBlock_within rfl
        refine Within.after ?_ State.measure_within rfl
        refine Within.after ?_ State.positioningTick_within rfl
        refine Within.after ?_ State.integrity_within rfl
        refine Within.after ?_ State.findBaseline_within rfl
        refine Within.after ?_ State.firstAcquisition_within rfl
        refine Within.after ?_ State.clockSolved_within rfl
        refine Within.trans ?_ (within_gnss rfl)
        refine Within.foldl (fun _ _ => ?_) ?_
        · exact State.onChannel_within.mono rfl
        · refine Within.after ?_ State.count_within rfl
          refine Within.after ?_ State.tripSample_within rfl
          exact within_free
    · refine Within.ite ?_ ?_
      · refine Within.after ?_ State.buildGnoez_within rfl
        refine Within.after ?_ State.holdBlock_within rfl
        refine Within.after ?_ State.measure_within rfl
        refine Within.after ?_ State.positioningTick_within rfl
        refine Within.after ?_ State.integrity_within rfl
        refine Within.after ?_ State.findBaseline_within rfl
        refine Within.after ?_ State.firstAcquisition_within rfl
        refine Within.after ?_ State.clockSolved_within rfl
        refine Within.trans ?_ (within_gnss rfl)
        refine Within.foldl (fun _ _ => ?_) ?_
        · exact State.onChannel_within.mono rfl
        · refine Within.after ?_ State.count_within rfl
          refine Within.after ?_ State.tripSample_within rfl
          exact within_free
      · refine Within.after ?_ State.holdBlock_within rfl
        refine Within.after ?_ State.measure_within rfl
        refine Within.after ?_ State.positioningTick_within rfl
        refine Within.after ?_ State.integrity_within rfl
        refine Within.after ?_ State.findBaseline_within rfl
        refine Within.after ?_ State.firstAcquisition_within rfl
        refine Within.after ?_ State.clockSolved_within rfl
        refine Within.trans ?_ (within_gnss rfl)
        refine Within.foldl (fun _ _ => ?_) ?_
        · exact State.onChannel_within.mono rfl
        · refine Within.after ?_ State.count_within rfl
          refine Within.after ?_ State.tripSample_within rfl
          exact within_free

theorem execObservablesReady_within {out : ObsOut} {s : State} : Within.post [Part.trip, .counters, .gnss, .reference,
    .access, .panel, .time, .checkpoint] s (execObservablesReady out s) := by
  unfold execObservablesReady
  refine running_within (fun _ => ?_) ?_ rfl
  · exact observablesReady_within.mono rfl
  · exact Within.refl _ _

theorem observablesLate_within {s : State} : Within [Part.gnss] s (observablesLate s) := by
  unfold observablesLate
  refine Within.ite ?_ ?_
  · exact within_gnss rfl
  · exact Within.refl _ _

theorem execObservablesLate_within {s : State} : Within.post [Part.gnss] s (execObservablesLate s) := by
  unfold execObservablesLate
  refine running_within (fun _ => ?_) ?_ rfl
  · exact observablesLate_within.mono rfl
  · exact Within.refl _ _

theorem surveyCommand_within {r : Req} {v : ℕ} {s : State} : Within [Part.access, .clock, .update, .counters, .panel, .trip,
    .reference] s (surveyCommand r v s) := by
  unfold surveyCommand
  refine State.serveWrite_within (fun _ => ?_) ?_ rfl
  · exact State.surveyCommand_within.mono rfl
  · exact Within.refl _ _

theorem execSurveyCommandStart_within {r : Req} {s : State} : Within.post [Part.access, .clock, .update, .counters, .panel,
    .trip, .reference] s (execSurveyCommandStart r s) := by
  unfold execSurveyCommandStart
  refine running_within (fun _ => ?_) ?_ rfl
  · exact surveyCommand_within.mono rfl
  · exact Within.refl _ _

theorem execSurveyCommandAbort_within {r : Req} {s : State} : Within.post [Part.access, .clock, .update, .counters, .panel,
    .trip, .reference] s (execSurveyCommandAbort r s) := by
  unfold execSurveyCommandAbort
  refine running_within (fun _ => ?_) ?_ rfl
  · exact surveyCommand_within.mono rfl
  · exact Within.refl _ _

end Sys2Proof.Machine
end

