-- ==== Sys2Proof/Laws/Boot.lean ====
section
/-! SUPPORT. What each operation of Machine/Boot.lean may change: the parts listed, what goes out, and the free values drawn. -/

namespace Sys2Proof.Machine

theorem Units.persisted_tables (cause : Nat) (u : Units) :
    tableWf (fun _ => ({} : AirLane)) (u.persisted cause).airLanes = true := by
  unfold Units.persisted
  dsimp only
  apply tmap_wf
theorem State.restart_within {cause : Nat} {s : State} : Within Part.others s (State.restart cause s) := by
  intro p hp
  cases p <;> first | rfl | exact absurd hp (by decide) | exact fun _ => ⟨rfl, rfl, Units.persisted_tables cause s.toUnits⟩

theorem State.owedEvents_within {s : State} : Within [Part.access, .counters, .trip, .panel, .update, .power] s
    (State.owedEvents s) := by
  unfold State.owedEvents
  refine Within.trans ?_ (within_update_power rfl rfl ⟨rfl, rfl, rfl⟩ ⟨rfl, rfl⟩)
  split
  · refine Within.after ?_ State.raise_within rfl
    refine Within.foldl (fun _ _ => ?_) ?_
    · exact State.raise_within.mono rfl
    · split
      · refine Within.after ?_ State.raise_within rfl
        split
        · exact State.raise_within.mono rfl
        · exact Within.refl _ _
      · split
        · exact State.raise_within.mono rfl
        · exact Within.refl _ _
  · refine Within.foldl (fun _ _ => ?_) ?_
    · exact State.raise_within.mono rfl
    · split
      · refine Within.after ?_ State.raise_within rfl
        split
        · exact State.raise_within.mono rfl
        · exact Within.refl _ _
      · split
        · exact State.raise_within.mono rfl
        · exact Within.refl _ _

theorem State.loadKeys_within {s : State} : Within [Part.keys, .custody, .access, .counters, .trip, .panel] s
    (State.loadKeys s) := by
  unfold State.loadKeys
  refine Within.ite ?_ ?_
  · refine Within.after ?_ State.raise_within rfl
    refine Within.after ?_ State.onKeys_within rfl
    refine Within.ite ?_ ?_
    · refine Within.after ?_ State.raise_within rfl
      exact within_keys_custody rfl rfl
    · exact within_keys_custody rfl rfl
  · refine Within.ite ?_ ?_
    · refine Within.after ?_ State.raise_within rfl
      exact within_keys_custody rfl rfl
    · exact within_keys_custody rfl rfl

theorem State.loadSettings_within {s : State} : Within [Part.settings] s (State.loadSettings s) :=
  within_settings rfl

theorem State.handOverTo_within {s : State} : Within [Part.power, .supply, .update, .trip, .settings, .keys, .custody,
    .access, .counters, .panel] s (State.handOverTo s) := by
  unfold State.handOverTo
  refine Within.after ?_ State.owedEvents_within rfl
  refine Within.after ?_ State.loadKeys_within rfl
  refine Within.after ?_ State.loadSettings_within rfl
  refine Within.trans ?_ (within_update_trip rfl rfl)
  exact within_power_supply rfl rfl ⟨rfl, rfl⟩

theorem State.migrate_within {s : State} : Within [Part.update] s (State.migrate s) :=
  within_update rfl

theorem State.orderReset_within {value : ℕ} {s : State} : Within [Part.power] s (State.orderReset value s).1 := by
  unfold State.orderReset
  refine Within.ite_fst ?_ ?_
  · exact refuse_within.mono rfl
  · refine Within.ite_fst ?_ ?_
    · exact refuse_within.mono rfl
    · refine Within.after ?_ confirm_within rfl
      exact within_power rfl ⟨rfl, rfl, rfl⟩ ⟨rfl, rfl⟩

theorem State.restartFree_within {s : State} : Within Part.others s (State.restartFree s) := by
  unfold State.restartFree
  refine Within.after ?_ State.restart_within rfl
  exact State.draw_within.mono rfl

theorem State.revert_within {cause : ℕ} {s : State} : Within [Part.update] s (State.revert cause s) :=
  within_update rfl

theorem State.started_within {s : State} : Within [Part.update, .power, .readiness, .reference, .chain] s (State.started s)
    := by
  unfold State.started
  refine Within.ite ?_ ?_
  · exact Within.refl _ _
  · refine Within.after ?_ State.announceStored_within rfl
    refine Within.ite ?_ ?_
    · refine Within.after ?_ State.startSurvey_within rfl
      exact within_update_power_readiness rfl rfl ⟨rfl, rfl, rfl⟩ rfl
    · exact within_update_power_readiness rfl rfl ⟨rfl, rfl, rfl⟩ rfl

theorem State.startFailed_within {cause : ℕ} {s : State} : Within [Part.update] s (State.startFailed cause s) := by
  unfold State.startFailed
  refine Within.ite ?_ ?_
  · refine Within.after ?_ State.revert_within rfl
    exact within_update rfl
  · exact within_update rfl

theorem startTimerExpire_within {s : State} : Within Part.others s (startTimerExpire s) := by
  unfold startTimerExpire
  refine Within.ite ?_ ?_
  · exact Within.refl _ _
  · refine Within.after ?_ State.restartFree_within rfl
    exact State.startFailed_within.mono rfl

theorem execStartTimerExpire_within {s : State} : Within.post Part.others s (execStartTimerExpire s) := by
  unfold execStartTimerExpire
  refine running_within (fun _ => ?_) ?_ rfl
  · exact startTimerExpire_within.mono rfl
  · exact Within.refl _ _

theorem watchdogReset_within {s : State} : Within Part.others s (watchdogReset s) := by
  unfold watchdogReset
  refine Within.after ?_ State.restart_within rfl
  refine Within.ite ?_ ?_
  · exact State.startFailed_within.mono rfl
  · refine Within.ite ?_ ?_
    · exact State.revert_within.mono rfl
    · exact Within.refl _ _

theorem execWatchdogReset_within {s : State} : Within.post Part.others s (execWatchdogReset s) := by
  unfold execWatchdogReset
  refine running_within (fun _ => ?_) ?_ rfl
  · exact watchdogReset_within.mono rfl
  · exact Within.refl _ _

theorem romBoot_within {verified : Bool} {migrates : Bool} {s : State} : Within Part.others s (romBoot verified migrates s)
    := by
  unfold romBoot
  refine Within.ite ?_ ?_
  · exact Within.refl _ _
  · refine Within.ite ?_ ?_
    · exact within_power_supply rfl rfl ⟨rfl, rfl⟩
    · refine Within.ite ?_ ?_
      · refine Within.after ?_ State.restartFree_within rfl
        exact State.startFailed_within.mono rfl
      · refine Within.ite ?_ ?_
        · exact State.handOverTo_within.mono rfl
        · refine Within.ite ?_ ?_
          · refine Within.after ?_ State.handOverTo_within rfl
            exact State.migrate_within.mono rfl
          · refine Within.after ?_ State.restartFree_within rfl
            exact within_update rfl

theorem execRomBoot_within {verified : Bool} {migrates : Bool} {s : State} : Within.post Part.others s (execRomBoot verified
    migrates s) := by
  unfold execRomBoot
  refine Within.after ?_ romBoot_within rfl
  exact State.begin_within.mono rfl

theorem resetRelease_within {recoverHigh : Bool} {refSel : Bool} {svcAlt : Bool} {s : State} : Within [Part.power, .supply]
    s (resetRelease recoverHigh refSel svcAlt s) := by
  unfold resetRelease
  refine Within.ite ?_ ?_
  · exact within_power_supply rfl rfl ⟨rfl, rfl⟩
  · exact Within.refl _ _

theorem execResetRelease_within {recoverHigh : Bool} {refSel : Bool} {svcAlt : Bool} {s : State} : Within.post [Part.power,
    .supply] s (execResetRelease recoverHigh refSel svcAlt s) := by
  unfold execResetRelease
  refine Within.after ?_ resetRelease_within rfl
  exact State.begin_within.mono rfl

theorem rstNAssert_within {lowUs : ℕ} {s : State} : Within Part.others s (rstNAssert lowUs s) := by
  unfold rstNAssert
  refine Within.ite ?_ ?_
  · exact State.restart_within.mono rfl
  · exact Within.refl _ _

theorem execRstNAssert_within {lowUs : ℕ} {s : State} : Within.post Part.others s (execRstNAssert lowUs s) := by
  unfold execRstNAssert
  refine Within.after ?_ rstNAssert_within rfl
  exact State.begin_within.mono rfl

theorem resetCommand_within {r : Req} {value : ℕ} {s : State} : Within [Part.access, .clock, .update, .counters, .panel,
    .trip, .power] s (resetCommand r value s) := by
  unfold resetCommand
  refine State.serveWrite_within (fun _ => ?_) ?_ rfl
  · exact State.orderReset_within.mono rfl
  · exact Within.refl _ _

theorem execResetCommand_within {r : Req} {value : ℕ} {s : State} : Within.post [Part.access, .clock, .update, .counters,
    .panel, .trip, .power] s (execResetCommand r value s) := by
  unfold execResetCommand
  refine running_within (fun _ => ?_) ?_ rfl
  · exact resetCommand_within.mono rfl
  · exact Within.refl _ _

theorem powerOn_within {s : State} : Within [Part.update, .power, .supply] s (powerOn s) := by
  unfold powerOn
  refine Within.ite ?_ ?_
  · refine Within.trans ?_ (within_update_power_supply rfl rfl rfl ⟨rfl, rfl⟩)
    exact State.draw_within.mono rfl
  · exact Within.refl _ _

theorem execPowerOn_within {s : State} : Within.post [Part.update, .power, .supply] s (execPowerOn s) := by
  unfold execPowerOn
  refine Within.after ?_ powerOn_within rfl
  exact State.begin_within.mono rfl

theorem railOutOfTolerance_within {rail : ℕ} {s : State} : Within Part.others s (railOutOfTolerance rail s) := by
  unfold railOutOfTolerance
  refine Within.ite ?_ ?_
  · exact Within.refl _ _
  · refine Within.trans ?_ (within_power_supply rfl rfl ⟨rfl, rfl⟩)
    exact State.restart_within.mono rfl

theorem execRailOutOfTolerance_within {rail : ℕ} {s : State} : Within.post Part.others s (execRailOutOfTolerance rail s) :=
    by
  unfold execRailOutOfTolerance
  refine Within.after ?_ railOutOfTolerance_within rfl
  exact State.begin_within.mono rfl

end Sys2Proof.Machine
end

