-- ==== Sys2Proof/Laws/Power.lean ====
section
/-! SUPPORT. What each operation of Machine/Power.lean may change: the parts listed, what goes out, and the free values drawn. -/

namespace Sys2Proof.Machine

theorem State.askFeedTest_within {value : ℕ} {s : State} : Within [Part.power] s (State.askFeedTest value s).1 := by
  unfold State.askFeedTest
  refine Within.ite_fst ?_ ?_
  · exact refuse_within.mono rfl
  · refine Within.ite_fst ?_ ?_
    · exact refuse_within.mono rfl
    · refine Within.after ?_ confirm_within rfl
      exact within_power rfl ⟨rfl, rfl, rfl⟩ ⟨rfl, rfl⟩

theorem State.onFeed_within {k : ℕ} {f : Feed → Feed} {s : State} : Within [Part.power] s (State.onFeed k f s) :=
  within_power rfl ⟨rfl, rfl, rfl⟩ ⟨rfl, rfl⟩

theorem State.driveGate_within {k : ℕ} {low : Bool} {s : State} : Within [Part.power] s (State.driveGate k low s) := by
  unfold State.driveGate
  refine Within.ite ?_ ?_
  · exact Within.refl _ _
  · refine Within.after ?_ State.emit_within rfl
    exact State.onFeed_within.mono rfl

theorem State.endRun_within {x : RunAlone} {passed : Bool} {lowest : ℕ} {s : State} : Within [Part.power, .access,
    .counters, .trip, .panel] s (State.endRun x passed lowest s) := by
  unfold State.endRun
  refine Within.ite ?_ ?_
  · refine Within.after ?_ State.raise_within rfl
    refine Within.after ?_ State.onFeed_within rfl
    refine Within.trans ?_ (within_power rfl ⟨rfl, rfl, rfl⟩ ⟨rfl, rfl⟩)
    exact State.driveGate_within.mono rfl
  · refine Within.after ?_ State.raise_within rfl
    refine Within.after ?_ State.onFeed_within rfl
    refine Within.trans ?_ (within_power rfl ⟨rfl, rfl, rfl⟩ ⟨rfl, rfl⟩)
    exact State.driveGate_within.mono rfl

theorem State.enterStandby_within {s : State} : Within Part.others s (State.enterStandby s) := by
  unfold State.enterStandby
  refine Within.after ?_ State.emit_within rfl
  refine Within.trans ?_ (within_power_supply rfl rfl ⟨rfl, rfl⟩)
  exact State.restart_within.mono rfl

theorem State.feedClass_within {k : ℕ} {c : ℕ} {s : State} : Within [Part.power, .access, .counters, .trip, .panel] s
    (State.feedClass k c s) := by
  unfold State.feedClass
  refine Within.ite ?_ ?_
  · refine Within.ite ?_ ?_
    · refine Within.after ?_ State.raise_within rfl
      refine Within.ite ?_ ?_
      · exact State.onFeed_within.mono rfl
      · refine Within.after ?_ State.onFeed_within rfl
        exact State.onFeed_within.mono rfl
    · refine Within.ite ?_ ?_
      · exact State.onFeed_within.mono rfl
      · refine Within.after ?_ State.onFeed_within rfl
        exact State.onFeed_within.mono rfl
  · refine Within.ite ?_ ?_
    · refine Within.after ?_ State.raise_within rfl
      refine Within.after ?_ State.onFeed_within rfl
      exact State.onFeed_within.mono rfl
    · refine Within.after ?_ State.onFeed_within rfl
      exact State.onFeed_within.mono rfl

theorem State.runAlone_within {k : ℕ} {cause : ℕ} {s : State} : Within [Part.power] s (State.runAlone k cause s) := by
  unfold State.runAlone
  refine Within.after ?_ State.driveGate_within rfl
  refine Within.trans ?_ (within_power rfl ⟨rfl, rfl, rfl⟩ ⟨rfl, rfl⟩)
  exact State.onFeed_within.mono rfl

theorem State.feedMilestone_within {s : State} : Within [Part.power, .access, .counters, .trip, .panel] s
    (State.feedMilestone s) := by
  unfold State.feedMilestone
  refine Within.ite ?_ ?_
  · exact Within.refl _ _
  · refine Within.ite ?_ ?_
    · refine Within.after ?_ State.runAlone_within rfl
      exact within_power rfl ⟨rfl, rfl, rfl⟩ ⟨rfl, rfl⟩
    · refine Within.ite ?_ ?_
      · refine Within.after ?_ State.raise_within rfl
        exact within_power rfl ⟨rfl, rfl, rfl⟩ ⟨rfl, rfl⟩
      · exact Within.refl _ _

theorem State.feedSample_within {k : ℕ} {mv : ℕ} {s : State} : Within [Part.power, .access, .counters, .trip, .panel] s
    (State.feedSample k mv s) := by
  unfold State.feedSample
  refine Within.ite ?_ ?_
  · refine Within.after ?_ State.feedClass_within rfl
    exact State.onFeed_within.mono rfl
  · exact State.onFeed_within.mono rfl

theorem State.nextRun_within {s : State} : Within [Part.power] s (State.nextRun s) := by
  unfold State.nextRun
  refine Within.ite ?_ ?_
  · exact Within.refl _ _
  · refine Within.ite ?_ ?_
    · exact Within.refl _ _
    · refine Within.ite ?_ ?_
      · exact State.runAlone_within.mono rfl
      · refine Within.ite ?_ ?_
        · exact State.runAlone_within.mono rfl
        · refine Within.ite ?_ ?_
          · exact State.runAlone_within.mono rfl
          · refine Within.ite ?_ ?_
            · exact State.runAlone_within.mono rfl
            · exact Within.refl _ _

theorem State.feedSlice_within {a : ℕ} {b : ℕ} {s : State} : Within [Part.access, .counters, .trip, .panel, .power] s
    (State.feedSlice a b s) := by
  unfold State.feedSlice
  refine Within.ite ?_ ?_
  · refine Within.after ?_ State.raise_within rfl
    refine Within.trans ?_ (within_power rfl ⟨rfl, rfl, rfl⟩ ⟨rfl, rfl⟩)
    refine Within.after ?_ State.nextRun_within rfl
    refine Within.after ?_ State.feedSample_within rfl
    refine Within.after ?_ State.feedSample_within rfl
    refine Within.ite ?_ ?_
    · exact State.raise_within.mono rfl
    · exact Within.refl _ _
  · refine Within.after ?_ State.nextRun_within rfl
    refine Within.after ?_ State.feedSample_within rfl
    refine Within.after ?_ State.feedSample_within rfl
    refine Within.ite ?_ ?_
    · exact State.raise_within.mono rfl
    · exact Within.refl _ _

theorem State.keeperTick_within {s : State} : Within [Part.power] s (State.keeperTick s) :=
  within_power rfl ⟨rfl, rfl, rfl⟩ ⟨rfl, rfl⟩

theorem State.storeOffsets_within {osc : ℤ} {rtc : ℤ} {s : State} : Within [Part.power] s (State.storeOffsets osc rtc s) :=
    by
  unfold State.storeOffsets
  refine Within.ite ?_ ?_
  · exact within_power rfl ⟨rfl, rfl, rfl⟩ ⟨rfl, rfl⟩
  · exact Within.refl _ _

theorem State.orderPower_within {code : ℕ} {s : State} : Within [Part.power, .pair, .counters] s (State.orderPower code s).1
    := by
  unfold State.orderPower
  refine Within.ite_fst ?_ ?_
  · exact refuse_within.mono rfl
  · refine Within.ite_fst ?_ ?_
    · exact refuse_within.mono rfl
    · refine Within.ite_fst ?_ ?_
      · exact refuse_within.mono rfl
      · refine Within.after ?_ confirm_within rfl
        refine Within.ite ?_ ?_
        · refine Within.after ?_ State.mirror_within rfl
          exact within_power rfl ⟨rfl, rfl, rfl⟩ ⟨rfl, rfl⟩
        · exact within_power rfl ⟨rfl, rfl, rfl⟩ ⟨rfl, rfl⟩

theorem State.radiosOff_within {s : State} : Within [Part.air, .access, .counters, .trip, .panel, .keys, .power, .readiness]
    s (State.radiosOff s) := by
  unfold State.radiosOff
  refine Within.trans ?_ (within_air_keys_power_readiness rfl rfl rfl ⟨rfl, rfl, rfl⟩ rfl ⟨rfl, rfl, rfl, rfl, rfl, rfl⟩)
  refine Within.after ?_ State.emit_within rfl
  exact State.cutVerge_within.mono rfl

theorem State.powerStep_within {s : State} : Within [Part.power, .air, .access, .counters, .trip, .panel, .keys, .readiness]
    s (State.powerStep s) := by
  unfold State.powerStep
  dsimp only
  split
  · refine Within.trans ?_ (within_power rfl ⟨rfl, rfl, rfl⟩ ⟨rfl, rfl⟩)
    exact within_power rfl ⟨rfl, rfl, rfl⟩ ⟨rfl, rfl⟩
  · refine Within.after ?_ State.radiosOff_within rfl
    refine Within.trans ?_ (within_power rfl ⟨rfl, rfl, rfl⟩ ⟨rfl, rfl⟩)
    exact within_power rfl ⟨rfl, rfl, rfl⟩ ⟨rfl, rfl⟩
  · exact within_power rfl ⟨rfl, rfl, rfl⟩ ⟨rfl, rfl⟩

theorem State.wake_within {quiet : Bool} {s : State} : Within [Part.clock, .time, .update, .panel, .power, .supply,
    .schedule] s (State.wake quiet s) := by
  unfold State.wake
  refine Within.after ?_ State.emit_within rfl
  refine Within.trans ?_ (within_clock_time_update_panel_power_supply_schedule rfl rfl rfl rfl rfl rfl ⟨rfl, rfl⟩ rfl)
  exact State.draw_within.mono rfl

theorem ref10mLost_within {cause : ℕ} {s : State} : Within [Part.power, .access, .counters, .trip, .panel] s (ref10mLost
    cause s) := by
  unfold ref10mLost
  refine Within.ite ?_ ?_
  · refine Within.after ?_ State.raise_within rfl
    exact within_power rfl ⟨rfl, rfl, rfl⟩ ⟨rfl, rfl⟩
  · exact Within.refl _ _

theorem execRef10mLost_within {cause : ℕ} {s : State} : Within.post [Part.power, .access, .counters, .trip, .panel] s
    (execRef10mLost cause s) := by
  unfold execRef10mLost
  refine running_within (fun _ => ?_) ?_ rfl
  · exact ref10mLost_within.mono rfl
  · exact Within.refl _ _

theorem ref10mLocked_within {s : State} : Within [Part.power, .access, .counters, .trip, .panel] s (ref10mLocked s) := by
  unfold ref10mLocked
  refine Within.ite ?_ ?_
  · refine Within.after ?_ State.raise_within rfl
    exact within_power rfl ⟨rfl, rfl, rfl⟩ ⟨rfl, rfl⟩
  · exact Within.refl _ _

theorem execRef10mLocked_within {s : State} : Within.post [Part.power, .access, .counters, .trip, .panel] s
    (execRef10mLocked s) := by
  unfold execRef10mLocked
  refine running_within (fun _ => ?_) ?_ rfl
  · exact ref10mLocked_within.mono rfl
  · exact Within.refl _ _

theorem feedQualifyRunEnd_within {feed : ℕ} {stayed : Bool} {lowest : ℕ} {s : State} : Within [Part.power, .access,
    .counters, .trip, .panel] s (feedQualifyRunEnd feed stayed lowest s) := by
  unfold feedQualifyRunEnd
  split
  · refine Within.ite ?_ ?_
    · refine Within.after ?_ State.nextRun_within rfl
      exact State.endRun_within.mono rfl
    · exact Within.refl _ _
  · exact Within.refl _ _

theorem execFeedQualifyRunEnd_within {feed : ℕ} {stayed : Bool} {lowest : ℕ} {s : State} : Within.post [Part.power, .access,
    .counters, .trip, .panel] s (execFeedQualifyRunEnd feed stayed lowest s) := by
  unfold execFeedQualifyRunEnd
  refine running_within (fun _ => ?_) ?_ rfl
  · exact feedQualifyRunEnd_within.mono rfl
  · exact Within.refl _ _

theorem feedTest_within {r : Req} {value : ℕ} {s : State} : Within [Part.access, .clock, .update, .counters, .panel, .trip,
    .power] s (feedTest r value s) := by
  unfold feedTest
  refine State.serveWrite_within (fun _ => ?_) ?_ rfl
  · exact State.askFeedTest_within.mono rfl
  · exact Within.refl _ _

theorem execFeedTest_within {r : Req} {value : ℕ} {s : State} : Within.post [Part.access, .clock, .update, .counters,
    .panel, .trip, .power] s (execFeedTest r value s) := by
  unfold execFeedTest
  refine running_within (fun _ => ?_) ?_ rfl
  · exact feedTest_within.mono rfl
  · exact Within.refl _ _

theorem feedTestDue_within {s : State} : Within [Part.power] s (feedTestDue s) := by
  unfold feedTestDue
  refine Within.ite ?_ ?_
  · exact within_power rfl ⟨rfl, rfl, rfl⟩ ⟨rfl, rfl⟩
  · exact Within.refl _ _

theorem execFeedTestDue_within {s : State} : Within.post [Part.power] s (execFeedTestDue s) := by
  unfold execFeedTestDue
  refine running_within (fun _ => ?_) ?_ rfl
  · exact feedTestDue_within.mono rfl
  · exact Within.refl _ _

theorem feedTestRunEnd_within {feed : ℕ} {stayed : Bool} {lowest : ℕ} {s : State} : Within [Part.power, .access, .counters,
    .trip, .panel] s (feedTestRunEnd feed stayed lowest s) := by
  unfold feedTestRunEnd
  split
  · refine Within.ite ?_ ?_
    · refine Within.ite ?_ ?_
      · exact State.endRun_within.mono rfl
      · refine Within.ite ?_ ?_
        · refine Within.ite ?_ ?_
          · refine Within.after ?_ State.runAlone_within rfl
            exact State.endRun_within.mono rfl
          · exact State.endRun_within.mono rfl
        · refine Within.trans ?_ (within_power rfl ⟨rfl, rfl, rfl⟩ ⟨rfl, rfl⟩)
          exact State.endRun_within.mono rfl
    · exact Within.refl _ _
  · exact Within.refl _ _

theorem execFeedTestRunEnd_within {feed : ℕ} {stayed : Bool} {lowest : ℕ} {s : State} : Within.post [Part.power, .access,
    .counters, .trip, .panel] s (execFeedTestRunEnd feed stayed lowest s) := by
  unfold execFeedTestRunEnd
  refine running_within (fun _ => ?_) ?_ rfl
  · exact feedTestRunEnd_within.mono rfl
  · exact Within.refl _ _

theorem feedComparatorRelease_within {feed : ℕ} {s : State} : Within [Part.power, .access, .counters, .trip, .panel] s
    (feedComparatorRelease feed s) := by
  unfold feedComparatorRelease
  split
  · refine Within.ite ?_ ?_
    · exact State.endRun_within.mono rfl
    · exact Within.refl _ _
  · exact Within.refl _ _

theorem execFeedComparatorRelease_within {feed : ℕ} {s : State} : Within.post [Part.power, .access, .counters, .trip,
    .panel] s (execFeedComparatorRelease feed s) := by
  unfold execFeedComparatorRelease
  refine running_within (fun _ => ?_) ?_ rfl
  · exact feedComparatorRelease_within.mono rfl
  · exact Within.refl _ _

theorem powerCommand_within {r : Req} {code : ℕ} {s : State} : Within [Part.access, .clock, .update, .counters, .panel,
    .trip, .power, .pair] s (powerCommand r code s) := by
  unfold powerCommand
  refine State.serveWrite_within (fun _ => ?_) ?_ rfl
  · exact State.orderPower_within.mono rfl
  · exact Within.refl _ _

theorem execPowerCommandRun_within {r : Req} {s : State} : Within.post [Part.access, .clock, .update, .counters, .panel,
    .trip, .power, .pair] s (execPowerCommandRun r s) := by
  unfold execPowerCommandRun
  refine running_within (fun _ => ?_) ?_ rfl
  · exact powerCommand_within.mono rfl
  · exact Within.refl _ _

theorem execPowerCommandQuiet_within {r : Req} {s : State} : Within.post [Part.access, .clock, .update, .counters, .panel,
    .trip, .power, .pair] s (execPowerCommandQuiet r s) := by
  unfold execPowerCommandQuiet
  refine running_within (fun _ => ?_) ?_ rfl
  · exact powerCommand_within.mono rfl
  · exact Within.refl _ _

theorem execPowerCommandStandby_within {r : Req} {s : State} : Within.post [Part.access, .clock, .update, .counters, .panel,
    .trip, .power, .pair] s (execPowerCommandStandby r s) := by
  unfold execPowerCommandStandby
  refine running_within (fun _ => ?_) ?_ rfl
  · exact powerCommand_within.mono rfl
  · exact Within.refl _ _

theorem standbyStrobe_within {open1 : Bool} {open2 : Bool} {s : State} : Within [Part.panel, .clock, .time, .update, .power,
    .supply, .schedule] s (standbyStrobe open1 open2 s) := by
  unfold standbyStrobe
  refine Within.ite ?_ ?_
  · exact Within.refl _ _
  · refine Within.ite ?_ ?_
    · refine Within.after ?_ State.wake_within rfl
      exact within_panel rfl
    · exact within_panel rfl

theorem execStandbyContactStrobe_within {open1 : Bool} {open2 : Bool} {s : State} : Within.post [Part.panel, .clock, .time,
    .update, .power, .supply, .schedule] s (execStandbyContactStrobe open1 open2 s) := by
  unfold execStandbyContactStrobe
  refine Within.after ?_ standbyStrobe_within rfl
  exact State.begin_within.mono rfl

theorem standbyWake_within {source : ℕ} {s : State} : Within [Part.panel, .clock, .time, .update, .power, .supply,
    .schedule] s (standbyWake source s) := by
  unfold standbyWake
  refine Within.ite ?_ ?_
  · refine Within.after ?_ State.wake_within rfl
    exact within_panel rfl
  · exact Within.refl _ _

theorem execStandbyWake_within {source : ℕ} {s : State} : Within.post [Part.panel, .clock, .time, .update, .power, .supply,
    .schedule] s (execStandbyWake source s) := by
  unfold execStandbyWake
  refine Within.after ?_ standbyWake_within rfl
  exact State.begin_within.mono rfl

theorem vbatLow_within {mv : ℕ} {elapsed : ℕ} {s : State} : Within [Part.power, .access, .counters, .trip, .panel] s
    (vbatLow mv elapsed s) := by
  unfold vbatLow
  refine Within.ite ?_ ?_
  · refine Within.after ?_ State.raise_within rfl
    exact within_power rfl ⟨rfl, rfl, rfl⟩ ⟨rfl, rfl⟩
  · refine Within.ite ?_ ?_
    · refine Within.after ?_ State.raise_within rfl
      exact within_power rfl ⟨rfl, rfl, rfl⟩ ⟨rfl, rfl⟩
    · exact within_power rfl ⟨rfl, rfl, rfl⟩ ⟨rfl, rfl⟩

theorem execVbatLow_within {mv : ℕ} {elapsedMs : ℕ} {s : State} : Within.post [Part.power, .access, .counters, .trip,
    .panel] s (execVbatLow mv elapsedMs s) := by
  unfold execVbatLow
  refine running_within (fun _ => ?_) ?_ rfl
  · exact vbatLow_within.mono rfl
  · exact Within.refl _ _

theorem temperatureHigh_within {die : ℕ} {temp : ℤ} {s : State} : Within [Part.power, .access, .counters, .trip, .panel] s
    (temperatureHigh die temp s) := by
  unfold temperatureHigh
  refine Within.ite ?_ ?_
  · exact Within.refl _ _
  · refine Within.ite ?_ ?_
    · refine Within.after ?_ State.raise_within rfl
      exact within_power rfl ⟨rfl, rfl, rfl⟩ ⟨rfl, rfl⟩
    · refine Within.ite ?_ ?_
      · refine Within.after ?_ State.raise_within rfl
        exact within_power rfl ⟨rfl, rfl, rfl⟩ ⟨rfl, rfl⟩
      · exact within_power rfl ⟨rfl, rfl, rfl⟩ ⟨rfl, rfl⟩

theorem execTemperatureHigh_within {die : ℕ} {temp : ℤ} {s : State} : Within.post [Part.power, .access, .counters, .trip,
    .panel] s (execTemperatureHigh die temp s) := by
  unfold execTemperatureHigh
  refine running_within (fun _ => ?_) ?_ rfl
  · exact temperatureHigh_within.mono rfl
  · exact Within.refl _ _

end Sys2Proof.Machine
end

