-- ==== Sys2Proof/Laws/Snapshots.lean ====
section
/-! SUPPORT. What each operation of Machine/Snapshots.lean may change: the parts listed, what goes out, and the free values drawn. -/

namespace Sys2Proof.Machine

theorem State.takeSnap_within {u : Units} {instant : ℤ} {atStep : Bool} {x : Snap} {s : State} : Within [Part.counters] s
    (State.takeSnap u instant atStep x s) :=
  within_counters rfl

theorem State.boundarySnap_within {s : State} : Within [Part.counters] s (State.boundarySnap s) := by
  unfold State.boundarySnap
  split
  · refine Within.ite ?_ ?_
    · exact State.takeSnap_within.mono rfl
    · exact Within.refl _ _
  · exact Within.refl _ _

theorem State.counterTick_within {s : State} : Within [Part.counters] s (State.counterTick s) :=
  within_counters rfl

theorem State.cycleCount_within {s : State} {c : ℕ} : Within [Part.counters] s (State.cycleCount s c) := by
  unfold State.cycleCount
  refine Within.after ?_ State.addCounter_within rfl
  exact State.draw_within.mono rfl

theorem State.snapshotCommand_within {code : ℕ} {s : State} : Within [Part.access, .counters, .trip, .panel] s
    (State.snapshotCommand code s).1 := by
  unfold State.snapshotCommand
  refine Within.ite_fst ?_ ?_
  · exact refuse_within.mono rfl
  · refine Within.ite_fst ?_ ?_
    · refine Within.after ?_ refuse_within rfl
      exact State.inUse_within.mono rfl
    · refine Within.ite_fst ?_ ?_
      · refine Within.after ?_ confirm_within rfl
        exact State.takeSnap_within.mono rfl
      · refine Within.ite_fst ?_ ?_
        · refine Within.after ?_ confirm_within rfl
          exact within_counters rfl
        · refine Within.ite_fst ?_ ?_
          · exact refuse_within.mono rfl
          · refine Within.after ?_ confirm_within rfl
            refine Within.after ?_ State.emit_within rfl
            exact within_counters rfl

theorem State.pushSnap_within {typ : ℕ} {instant : ℤ} {s : State} {body : Bytes} : Within [Part.access, .counters, .trip,
    .panel] s (State.pushSnap typ instant s body) := by
  unfold State.pushSnap
  refine Within.after ?_ State.tripSample_within rfl
  exact State.push_within.mono rfl

theorem State.publishSnap_within {s : State} : Within [Part.counters, .access, .trip, .panel] s (State.publishSnap s) := by
  unfold State.publishSnap
  split
  · exact Within.refl _ _
  · split
    · exact Within.refl _ _
    · refine Within.foldl (fun _ _ => ?_) ?_
      · exact State.pushSnap_within.mono rfl
      · refine Within.after ?_ State.pushSnap_within rfl
        exact within_counters rfl

theorem State.standing_within {s : State} {e : ℕ} : Within [] s (State.standing s e).2 := by
  unfold State.standing
  refine Within.ite_snd ?_ ?_
  · exact Within.refl _ _
  · refine Within.ite_snd ?_ ?_
    · exact Within.refl _ _
    · refine Within.ite_snd ?_ ?_
      · exact State.draw_within.mono rfl
      · exact Within.refl _ _

theorem State.thresholdCount_within {s : State} {c : ℕ} : Within [Part.counters] s (State.thresholdCount s c) := by
  unfold State.thresholdCount
  refine Within.ite ?_ ?_
  · refine Within.ite ?_ ?_
    · exact Within.refl _ _
    · exact State.cycleCount_within.mono rfl
  · refine Within.ite ?_ ?_
    · refine Within.after ?_ State.addCounter_within rfl
      exact State.standing_within.mono rfl
    · exact State.standing_within.mono rfl

theorem State.sliceCounters_within {s : State} : Within [Part.counters] s (State.sliceCounters s) := by
  unfold State.sliceCounters
  refine Within.foldl (fun _ _ => ?_) ?_
  · exact State.occupy_within.mono rfl
  · refine Within.after ?_ State.occupy_within rfl
    refine Within.trans ?_ (within_counters rfl)
    refine Within.foldl (fun _ _ => ?_) ?_
    · exact State.thresholdCount_within.mono rfl
    · refine Within.foldl (fun _ _ => ?_) ?_
      · exact State.cycleCount_within.mono rfl
      · exact State.count_within.mono rfl

theorem snapshotCommand_within {r : Req} {code : ℕ} {s : State} : Within [Part.access, .clock, .update, .counters, .panel,
    .trip] s (snapshotCommand r code s) := by
  unfold snapshotCommand
  refine State.serveWrite_within (fun _ => ?_) ?_ rfl
  · exact State.snapshotCommand_within.mono rfl
  · exact Within.refl _ _

theorem execSnapshotNow_within {r : Req} {s : State} : Within.post [Part.access, .clock, .update, .counters, .panel, .trip]
    s (execSnapshotNow r s) := by
  unfold execSnapshotNow
  refine running_within (fun _ => ?_) ?_ rfl
  · exact snapshotCommand_within.mono rfl
  · exact Within.refl _ _

theorem execSnapshotAtNextBoundary_within {r : Req} {s : State} : Within.post [Part.access, .clock, .update, .counters,
    .panel, .trip] s (execSnapshotAtNextBoundary r s) := by
  unfold execSnapshotAtNextBoundary
  refine running_within (fun _ => ?_) ?_ rfl
  · exact snapshotCommand_within.mono rfl
  · exact Within.refl _ _

theorem execSnapshotAtTime_within {r : Req} {s : State} : Within.post [Part.access, .clock, .update, .counters, .panel,
    .trip] s (execSnapshotAtTime r s) := by
  unfold execSnapshotAtTime
  refine running_within (fun _ => ?_) ?_ rfl
  · exact snapshotCommand_within.mono rfl
  · exact Within.refl _ _

theorem snapshotInstant_within {instant : ℤ} {atStep : Bool} {s : State} : Within [Part.counters, .access, .trip, .panel] s
    (snapshotInstant instant atStep s) := by
  unfold snapshotInstant
  split
  · exact Within.refl _ _
  · refine Within.ite ?_ ?_
    · refine Within.ite ?_ ?_
      · refine Within.after ?_ State.raise_within rfl
        exact State.takeSnap_within.mono rfl
      · exact State.takeSnap_within.mono rfl
    · exact Within.refl _ _

theorem execSnapshotInstant_within {instant : ℤ} {atStep : Bool} {s : State} : Within.post [Part.counters, .access, .trip,
    .panel] s (execSnapshotInstant instant atStep s) := by
  unfold execSnapshotInstant
  refine running_within (fun _ => ?_) ?_ rfl
  · exact snapshotInstant_within.mono rfl
  · exact Within.refl _ _

theorem snapshotFrame_within {number : U32} {time : ℤ} {sender : ℕ} {s : State} : Within [Part.access, .counters, .trip,
    .panel] s (snapshotFrame number time sender s) := by
  unfold snapshotFrame
  refine Within.ite ?_ ?_
  · exact State.raise_within.mono rfl
  · refine Within.ite ?_ ?_
    · exact State.raise_within.mono rfl
    · exact within_counters rfl

theorem execSnapshot_within {number : U32} {time : ℤ} {sender : ℕ} {s : State} : Within.post [Part.access, .counters, .trip,
    .panel] s (execSnapshot number time sender s) := by
  unfold execSnapshot
  refine running_within (fun _ => ?_) ?_ rfl
  · exact snapshotFrame_within.mono rfl
  · exact Within.refl _ _

end Sys2Proof.Machine
end

