-- ==== Sys2Proof/Laws/Rules.lean ====
section
/-! SUPPORT. What each operation of Machine/Rules.lean may change: the parts listed, what goes out, and the free values drawn. -/

namespace Sys2Proof.Machine

theorem State.rule_within {k : Ruling} {s : State} : Within [Part.access, .counters, .trip, .panel] s (State.rule k s).1 :=
    by
  unfold State.rule
  refine Within.after ?_ refuse_within rfl
  split
  · exact State.inUse_within.mono rfl
  · exact Within.refl _ _

end Sys2Proof.Machine
end

