-- ==== Sys2Proof/Laws/Update.lean ====
section
/-! SUPPORT. What each operation of Machine/Update.lean may change: the parts listed, what goes out, and the free values drawn. -/

namespace Sys2Proof.Machine

theorem State.activateNow_within {s : State} : Within [Part.access, .counters, .trip, .panel, .update] s (State.activateNow
    s).1 := by
  unfold State.activateNow
  refine Within.ite_fst ?_ ?_
  · exact Within.refl _ _
  · refine Within.ite_fst ?_ ?_
    · refine Within.fst_mk ?_
      exact State.raise_within.mono rfl
    · refine Within.fst_mk ?_
      exact within_update rfl

theorem State.activateStep_within {s : State} : Within [Part.access, .counters, .trip, .panel, .update] s
    (State.activateStep s) := by
  unfold State.activateStep
  split
  · exact Within.refl _ _
  · refine Within.after ?_ State.answer_within rfl
    refine Within.trans ?_ (within_update rfl)
    exact State.activateNow_within.mono rfl

theorem State.activationReset_within {s : State} : Within Part.others s (State.activationReset s) := by
  unfold State.activationReset
  refine Within.after ?_ State.restart_within rfl
  refine Within.trans ?_ (within_update rfl)
  refine Within.foldl (fun _ _ => ?_) ?_
  · split
    · exact Within.refl _ _
    · exact State.failPlan_within.mono rfl
  · exact within_ledger rfl

theorem State.raiseRunning_within {code : ℕ} {cls : ℕ} {reg : ℕ} {params : Bytes} {s : State} : Within [Part.access,
    .counters, .trip, .panel] s (State.raiseRunning code cls reg params s) := by
  unfold State.raiseRunning
  refine Within.ite ?_ ?_
  · exact State.raise_within.mono rfl
  · exact Within.refl _ _

theorem State.reportDiscard_within {cause : ℕ} {s : State} : Within [Part.access, .counters, .trip, .panel] s
    (State.reportDiscard cause s) := by
  unfold State.reportDiscard
  split
  · exact State.raiseRunning_within.mono rfl
  · exact Within.refl _ _

theorem State.takeManifest_within {m : Image} {s : State} : Within [Part.access, .counters, .trip, .panel, .update] s
    (State.takeManifest m s) := by
  unfold State.takeManifest
  refine Within.trans ?_ (within_update rfl)
  refine Within.ite ?_ ?_
  · exact State.reportDiscard_within.mono rfl
  · exact Within.refl _ _

theorem State.takeManifestRecord_within {x : ImageRecord} {s : State} : Within [Part.access, .counters, .trip, .panel,
    .update] s (State.takeManifestRecord x s).1 := by
  unfold State.takeManifestRecord
  refine Within.ite_fst ?_ ?_
  · exact Within.refl _ _
  · refine Within.ite_fst ?_ ?_
    · exact Within.refl _ _
    · refine Within.ite_fst ?_ ?_
      · exact Within.refl _ _
      · refine Within.fst_mk ?_
        exact State.takeManifest_within.mono rfl

theorem State.takeBodyRecord_within {x : ImageRecord} {s : State} : Within [Part.update] s (State.takeBodyRecord x s).1 := by
  unfold State.takeBodyRecord
  dsimp only
  split
  · exact Within.refl _ _
  · refine Within.ite_fst ?_ ?_
    · exact Within.refl _ _
    · refine Within.ite_fst ?_ ?_
      · exact Within.refl _ _
      · refine Within.ite_fst ?_ ?_
        · exact Within.refl _ _
        · refine Within.ite_fst ?_ ?_
          · exact Within.refl _ _
          · refine Within.fst_mk ?_
            exact within_update rfl

theorem State.takeRecord_within {x : ImageRecord} {s : State} : Within [Part.access, .counters, .trip, .panel, .update] s
    (State.takeRecord x s).1 := by
  unfold State.takeRecord
  refine Within.ite_fst ?_ ?_
  · exact Within.refl _ _
  · refine Within.ite_fst ?_ ?_
    · exact Within.refl _ _
    · refine Within.ite_fst ?_ ?_
      · exact Within.refl _ _
      · refine Within.ite_fst ?_ ?_
        · exact State.takeManifestRecord_within.mono rfl
        · exact State.takeBodyRecord_within.mono rfl

theorem State.writeChunk_within {x : ImageRecord} {s : State} : Within [Part.access, .counters, .trip, .panel, .update] s
    (State.writeChunk x s).1 := by
  unfold State.writeChunk
  refine Within.fst_mk ?_
  exact State.takeRecord_within.mono rfl

theorem State.askActivation_within {r : Req} {s : State} : Within [Part.update] s (State.askActivation r s).1 := by
  unfold State.askActivation
  refine Within.ite_fst ?_ ?_
  · exact refuse_within.mono rfl
  · refine Within.fst_mk ?_
    exact within_update rfl

theorem State.askConfirmation_within {r : Req} {s : State} : Within [Part.update] s (State.askConfirmation r s).1 := by
  unfold State.askConfirmation
  refine Within.ite_fst ?_ ?_
  · exact refuse_within.mono rfl
  · refine Within.after ?_ confirm_within rfl
    exact within_update rfl

theorem State.confirmStep_within {s : State} : Within [Part.update] s (State.confirmStep s) := by
  unfold State.confirmStep
  refine Within.ite ?_ ?_
  · exact Within.refl _ _
  · exact within_update rfl

theorem State.discardDownload_within {s : State} : Within [Part.access, .counters, .trip, .panel, .update] s
    (State.discardDownload s).1 := by
  unfold State.discardDownload
  refine Within.after ?_ confirm_within rfl
  refine Within.trans ?_ (within_update rfl)
  refine Within.ite ?_ ?_
  · exact Within.refl _ _
  · exact State.reportDiscard_within.mono rfl

theorem State.reply_within {seq : ℕ} {command : ℕ} {code : ℕ} {data : Bytes} {s : State} : Within [Part.update] s
    (State.reply seq command code data s) := by
  unfold State.reply
  refine Within.after ?_ State.emit_within rfl
  exact within_update rfl

theorem State.endReply_within {seq : ℕ} {flags : ℕ} {s : State} : Within [Part.access, .counters, .trip, .panel, .update] s
    (State.endReply seq flags s) := by
  unfold State.endReply
  refine Within.after ?_ State.reply_within rfl
  refine Within.ite_fst ?_ ?_
  · exact State.activateNow_within.mono rfl
  · exact Within.refl _ _

theorem State.trialSecond_within {s : State} : Within [Part.update] s (State.trialSecond s) :=
  within_update rfl

theorem State.updateOrder_within {r : Req} {code : ℕ} {s : State} : Within [Part.update, .access, .counters, .trip, .panel]
    s (State.updateOrder r code s).1 := by
  unfold State.updateOrder
  split
  · exact State.askActivation_within.mono rfl
  · exact State.askConfirmation_within.mono rfl
  · exact State.discardDownload_within.mono rfl
  · exact refuse_within.mono rfl

theorem State.recovered_within {s : State} : Within Part.others s (State.recovered s) := by
  unfold State.recovered
  refine Within.after ?_ State.restart_within rfl
  exact within_update rfl

theorem State.service_within {k : List Part} {f : ServiceHead} {command : Nat} {payload : Bytes} {body : State → State} {s t : State}
    (h : ∀ t, Within k t (body t)) (g : Within k s t) (hk : [Part.update].all k.contains = true) :
    Within k s (t.service f command payload body) := by
  have hu : k.contains .update = true := List.all_eq_true.mp hk _ (by decide)
  unfold State.service
  refine Within.ite g (Within.ite ?_ (g.trans ((within_update hu).trans (h _))))
  split
  · exact g.trans (State.emit_within.mono rfl)
  · exact g.trans (State.emit_within.mono rfl)
  · exact g

theorem State.takeRecords_within {s : State} {l : List ImageRecord} :
    Within [.update, .access, .counters, .trip, .panel] s (s.takeRecords l).1 := by
  induction l generalizing s with
  | nil => exact Within.refl _ _
  | cons x t ih =>
    unfold State.takeRecords
    refine Within.ite_fst (State.takeRecord_within.mono rfl) ?_
    exact (State.takeRecord_within.mono rfl).trans ih

theorem State.tftpSay_within {opcode : ℕ} {number : ℕ} {text : Bytes} {s : State} : Within [] s (State.tftpSay opcode number
    text s) :=
  State.emit_within.mono rfl

theorem State.verified_within {s : State} : Within [Part.update, .access, .counters, .trip, .panel] s (State.verified s) :=
    by
  unfold State.verified
  split
  · exact Within.refl _ _
  · refine Within.ite ?_ ?_
    · refine Within.ite ?_ ?_
      · exact within_update rfl
      · refine Within.after ?_ State.raiseRunning_within rfl
        exact within_update rfl
    · refine Within.after ?_ State.raiseRunning_within rfl
      exact within_update rfl

theorem downloadExpire_within {s : State} : Within [Part.access, .counters, .trip, .panel, .update] s (downloadExpire s) :=
    by
  unfold downloadExpire
  refine Within.ite ?_ ?_
  · refine Within.trans ?_ (within_update rfl)
    exact State.reportDiscard_within.mono rfl
  · exact Within.refl _ _

theorem downloadVerified_within {s : State} : Within Part.others s (downloadVerified s) := by
  unfold downloadVerified
  refine Within.ite ?_ ?_
  · exact Within.refl _ _
  · refine Within.ite ?_ ?_
    · refine Within.after ?_ State.recovered_within rfl
      split
      · refine Within.after ?_ State.endReply_within rfl
        refine Within.trans ?_ (within_update rfl)
        exact State.verified_within.mono rfl
      · refine Within.trans ?_ (within_update rfl)
        exact State.verified_within.mono rfl
    · split
      · refine Within.after ?_ State.endReply_within rfl
        refine Within.trans ?_ (within_update rfl)
        exact State.verified_within.mono rfl
      · refine Within.trans ?_ (within_update rfl)
        exact State.verified_within.mono rfl

theorem imageChunk_within {r : Req} {x : ImageRecord} {s : State} : Within [Part.access, .clock, .update, .counters, .panel,
    .trip] s (imageChunk r x s) := by
  unfold imageChunk
  refine State.serveWrite_within (fun _ => ?_) ?_ rfl
  · exact State.writeChunk_within.mono rfl
  · exact Within.refl _ _

theorem execImageChunk_within {r : Req} {rec : ImageRecord} {s : State} : Within.post [Part.access, .clock, .update,
    .counters, .panel, .trip] s (execImageChunk r rec s) := by
  unfold execImageChunk
  refine running_within (fun _ => ?_) ?_ rfl
  · exact imageChunk_within.mono rfl
  · exact Within.refl _ _

theorem serving_within {k : List Part} {f : State → State} {s t : State} (h : ∀ t, Within k t (f t)) (g : Within k s t)
    (_ : ([] : List Part).all k.contains = true) : Within.post k s (serving f t) :=
  Within.ite ((g.trans (State.begin_within.mono rfl)).trans (h _)) (g.trans (State.begin_within.mono rfl))

theorem execDownloadVerified_within {stamp : ℕ} {s : State} : Within.post Part.others s (execDownloadVerified stamp s) := by
  unfold execDownloadVerified
  refine serving_within (fun _ => ?_) ?_ rfl
  · refine Within.after ?_ downloadVerified_within rfl
    exact State.stamped_within.mono rfl
  · exact Within.refl _ _

theorem execDownloadExpire_within {s : State} : Within.post [Part.access, .counters, .trip, .panel, .update] s
    (execDownloadExpire s) := by
  unfold execDownloadExpire
  refine running_within (fun _ => ?_) ?_ rfl
  · exact downloadExpire_within.mono rfl
  · exact Within.refl _ _

theorem updateCommand_within {r : Req} {code : ℕ} {s : State} : Within [Part.access, .clock, .update, .counters, .panel,
    .trip] s (updateCommand r code s) := by
  unfold updateCommand
  refine State.serveWrite_within (fun _ => ?_) ?_ rfl
  · exact State.updateOrder_within.mono rfl
  · exact Within.refl _ _

theorem execActivate_within {r : Req} {s : State} : Within.post [Part.access, .clock, .update, .counters, .panel, .trip] s
    (execActivate r s) := by
  unfold execActivate
  refine running_within (fun _ => ?_) ?_ rfl
  · exact updateCommand_within.mono rfl
  · exact Within.refl _ _

theorem execConfirmTrial_within {r : Req} {s : State} : Within.post [Part.access, .clock, .update, .counters, .panel, .trip]
    s (execConfirmTrial r s) := by
  unfold execConfirmTrial
  refine running_within (fun _ => ?_) ?_ rfl
  · exact updateCommand_within.mono rfl
  · exact Within.refl _ _

theorem execDiscardDownload_within {r : Req} {s : State} : Within.post [Part.access, .clock, .update, .counters, .panel,
    .trip] s (execDiscardDownload r s) := by
  unfold execDiscardDownload
  refine running_within (fun _ => ?_) ?_ rfl
  · exact updateCommand_within.mono rfl
  · exact Within.refl _ _

theorem trialLimitExpire_within {s : State} : Within Part.others s (trialLimitExpire s) := by
  unfold trialLimitExpire
  refine Within.ite ?_ ?_
  · refine Within.after ?_ State.restart_within rfl
    exact State.revert_within.mono rfl
  · exact Within.refl _ _

theorem execTrialLimitExpire_within {s : State} : Within.post Part.others s (execTrialLimitExpire s) := by
  unfold execTrialLimitExpire
  refine running_within (fun _ => ?_) ?_ rfl
  · exact trialLimitExpire_within.mono rfl
  · exact Within.refl _ _

theorem identify_within {f : ServiceHead} {s : State} : Within [Part.update] s (identify f s) := by
  unfold identify
  refine State.service_within (fun _ => ?_) ?_ rfl
  · exact State.reply_within.mono rfl
  · exact Within.refl _ _

theorem execIdentify_within {f : ServiceHead} {s : State} : Within.post [Part.update] s (execIdentify f s) := by
  unfold execIdentify
  refine serving_within (fun _ => ?_) ?_ rfl
  · exact identify_within.mono rfl
  · exact Within.refl _ _

theorem imageBegin_within {f : ServiceHead} {length : ℕ} {s : State} : Within [Part.update] s (imageBegin f length s) := by
  unfold imageBegin
  refine State.service_within (fun _ => ?_) ?_ rfl
  · refine Within.after ?_ State.reply_within rfl
    exact within_update rfl
  · exact Within.refl _ _

theorem execImageBegin_within {f : ServiceHead} {length : ℕ} {s : State} : Within.post [Part.update] s (execImageBegin f
    length s) := by
  unfold execImageBegin
  refine serving_within (fun _ => ?_) ?_ rfl
  · exact imageBegin_within.mono rfl
  · exact Within.refl _ _

theorem imageBlock_within {f : ServiceHead} {offset : ℕ} {data : Bytes} {s : State} : Within [Part.update, .access,
    .counters, .trip, .panel] s (imageBlock f offset data s) := by
  unfold imageBlock
  refine State.service_within (fun _ => ?_) ?_ rfl
  · refine Within.ite ?_ ?_
    · exact State.reply_within.mono rfl
    · refine Within.ite ?_ ?_
      · exact State.reply_within.mono rfl
      · refine Within.ite ?_ ?_
        · exact State.reply_within.mono rfl
        · dsimp only
          split
          · refine Within.after ?_ State.reply_within rfl
            exact State.takeRecords_within.mono rfl
          · refine Within.after ?_ State.reply_within rfl
            refine Within.trans ?_ (within_update rfl)
            exact State.takeRecords_within.mono rfl
  · exact Within.refl _ _

theorem execImageBlock_within {seq : ℕ} {crc : U16} {offset : ℕ} {data : Bytes} {s : State} : Within.post [Part.update, .access,
    .counters, .trip, .panel] s (execImageBlock seq crc offset data s) := by
  unfold execImageBlock
  refine serving_within (fun _ => ?_) ?_ rfl
  · exact imageBlock_within.mono rfl
  · exact Within.refl _ _

theorem imageEnd_within {f : ServiceHead} {flags : ℕ} {s : State} : Within [Part.update, .access, .counters, .trip, .panel]
    s (imageEnd f flags s) := by
  unfold imageEnd
  refine State.service_within (fun _ => ?_) ?_ rfl
  · refine Within.ite ?_ ?_
    · refine Within.after ?_ State.reply_within rfl
      exact within_update rfl
    · refine Within.ite ?_ ?_
      · refine Within.trans ?_ (within_update rfl)
        exact within_update rfl
      · refine Within.after ?_ State.endReply_within rfl
        exact within_update rfl
  · exact Within.refl _ _

theorem execImageEnd_within {f : ServiceHead} {flags : ℕ} {s : State} : Within.post [Part.update, .access, .counters, .trip,
    .panel] s (execImageEnd f flags s) := by
  unfold execImageEnd
  refine serving_within (fun _ => ?_) ?_ rfl
  · exact imageEnd_within.mono rfl
  · exact Within.refl _ _

theorem status_within {f : ServiceHead} {s : State} : Within [Part.update] s (status f s) := by
  unfold status
  refine State.service_within (fun _ => ?_) ?_ rfl
  · exact State.reply_within.mono rfl
  · exact Within.refl _ _

theorem execStatus_within {f : ServiceHead} {s : State} : Within.post [Part.update] s (execStatus f s) := by
  unfold execStatus
  refine serving_within (fun _ => ?_) ?_ rfl
  · exact status_within.mono rfl
  · exact Within.refl _ _

theorem serviceReset_within {f : ServiceHead} {word : ℕ} {s : State} : Within Part.others s (serviceReset f word s) := by
  unfold serviceReset
  refine State.service_within (fun _ => ?_) ?_ rfl
  · refine Within.ite ?_ ?_
    · exact State.reply_within.mono rfl
    · refine Within.after ?_ State.restart_within rfl
      exact State.reply_within.mono rfl
  · exact Within.refl _ _

theorem execServiceReset_within {f : ServiceHead} {word : ℕ} {s : State} : Within.post Part.others s (execServiceReset f
    word s) := by
  unfold execServiceReset
  refine serving_within (fun _ => ?_) ?_ rfl
  · exact serviceReset_within.mono rfl
  · exact Within.refl _ _

theorem leaveRecovery_within {f : ServiceHead} {word : ℕ} {s : State} : Within Part.others s (leaveRecovery f word s) := by
  unfold leaveRecovery
  refine State.service_within (fun _ => ?_) ?_ rfl
  · refine Within.ite ?_ ?_
    · exact State.reply_within.mono rfl
    · refine Within.ite ?_ ?_
      · exact State.reply_within.mono rfl
      · refine Within.after ?_ State.restart_within rfl
        refine Within.trans ?_ (within_update rfl)
        exact State.reply_within.mono rfl
  · exact Within.refl _ _

theorem execLeaveRecovery_within {f : ServiceHead} {word : ℕ} {s : State} : Within.post Part.others s (execLeaveRecovery f
    word s) := by
  unfold execLeaveRecovery
  refine serving_within (fun _ => ?_) ?_ rfl
  · exact leaveRecovery_within.mono rfl
  · exact Within.refl _ _

theorem serviceFrameGap_within {s : State} : Within [] s (serviceFrameGap s) :=
  Within.refl _ _

theorem execServiceFrameGap_within {s : State} : Within.post [] s (execServiceFrameGap s) := by
  unfold execServiceFrameGap
  refine serving_within (fun _ => ?_) ?_ rfl
  · exact serviceFrameGap_within.mono rfl
  · exact Within.refl _ _

theorem tftpWrite_within {peer : TftpPeer} {file : TftpFile} {s : State} : Within [Part.update] s (tftpWrite peer file s) := by
  unfold tftpWrite
  refine Within.ite ?_ ?_
  · exact Within.refl _ _
  · refine Within.ite ?_ ?_
    · exact State.tftpSay_within.mono rfl
    · refine Within.ite ?_ ?_
      · exact State.tftpSay_within.mono rfl
      · refine Within.after ?_ State.tftpSay_within rfl
        exact within_update rfl

theorem execTftpWriteRequest_within {peer : TftpPeer} {file : TftpFile} {s : State} : Within.post [Part.update] s
    (execTftpWriteRequest peer file s) := by
  unfold execTftpWriteRequest
  refine serving_within (fun _ => ?_) ?_ rfl
  · exact tftpWrite_within.mono rfl
  · exact Within.refl _ _

theorem tftpData_within {peer : TftpPeer} {number : ℕ} {data : Bytes} {s : State} : Within Part.others s (tftpData peer number
    data s) := by
  unfold tftpData
  refine Within.ite ?_ ?_
  · exact Within.refl _ _
  refine Within.ite ?_ ?_
  · exact State.tftpSay_within.mono rfl
  · refine Within.ite ?_ ?_
    · exact State.tftpSay_within.mono rfl
    · refine Within.ite ?_ ?_
      · exact Within.refl _ _
      · dsimp only
        split
        · refine Within.after ?_ State.tftpSay_within rfl
          refine Within.trans ?_ (within_update rfl)
          exact State.takeRecords_within.mono rfl
        · refine Within.ite ?_ ?_
          · refine Within.ite ?_ ?_
            · refine Within.after ?_ State.recovered_within rfl
              refine Within.after ?_ State.verified_within rfl
              refine Within.after ?_ State.tftpSay_within rfl
              refine Within.trans ?_ (within_update rfl)
              exact State.takeRecords_within.mono rfl
            · refine Within.after ?_ State.verified_within rfl
              refine Within.after ?_ State.tftpSay_within rfl
              refine Within.trans ?_ (within_update rfl)
              exact State.takeRecords_within.mono rfl
          · refine Within.after ?_ State.tftpSay_within rfl
            refine Within.trans ?_ (within_update rfl)
            exact State.takeRecords_within.mono rfl

theorem execTftpDataBlock_within {address port number : ℕ} {data : Bytes} {s : State} : Within.post Part.others s
    (execTftpDataBlock address port number data s) := by
  unfold execTftpDataBlock
  refine serving_within (fun _ => ?_) ?_ rfl
  · exact tftpData_within.mono rfl
  · exact Within.refl _ _

end Sys2Proof.Machine
end

