-- ==== Sys2Proof/Laws/Writes.lean ====
section
/-! SUPPORT. What each operation of Machine/Writes.lean may change: the parts listed, what goes out, and the free values drawn. -/

namespace Sys2Proof.Machine

theorem State.acceptBatch_within {r : Req} {areas : List ℕ} {lanes : List ℕ} {items : List WriteItem} {s : State} : Within
    [Part.settings, .gnss, .counters, .access, .cells, .update, .ledger, .pair, .routes] s (State.acceptBatch r areas lanes
    items s) := by
  unfold State.acceptBatch
  refine Within.after ?_ State.onPlans_within rfl
  refine Within.ite ?_ ?_
  · refine Within.foldl (fun _ _ => ?_) ?_
    · exact State.acceptPlan_within.mono rfl
    · refine Within.foldl (fun _ _ => ?_) ?_
      · exact State.acceptPlan_within.mono rfl
      · refine Within.foldl (fun _ _ => ?_) ?_
        · exact State.put_within.mono rfl
        · exact Within.refl _ _
  · refine Within.after ?_ State.acceptPlan_within rfl
    refine Within.foldl (fun _ _ => ?_) ?_
    · exact State.acceptPlan_within.mono rfl
    · refine Within.foldl (fun _ _ => ?_) ?_
      · exact State.acceptPlan_within.mono rfl
      · refine Within.foldl (fun _ _ => ?_) ?_
        · exact State.put_within.mono rfl
        · exact Within.refl _ _

theorem State.acknowledgeEvents_within {value : ℕ} {s : State} : Within [Part.access] s (State.acknowledgeEvents value s).1
    := by
  unfold State.acknowledgeEvents
  refine Within.ite_fst ?_ ?_
  · exact refuse_within.mono rfl
  · refine Within.after ?_ confirm_within rfl
    exact State.acknowledge_within.mono rfl

theorem State.doBatch_within {r : Req} {items : List WriteItem} {s : State} : Within [Part.access, .counters, .trip, .panel,
    .settings, .gnss, .pair, .update, .cells, .ledger, .routes] s (State.doBatch r items s).1 := by
  unfold State.doBatch
  refine Within.ite_fst ?_ ?_
  · exact refuse_within.mono rfl
  · split
    · exact Within.refl _ _
    · split
      · refine Within.fst_mk ?_
        exact State.rule_within.mono rfl
      · split
        · exact Within.refl _ _
        · refine Within.ite_fst ?_ ?_
          · exact refuse_within.mono rfl
          · refine Within.ite_fst ?_ ?_
            · exact State.writeItems_within.mono rfl
            · refine Within.fst_mk ?_
              exact State.acceptBatch_within.mono rfl

theorem State.clearErrors_within {value : ℤ} {s : State} : Within [Part.access] s (State.clearErrors value s).1 := by
  unfold State.clearErrors
  refine Within.ite_fst ?_ ?_
  · exact refuse_within.mono rfl
  · refine Within.after ?_ confirm_within rfl
    exact within_access rfl

theorem State.refuseFreely_within {s : State} : Within [] s (State.refuseFreely s).1 := by
  unfold State.refuseFreely
  refine Within.fst_mk ?_
  exact State.draw_within.mono rfl

theorem State.writeCommand_within {r : Req} {x : WriteItem} {s : State} : Within [Part.power, .access, .time, .lanes, .halt,
    .air, .counters, .trip, .panel, .pair, .reference, .chain, .keys, .custody, .update, .due, .cells, .ledger, .routes] s
    (State.writeCommand r x s).1 := by
  unfold State.writeCommand
  dsimp only
  split
  · exact State.orderReset_within.mono rfl
  · exact State.acknowledgeEvents_within.mono rfl
  · exact State.orderTb1_within.mono rfl
  · refine Within.ite_fst ?_ ?_
    · exact State.restoreHalt_within.mono rfl
    · exact State.assertHalt_within.mono rfl
  · exact State.resumeHalt_within.mono rfl
  · exact State.surveyCommand_within.mono rfl
  · exact State.forgetAddress_within.mono rfl
  · exact State.askHandover_within.mono rfl
  · exact State.keyOrder_within.mono rfl
  · exact State.updateOrder_within.mono rfl
  · exact State.snapshotCommand_within.mono rfl
  · exact State.forceTrigger_within.mono rfl
  · exact State.orderPower_within.mono rfl
  · exact State.askFeedTest_within.mono rfl
  · exact State.orderLane_within.mono rfl
  · exact State.routeCommand_within.mono rfl

theorem State.writeSetting_within {r : Req} {x : WriteItem} {s : State} : Within [Part.access, .settings, .pair, .counters,
    .trip, .panel, .update, .cells, .ledger, .routes, .lanes, .gnss] s (State.writeSetting r x s).1 := by
  unfold State.writeSetting
  refine Within.ite_fst ?_ ?_
  · exact State.clearErrors_within.mono rfl
  · refine Within.ite_fst ?_ ?_
    · exact State.changeArea_within.mono rfl
    · refine Within.ite_fst ?_ ?_
      · exact State.changeLimit_within.mono rfl
      · split
        · exact State.rule_within.mono rfl
        · exact State.writeItems_within.mono rfl

theorem State.writeEntry_within {r : Req} {x : WriteItem} {s : State} : Within [Part.power, .access, .time, .lanes, .halt,
    .air, .counters, .trip, .panel, .pair, .reference, .chain, .keys, .custody, .update, .due, .cells, .ledger, .routes,
    .settings, .gnss] s (State.writeEntry r x s).1 := by
  unfold State.writeEntry
  split
  · refine Within.ite_fst ?_ ?_
    · exact State.refuseFreely_within.mono rfl
    · refine Within.ite_fst ?_ ?_
      · exact State.writeCommand_within.mono rfl
      · exact State.writeSetting_within.mono rfl
  · exact refuse_within.mono rfl

theorem batchWrite_within {r : Req} {items : List WriteItem} {s : State} : Within [Part.access, .clock, .update, .counters,
    .trip, .panel, .settings, .gnss, .pair, .cells, .ledger, .routes] s (batchWrite r items s) := by
  unfold batchWrite
  refine State.serve_within (fun _ => ?_) ?_ rfl
  · exact State.doBatch_within.mono rfl
  · exact Within.refl _ _

theorem dictionaryWrite_within {r : Req} {x : WriteItem} {s : State} : Within [Part.access, .clock, .update, .counters,
    .panel, .trip, .power, .time, .lanes, .halt, .air, .pair, .reference, .chain, .keys, .custody, .due, .cells, .ledger,
    .routes, .settings, .gnss] s (dictionaryWrite r x s) := by
  unfold dictionaryWrite
  refine State.serveWrite_within (fun _ => ?_) ?_ rfl
  · exact State.writeEntry_within.mono rfl
  · exact Within.refl _ _

theorem counterConfigure_within {r : Req} {counter : ℕ} {f : ℕ} {v : ℕ} {s : State} : Within [Part.access, .clock, .update,
    .counters, .panel, .trip, .power, .time, .lanes, .halt, .air, .pair, .reference, .chain, .keys, .custody, .due, .cells,
    .ledger, .routes, .settings, .gnss] s (counterConfigure r counter f v s) :=
  dictionaryWrite_within.mono rfl

theorem execDictionaryWrite_within {r : Req} {item : WriteItem} {s : State} : Within.post [Part.access, .clock, .update,
    .counters, .panel, .trip, .power, .time, .lanes, .halt, .air, .pair, .reference, .chain, .keys, .custody, .due, .cells,
    .ledger, .routes, .settings, .gnss] s (execDictionaryWrite r item s) := by
  unfold execDictionaryWrite
  refine running_within (fun _ => ?_) ?_ rfl
  · exact dictionaryWrite_within.mono rfl
  · exact Within.refl _ _

theorem execBatch_within {r : Req} {items : List WriteItem} {s : State} : Within.post [Part.access, .clock, .update,
    .counters, .trip, .panel, .settings, .gnss, .pair, .cells, .ledger, .routes] s (execBatch r items s) := by
  unfold execBatch
  refine running_within (fun _ => ?_) ?_ rfl
  · exact batchWrite_within.mono rfl
  · exact Within.refl _ _

theorem execStreamMulticastEnable_within {r : Req} {stream : ℕ} {value : ℕ} {s : State} : Within.post [Part.access, .clock,
    .update, .counters, .panel, .trip, .power, .time, .lanes, .halt, .air, .pair, .reference, .chain, .keys, .custody, .due,
    .cells, .ledger, .routes, .settings, .gnss] s (execStreamMulticastEnable r stream value s) := by
  unfold execStreamMulticastEnable
  refine running_within (fun _ => ?_) ?_ rfl
  · exact dictionaryWrite_within.mono rfl
  · exact Within.refl _ _

theorem execAcknowledgeEvents_within {r : Req} {value : ℕ} {s : State} : Within.post [Part.access, .clock, .update,
    .counters, .panel, .trip, .power, .time, .lanes, .halt, .air, .pair, .reference, .chain, .keys, .custody, .due, .cells,
    .ledger, .routes, .settings, .gnss] s (execAcknowledgeEvents r value s) := by
  unfold execAcknowledgeEvents
  refine running_within (fun _ => ?_) ?_ rfl
  · exact dictionaryWrite_within.mono rfl
  · exact Within.refl _ _

theorem execClearErrorList_within {r : Req} {value : ℕ} {s : State} : Within.post [Part.access, .clock, .update, .counters,
    .panel, .trip, .power, .time, .lanes, .halt, .air, .pair, .reference, .chain, .keys, .custody, .due, .cells, .ledger,
    .routes, .settings, .gnss] s (execClearErrorList r value s) := by
  unfold execClearErrorList
  refine running_within (fun _ => ?_) ?_ rfl
  · exact dictionaryWrite_within.mono rfl
  · exact Within.refl _ _

theorem execCounterConfigure_within {r : Req} {counter : ℕ} {field : ℕ} {value : ℕ} {s : State} : Within.post [Part.access,
    .clock, .update, .counters, .panel, .trip, .power, .time, .lanes, .halt, .air, .pair, .reference, .chain, .keys,
    .custody, .due, .cells, .ledger, .routes, .settings, .gnss] s (execCounterConfigure r counter field value s) := by
  unfold execCounterConfigure
  refine running_within (fun _ => ?_) ?_ rfl
  · exact counterConfigure_within.mono rfl
  · exact Within.refl _ _

theorem execCaptureUnitEnable_within {r : Req} {unit : ℕ} {value : ℕ} {s : State} : Within.post [Part.access, .clock,
    .update, .counters, .panel, .trip, .power, .time, .lanes, .halt, .air, .pair, .reference, .chain, .keys, .custody, .due,
    .cells, .ledger, .routes, .settings, .gnss] s (execCaptureUnitEnable r unit value s) := by
  unfold execCaptureUnitEnable
  refine running_within (fun _ => ?_) ?_ rfl
  · exact dictionaryWrite_within.mono rfl
  · exact Within.refl _ _

theorem execTriggerOutputEnable_within {r : Req} {value : ℕ} {s : State} : Within.post [Part.access, .clock, .update,
    .counters, .panel, .trip, .power, .time, .lanes, .halt, .air, .pair, .reference, .chain, .keys, .custody, .due, .cells,
    .ledger, .routes, .settings, .gnss] s (execTriggerOutputEnable r value s) := by
  unfold execTriggerOutputEnable
  refine running_within (fun _ => ?_) ?_ rfl
  · exact dictionaryWrite_within.mono rfl
  · exact Within.refl _ _

end Sys2Proof.Machine
end

