-- ==== Sys2Proof/Laws/Reads.lean ====
section
/-! SUPPORT. What each operation of Machine/Reads.lean may change: the parts listed, what goes out, and the free values drawn. -/

namespace Sys2Proof.Machine

theorem State.readEntry_within {roles : ℕ} {i : ℕ} {sub : ℕ} {s : State} : Within [] s (State.readEntry roles i sub s).1 :=
    by
  unfold State.readEntry
  split
  · exact refuse_within.mono rfl
  · exact refuse_within.mono rfl
  · refine Within.ite_fst ?_ ?_
    · exact refuse_within.mono rfl
    · refine Within.ite_fst ?_ ?_
      · exact refuse_within.mono rfl
      · refine Within.ite_fst ?_ ?_
        · exact refuse_within.mono rfl
        · split
          · exact State.refuseFreely_within.mono rfl
          · exact Within.refl _ _
          · refine Within.ite_fst ?_ ?_
            · exact Within.refl _ _
            · refine Within.ite_fst ?_ ?_
              · exact Within.refl _ _
              · refine Within.ite_fst ?_ ?_
                · exact Within.refl _ _
                · exact Within.refl _ _

end Sys2Proof.Machine
end

