-- ==== Sys2Proof/Laws/Access.lean ====
section
/-! SUPPORT. What each operation of Machine/Access.lean may change: the parts listed, what goes out, and the free values drawn. -/

namespace Sys2Proof.Machine

theorem State.endTransfer_within {i : ℕ} {sub : ℕ} {s : State} : Within [Part.access] s (State.endTransfer i sub s) :=
  within_access rfl

theorem State.abortTransfer_within {t : Transfer} {s : State} : Within [Part.access] s (State.abortTransfer t s) := by
  unfold State.abortTransfer
  refine Within.after ?_ State.emit_within rfl
  exact State.endTransfer_within.mono rfl

theorem State.accessTick_within {s : State} : Within [Part.access] s (State.accessTick s) :=
  within_access rfl

theorem State.batchBytes_within {r : Req} {b : Bytes} {s : State} : Within [Part.access, .counters, .trip, .panel,
    .settings, .gnss, .pair, .update, .cells, .ledger, .routes] s (State.batchBytes r b s).1 := by
  unfold State.batchBytes
  split
  · exact refuse_within.mono rfl
  · refine Within.ite_fst ?_ ?_
    · exact refuse_within.mono rfl
    · exact State.doBatch_within.mono rfl

theorem State.pendingBytes_within {r : Req} {b : Bytes} {s : State} : Within [Part.keys, .custody] s (State.pendingBytes r b
    s).1 := by
  unfold State.pendingBytes
  refine Within.ite_fst ?_ ?_
  · exact refuse_within.mono rfl
  · split
    · exact State.loadPending_within.mono rfl
    · exact refuse_within.mono rfl

theorem State.certificateBytes_within {b : Bytes} {s : State} : Within [Part.keys, .custody, .power] s
    (State.certificateBytes b s).1 := by
  unfold State.certificateBytes
  refine Within.ite_fst ?_ ?_
  · exact refuse_within.mono rfl
  · refine Within.ite_fst ?_ ?_
    · exact refuse_within.mono rfl
    · exact State.debugCertificate_within.mono rfl

theorem State.credentialBytes_within {k : ℕ} {b : Bytes} {s : State} : Within [Part.settings, .gnss, .counters, .access,
    .pair, .trip, .panel, .update] s (State.credentialBytes k b s).1 := by
  unfold State.credentialBytes
  refine Within.ite_fst ?_ ?_
  · exact refuse_within.mono rfl
  · refine Within.ite_fst ?_ ?_
    · exact refuse_within.mono rfl
    · exact State.writeItems_within.mono rfl

theorem State.chunkBytes_within {b : Bytes} {s : State} : Within [Part.access, .counters, .trip, .panel, .update] s
    (State.chunkBytes b s).1 := by
  unfold State.chunkBytes
  refine Within.ite_fst ?_ ?_
  · exact refuse_within.mono rfl
  · exact State.writeChunk_within.mono rfl

theorem State.applyDomain_within {r : Req} {i : ℕ} {sub : ℕ} {b : Bytes} {s : State} : Within [Part.access, .counters,
    .trip, .panel, .settings, .gnss, .pair, .update, .cells, .ledger, .routes, .keys, .custody, .power, .lanes] s
    (State.applyDomain r i sub b s).1 := by
  unfold State.applyDomain
  split
  · exact refuse_within.mono rfl
  · refine Within.ite_fst ?_ ?_
    · exact State.batchBytes_within.mono rfl
    · refine Within.ite_fst ?_ ?_
      · exact State.pendingBytes_within.mono rfl
      · refine Within.ite_fst ?_ ?_
        · exact State.certificateBytes_within.mono rfl
        · refine Within.ite_fst ?_ ?_
          · exact State.credentialBytes_within.mono rfl
          · refine Within.ite_fst ?_ ?_
            · exact State.chunkBytes_within.mono rfl
            · exact State.submitRoute_within.mono rfl

theorem State.holdTransfer_within {t : Transfer} {s : State} : Within [Part.access] s (State.holdTransfer t s) := by
  unfold State.holdTransfer
  refine Within.trans ?_ (within_access rfl)
  exact State.endTransfer_within.mono rfl

theorem State.joinSegment_within {r : Req} {t : Transfer} {last : Bool} {offset : ℕ} {data : Bytes} {s : State} : Within
    [Part.access, .counters, .trip, .panel, .settings, .gnss, .pair, .update, .cells, .ledger, .routes, .keys, .custody,
    .power, .lanes] s (State.joinSegment r t last offset data s).1 := by
  unfold State.joinSegment
  refine Within.ite_fst ?_ ?_
  · refine Within.after ?_ refuse_within rfl
    exact State.endTransfer_within.mono rfl
  · refine Within.ite_fst ?_ ?_
    · refine Within.after ?_ refuse_within rfl
      exact State.endTransfer_within.mono rfl
    · refine Within.ite_fst ?_ ?_
      · refine Within.after ?_ State.applyDomain_within rfl
        exact State.endTransfer_within.mono rfl
      · refine Within.after ?_ confirm_within rfl
        exact State.holdTransfer_within.mono rfl

theorem State.downloadSegment_within {r : Req} {i : ℕ} {sub : ℕ} {first : Bool} {last : Bool} {offset : ℕ} {total : ℕ} {data
    : Bytes} {s : State} : Within [Part.access, .counters, .trip, .panel, .settings, .gnss, .pair, .update, .cells, .ledger,
    .routes, .keys, .custody, .power, .lanes] s (State.downloadSegment r i sub first last offset total data s).1 := by
  unfold State.downloadSegment
  split
  · exact refuse_within.mono rfl
  · exact refuse_within.mono rfl
  · refine Within.ite_fst ?_ ?_
    · exact State.refuseFreely_within.mono rfl
    · split
      · exact refuse_within.mono rfl
      · exact State.joinSegment_within.mono rfl

theorem State.openStream_within {r : Req} {q : ℕ} {s : State} : Within [Part.access, .counters, .trip, .panel] s
    (State.openStream r q s).1 := by
  unfold State.openStream
  dsimp only
  split
  · exact Within.refl _ _
  · refine Within.ite_fst ?_ ?_
    · refine Within.fst_mk ?_
      exact State.refuseFreely_within.mono rfl
    · split
      · refine Within.fst_mk ?_
        exact State.claimReader_within.mono rfl
      · refine Within.ite_fst ?_ ?_
        · refine Within.fst_mk ?_
          refine Within.after ?_ State.readQueue_within rfl
          exact State.claimReader_within.mono rfl
        · refine Within.fst_mk ?_
          refine Within.after ?_ State.readQueue_within rfl
          exact State.claimReader_within.mono rfl

theorem State.openUpload_within {r : Req} {i : ℕ} {sub : ℕ} {s : State} : Within [Part.access, .counters, .trip, .panel] s
    (State.openUpload r i sub s).1 := by
  unfold State.openUpload
  split
  · exact Within.refl _ _
  · exact Within.refl _ _
  · refine Within.ite_fst ?_ ?_
    · exact Within.refl _ _
    · refine Within.ite_fst ?_ ?_
      · exact Within.refl _ _
      · refine Within.ite_fst ?_ ?_
        · refine Within.fst_mk ?_
          exact State.refuseFreely_within.mono rfl
        · split
          · exact Within.refl _ _
          · refine Within.ite_fst ?_ ?_
            · exact State.openStream_within.mono rfl
            · exact Within.refl _ _

theorem State.takeUploaded_within {i : ℕ} {upTo : Option U32} {s : State} : Within [Part.access, .counters, .trip, .panel] s
    (State.takeUploaded i upTo s) := by
  unfold State.takeUploaded
  split
  · exact Within.refl _ _
  · refine Within.ite ?_ ?_
    · refine Within.after ?_ State.drainAll_within rfl
      exact State.onStream_within.mono rfl
    · exact State.onStream_within.mono rfl

theorem State.sendSegment_within {t : Transfer} {s : State} : Within [Part.access, .counters, .trip, .panel] s
    (State.sendSegment t s).1 := by
  unfold State.sendSegment
  refine Within.ite_fst ?_ ?_
  · refine Within.fst_mk ?_
    refine Within.after ?_ State.takeUploaded_within rfl
    refine Within.after ?_ State.endTransfer_within rfl
    refine Within.ite ?_ ?_
    · exact State.onStream_within.mono rfl
    · exact Within.refl _ _
  · refine Within.fst_mk ?_
    refine Within.after ?_ State.holdTransfer_within rfl
    refine Within.ite ?_ ?_
    · exact State.onStream_within.mono rfl
    · exact Within.refl _ _

theorem State.uploadSegment_within {r : Req} {i : ℕ} {sub : ℕ} {first : Bool} {s : State} : Within [Part.access, .counters,
    .trip, .panel] s (State.uploadSegment r i sub first s).1 := by
  unfold State.uploadSegment
  refine Within.ite_fst ?_ ?_
  · dsimp only
    split
    · refine Within.fst_mk ?_
      exact State.openUpload_within.mono rfl
    · refine Within.after ?_ State.sendSegment_within rfl
      exact State.openUpload_within.mono rfl
  · split
    · exact refuse_within.mono rfl
    · refine Within.ite_fst ?_ ?_
      · exact refuse_within.mono rfl
      · exact State.sendSegment_within.mono rfl

theorem domainDownload_within {r : Req} {i : ℕ} {sub : ℕ} {first : Bool} {last : Bool} {offset : ℕ} {total : ℕ} {data :
    Bytes} {s : State} : Within [Part.access, .clock, .update, .counters, .trip, .panel, .settings, .gnss, .pair, .cells,
    .ledger, .routes, .keys, .custody, .power, .lanes] s (domainDownload r i sub first last offset total data s) := by
  unfold domainDownload
  refine State.serve_within (fun _ => ?_) ?_ rfl
  · exact State.downloadSegment_within.mono rfl
  · exact Within.refl _ _

theorem domainUpload_within {r : Req} {i : ℕ} {sub : ℕ} {first : Bool} {s : State} : Within [Part.access, .clock, .update,
    .counters, .trip, .panel] s (domainUpload r i sub first s) := by
  unfold domainUpload
  refine State.serve_within (fun _ => ?_) ?_ rfl
  · exact State.uploadSegment_within.mono rfl
  · exact Within.refl _ _

theorem execDomainDownloadSegment_within {r : Req} {index : ℕ} {sub : ℕ} {first : Bool} {last : Bool} {offset : ℕ} {total :
    ℕ} {data : Bytes} {s : State} : Within.post [Part.access, .clock, .update, .counters, .trip, .panel, .settings, .gnss,
    .pair, .cells, .ledger, .routes, .keys, .custody, .power, .lanes] s (execDomainDownloadSegment r index sub first last
    offset total data s) := by
  unfold execDomainDownloadSegment
  refine running_within (fun _ => ?_) ?_ rfl
  · exact domainDownload_within.mono rfl
  · exact Within.refl _ _

theorem execDomainUploadSegment_within {r : Req} {index : ℕ} {sub : ℕ} {first : Bool} {s : State} : Within.post
    [Part.access, .clock, .update, .counters, .trip, .panel] s (execDomainUploadSegment r index sub first s) := by
  unfold execDomainUploadSegment
  refine running_within (fun _ => ?_) ?_ rfl
  · exact domainUpload_within.mono rfl
  · exact Within.refl _ _

theorem transferTimeout_within {i : ℕ} {sub : ℕ} {s : State} : Within [Part.access] s (transferTimeout i sub s) := by
  unfold transferTimeout
  split
  · refine Within.ite ?_ ?_
    · exact State.abortTransfer_within.mono rfl
    · exact Within.refl _ _
  · exact Within.refl _ _

theorem execTransferSegmentTimeout_within {index : ℕ} {sub : ℕ} {s : State} : Within.post [Part.access] s
    (execTransferSegmentTimeout index sub s) := by
  unfold execTransferSegmentTimeout
  refine running_within (fun _ => ?_) ?_ rfl
  · exact transferTimeout_within.mono rfl
  · exact Within.refl _ _

end Sys2Proof.Machine
end

