-- ==== Sys2Proof/Laws/Downlink.lean ====
section
/-! SUPPORT. What each operation of Machine/Downlink.lean may change: the parts listed, what goes out, and the free values drawn. -/

namespace Sys2Proof.Machine

theorem State.onCw_within {c : ℕ} {f : Carriageway → Carriageway} {s : State} : Within [Part.air] s (State.onCw c f s) :=
  within_air rfl

theorem State.relayUpdate_within {n : ℕ} {s : State} : Within [Part.airLanes] s (State.relayUpdate n s) := by
  unfold State.relayUpdate
  refine Within.ite ?_ ?_
  · exact Within.refl _ _
  · refine Within.after ?_ State.onAirLane_within rfl
    exact State.tell_within.mono rfl

theorem State.routeUpdate_within {n : ℕ} {s : State} : Within [Part.airLanes, .routes] s (State.routeUpdate n s) := by
  unfold State.routeUpdate
  refine Within.ite ?_ ?_
  · exact Within.refl _ _
  · refine Within.after ?_ State.onRoute_within rfl
    refine Within.foldl (fun _ _ => ?_) ?_
    · exact State.tell_within.mono rfl
    · refine Within.ite ?_ ?_
      · exact Within.refl _ _
      · exact State.configure_within.mono rfl

theorem State.lanesDue_within {s : State} : Within [Part.airLanes, .routes] s (State.lanesDue s) := by
  unfold State.lanesDue
  refine Within.ite ?_ ?_
  · exact Within.refl _ _
  · refine Within.foldl (fun _ _ => ?_) ?_
    · refine Within.ite ?_ ?_
      · refine Within.after ?_ State.relayUpdate_within rfl
        exact State.routeUpdate_within.mono rfl
      · exact Within.refl _ _
    · exact Within.refl _ _

theorem State.retune_within {s : State} : Within [Part.air] s (State.retune s) :=
  within_air rfl

theorem State.nextVerge_within {s : State} : Within [Part.air, .clock, .counters] s (State.nextVerge s) := by
  unfold State.nextVerge
  split
  · exact State.retune_within.mono rfl
  · refine Within.ite ?_ ?_
    · refine Within.after ?_ State.beginVerge_within rfl
      refine Within.trans ?_ (within_air rfl)
      refine Within.after ?_ State.retune_within rfl
      refine Within.after ?_ State.stamped_within rfl
      exact within_air rfl
    · refine Within.after ?_ State.beginVerge_within rfl
      refine Within.after ?_ State.retune_within rfl
      refine Within.after ?_ State.stamped_within rfl
      exact within_air rfl

theorem State.sentItem_within {c : ℕ} {s : State} {x : DownItem} : Within [Part.reference, .air, .airLanes] s
    (State.sentItem c s x) := by
  unfold State.sentItem
  split
  · refine Within.ite ?_ ?_
    · exact within_reference rfl
    · exact Within.refl _ _
  · exact State.onCw_within.mono rfl
  · exact State.onAirLane_within.mono rfl
  · exact State.onAirLane_within.mono rfl
  · refine Within.foldl (fun _ _ => ?_) ?_
    · exact State.onAirLane_within.mono rfl
    · exact Within.refl _ _
  · exact Within.refl _ _

theorem State.skip_within {c : ℕ} {s : State} : Within [Part.air, .airLanes, .access, .counters, .trip, .panel] s
    (State.skip c s) := by
  unfold State.skip
  refine Within.after ?_ State.trigger_within rfl
  refine Within.ite ?_ ?_
  · refine Within.after ?_ State.raise_within rfl
    refine Within.foldl (fun _ _ => ?_) ?_
    · refine Within.ite ?_ ?_
      · exact State.onAirLane_within.mono rfl
      · exact Within.refl _ _
    · exact State.onCw_within.mono rfl
  · refine Within.foldl (fun _ _ => ?_) ?_
    · refine Within.ite ?_ ?_
      · exact State.onAirLane_within.mono rfl
      · exact Within.refl _ _
    · exact State.onCw_within.mono rfl

theorem State.unicasts_within {items : List DownItem} {s : State} : Within [.airLanes] s (State.unicasts items s).2 :=
  Within.foldl_snd (fun _ _ => State.drawUnicast_within.mono rfl) (Within.refl _ _)

theorem State.transmit_within {c : ℕ} {delta : ℕ} {s : State} : Within [Part.airLanes, .air, .reference, .counters, .access,
    .trip, .panel] s (State.transmit c delta s) := by
  unfold State.transmit
  refine Within.ite ?_ ?_
  · refine Within.after ?_ State.occupy_within rfl
    refine Within.after ?_ State.count_within rfl
    refine Within.after ?_ State.count_within rfl
    refine Within.after ?_ State.emit_within rfl
    refine Within.after ?_ State.draw_within rfl
    refine Within.trans ?_ (within_air rfl)
    refine Within.ite ?_ ?_
    · refine Within.after ?_ State.onCw_within rfl
      refine Within.foldl (fun _ _ => ?_) ?_
      · exact State.sentItem_within.mono rfl
      · refine Within.after ?_ State.drawBroadcast_within rfl
        refine Within.after ?_ State.unicasts_within rfl
        refine Within.foldl (fun _ _ => ?_) ?_
        · exact State.onAirLane_within.mono rfl
        · exact Within.refl _ _
    · refine Within.after ?_ State.linesOpen_within rfl
      refine Within.after ?_ State.onCw_within rfl
      refine Within.foldl (fun _ _ => ?_) ?_
      · exact State.sentItem_within.mono rfl
      · refine Within.after ?_ State.drawBroadcast_within rfl
        refine Within.after ?_ State.unicasts_within rfl
        refine Within.foldl (fun _ _ => ?_) ?_
        · exact State.onAirLane_within.mono rfl
        · exact Within.refl _ _
  · refine Within.after ?_ State.raise_within rfl
    refine Within.after ?_ State.occupy_within rfl
    refine Within.after ?_ State.count_within rfl
    refine Within.after ?_ State.count_within rfl
    refine Within.after ?_ State.emit_within rfl
    refine Within.after ?_ State.draw_within rfl
    refine Within.trans ?_ (within_air rfl)
    refine Within.ite ?_ ?_
    · refine Within.after ?_ State.onCw_within rfl
      refine Within.foldl (fun _ _ => ?_) ?_
      · exact State.sentItem_within.mono rfl
      · refine Within.after ?_ State.drawBroadcast_within rfl
        refine Within.after ?_ State.unicasts_within rfl
        refine Within.foldl (fun _ _ => ?_) ?_
        · exact State.onAirLane_within.mono rfl
        · exact Within.refl _ _
    · refine Within.after ?_ State.linesOpen_within rfl
      refine Within.after ?_ State.onCw_within rfl
      refine Within.foldl (fun _ _ => ?_) ?_
      · exact State.sentItem_within.mono rfl
      · refine Within.after ?_ State.drawBroadcast_within rfl
        refine Within.after ?_ State.unicasts_within rfl
        refine Within.foldl (fun _ _ => ?_) ?_
        · exact State.onAirLane_within.mono rfl
        · exact Within.refl _ _

theorem ccaDone_within {c : ℕ} {energy : ℤ} {s : State} : Within [Part.clock, .airLanes, .air, .reference, .counters,
    .access, .trip, .panel] s (ccaDone c energy s) := by
  unfold ccaDone
  refine Within.ite ?_ ?_
  · exact Within.refl _ _
  · refine Within.ite ?_ ?_
    · refine Within.after ?_ State.transmit_within rfl
      exact State.stamped_within.mono rfl
    · refine Within.ite ?_ ?_
      · refine Within.after ?_ State.onCw_within rfl
        refine Within.after ?_ State.draw_within rfl
        exact State.stamped_within.mono rfl
      · refine Within.after ?_ State.skip_within rfl
        exact State.stamped_within.mono rfl

theorem downlinkRetransmit_within {n : ℕ} {msn : ℕ} {s : State} : Within [Part.airLanes, .access, .counters, .trip, .panel]
    s (downlinkRetransmit n msn s) := by
  unfold downlinkRetransmit
  split
  · exact Within.refl _ _
  · refine Within.ite ?_ ?_
    · exact Within.refl _ _
    · refine Within.ite ?_ ?_
      · exact State.onAirLane_within.mono rfl
      · refine Within.after ?_ State.raise_within rfl
        exact State.onAirLane_within.mono rfl

theorem execCcaObservationDone_within {cw : ℕ} {energy : ℤ} {s : State} : Within.post [Part.clock, .airLanes, .air,
    .reference, .counters, .access, .trip, .panel] s (execCcaObservationDone cw energy s) := by
  unfold execCcaObservationDone
  refine running_within (fun _ => ?_) ?_ rfl
  · exact ccaDone_within.mono rfl
  · exact Within.refl _ _

theorem vergeBeacon_within {s : State} : Within [Part.air, .clock, .counters] s (vergeBeacon s) := by
  unfold vergeBeacon
  refine Within.ite ?_ ?_
  · exact Within.refl _ _
  · refine Within.after ?_ State.sendVerge_within rfl
    refine Within.after ?_ State.stamped_within rfl
    exact within_air rfl

theorem execVergeStageBeacon_within {s : State} : Within.post [Part.air, .clock, .counters] s (execVergeStageBeacon s) := by
  unfold execVergeStageBeacon
  refine running_within (fun _ => ?_) ?_ rfl
  · exact vergeBeacon_within.mono rfl
  · exact Within.refl _ _

theorem execDownlinkRetransmit_within {lane : ℕ} {msn : ℕ} {s : State} : Within.post [Part.airLanes, .access, .counters,
    .trip, .panel] s (execDownlinkRetransmit lane msn s) := by
  unfold execDownlinkRetransmit
  refine running_within (fun _ => ?_) ?_ rfl
  · exact downlinkRetransmit_within.mono rfl
  · exact Within.refl _ _

theorem vergeEnd_within {us : ℕ} {s : State} : Within [Part.clock, .air, .access, .counters, .trip, .panel] s (vergeEnd us
    s) := by
  unfold vergeEnd
  split
  · exact Within.refl _ _
  · refine Within.ite ?_ ?_
    · refine Within.after ?_ State.nextVerge_within rfl
      refine Within.after ?_ State.addDuty_within rfl
      refine Within.after ?_ State.vergeLines_within rfl
      refine Within.trans ?_ (within_air rfl)
      refine Within.after ?_ State.linesClose_within rfl
      exact State.stamped_within.mono rfl
    · refine Within.after ?_ State.addDuty_within rfl
      refine Within.after ?_ State.vergeLines_within rfl
      refine Within.trans ?_ (within_air rfl)
      refine Within.after ?_ State.linesClose_within rfl
      exact State.stamped_within.mono rfl

theorem execVergeTransmissionEnd_within {durationUs : ℕ} {s : State} : Within.post [Part.clock, .air, .access, .counters,
    .trip, .panel] s (execVergeTransmissionEnd durationUs s) := by
  unfold execVergeTransmissionEnd
  refine running_within (fun _ => ?_) ?_ rfl
  · exact vergeEnd_within.mono rfl
  · exact Within.refl _ _

end Sys2Proof.Machine
end

