-- ==== Sys2Proof/Laws/Sessions.lean ====
section
/-! SUPPORT. What each operation of Machine/Sessions.lean may change: the parts listed, what goes out, and the free values drawn. -/

namespace Sys2Proof.Machine

theorem State.accept_within {h : Handshake} {secret : Bytes} {roles : ℕ} {s : State} : Within [Part.access, .keys] s
    (State.accept h secret roles s) := by
  unfold State.accept
  refine Within.after ?_ State.emit_within rfl
  exact within_access_keys rfl rfl ⟨rfl, rfl, rfl, rfl, rfl, rfl⟩

theorem State.closeSession_within {k : ℕ} {s : State} : Within [Part.access] s (State.closeSession k s) := by
  unfold State.closeSession
  refine Within.trans ?_ (within_access rfl)
  exact State.releaseReader_within.mono rfl

theorem State.greet_within {port : ℕ} {slot : ℕ} {roles : ℕ} {key : Bytes} {nonce : Bytes} {s : State} : Within
    [Part.access] s (State.greet port slot roles key nonce s) := by
  unfold State.greet
  refine Within.after ?_ State.emit_within rfl
  refine Within.trans ?_ (within_access rfl)
  refine Within.after ?_ State.freeBytes_within rfl
  refine Within.after ?_ State.freeBytes_within rfl
  exact State.freeBytes_within.mono rfl

theorem State.leave_within {o : Origin} {s : State} : Within [Part.access] s (State.leave o s) := by
  unfold State.leave
  split
  · exact State.closeSession_within.mono rfl
  · refine Within.trans ?_ (within_access rfl)
    exact State.releaseReader_within.mono rfl

theorem State.operation_within {r : Req} {op : ℕ} {flags : ℕ} {index : ℕ} {sub : ℕ} {data : Bytes} {s : State} : Within
    [Part.access, .counters, .panel, .trip, .power, .time, .lanes, .halt, .air, .pair, .reference, .chain, .keys, .custody,
    .update, .due, .cells, .ledger, .routes, .settings, .gnss] s (State.operation r op flags index sub data s).1 := by
  unfold State.operation
  dsimp only
  split
  · exact State.readEntry_within.mono rfl
  · refine State.checkedWrite_within (fun _ => ?_) ?_ rfl
    · exact State.writeEntry_within.mono rfl
    · exact Within.refl _ _
  · exact State.batchBytes_within.mono rfl
  · exact State.downloadSegment_within.mono rfl
  · exact State.uploadSegment_within.mono rfl
  · exact State.pullStream_within.mono rfl
  · exact State.claimStream_within.mono rfl
  · exact State.releaseStream_within.mono rfl
  · exact State.giveStreamKey_within.mono rfl
  · exact confirm_within.mono rfl
  · refine Within.after ?_ confirm_within rfl
    exact State.leave_within.mono rfl
  · exact refuse_within.mono rfl

theorem State.portTick_within {s : State} : Within [Part.access] s (State.portTick s) := by
  unfold State.portTick
  refine Within.foldl (fun _ _ => ?_) ?_
  · exact State.closeSession_within.mono rfl
  · exact Within.refl _ _

theorem State.reject_within {port : ℕ} {reason : ℕ} {s : State} : Within [] s (State.reject port reason s) :=
  State.emit_within.mono rfl

theorem clientProof_within {k : ℕ} {signature : Bytes} {s : State} : Within [Part.access, .keys] s (clientProof k signature
    s) := by
  unfold clientProof
  split
  · exact Within.refl _ _
  · split
    · exact State.accept_within.mono rfl
    · exact within_access rfl

theorem close_within {r : Req} {s : State} : Within [.access, .clock, .update] s (close r s) := by
  have h := State.admitted_within (r := r) (s := s)
  unfold close
  revert h
  cases s.admitted r with
  | closed t => exact fun h => h.mono rfl
  | go t => exact fun h => ((h.mono rfl).trans (State.answer_within.mono rfl)).trans (State.leave_within.mono rfl)

theorem dictionaryRequest_within {f : ServiceHead} {id : ℕ} {op : ℕ} {flags : ℕ} {index : ℕ} {sub : ℕ} {data : Bytes} {s :
    State} : Within [Part.update, .access, .clock, .counters, .panel, .trip, .power, .time, .lanes, .halt, .air, .pair,
    .reference, .chain, .keys, .custody, .due, .cells, .ledger, .routes, .settings, .gnss] s (dictionaryRequest f id op
    flags index sub data s) := by
  unfold dictionaryRequest
  refine State.service_within (fun _ => ?_) ?_ rfl
  · refine State.serve_within (fun _ => ?_) ?_ rfl
    · exact State.operation_within.mono rfl
    · exact within_update rfl
  · exact Within.refl _ _

theorem establishTimeout_within {k : ℕ} {s : State} : Within [Part.access] s (establishTimeout k s) := by
  unfold establishTimeout
  split
  · refine Within.ite ?_ ?_
    · exact within_access rfl
    · exact Within.refl _ _
  · exact Within.refl _ _

theorem execDictionaryRequest_within {f : ServiceHead} {id op flags : ℕ} {entry : EntryName} {data : Bytes} {s : State} :
    Within.post [Part.update, .access, .clock, .counters, .panel, .trip, .power, .time, .lanes, .halt, .air, .pair, .reference,
    .chain, .keys, .custody, .due, .cells, .ledger, .routes, .settings, .gnss] s (execDictionaryRequest f id op flags entry data
    s) := by
  unfold execDictionaryRequest
  refine serving_within (fun _ => ?_) ?_ rfl
  · exact dictionaryRequest_within.mono rfl
  · exact Within.refl _ _

theorem hello_within {port : ℕ} {version : ℕ} {slot : ℕ} {roles : ℕ} {key : Bytes} {nonce : Bytes} {s : State} : Within
    [Part.access] s (hello port version slot roles key nonce s) := by
  unfold hello
  refine Within.ite ?_ ?_
  · exact Within.refl _ _
  · split
    · exact State.reject_within.mono rfl
    · exact State.greet_within.mono rfl

theorem execHello_within {port version slot roles : ℕ} {share : HelloShare} {s : State} : Within.post [Part.access] s (execHello
    port version slot roles share s) := by
  unfold execHello
  refine running_within (fun _ => ?_) ?_ rfl
  · exact hello_within.mono rfl
  · exact Within.refl _ _

theorem execClientProof_within {session : ℕ} {signature : Bytes} {s : State} : Within.post [Part.access, .keys] s
    (execClientProof session signature s) := by
  unfold execClientProof
  refine running_within (fun _ => ?_) ?_ rfl
  · exact clientProof_within.mono rfl
  · exact Within.refl _ _

theorem execSessionEstablishTimeout_within {session : ℕ} {s : State} : Within.post [Part.access] s
    (execSessionEstablishTimeout session s) := by
  unfold execSessionEstablishTimeout
  refine running_within (fun _ => ?_) ?_ rfl
  · exact establishTimeout_within.mono rfl
  · exact Within.refl _ _

theorem idleTimeout_within {k : ℕ} {s : State} : Within [Part.access] s (idleTimeout k s) := by
  unfold idleTimeout
  split
  · refine Within.ite ?_ ?_
    · exact State.closeSession_within.mono rfl
    · exact Within.refl _ _
  · exact Within.refl _ _

theorem execSessionIdleTimeout_within {session : ℕ} {s : State} : Within.post [Part.access] s (execSessionIdleTimeout
    session s) := by
  unfold execSessionIdleTimeout
  refine running_within (fun _ => ?_) ?_ rfl
  · exact idleTimeout_within.mono rfl
  · exact Within.refl _ _

theorem keepalive_within {r : Req} {s : State} : Within [Part.access, .clock, .update] s (keepalive r s) := by
  unfold keepalive
  refine State.serve_within (fun _ => ?_) ?_ rfl
  · exact confirm_within.mono rfl
  · exact Within.refl _ _

theorem execKeepalive_within {r : Req} {s : State} : Within.post [Part.access, .clock, .update] s (execKeepalive r s) := by
  unfold execKeepalive
  refine running_within (fun _ => ?_) ?_ rfl
  · exact keepalive_within.mono rfl
  · exact Within.refl _ _

theorem execClose_within {r : Req} {s : State} : Within.post [Part.access, .clock, .update] s (execClose r s) := by
  unfold execClose
  refine running_within (fun _ => ?_) ?_ rfl
  · exact close_within.mono rfl
  · exact Within.refl _ _

end Sys2Proof.Machine
end

