-- ==== Sys2Proof/Laws/Uplink.lean ====
section
/-! SUPPORT. What each operation of Machine/Uplink.lean may change: the parts listed, what goes out, and the free values drawn. -/

namespace Sys2Proof.Machine

theorem State.keysAcked_within {n : ℕ} {v : Bytes} {s : State} : Within [Part.airLanes, .due, .routes] s (State.keysAcked n
    v s) := by
  unfold State.keysAcked
  refine Within.ite ?_ ?_
  · refine Within.after ?_ State.onRoute_within rfl
    split
    · exact Within.refl _ _
    · refine Within.ite ?_ ?_
      · refine Within.after ?_ State.configure_within rfl
        refine Within.trans ?_ (within_due rfl)
        exact State.onAirLane_within.mono rfl
      · exact State.onAirLane_within.mono rfl
  · split
    · exact Within.refl _ _
    · refine Within.ite ?_ ?_
      · refine Within.after ?_ State.configure_within rfl
        refine Within.trans ?_ (within_due rfl)
        exact State.onAirLane_within.mono rfl
      · exact State.onAirLane_within.mono rfl

theorem State.acknowledged_within {n : ℕ} {msn : ℕ} {result : ℕ} {s : State} : Within [Part.airLanes, .due, .routes] s
    (State.acknowledged n msn result s) := by
  unfold State.acknowledged
  split
  · exact Within.refl _ _
  · refine Within.ite ?_ ?_
    · exact State.onAirLane_within.mono rfl
    · split
      · refine Within.after ?_ State.keysAcked_within rfl
        exact State.onAirLane_within.mono rfl
      · refine Within.after ?_ State.onAirLane_within rfl
        exact State.onAirLane_within.mono rfl
      · refine Within.trans ?_ (within_due rfl)
        exact State.onAirLane_within.mono rfl
      · exact State.onAirLane_within.mono rfl

theorem State.admissionRequest_within {n : ℕ} {v : Bytes} {s : State} : Within [Part.airLanes, .due] s
    (State.admissionRequest n v s) := by
  unfold State.admissionRequest
  refine Within.ite ?_ ?_
  · refine Within.after ?_ State.onAirLane_within rfl
    exact State.onAirLane_within.mono rfl
  · refine Within.ite ?_ ?_
    · refine Within.after ?_ State.onAirLane_within rfl
      exact within_due rfl
    · exact State.onAirLane_within.mono rfl

theorem State.classifySlot_within {n : ℕ} {s : State} : Within [Part.airLanes, .access, .counters, .trip, .panel] s
    (State.classifySlot n s) := by
  unfold State.classifySlot
  refine Within.ite ?_ ?_
  · refine Within.ite ?_ ?_
    · refine Within.after ?_ State.raise_within rfl
      refine Within.after ?_ State.onAirLane_within rfl
      exact State.onAirLane_within.mono rfl
    · refine Within.after ?_ State.onAirLane_within rfl
      exact State.onAirLane_within.mono rfl
  · refine Within.ite ?_ ?_
    · refine Within.after ?_ State.onAirLane_within rfl
      exact State.onAirLane_within.mono rfl
    · refine Within.ite ?_ ?_
      · refine Within.after ?_ State.trigger_within rfl
        refine Within.after ?_ State.raise_within rfl
        refine Within.after ?_ State.onAirLane_within rfl
        refine Within.after ?_ State.onAirLane_within rfl
        exact State.onAirLane_within.mono rfl
      · refine Within.after ?_ State.onAirLane_within rfl
        exact State.onAirLane_within.mono rfl

theorem State.classifySlots_within {s : State} : Within [Part.airLanes, .access, .counters, .trip, .panel] s
    (State.classifySlots s) := by
  unfold State.classifySlots
  refine Within.ite ?_ ?_
  · exact Within.refl _ _
  · refine Within.foldl (fun _ _ => ?_) ?_
    · exact State.classifySlot_within.mono rfl
    · exact Within.refl _ _

theorem State.excursion_within {n : ℕ} {east : ℤ} {north : ℤ} {s : State} : Within [Part.ledger, .access, .counters, .trip,
    .panel] s (State.excursion n east north s) := by
  unfold State.excursion
  refine Within.ite ?_ ?_
  · exact Within.refl _ _
  · refine Within.after ?_ State.trigger_within rfl
    refine Within.after ?_ State.raise_within rfl
    exact within_ledger rfl

theorem State.telemetry_within {n : ℕ} {v : Bytes} {s : State} : Within [Part.lanes, .airLanes, .access, .counters, .trip,
    .panel, .ledger] s (State.telemetry n v s) := by
  unfold State.telemetry
  refine Within.ite ?_ ?_
  · exact Within.refl _ _
  · refine Within.after ?_ State.excursion_within rfl
    refine Within.after ?_ State.pushTelemetry_within rfl
    refine Within.after ?_ State.onAirLane_within rfl
    exact State.onLane_within.mono rfl

theorem State.selfStopReport_within {n : ℕ} {v : Bytes} {s : State} : Within [Part.airLanes, .access, .counters, .trip,
    .panel, .due] s (State.selfStopReport n v s) := by
  unfold State.selfStopReport
  refine Within.trans ?_ (within_due rfl)
  refine Within.after ?_ State.raise_within rfl
  exact State.onAirLane_within.mono rfl

theorem State.executeMessage_within {n : ℕ} {generation : ℕ} {e : Element} {s : State} : Within [Part.airLanes, .access,
    .counters, .trip, .panel, .due] s (State.executeMessage n generation e s).1 := by
  unfold State.executeMessage
  split
  · exact Within.refl _ _
  · exact Within.refl _ _
  · refine Within.fst_mk ?_
    exact State.selfStopReport_within.mono rfl
  · exact Within.refl _ _

theorem State.nextMessage_within {n : ℕ} {generation : ℕ} {e : Element} {s : State} : Within [Part.airLanes, .access,
    .counters, .trip, .panel, .due] s (State.nextMessage n generation e s) := by
  unfold State.nextMessage
  refine Within.after ?_ State.onAirLane_within rfl
  exact State.executeMessage_within.mono rfl

theorem State.heldMessages_within {n generation k : Nat} {s : State} :
    Within [.airLanes, .access, .counters, .trip, .panel, .due] s (State.heldMessages n generation k s) := by
  induction k generalizing s with
  | zero => exact Within.refl _ _
  | succ k ih =>
    unfold State.heldMessages
    split
    · exact Within.refl _ _
    · exact ((State.onAirLane_within.mono rfl).trans (State.nextMessage_within.mono rfl)).trans ih

theorem State.message_within {n : ℕ} {generation : ℕ} {e : Element} {s : State} : Within [Part.airLanes, .access, .counters,
    .trip, .panel, .due] s (State.message n generation e s) := by
  unfold State.message
  refine Within.ite ?_ ?_
  · refine Within.after ?_ State.heldMessages_within rfl
    exact State.nextMessage_within.mono rfl
  · refine Within.ite ?_ ?_
    · refine Within.ite ?_ ?_
      · exact Within.refl _ _
      · exact State.onAirLane_within.mono rfl
    · refine Within.ite ?_ ?_
      · exact State.onAirLane_within.mono rfl
      · exact State.onAirLane_within.mono rfl

theorem State.element_within {n : ℕ} {generation : ℕ} {own : Bool} {s : State} {e : Element} : Within [Part.airLanes, .due,
    .lanes, .access, .counters, .trip, .panel, .ledger, .checkpoint, .routes] s (State.element n generation own s e) := by
  unfold State.element
  split
  · exact State.admissionRequest_within.mono rfl
  · refine Within.ite ?_ ?_
    · exact State.telemetry_within.mono rfl
    · exact Within.refl _ _
  · refine Within.ite ?_ ?_
    · exact State.segment_within.mono rfl
    · exact Within.refl _ _
  · exact State.acknowledged_within.mono rfl
  · refine Within.ite ?_ ?_
    · exact State.message_within.mono rfl
    · exact Within.refl _ _

theorem State.heardSlot_within {n : ℕ} {s : State} : Within [Part.airLanes] s (State.heardSlot n s) :=
  State.onAirLane_within.mono rfl

theorem State.markWindow_within {n : ℕ} {generation : ℕ} {x : ℤ} {s : State} : Within [Part.airLanes] s (State.markWindow n
    generation x s) :=
  State.onAirLane_within.mono rfl

theorem State.takeFrame_within {n : ℕ} {f : AirFrame} {x : ℤ} {owned : Option ℕ} {contention : Bool} {c : ℕ} {s : State} :
    Within [Part.airLanes, .air, .counters, .pair, .due, .lanes, .access, .trip, .panel, .ledger, .checkpoint, .routes] s
    (State.takeFrame n f x owned contention c s) := by
  unfold State.takeFrame
  refine Within.ite ?_ ?_
  · refine Within.after ?_ State.heardSlot_within rfl
    refine Within.foldl (fun _ _ => ?_) ?_
    · exact State.element_within.mono rfl
    · refine Within.after ?_ State.mirror_within rfl
      refine Within.after ?_ State.count_within rfl
      refine Within.ite ?_ ?_
      · refine Within.after ?_ State.onCw_within rfl
        refine Within.after ?_ State.onAirLane_within rfl
        exact State.markWindow_within.mono rfl
      · refine Within.after ?_ State.onAirLane_within rfl
        exact State.markWindow_within.mono rfl
  · refine Within.foldl (fun _ _ => ?_) ?_
    · exact State.element_within.mono rfl
    · refine Within.after ?_ State.mirror_within rfl
      refine Within.after ?_ State.count_within rfl
      refine Within.ite ?_ ?_
      · refine Within.after ?_ State.onCw_within rfl
        refine Within.after ?_ State.onAirLane_within rfl
        exact State.markWindow_within.mono rfl
      · refine Within.after ?_ State.onAirLane_within rfl
        exact State.markWindow_within.mono rfl

theorem State.judgeFrame_within {n : ℕ} {f : AirFrame} {owned : Option ℕ} {contention : Bool} {c : ℕ} {s : State} : Within
    [Part.airLanes, .air, .access, .counters, .trip, .panel, .pair, .due, .lanes, .ledger, .checkpoint, .routes] s
    (State.judgeFrame n f owned contention c s) := by
  unfold State.judgeFrame
  refine Within.ite ?_ ?_
  · exact State.onAirLane_within.mono rfl
  · refine Within.ite ?_ ?_
    · refine Within.ite ?_ ?_
      · exact State.hearEpoch_within.mono rfl
      · exact Within.refl _ _
    · refine Within.ite ?_ ?_
      · exact State.onAirLane_within.mono rfl
      · refine Within.ite ?_ ?_
        · exact State.onAirLane_within.mono rfl
        · refine Within.ite ?_ ?_
          · exact State.onAirLane_within.mono rfl
          · refine Within.ite ?_ ?_
            · exact State.onAirLane_within.mono rfl
            · exact State.takeFrame_within.mono rfl

theorem State.uplinkFrame_within {c : ℕ} {slot : ℕ} {p : Ppdu} {f : AirFrame} {s : State} : Within [Part.airLanes, .air,
    .access, .counters, .trip, .panel, .pair, .due, .lanes, .ledger, .checkpoint, .routes] s (State.uplinkFrame c slot p f
    s) := by
  unfold State.uplinkFrame
  refine Within.ite ?_ ?_
  · exact Within.refl _ _
  · refine Within.ite ?_ ?_
    · refine Within.ite ?_ ?_
      · exact State.onAirLane_within.mono rfl
      · exact Within.refl _ _
    · refine Within.ite ?_ ?_
      · exact within_air rfl
      · refine Within.ite ?_ ?_
        · exact State.onAirLane_within.mono rfl
        · exact State.judgeFrame_within.mono rfl

theorem uplinkReceive_within {c : ℕ} {p : Ppdu} {psdu : Bytes} {s : State} : Within [Part.clock, .air, .counters, .airLanes,
    .access, .trip, .panel, .pair, .due, .lanes, .ledger, .checkpoint, .routes] s (uplinkReceive c p psdu s) := by
  unfold uplinkReceive
  refine Within.ite ?_ ?_
  · exact Within.refl _ _
  · split
    · exact Within.refl _ _
    · refine Within.ite ?_ ?_
      · refine Within.after ?_ State.onCw_within rfl
        exact State.stamped_within.mono rfl
      · dsimp only
        split
        · refine Within.after ?_ State.occupy_within rfl
          refine Within.after ?_ State.count_within rfl
          exact State.stamped_within.mono rfl
        · refine Within.after ?_ State.uplinkFrame_within rfl
          refine Within.after ?_ State.occupy_within rfl
          refine Within.after ?_ State.count_within rfl
          exact State.stamped_within.mono rfl

theorem execUplinkFrameReceive_within {cw : ℕ} {ppdu : Ppdu} {psdu : Bytes} {s : State} : Within.post [Part.clock, .air,
    .counters, .airLanes, .access, .trip, .panel, .pair, .due, .lanes, .ledger, .checkpoint, .routes] s
    (execUplinkFrameReceive cw ppdu psdu s) := by
  unfold execUplinkFrameReceive
  refine running_within (fun _ => ?_) ?_ rfl
  · exact uplinkReceive_within.mono rfl
  · exact Within.refl _ _

end Sys2Proof.Machine
end

