-- ==== Sys2Proof/Laws/Boundary.lean ====
section
/-! SUPPORT. What each operation of Machine/Boundary.lean may change: the parts listed, what goes out, and the free values drawn. -/

namespace Sys2Proof.Machine

theorem State.agcSlice_within {rms : List (ℕ × ℕ)} {s : State} : Within [Part.gnss, .access, .counters, .trip, .panel] s
    (State.agcSlice rms s) := by
  unfold State.agcSlice
  refine Within.after ?_ State.captureSlice_within rfl
  refine Within.foldl (fun _ _ => ?_) ?_
  · exact State.agc_within.mono rfl
  · exact Within.refl _ _

theorem State.decideLanes_within {s : State} : Within [Part.due, .lanes, .access, .counters, .trip, .panel, .routes,
    .ledger, .checkpoint, .airLanes, .cells, .keys, .guests, .settings, .update, .pair, .gnss] s (State.decideLanes s) := by
  unfold State.decideLanes
  refine Within.after ?_ State.mismatchedGuests_within rfl
  refine Within.after ?_ State.completeStep_within rfl
  refine Within.after ?_ State.commandStep_within rfl
  refine Within.after ?_ State.activateStep_within rfl
  refine Within.after ?_ State.commitStep_within rfl
  refine Within.after ?_ State.commitVerdicts_within rfl
  refine Within.after ?_ State.beginHandovers_within rfl
  refine Within.after ?_ State.takeLanes_within rfl
  refine Within.after ?_ State.dropWithdrawn_within rfl
  refine Within.after ?_ State.handoverStep_within rfl
  exact State.selfStopStep_within.mono rfl

theorem State.applyChanges_within {s : State} : Within [Part.lanes, .access, .counters, .trip, .panel, .halt, .air, .routes,
    .ledger, .update, .due, .checkpoint, .settings, .gnss, .airLanes, .keys, .custody, .pair, .guests, .cells] s
    (State.applyChanges s) := by
  unfold State.applyChanges
  refine Within.ite ?_ ?_
  · refine Within.after ?_ State.activateStep_within rfl
    refine Within.after ?_ State.standbyBoundary_within rfl
    refine Within.after ?_ State.haltSteps_within rfl
    refine Within.foldl (fun _ _ => ?_) ?_
    · exact State.checkLane_within.mono rfl
    · exact Within.refl _ _
  · refine Within.after ?_ State.decideLanes_within rfl
    refine Within.after ?_ State.haltSteps_within rfl
    refine Within.foldl (fun _ _ => ?_) ?_
    · exact State.checkLane_within.mono rfl
    · exact Within.refl _ _

theorem State.beaconGap_within {s : State} : Within [Part.air, .access, .counters, .trip, .panel] s (State.beaconGap s) := by
  unfold State.beaconGap
  refine Within.ite ?_ ?_
  · exact Within.refl _ _
  · refine Within.after ?_ State.trigger_within rfl
    refine Within.after ?_ State.raise_within rfl
    exact within_air rfl

theorem State.emptyQueue_within {q : ℕ} {s : State} : Within [Part.checkpoint, .ledger] s (State.emptyQueue q s).2 := by
  unfold State.emptyQueue
  refine Within.ite_snd ?_ ?_
  · refine Within.snd_mk ?_
    refine Within.foldl (fun _ _ => ?_) ?_
    · exact State.solveDropped_within.mono rfl
    · exact within_checkpoint rfl
  · refine Within.snd_mk ?_
    exact State.onPlans_within.mono rfl

theorem State.checkInner_within {q : ℕ} {s : State} : Within [Part.checkpoint, .ledger, .counters, .disp, .access, .trip,
    .panel] s (State.checkInner q s) := by
  unfold State.checkInner
  refine Within.ite ?_ ?_
  · exact Within.refl _ _
  · refine Within.after ?_ State.trigger_within rfl
    refine Within.after ?_ State.raise_within rfl
    refine Within.trans ?_ (within_disp rfl)
    refine Within.after ?_ State.count_within rfl
    exact State.emptyQueue_within.mono rfl

theorem State.correctionNotice_within {s : State} : Within [Part.air, .counters] s (State.correctionNotice s) := by
  unfold State.correctionNotice
  refine Within.ite ?_ ?_
  · exact Within.refl _ _
  · exact State.notice_within.mono rfl

theorem State.laneTick_within {s : State} : Within [Part.lanes, .routes, .ledger] s (State.laneTick s) :=
  within_lanes_routes_ledger rfl rfl rfl (fun h => ⟨by dsimp only; apply tmap_wf, by dsimp only; apply tmap_wf, h.2.2⟩)

theorem State.lineSlice_within {s : State} : Within [Part.halt] s (State.lineSlice s) :=
  within_halt rfl (fun h => h)

theorem State.milestoneCloses_within {s : State} : Within [Part.keys, .custody, .air, .counters, .airLanes, .access,
    .update, .trip, .panel, .power] s (State.milestoneCloses s) := by
  unfold State.milestoneCloses
  refine Within.after ?_ State.feedMilestone_within rfl
  refine Within.after ?_ State.sendRegions_within rfl
  refine Within.after ?_ State.rtcmMilestone_within rfl
  refine Within.after ?_ State.rolloverAfterStart_within rfl
  exact State.announceMilestone_within.mono rfl

theorem State.readyForLanes_within {s : State} : Within [Part.power, .readiness] s (State.readyForLanes s) := by
  unfold State.readyForLanes
  refine Within.ite ?_ ?_
  · exact within_power_readiness rfl ⟨rfl, rfl, rfl⟩ rfl
  · exact Within.refl _ _

theorem State.milestoneOpens_within {e : TickEnv} {s : State} : Within [Part.reference, .settings, .gnss, .counters,
    .access, .pair, .trip, .panel, .update, .power, .readiness] s (State.milestoneOpens e s) := by
  unfold State.milestoneOpens
  refine Within.after ?_ State.trialSecond_within rfl
  refine Within.after ?_ State.storeOffsets_within rfl
  refine Within.after ?_ State.readyForLanes_within rfl
  exact State.referenceOpens_within.mono rfl

theorem State.nextSlice_within {s : State} : Within [Part.clock] s (State.nextSlice s) := by
  unfold State.nextSlice
  refine Within.after ?_ State.stamped_within rfl
  exact within_clock rfl ⟨rfl, rfl, rfl, rfl, rfl⟩

theorem State.nextTick_within {s : State} : Within [Part.clock, .update, .schedule, .power] s (State.nextTick s) := by
  unfold State.nextTick
  refine Within.after ?_ State.keeperTick_within rfl
  exact within_clock_update_schedule rfl rfl rfl

theorem State.openCarriageways_within {s : State} : Within [Part.air] s (State.openCarriageways s) :=
  within_air rfl

theorem State.receiveLines_within {s : State} : Within [Part.air] s (State.receiveLines s) := by
  unfold State.receiveLines
  refine Within.trans ?_ (within_air rfl)
  refine Within.ite ?_ ?_
  · exact State.linesClose_within.mono rfl
  · exact Within.refl _ _

theorem State.runningSlice_within {e : SliceEnv} {s : State} : Within [Part.disp, .access, .counters, .trip, .panel, .clock,
    .halt, .air, .lanes, .pair, .gnss, .power, .lamps, .keys, .checkpoint, .ledger] s (State.runningSlice e s) := by
  unfold State.runningSlice
  refine Within.after ?_ State.multicastSlice_within rfl
  refine Within.after ?_ State.sliceCounters_within rfl
  refine Within.after ?_ State.tripSlice_within rfl
  refine Within.after ?_ State.dropLate_within rfl
  refine Within.foldl (fun _ _ => ?_) ?_
  · exact State.checkInner_within.mono rfl
  · refine Within.ite ?_ ?_
    · refine Within.after ?_ State.sendHandovers_within rfl
      refine Within.ite ?_ ?_
      · refine Within.after ?_ State.receiveLines_within rfl
        refine Within.trans ?_ (within_panel rfl)
        refine Within.ite ?_ ?_
        · refine Within.after ?_ State.lampFrame_within rfl
          refine Within.after ?_ State.lineSlice_within rfl
          refine Within.after ?_ State.feedSlice_within rfl
          refine Within.after ?_ State.agcSlice_within rfl
          refine Within.after ?_ State.portSample_within rfl
          refine Within.after ?_ State.portSample_within rfl
          refine Within.after ?_ State.contactSlice_within rfl
          refine Within.after ?_ State.runDelays_within rfl
          refine Within.after ?_ State.nextSlice_within rfl
          exact State.flushTrace_within.mono rfl
        · refine Within.after ?_ State.lampLate_within rfl
          refine Within.after ?_ State.lineSlice_within rfl
          refine Within.after ?_ State.feedSlice_within rfl
          refine Within.after ?_ State.agcSlice_within rfl
          refine Within.after ?_ State.portSample_within rfl
          refine Within.after ?_ State.portSample_within rfl
          refine Within.after ?_ State.contactSlice_within rfl
          refine Within.after ?_ State.runDelays_within rfl
          refine Within.after ?_ State.nextSlice_within rfl
          exact State.flushTrace_within.mono rfl
      · refine Within.trans ?_ (within_panel rfl)
        refine Within.ite ?_ ?_
        · refine Within.after ?_ State.lampFrame_within rfl
          refine Within.after ?_ State.lineSlice_within rfl
          refine Within.after ?_ State.feedSlice_within rfl
          refine Within.after ?_ State.agcSlice_within rfl
          refine Within.after ?_ State.portSample_within rfl
          refine Within.after ?_ State.portSample_within rfl
          refine Within.after ?_ State.contactSlice_within rfl
          refine Within.after ?_ State.runDelays_within rfl
          refine Within.after ?_ State.nextSlice_within rfl
          exact State.flushTrace_within.mono rfl
        · refine Within.after ?_ State.lampLate_within rfl
          refine Within.after ?_ State.lineSlice_within rfl
          refine Within.after ?_ State.feedSlice_within rfl
          refine Within.after ?_ State.agcSlice_within rfl
          refine Within.after ?_ State.portSample_within rfl
          refine Within.after ?_ State.portSample_within rfl
          refine Within.after ?_ State.contactSlice_within rfl
          refine Within.after ?_ State.runDelays_within rfl
          refine Within.after ?_ State.nextSlice_within rfl
          exact State.flushTrace_within.mono rfl
    · refine Within.ite ?_ ?_
      · refine Within.after ?_ State.receiveLines_within rfl
        refine Within.trans ?_ (within_panel rfl)
        refine Within.ite ?_ ?_
        · refine Within.after ?_ State.lampFrame_within rfl
          refine Within.after ?_ State.lineSlice_within rfl
          refine Within.after ?_ State.feedSlice_within rfl
          refine Within.after ?_ State.agcSlice_within rfl
          refine Within.after ?_ State.portSample_within rfl
          refine Within.after ?_ State.portSample_within rfl
          refine Within.after ?_ State.contactSlice_within rfl
          refine Within.after ?_ State.runDelays_within rfl
          refine Within.after ?_ State.nextSlice_within rfl
          exact State.flushTrace_within.mono rfl
        · refine Within.after ?_ State.lampLate_within rfl
          refine Within.after ?_ State.lineSlice_within rfl
          refine Within.after ?_ State.feedSlice_within rfl
          refine Within.after ?_ State.agcSlice_within rfl
          refine Within.after ?_ State.portSample_within rfl
          refine Within.after ?_ State.portSample_within rfl
          refine Within.after ?_ State.contactSlice_within rfl
          refine Within.after ?_ State.runDelays_within rfl
          refine Within.after ?_ State.nextSlice_within rfl
          exact State.flushTrace_within.mono rfl
      · refine Within.trans ?_ (within_panel rfl)
        refine Within.ite ?_ ?_
        · refine Within.after ?_ State.lampFrame_within rfl
          refine Within.after ?_ State.lineSlice_within rfl
          refine Within.after ?_ State.feedSlice_within rfl
          refine Within.after ?_ State.agcSlice_within rfl
          refine Within.after ?_ State.portSample_within rfl
          refine Within.after ?_ State.portSample_within rfl
          refine Within.after ?_ State.contactSlice_within rfl
          refine Within.after ?_ State.runDelays_within rfl
          refine Within.after ?_ State.nextSlice_within rfl
          exact State.flushTrace_within.mono rfl
        · refine Within.after ?_ State.lampLate_within rfl
          refine Within.after ?_ State.lineSlice_within rfl
          refine Within.after ?_ State.feedSlice_within rfl
          refine Within.after ?_ State.agcSlice_within rfl
          refine Within.after ?_ State.portSample_within rfl
          refine Within.after ?_ State.portSample_within rfl
          refine Within.after ?_ State.contactSlice_within rfl
          refine Within.after ?_ State.runDelays_within rfl
          refine Within.after ?_ State.nextSlice_within rfl
          exact State.flushTrace_within.mono rfl

theorem State.startBeacons_within {s : State} : Within [Part.keys, .power, .readiness] s (State.startBeacons s) := by
  unfold State.startBeacons
  refine Within.ite ?_ ?_
  · exact within_keys_power_readiness rfl rfl ⟨rfl, rfl, rfl⟩ rfl ⟨rfl, rfl, rfl, rfl, rfl, rfl⟩
  · exact Within.refl _ _

theorem State.stageOpens_within {s : State} : Within [Part.keys, .power, .readiness, .checkpoint, .reference, .air] s
    (State.stageOpens s) := by
  unfold State.stageOpens
  refine Within.ite ?_ ?_
  · refine Within.after ?_ State.retune_within rfl
    refine Within.trans ?_ (within_air rfl)
    refine Within.after ?_ State.gnoezOpen_within rfl
    refine Within.after ?_ State.holdEpoch_within rfl
    exact State.startBeacons_within.mono rfl
  · refine Within.trans ?_ (within_air rfl)
    refine Within.after ?_ State.gnoezOpen_within rfl
    refine Within.after ?_ State.holdEpoch_within rfl
    exact State.startBeacons_within.mono rfl

theorem State.tickCloses_within {e : TickEnv} {s : State} : Within [Part.keys, .custody, .access, .update, .power, .air,
    .counters, .trip, .panel, .readiness, .airLanes, .pair, .checkpoint, .due, .ledger, .lanes, .settings, .gnss, .halt,
    .cells, .reference, .routes, .shown] s (State.tickCloses e s) := by
  unfold State.tickCloses
  refine Within.after ?_ State.boundarySnap_within rfl
  refine Within.trans ?_ (within_shown rfl)
  refine Within.after ?_ State.publishSnap_within rfl
  refine Within.after ?_ State.readerTick_within rfl
  refine Within.after ?_ State.accessTick_within rfl
  refine Within.after ?_ State.openCarriageways_within rfl
  refine Within.after ?_ State.dutyBelow_within rfl
  refine Within.after ?_ State.lanesDue_within rfl
  refine Within.after ?_ State.correctionNotice_within rfl
  refine Within.ite ?_ ?_
  · refine Within.after ?_ State.stageOpens_within rfl
    refine Within.after ?_ State.gnoezAccount_within rfl
    refine Within.after ?_ State.gnssTick_within rfl
    refine Within.after ?_ State.sendHandovers_within rfl
    refine Within.after ?_ State.cellTick_within rfl
    refine Within.after ?_ State.pairCloses_within rfl
    refine Within.ite ?_ ?_
    · refine Within.after ?_ State.milestoneCloses_within rfl
      refine Within.after ?_ State.rolloverSwitch_within rfl
      refine Within.after ?_ State.powerStep_within rfl
      refine Within.after ?_ State.confirmStep_within rfl
      exact State.verifyBoundary_within.mono rfl
    · refine Within.after ?_ State.rolloverSwitch_within rfl
      refine Within.after ?_ State.powerStep_within rfl
      refine Within.after ?_ State.confirmStep_within rfl
      exact State.verifyBoundary_within.mono rfl
  · refine Within.after ?_ State.gnoezAccount_within rfl
    refine Within.after ?_ State.gnssTick_within rfl
    refine Within.after ?_ State.sendHandovers_within rfl
    refine Within.after ?_ State.cellTick_within rfl
    refine Within.after ?_ State.pairCloses_within rfl
    refine Within.ite ?_ ?_
    · refine Within.after ?_ State.milestoneCloses_within rfl
      refine Within.after ?_ State.rolloverSwitch_within rfl
      refine Within.after ?_ State.powerStep_within rfl
      refine Within.after ?_ State.confirmStep_within rfl
      exact State.verifyBoundary_within.mono rfl
    · refine Within.after ?_ State.rolloverSwitch_within rfl
      refine Within.after ?_ State.powerStep_within rfl
      refine Within.after ?_ State.confirmStep_within rfl
      exact State.verifyBoundary_within.mono rfl

theorem State.settingsTick_within {stage : Bool} {milestone : Bool} {s : State} : Within [Part.settings, .keys, .halt, .air,
    .access, .counters, .trip, .panel, .lanes, .pair] s (State.settingsTick stage milestone s) := by
  unfold State.settingsTick
  refine Within.ite ?_ ?_
  · refine Within.after ?_ State.sourcesChanged_within rfl
    refine Within.ite ?_ ?_
    · refine Within.after ?_ State.sendRegions_within rfl
      exact within_settings rfl
    · exact within_settings rfl
  · refine Within.ite ?_ ?_
    · refine Within.after ?_ State.sendRegions_within rfl
      exact within_settings rfl
    · exact within_settings rfl

theorem State.stageEnds_within {s : State} : Within [Part.air, .access, .counters, .trip, .panel, .airLanes, .checkpoint] s
    (State.stageEnds s) := by
  unfold State.stageEnds
  refine Within.after ?_ State.recordsEnd_within rfl
  refine Within.after ?_ State.classifySlots_within rfl
  exact State.beaconGap_within.mono rfl

theorem State.tickOpens_within {e : TickEnv} {s : State} : Within [Part.clock, .update, .schedule, .power, .chain, .access,
    .readiness, .reference, .keys, .settings, .halt, .air, .counters, .trip, .panel, .lanes, .pair, .time, .routes, .guests,
    .ledger, .gnss, .airLanes, .checkpoint] s (State.tickOpens e s) := by
  unfold State.tickOpens
  refine Within.after ?_ State.positioningBoundary_within rfl
  refine Within.after ?_ State.pairOpens_within rfl
  refine Within.after ?_ State.laneTick_within rfl
  refine Within.ite ?_ ?_
  · refine Within.after ?_ State.stageEnds_within rfl
    refine Within.ite ?_ ?_
    · refine Within.after ?_ State.milestoneOpens_within rfl
      refine Within.ite ?_ ?_
      · refine Within.after ?_ State.settingsTick_within rfl
        refine Within.after ?_ State.timeTick_within rfl
        refine Within.after ?_ State.portTick_within rfl
        refine Within.after ?_ State.grantTick_within rfl
        refine Within.after ?_ State.tripTick_within rfl
        refine Within.after ?_ State.counterTick_within rfl
        refine Within.after ?_ State.settingsTick_within rfl
        refine Within.ite ?_ ?_
        · refine Within.after ?_ State.sendRegions_within rfl
          refine Within.after ?_ State.started_within rfl
          refine Within.after ?_ State.chainTick_within rfl
          exact State.nextTick_within.mono rfl
        · refine Within.after ?_ State.chainTick_within rfl
          exact State.nextTick_within.mono rfl
      · refine Within.after ?_ State.timeTick_within rfl
        refine Within.after ?_ State.portTick_within rfl
        refine Within.after ?_ State.grantTick_within rfl
        refine Within.after ?_ State.tripTick_within rfl
        refine Within.after ?_ State.counterTick_within rfl
        refine Within.after ?_ State.settingsTick_within rfl
        refine Within.ite ?_ ?_
        · refine Within.after ?_ State.sendRegions_within rfl
          refine Within.after ?_ State.started_within rfl
          refine Within.after ?_ State.chainTick_within rfl
          exact State.nextTick_within.mono rfl
        · refine Within.after ?_ State.chainTick_within rfl
          exact State.nextTick_within.mono rfl
    · refine Within.ite ?_ ?_
      · refine Within.after ?_ State.settingsTick_within rfl
        refine Within.after ?_ State.timeTick_within rfl
        refine Within.after ?_ State.portTick_within rfl
        refine Within.after ?_ State.grantTick_within rfl
        refine Within.after ?_ State.tripTick_within rfl
        refine Within.after ?_ State.counterTick_within rfl
        refine Within.after ?_ State.settingsTick_within rfl
        refine Within.ite ?_ ?_
        · refine Within.after ?_ State.sendRegions_within rfl
          refine Within.after ?_ State.started_within rfl
          refine Within.after ?_ State.chainTick_within rfl
          exact State.nextTick_within.mono rfl
        · refine Within.after ?_ State.chainTick_within rfl
          exact State.nextTick_within.mono rfl
      · refine Within.after ?_ State.timeTick_within rfl
        refine Within.after ?_ State.portTick_within rfl
        refine Within.after ?_ State.grantTick_within rfl
        refine Within.after ?_ State.tripTick_within rfl
        refine Within.after ?_ State.counterTick_within rfl
        refine Within.after ?_ State.settingsTick_within rfl
        refine Within.ite ?_ ?_
        · refine Within.after ?_ State.sendRegions_within rfl
          refine Within.after ?_ State.started_within rfl
          refine Within.after ?_ State.chainTick_within rfl
          exact State.nextTick_within.mono rfl
        · refine Within.after ?_ State.chainTick_within rfl
          exact State.nextTick_within.mono rfl
  · refine Within.ite ?_ ?_
    · refine Within.after ?_ State.milestoneOpens_within rfl
      refine Within.ite ?_ ?_
      · refine Within.after ?_ State.settingsTick_within rfl
        refine Within.after ?_ State.timeTick_within rfl
        refine Within.after ?_ State.portTick_within rfl
        refine Within.after ?_ State.grantTick_within rfl
        refine Within.after ?_ State.tripTick_within rfl
        refine Within.after ?_ State.counterTick_within rfl
        refine Within.after ?_ State.settingsTick_within rfl
        refine Within.ite ?_ ?_
        · refine Within.after ?_ State.sendRegions_within rfl
          refine Within.after ?_ State.started_within rfl
          refine Within.after ?_ State.chainTick_within rfl
          exact State.nextTick_within.mono rfl
        · refine Within.after ?_ State.chainTick_within rfl
          exact State.nextTick_within.mono rfl
      · refine Within.after ?_ State.timeTick_within rfl
        refine Within.after ?_ State.portTick_within rfl
        refine Within.after ?_ State.grantTick_within rfl
        refine Within.after ?_ State.tripTick_within rfl
        refine Within.after ?_ State.counterTick_within rfl
        refine Within.after ?_ State.settingsTick_within rfl
        refine Within.ite ?_ ?_
        · refine Within.after ?_ State.sendRegions_within rfl
          refine Within.after ?_ State.started_within rfl
          refine Within.after ?_ State.chainTick_within rfl
          exact State.nextTick_within.mono rfl
        · refine Within.after ?_ State.chainTick_within rfl
          exact State.nextTick_within.mono rfl
    · refine Within.ite ?_ ?_
      · refine Within.after ?_ State.settingsTick_within rfl
        refine Within.after ?_ State.timeTick_within rfl
        refine Within.after ?_ State.portTick_within rfl
        refine Within.after ?_ State.grantTick_within rfl
        refine Within.after ?_ State.tripTick_within rfl
        refine Within.after ?_ State.counterTick_within rfl
        refine Within.after ?_ State.settingsTick_within rfl
        refine Within.ite ?_ ?_
        · refine Within.after ?_ State.sendRegions_within rfl
          refine Within.after ?_ State.started_within rfl
          refine Within.after ?_ State.chainTick_within rfl
          exact State.nextTick_within.mono rfl
        · refine Within.after ?_ State.chainTick_within rfl
          exact State.nextTick_within.mono rfl
      · refine Within.after ?_ State.timeTick_within rfl
        refine Within.after ?_ State.portTick_within rfl
        refine Within.after ?_ State.grantTick_within rfl
        refine Within.after ?_ State.tripTick_within rfl
        refine Within.after ?_ State.counterTick_within rfl
        refine Within.after ?_ State.settingsTick_within rfl
        refine Within.ite ?_ ?_
        · refine Within.after ?_ State.sendRegions_within rfl
          refine Within.after ?_ State.started_within rfl
          refine Within.after ?_ State.chainTick_within rfl
          exact State.nextTick_within.mono rfl
        · refine Within.after ?_ State.chainTick_within rfl
          exact State.nextTick_within.mono rfl

theorem State.runningTick_within {e : TickEnv} {s : State} : Within Part.others s (State.runningTick e s) := by
  unfold State.runningTick
  refine Within.ite (State.activationReset_within.mono rfl) ?_
  have h : ∀ t, s.powerBoundary = some t → Within Part.others s t := by
    intro t
    unfold State.powerBoundary
    split
    · split
      · exact fun h => Option.some.inj h ▸ State.restartFree_within.mono rfl
      · exact fun h => Option.some.inj h ▸ State.restart_within.mono rfl
    · split
      · exact fun h => Option.some.inj h ▸ State.enterStandby_within.mono rfl
      · exact nofun
  split
  · exact h _ ‹_›
  · exact ((State.tickOpens_within.mono rfl).trans (State.applyChanges_within.mono rfl)).trans (State.tickCloses_within.mono rfl)

theorem cutoff_within {s : State} : Within [Part.clock, .ledger, .access, .counters, .trip, .panel, .keys, .pair, .time,
    .schedule] s (cutoff s) := by
  unfold cutoff
  refine Within.ite ?_ ?_
  · exact ledgerCutoff_within.mono rfl
  · refine Within.after ?_ State.stepCheck_within rfl
    exact ledgerCutoff_within.mono rfl

theorem tickBoundary_within {e : TickEnv} {s : State} : Within Part.others s (tickBoundary e s) := by
  unfold tickBoundary
  split
  · exact State.runningTick_within.mono rfl
  · exact State.nextTick_within.mono rfl
  · exact State.nextTick_within.mono rfl
  · exact Within.refl _ _

theorem execTickBoundary_within {env : TickEnv} {s : State} : Within.post Part.others s (execTickBoundary env s) := by
  unfold execTickBoundary
  refine Within.after ?_ tickBoundary_within rfl
  exact State.begin_within.mono rfl

theorem sliceBoundary_within {e : SliceEnv} {s : State} : Within [Part.disp, .access, .counters, .trip, .panel, .clock, .halt, .air, .lanes, .pair, .gnss, .power, .lamps, .keys, .checkpoint, .ledger] s (sliceBoundary e s) := by
  unfold sliceBoundary
  split
  · exact State.runningSlice_within.mono rfl
  · have h : Within [.clock, .access, .counters, .trip, .panel, .power] s (s.nextSlice.feedSlice e.feedA e.feedB) :=
      (State.nextSlice_within.mono rfl).trans (State.feedSlice_within.mono rfl)
    intro p hp
    cases p <;> first | rfl | exact h .supply rfl | exact h .readiness rfl | exact ⟨(h .schedule rfl).1, (h .schedule rfl).2.1, (h .schedule rfl).2.2.1, rfl, rfl⟩ | exact Keys.sameCustody_refl _ |
      exact absurd hp (by decide) | exact id
  · exact Within.refl _ _

theorem execSliceBoundary_within {env : SliceEnv} {s : State} : Within.post [Part.disp, .access, .counters, .trip, .panel,
    .clock, .halt, .air, .lanes, .pair, .gnss, .power, .lamps, .keys, .checkpoint, .ledger] s (execSliceBoundary env s) := by
  unfold execSliceBoundary
  refine Within.after ?_ sliceBoundary_within rfl
  exact State.begin_within.mono rfl

theorem execLedgerCutoff_within {s : State} : Within.post [Part.clock, .ledger, .access, .counters, .trip, .panel, .keys,
    .pair, .time, .schedule] s (execLedgerCutoff s) := by
  unfold execLedgerCutoff
  refine running_within (fun _ => ?_) ?_ rfl
  · exact cutoff_within.mono rfl
  · exact Within.refl _ _

end Sys2Proof.Machine
end

