-- ==== Sys2Proof/Laws/Crypto.lean ====
section
/-! SUPPORT. What the primitives do to byte strings: lengths, enciphering twice, and that an uplink frame sealed under the lane's key is
read back. -/

open Sys2Proof Sys2Proof.Machine

namespace Sys2Proof.Crypto

theorem xorBytes_length (a b : Bytes) : (xorBytes a b).length = min a.length b.length := by simp [xorBytes]

theorem xorBytes_xorBytes (a b : Bytes) (h : a.length ≤ b.length) : xorBytes (xorBytes a b) b = a := by
  induction a generalizing b with
  | nil => simp [xorBytes]
  | cons x a ih =>
    cases b with
    | nil => simp at h
    | cons y b =>
      have := ih b (by simpa using h)
      simp only [xorBytes] at this
      simp [xorBytes, this]

theorem big_length (n v : Nat) : (big n v).length = n := by simp [big]

theorem pieces_nil (n : Nat) (h : 0 < n) : pieces n [] = [] := by
  simp [pieces, h]

theorem pieces_cons {n : Nat} {m : Bytes} (h : 0 < n) (hm : m ≠ []) : pieces n m = m.take n :: pieces n (m.drop n) := by
  have l : 0 < m.length := List.length_pos_iff.2 hm
  have e : (m.length + n - 1) / n = ((m.drop n).length + n - 1) / n + 1 := by
    rw [List.length_drop]
    by_cases c : n ≤ m.length
    · rw [show m.length + n - 1 = (m.length - n + n - 1) + n by omega, Nat.add_div_right _ h]
    · rw [show m.length - n = 0 by omega, show m.length + n - 1 = (m.length - 1) + n by omega, Nat.add_div_right _ h,
        Nat.div_eq_of_lt (by omega), Nat.div_eq_of_lt (by omega)]
  rw [pieces, e, List.range_succ_eq_map, List.map_cons, List.map_map]
  simp only [Nat.mul_zero, List.drop_zero, pieces, List.cons.injEq, true_and]
  refine List.map_congr_left fun i _ => ?_
  simp [List.drop_drop, Nat.mul_add, Nat.add_comm]

theorem pieces_whole {n : Nat} (h : 0 < n) (m : Bytes) (k : Nat) (e : m.length = n * k) : ∀ p ∈ pieces n m, p.length = n := by
  induction k generalizing m with
  | zero =>
    have : m = [] := List.length_eq_zero_iff.1 (by simpa using e)
    rw [this, pieces_nil n h]; simp
  | succ k ih =>
    rw [Nat.mul_succ] at e
    have hm : m ≠ [] := by rintro rfl; simp at e; omega
    rw [pieces_cons h hm]
    intro p hp
    rcases List.mem_cons.1 hp with rfl | hp
    · simp; omega
    · exact ih _ (by simp; omega) p hp

theorem pieces_length {n : Nat} (h : 0 < n) (m : Bytes) (k : Nat) (e : m.length = n * k) : (pieces n m).length = k := by
  simp only [pieces, List.length_map, List.length_range, e]
  rw [show n * k + n - 1 = (n - 1) + n * k by omega, Nat.add_mul_div_left _ _ h, Nat.div_eq_of_lt (by omega), Nat.zero_add]

/-! ## AES -/

/-- The words of the expanded key of a 16-byte key: 44 of 4 bytes. -/
theorem roundKeys_whole {key : Bytes} (h : key.length = 16) :
    (roundKeys key).length = 11 ∧ ∀ k ∈ roundKeys key, k.length = 16 := by
  have fold : ∀ (f : List Bytes → Nat → Bytes) (l : List Nat) (w : List Bytes),
      (∀ (w : List Bytes) k, k ∈ l → (∀ x ∈ w, x.length = 4) → w ≠ [] → k < w.length → (f w k).length = 4) →
      (∀ x ∈ w, x.length = 4) → 4 ≤ w.length → (∀ i (hi : i < l.length), l[i] < w.length + i) →
      let r := l.foldl (fun w k => w ++ [f w k]) w
      r.length = w.length + l.length ∧ ∀ x ∈ r, x.length = 4 := by
    intro f l
    induction l with
    | nil => intro w _ hw _ _; exact ⟨rfl, hw⟩
    | cons k l ih =>
      intro w hf hw h4 hl
      have hk : (f w k).length = 4 := hf w k (by simp) hw (by rintro rfl; simp at h4) (by have := hl 0 (by simp); simpa only [List.getElem_cons_zero, Nat.add_zero] using this)
      have := ih (w ++ [f w k]) (fun w k hk => hf w k (by simp [hk]))
        (fun x hx => by rcases List.mem_append.1 hx with hx | hx; exact hw x hx; rw [List.mem_singleton.1 hx]; exact hk)
        (by simp; omega)
        (fun i hi => by have := hl (i + 1) (by simpa using hi); simp at this ⊢; omega)
      simp only [List.foldl_cons] at this ⊢
      exact ⟨by rw [this.1]; simp; omega, this.2⟩
  have hp := pieces_whole (n := 4) (by decide) key 4 (by simp [h])
  have hn := pieces_length (n := 4) (by decide) key 4 (by simp [h])
  have nk : key.length / 4 = 4 := by rw [h]
  have := fold (fun (w : List Bytes) (k : Nat) => xorBytes (w.getD k []) (if (k + 4) % 4 = 0 then
        xorBytes ((((w.getLastD []).drop 1) ++ (w.getLastD []).take 1).map sub) (roundConstant ((k + 4) / 4) :: [0, 0, 0])
      else if 4 = 8 ∧ (k + 4) % 8 = 4 then (w.getLastD []).map sub else w.getLastD []))
    (List.range 40) (pieces 4 key)
    (fun w k _ hw hne hk => by
      have hl : (w.getLastD []).length = 4 := by
        rw [List.getLastD_eq_getLast?, List.getLast?_eq_some_getLast hne]; exact hw _ (List.getLast_mem hne)
      have hg : (w.getD k []).length = 4 := by
        rw [List.getD_eq_getElem _ _ hk]; exact hw _ (List.getElem_mem hk)
      rw [xorBytes_length, hg]
      split
      · rw [xorBytes_length, List.length_map, List.length_append, List.length_drop, List.length_take, hl]; rfl
      · split
        · rw [List.length_map, hl]; rfl
        · rw [hl]; rfl)
    hp (by omega) (fun i hi => by simp [hn])
  obtain ⟨hlen, hall⟩ := this
  rw [hn, List.length_range] at hlen
  rw [roundKeys]
  simp only [nk]
  have flat : ∀ l : List Bytes, (∀ x ∈ l, x.length = 4) → l.flatten.length = 4 * l.length := by
    intro l hl
    induction l with
    | nil => rfl
    | cons a l ih => simp [hl a (by simp), ih (fun x hx => hl x (by simp [hx]))]; omega
  have e := flat _ hall
  rw [hlen] at e
  exact ⟨pieces_length (by decide) _ 11 e, pieces_whole (by decide) _ 11 e⟩

theorem shiftRows_length (b : Bool) (s : Bytes) : (shiftRows b s).length = 16 := by simp [shiftRows]

theorem aes_length {key : Bytes} (h : key.length = 16) (block : Bytes) : (aes key block).length = 16 := by
  obtain ⟨hl, hk⟩ := roundKeys_whole h
  rw [aes]
  match hr : roundKeys key with
  | [] => rw [hr] at hl; simp at hl
  | k0 :: ks =>
    rw [hr] at hl hk
    have hne : ks ≠ [] := by rintro rfl; simp at hl
    have : (ks.getLastD []).length = 16 := by
      rw [List.getLastD_eq_getLast?, List.getLast?_eq_some_getLast hne]; exact hk _ (by simp [List.getLast_mem hne])
    simp only [xorBytes_length, shiftRows_length, this, Nat.min_self]

theorem cmac_length {key : Bytes} (h : key.length = 16) (m : Bytes) : (cmac key m).length = 16 := by
  simp only [cmac, List.foldl_append, List.foldl_cons, List.foldl_nil]
  exact aes_length h _

/-! ## CCM* -/

theorem ccmTag_length {key : Bytes} (h : key.length = 16) (nonce data message : Bytes) : (ccmTag key nonce data message 8).length = 8 := by
  have e : ∀ (l : List Bytes) (x : Bytes), x.length = 16 → (l.foldl (fun x b => aes key (xorBytes x b)) x).length = 16 := by
    intro l
    induction l with
    | nil => exact fun x hx => hx
    | cons a l ih => exact fun x _ => ih _ (aes_length h _)
  simp only [ccmTag, List.length_take, xorBytes_length, ccmStream, aes_length h]
  rw [e _ _ (by simp)]; rfl

/-- `ccmCipher` from stream block `j + 1` on. -/
def cipherFrom (key nonce : Bytes) (j : Nat) (m : Bytes) : Bytes :=
  (((pieces 16 m).zipIdx j).map (fun p => xorBytes p.1 (ccmStream key nonce (p.2 + 1)))).flatten

theorem cipherFrom_nil (key nonce : Bytes) (j : Nat) : cipherFrom key nonce j [] = [] := by simp [cipherFrom, pieces_nil]

theorem cipherFrom_cons (key nonce : Bytes) (j : Nat) {m : Bytes} (h : m ≠ []) :
    cipherFrom key nonce j m = xorBytes (m.take 16) (ccmStream key nonce (j + 1)) ++ cipherFrom key nonce (j + 1) (m.drop 16) := by
  simp [cipherFrom, pieces_cons (n := 16) (by decide) h]

theorem cipherFrom_length {key : Bytes} (h : key.length = 16) (nonce : Bytes) (j : Nat) (m : Bytes) :
    (cipherFrom key nonce j m).length = m.length := by
  generalize hn : m.length = n
  induction n using Nat.strongRecOn generalizing m j with
  | _ n ih =>
    by_cases c : m = []
    · subst c; rw [cipherFrom_nil]; exact hn
    · rw [cipherFrom_cons _ _ _ c]
      have l : 0 < m.length := List.length_pos_iff.2 c
      simp only [List.length_append, xorBytes_length, List.length_take, ccmStream, aes_length h]
      rw [ih (m.length - 16) (by omega) (j + 1) (m.drop 16) (by simp)]
      omega

theorem cipherFrom_twice {key : Bytes} (h : key.length = 16) (nonce : Bytes) (j : Nat) (m : Bytes) :
    cipherFrom key nonce j (cipherFrom key nonce j m) = m := by
  generalize hn : m.length = n
  induction n using Nat.strongRecOn generalizing m j with
  | _ n ih =>
    by_cases c : m = []
    · subst c; rw [cipherFrom_nil, cipherFrom_nil]
    · have l : 0 < m.length := List.length_pos_iff.2 c
      have hc : cipherFrom key nonce j m ≠ [] := by
        intro e; have := cipherFrom_length h nonce j m; rw [e] at this; simp at this; omega
      have s : (ccmStream key nonce (j + 1)).length = 16 := aes_length h _
      rw [cipherFrom_cons _ _ _ hc, cipherFrom_cons _ _ _ c]
      have hx : (xorBytes (m.take 16) (ccmStream key nonce (j + 1))).length = min 16 m.length := by
        simp [xorBytes_length, s, Nat.min_comm]
      by_cases g : 16 ≤ m.length
      · rw [Nat.min_eq_left g] at hx
        rw [List.take_append_of_le_length (by omega), List.take_of_length_le (by omega), List.drop_append_of_le_length (by omega),
          List.drop_of_length_le (by omega), List.nil_append, xorBytes_xorBytes _ _ (by simp [s]),
          ih (m.length - 16) (by omega) (j + 1) (m.drop 16) (by simp), List.take_append_drop]
      · rw [List.drop_of_length_le (show m.length ≤ 16 by omega), cipherFrom_nil, List.append_nil,
          List.take_of_length_le (show _ ≤ 16 by omega), List.drop_of_length_le (show _ ≤ 16 by omega), cipherFrom_nil, List.append_nil,
          xorBytes_xorBytes _ _ (by simp [s]), List.take_of_length_le (by omega)]

theorem ccmCipher_eq (key nonce m : Bytes) : ccmCipher key nonce m = cipherFrom key nonce 0 m := rfl

end Sys2Proof.Crypto

namespace Sys2Proof.Machine

theorem kdf_length {k : Bytes} (h : k.length = 16) (label : String) (context : Bytes) : (kdf k label context 128).length = 16 := by
  simp [kdf, Crypto.cmac_length h]

theorem field_append {h x : Bytes} {i n : Nat} (l : i + n ≤ h.length) : field (h ++ x) i n = field h i n := by
  rw [field, field, List.drop_append_of_le_length (by omega), List.take_append_of_le_length (by simp; omega)]

/-- One key is tried where no roll-over is under way, and it has 16 bytes (R311, R456). -/
theorem State.uplinkKeys_one (s : State) (n g : Nat) (hs : s.keys.switched = false) (hk : s.keys.current.length = 16) :
    ∃ k, s.uplinkKeys n g = [k] ∧ k.length = 16 := by
  have e : s.sendKey = s.keys.current := by simp [State.sendKey, hs]
  simp only [State.uplinkKeys, hs]
  split
  · exact ⟨_, rfl, by rw [State.admissionKey, e]; exact kdf_length hk _ _⟩
  · split
    · exact ⟨_, rfl, by rw [State.laneKey, State.laneRoot, e]; exact kdf_length (kdf_length hk _ _) _ _⟩
    · exact ⟨_, rfl, by rw [State.laneRoot]; exact kdf_length (kdf_length hk _ _) _ _⟩

/-- What a frame of header `h` and body `body` reads as (R310). -/
def frameRead (h body : Bytes) (authentic : Bool) : AirFrame :=
  { frameType := byteAt h 0, generation := byteAt h 1, sender := field h 2 2, dest := field h 4 2
    pairEpoch := BitVec.ofNat 16 (field h 6 2), pairComp := BitVec.ofNat 16 (field h 8 2)
    laneEpoch := BitVec.ofNat 16 (field h 10 2), laneComp := BitVec.ofNat 16 (field h 12 2)
    counter := BitVec.ofNat 32 (field h 14 4), bodyLength := body.length, authentic := authentic
    elements := elementsOf body.length body }

/-- A body enciphered under the only key the receiver tries is read back, authentic where its MIC is the frame's (R310, R322). -/
theorem State.readFrame_sealed (s : State) (h body mic k : Bytes) (hl : h.length = 20) (hm : mic.length = 8) (hk : k.length = 16)
    (hs : field h 18 2 = body.length) (keys : s.uplinkKeys (field h 2 2 % 256) (byteAt h 1) = [k]) :
    let count : U64 := BitVec.ofInt 64 ((s.windowOf (field h 2 2 % 256) (byteAt h 1)).extend (BitVec.ofNat 32 (field h 14 4)))
    let nonce := s.nonce (field h 2 2) count 6
    s.readFrame (h ++ Crypto.ccmCipher k nonce body ++ mic) = some (frameRead h body (decide (Crypto.ccmTag k nonce h body 8 = mic))) := by
  intro count nonce
  have hc : (Crypto.ccmCipher k nonce body).length = body.length := Crypto.cipherFrom_length hk nonce 0 body
  have b : ∀ i < 20, byteAt (h ++ Crypto.ccmCipher k nonce body ++ mic) i = byteAt h i := by
    intro i hi
    rw [byteAt, byteAt, List.append_assoc, List.getD_append _ _ _ _ (by omega)]
  have f : ∀ i n, i + n ≤ 20 → field (h ++ Crypto.ccmCipher k nonce body ++ mic) i n = field h i n := by
    intro i n hi
    rw [List.append_assoc, field_append (by omega)]
  have d : (h ++ Crypto.ccmCipher k nonce body ++ mic).drop (20 + body.length) = mic := by
    rw [show 20 + body.length = (h ++ Crypto.ccmCipher k nonce body).length by simp [hl, hc], List.drop_left]
  have m : ((h ++ Crypto.ccmCipher k nonce body ++ mic).drop 20).take body.length = Crypto.ccmCipher k nonce body := by
    rw [List.append_assoc, show 20 = h.length by omega, List.drop_left, show body.length = (Crypto.ccmCipher k nonce body).length by omega,
      List.take_left]
  have t : (h ++ Crypto.ccmCipher k nonce body ++ mic).take 20 = h := by
    rw [List.append_assoc, show 20 = h.length by omega, List.take_left]
  have p : Crypto.ccmCipher k nonce (Crypto.ccmCipher k nonce body) = body := Crypto.cipherFrom_twice hk nonce 0 body
  rw [State.readFrame]
  simp only [f 18 2 (by decide), f 2 2 (by decide), f 4 2 (by decide), f 6 2 (by decide), f 8 2 (by decide), f 10 2 (by decide),
    f 12 2 (by decide), f 14 4 (by decide), b 0 (by decide), b 1 (by decide), hs, d, m, t, keys]
  rw [if_neg (by simp [hl, hc, hm]; omega)]
  simp only [List.map_cons, List.map_nil]
  rw [show Crypto.ccmCipher k (s.nonce (field h 2 2)
      (BitVec.ofInt 64 ((s.windowOf (field h 2 2 % 256) (byteAt h 1)).extend (BitVec.ofNat 32 (field h 14 4)))) 6)
      (Crypto.ccmCipher k nonce body) = body from p]
  by_cases e : Crypto.ccmTag k nonce h body 8 = mic
  · simp [nonce, count, frameRead, e]
  · simp [nonce, count, frameRead, e]

/-- A frame of any header and body can come in, authentic or not. -/
theorem State.readFrame_some (s : State) (h body : Bytes) (authentic : Bool) (hw : s.keys.switched = false) (hc : s.keys.current.length = 16)
    (hl : h.length = 20) (hs : field h 18 2 = body.length) : ∃ psdu, s.readFrame psdu = some (frameRead h body authentic) := by
  obtain ⟨k, keys, hk⟩ := s.uplinkKeys_one (field h 2 2 % 256) (byteAt h 1) hw hc
  have put := fun mic hm => s.readFrame_sealed h body mic k hl hm hk hs keys
  simp only at put
  generalize hn : s.nonce (field h 2 2)
    (BitVec.ofInt 64 ((s.windowOf (field h 2 2 % 256) (byteAt h 1)).extend (BitVec.ofNat 32 (field h 14 4)))) 6 = nonce at put
  cases authentic with
  | true => exact ⟨_, by rw [put _ (Crypto.ccmTag_length hk nonce h body), decide_eq_true rfl]⟩
  | false =>
    by_cases e : Crypto.ccmTag k nonce h body 8 = List.replicate 8 0
    · exact ⟨_, by rw [put (List.replicate 8 1) (by simp), decide_eq_false (by rw [e]; decide)]⟩
    · exact ⟨_, by rw [put (List.replicate 8 0) (by simp), decide_eq_false e]⟩

end Sys2Proof.Machine
end

