-- ==== Sys2Proof/Laws/DebugPort.lean ====
section
/-! SUPPORT. What each operation of Machine/DebugPort.lean may change: the parts listed, what goes out, and the free values drawn. -/

namespace Sys2Proof.Machine

theorem State.extest_within {pins : List Bool} {s : State} : Within [Part.tap] s (State.extest pins s) := by
  unfold State.extest
  refine Within.foldl (fun _ _ => ?_) ?_
  · exact State.emit_within.mono rfl
  · exact within_tap rfl

theorem State.setTap_within {selected : ℕ} {captured : ℕ} {s : State} : Within [Part.tap] s (State.setTap selected captured
    s) :=
  within_tap rfl

theorem State.samplePins_within {s : State} : Within [Part.tap] s (State.samplePins s) := by
  unfold State.samplePins
  refine Within.after ?_ State.setTap_within rfl
  exact State.draw_within.mono rfl

theorem debugTap_within {i : TapInstr} {s : State} : Within.post [Part.tap] s (debugTap i s) := by
  unfold debugTap
  refine Within.ite_post ?_ ?_
  · exact Within.refl _ _
  · split
    · exact State.setTap_within.mono rfl
    · exact State.setTap_within.mono rfl
    · refine Within.ite ?_ ?_
      · exact State.samplePins_within.mono rfl
      · exact Within.refl _ _
    · refine Within.ite ?_ ?_
      · exact State.extest_within.mono rfl
      · exact Within.refl _ _
    · refine Within.ite_post ?_ ?_
      · exact trivial
      · exact Within.refl _ _

theorem execDebugTapInstruction_within {instr : TapInstr} {s : State} : Within.post [Part.tap] s (execDebugTapInstruction
    instr s) := by
  unfold execDebugTapInstruction
  refine Within.post_after ?_ debugTap_within rfl
  exact State.begin_within.mono rfl

end Sys2Proof.Machine
end

