-- ==== Sys2Proof/Laws/Plans.lean ====
section
/-! SUPPORT. Plans between their acceptance and the end of their window: profiles, checks, cutoffs, permit requests. -/

namespace Sys2Proof.Machine

theorem State.profilePlan_refused {s : State} {p : Plan} {out : ProfileOut} {b : Bytes} (h : p.what = .route b)
    (hw : routeReason (s.limitsFor p.lane (byteAt b 1 = 0)) b ≠ 0) :
    s.profilePlan p out = some (p.fail 5 (routeReason (s.limitsFor p.lane (byteAt b 1 = 0)) b)) := by
  have : ∀ f, s.profileAs p f out = some (p.fail 5 (routeReason (s.limitsFor p.lane (byteAt b 1 = 0)) b)) := by
    intro f
    unfold State.profileAs State.workOf
    rw [h]
    dsimp only
    rw [if_pos hw]
  unfold State.profilePlan
  dsimp only
  rw [this]
  dsimp only
  exact if_pos (show (some 5 : Option Nat) ≠ none by simp)
theorem State.checkStops_none {s : State} (h : s.ledger.stopChecks = []) : s.checkStops = s := by
  unfold State.checkStops
  rw [h]
  show ({ s with ledger := { s.ledger with stopChecks := [] } } : State) = s
  have e : ({ s.ledger with stopChecks := [] } : Ledger) = s.ledger := by rw [← h]
  rw [e]
theorem State.sendCell_within' (pair : Nat) (m : CellMsg) (s : State) : Within [.keys] s (s.sendCell pair m) := State.sendCell_within
theorem State.requestPermit_out {p : Plan} {s : State} {o : Output} (h : o ∈ s.out) : o ∈ (s.requestPermit p).out := by
  unfold State.requestPermit
  cases p.crossing with
  | none => exact h
  | some c =>
    dsimp only
    split
    · exact h
    · unfold State.sendCell
      split
      · exact List.mem_append_left _ h
      · exact h
theorem State.out_sendLink {o : Output} {m : LinkMsg} {s : State} (h : o ∈ s.out) : o ∈ (s.sendLink m).out := by
  unfold State.sendLink
  split
  · exact List.mem_append_left _ h
  · exact h
theorem State.out_stepCheck {o : Output} {s : State} (h : o ∈ s.out) : o ∈ s.stepCheck.out := by
  unfold State.stepCheck
  cases s.time.step with
  | none => exact h
  | some d =>
    dsimp only
    refine State.out_ite h (State.out_ite h ?_)
    exact State.out_raise h
theorem State.requestPermit_keeps (p : Plan) (s : State) : (s.requestPermit p).ledger.plans = s.ledger.plans ∧
    (s.requestPermit p).ledger.profileClosed = s.ledger.profileClosed ∧ (s.requestPermit p).ledger.ledgerClosed = s.ledger.ledgerClosed := by
  unfold State.requestPermit
  cases p.crossing with
  | none => exact ⟨rfl, rfl, rfl⟩
  | some c =>
    dsimp only
    split
    · exact ⟨rfl, rfl, rfl⟩
    · have h := State.sendCell_within' c.pair (.permitRequest p.id c.border c.handover c.commit p.lane p.epoch
        { first := c.border, list := p.envelopes.drop (c.border - p.first).toNat })
        ({ s with ledger := { s.ledger with requested := s.ledger.requested + 1 } } : State) .ledger rfl
      have h' : ∀ x : State, x.ledger = { s.ledger with requested := s.ledger.requested + 1 } → x.ledger.plans = s.ledger.plans ∧
        x.ledger.profileClosed = s.ledger.profileClosed ∧ x.ledger.ledgerClosed = s.ledger.ledgerClosed := by
        intro x hx; rw [hx]; exact ⟨rfl, rfl, rfl⟩
      exact h' _ h
/-- Permit requests change no plan; those of the crossing plans asked for are out. -/
theorem State.requestPermits_spec (l : List Plan) (s : State) :
    (l.foldl (fun (t : State) p => t.requestPermit p) s).ledger.plans = s.ledger.plans ∧
    (l.foldl (fun (t : State) p => t.requestPermit p) s).ledger.profileClosed = s.ledger.profileClosed ∧
    (l.foldl (fun (t : State) p => t.requestPermit p) s).ledger.ledgerClosed = s.ledger.ledgerClosed ∧
    (∀ o ∈ s.out, o ∈ (l.foldl (fun (t : State) p => t.requestPermit p) s).out) ∧
    (s.keys.pendingState ≠ 3 → s.keys.security ≠ 0 → (s.pair.role = 0 ∨ s.pair.role = 1 ∨ s.pair.role = 4) → s.halt.silent = false →
      ∀ p ∈ l, ∀ c, p.crossing = some c → Output.cell c.pair (.permitRequest p.id c.border c.handover c.commit p.lane p.epoch
            { first := c.border, list := p.envelopes.drop (c.border - p.first).toNat }) ∈
        (l.foldl (fun (t : State) p => t.requestPermit p) s).out) := by
  induction l generalizing s with
  | nil => exact ⟨rfl, rfl, rfl, fun _ h => h, fun _ _ _ _ p hp => absurd hp (by simp)⟩
  | cons q l ih =>
    obtain ⟨a, b, c, d, e⟩ := ih (s.requestPermit q)
    obtain ⟨a', b', c'⟩ := State.requestPermit_keeps q s
    rw [List.foldl_cons]
    refine ⟨a.trans a', b.trans b', c.trans c', fun o ho => d o (State.requestPermit_out ho), fun h1 h2 h3 h4 p hp c hc => ?_⟩
    have hw := State.requestPermit_within (p := q) (s := s)
    rcases List.mem_cons.mp hp with rfl | hp
    · refine d _ ?_
      unfold State.requestPermit State.sendCell
      rw [hc]
      dsimp only
      rw [if_neg h1, if_pos ⟨h2, h3, by rw [h4]; rfl⟩]
      simp [State.emit]
    · refine e ?_ ?_ ?_ ?_ p hp c hc
      · unfold State.requestPermit State.sendCell
        split
        · exact h1
        · dsimp only
          split
          · exact h1
          · split <;> exact h1
      · unfold State.requestPermit State.sendCell
        split
        · exact h2
        · dsimp only
          split
          · exact h2
          · split <;> exact h2
      · rw [show (s.requestPermit q).pair = s.pair from hw .pair rfl]; exact h3
      · rw [show (s.requestPermit q).halt = s.halt from hw .halt rfl]; exact h4
/-- What each pass keeps, the fold keeps. -/
theorem State.foldl_keeps {α β : Type} (g : State → β) {f : State → α → State} (h : ∀ t x, g (f t x) = g t) (l : List α) (s : State) :
    g (l.foldl f s) = g s := by
  induction l generalizing s with
  | nil => rfl
  | cons x l ih => rw [List.foldl_cons, ih, h]
/-- Checking stopping envelopes changes no plan. -/
theorem State.checkStops_plans (s : State) : s.checkStops.ledger.plans = s.ledger.plans := by
  unfold State.checkStops
  refine State.foldl_keeps (fun t => t.ledger.plans) (fun t n => ?_) _ _
  refine State.foldl_keeps (fun t => t.ledger.plans) (fun t m => ?_) _ _
  dsimp only
  split
  · rfl
  · rw [State.trigger_ledger, State.raise_ledger]
/-- Keeping the commit records changes no plan but for the record kept with it. -/
theorem State.keepRecords_plans (s : State) :
    s.keepRecords.ledger.plans.map (fun x => { x with mirrored := none }) = s.ledger.plans.map (fun x => { x with mirrored := none }) := by
  unfold State.keepRecords
  dsimp only
  rw [List.map_map]
  refine List.map_congr_left (fun x _ => ?_)
  simp only [Function.comp]
  split <;> rfl
theorem ledgerCutoff_spec (s : State) : (ledgerCutoff s).ledger.profileClosed = true ∧ (ledgerCutoff s).ledger.ledgerClosed = true ∧
      (ledgerCutoff s).ledger.plans.map (fun x => { x with mirrored := none }) =
        s.ledger.plans.map (fun x => if x.submit = s.clock.tick - 1 && x.result = none then
          { x with profiled := true, result := some 2, detail := 0, mirrored := none } else { x with mirrored := none }) ∧
      (s.keys.pendingState ≠ 3 → s.keys.security ≠ 0 → (s.pair.role = 0 ∨ s.pair.role = 1 ∨ s.pair.role = 4) → s.halt.silent = false →
        ∀ p ∈ s.ledger.plans, p.submit = s.clock.tick - 1 → p.result = some 0 → ∀ c, p.crossing = some c →
          Output.cell c.pair (.permitRequest p.id c.border c.handover c.commit p.lane p.epoch
            { first := c.border, list := p.envelopes.drop (c.border - p.first).toNat }) ∈ (ledgerCutoff s).out) := by
  unfold ledgerCutoff
  dsimp only
  generalize hx : (if (s.stamped 17000000).ledger.ledgerClosed = true then s.stamped 17000000 else (s.stamped 17000000).checkStops) = x
  have hp : x.ledger.plans = s.ledger.plans := by
    rw [← hx]; split
    · rfl
    · exact State.checkStops_plans _
  have hw : Within [.clock, .ledger, .access, .counters, .trip, .panel] s x := by
    rw [← hx]
    refine Within.ite (State.stamped_within.mono rfl) ((State.stamped_within.mono rfl).trans (State.checkStops_within.mono rfl))
  have ht : (s.stamped 17000000).clock.tick = s.clock.tick := rfl
  rw [ht]
  generalize hq : x.onPlans (fun p => p.submit = s.clock.tick - 1 && p.result = none) (fun p => p.fail 2 0) = q
  have hwq : Within [.clock, .ledger, .access, .counters, .trip, .panel] s q :=
    hq ▸ hw.trans (State.onPlans_within.mono rfl)
  have hyp : q.ledger.plans = s.ledger.plans.map (fun x => if x.submit = s.clock.tick - 1 && x.result = none then
        { x with profiled := true, result := some 2, detail := 0 } else x) := by
    rw [← hq, ← hp]; rfl
  have tail : ∀ z : State,
      (if (z.pair.role = 1 ∨ z.pair.role = 4) ∧ z.pair.deltaSent = some z.clock.tick then z.sendLink (.delta z.clock.tick 1 z.batchFacts z.deltaRecords true) else z).ledger = z.ledger ∧
      ∀ o ∈ z.out, o ∈ (if (z.pair.role = 1 ∨ z.pair.role = 4) ∧ z.pair.deltaSent = some z.clock.tick then z.sendLink (.delta z.clock.tick 1 z.batchFacts z.deltaRecords true) else z).out := by
    intro z
    split
    · exact ⟨State.sendLink_within .ledger rfl, fun o ho => State.out_sendLink ho⟩
    · exact ⟨rfl, fun o ho => ho⟩
  obtain ⟨a, b, c, d, e⟩ := State.requestPermits_spec (q.ledger.plans.filter (fun p => p.submit = s.clock.tick - 1 && p.result = some 0 && p.crossing.isSome))
    { q with ledger := { q.ledger with profileClosed := true, ledgerClosed := true } }
  refine ⟨(congrArg Ledger.profileClosed (tail _).1).trans b, (congrArg Ledger.ledgerClosed (tail _).1).trans c,
    ?_, fun h1 h2 h3 h4 p hp1 hp2 hp3 k hk => (tail _).2 _ ?_⟩
  · rw [show _ = _ from congrArg Ledger.plans (tail _).1, State.keepRecords_plans, a]
    show q.ledger.plans.map _ = _
    rw [hyp, List.map_map]
    refine List.map_congr_left (fun x _ => ?_)
    show ({ (if _ then _ else x : Plan) with mirrored := none } : Plan) = _
    split <;> rfl
  have hm : p ∈ q.ledger.plans.filter (fun p => p.submit = s.clock.tick - 1 && p.result = some 0 && p.crossing.isSome) := by
    refine List.mem_filter.mpr ⟨?_, by simp [hp2, hp3, hk]⟩
    rw [hyp]
    refine List.mem_map.mpr ⟨p, hp1, ?_⟩
    rw [if_neg (by simp [hp3])]
  exact e (by rw [show q.keys = s.keys from hwq .keys rfl]; exact h1)
      (by rw [show q.keys = s.keys from hwq .keys rfl]; exact h2)
      (by rw [show q.pair = s.pair from hwq .pair rfl]; exact h3)
      (by rw [show q.halt = s.halt from hwq .halt rfl]; exact h4) p hm k hk

end Sys2Proof.Machine
end

