-- ==== Sys2Proof/Laws/Transitions.lean ====
section
/-! SUPPORT. What the transitions of lanes and their timers leave: the lane's own records, and every other lane as it was. -/

namespace Sys2Proof.Machine

theorem tablesWf_of_within {s t : State} (h : s.tablesWf) {l : List Part} (hw : Within l s t) (hl : l.contains .tables = false) :
    t.tablesWf := hw .tables hl h
theorem lane_onLane {s : State} (hs : s.tablesWf) (n m : Nat) (f : Lane → Lane) :
    (s.onLane n f).lane m = if m = n then f (s.lane n) else s.lane m := by
  simp only [State.onLane, State.setLane, State.lane]
  exact tget_tput n m _ hs.1
theorem route_onRoute {s : State} (hs : s.tablesWf) (n m : Nat) (f : Route → Route) :
    (s.onRoute n f).route m = if m = n then f (s.route n) else s.route m := by
  simp only [State.onRoute, State.route]
  exact tget_tmod n m f hs.2.1
theorem airLane_onAirLane {s : State} (hs : s.tablesWf) (n m : Nat) (f : AirLane → AirLane) :
    (s.onAirLane n f).airLane m = if m = n then f (s.airLane n) else s.airLane m := by
  simp only [State.onAirLane, State.airLane]
  exact tget_tmod n m f hs.2.2
theorem onLane_wf {s : State} (hs : s.tablesWf) (n : Nat) (f : Lane → Lane) : (s.onLane n f).tablesWf :=
  ⟨tput_wf n _ hs.1, hs.2⟩
theorem onRoute_wf {s : State} (hs : s.tablesWf) (n : Nat) (f : Route → Route) : (s.onRoute n f).tablesWf :=
  ⟨hs.1, tmod_wf n f hs.2.1, hs.2.2⟩
theorem onAirLane_wf {s : State} (hs : s.tablesWf) (n : Nat) (f : AirLane → AirLane) : (s.onAirLane n f).tablesWf :=
  ⟨hs.1, hs.2.1, tmod_wf n f hs.2.2⟩
/-- What a transition does to the records of lanes. -/
theorem transition_lane {s : State} (hs : s.tablesWf) (n m : Nat) (k : LaneState) :
    (s.transition n k).lane m = if m = n then { s.lane n with
      state := k.stored, lastTransition := s.clock.tick, timer := 0
      progress := if k = .halted ∨ k = .admitting then (s.lane n).progress else 0 } else s.lane m := by
  rw [← lane_onLane hs n m (fun l => { l with
      state := k.stored, lastTransition := s.clock.tick, timer := 0
      progress := if k = .halted ∨ k = .admitting then l.progress else 0 })]
  unfold State.transition
  dsimp only
  unfold State.lane
  split
  · rw [State.trigger_lanes, State.pushTelemetry_lanes]
  · rw [State.pushTelemetry_lanes]
theorem onAirLane_lane (s : State) (n m : Nat) (f : AirLane → AirLane) : (s.onAirLane n f).lane m = s.lane m := rfl
theorem onAirLane_route (s : State) (n m : Nat) (f : AirLane → AirLane) : (s.onAirLane n f).route m = s.route m := rfl
theorem onLane_route (s : State) (n m : Nat) (f : Lane → Lane) : (s.onLane n f).route m = s.route m := rfl
theorem onRoute_lane (s : State) (n m : Nat) (f : Route → Route) : (s.onRoute n f).lane m = s.lane m := rfl
theorem onAirLane_checkpoint (s : State) (n : Nat) (f : AirLane → AirLane) : (s.onAirLane n f).checkpoint = s.checkpoint := rfl
theorem onLane_checkpoint (s : State) (n : Nat) (f : Lane → Lane) : (s.onLane n f).checkpoint = s.checkpoint := rfl
theorem onRoute_checkpoint (s : State) (n : Nat) (f : Route → Route) : (s.onRoute n f).checkpoint = s.checkpoint := rfl
theorem transition_keeps (n : Nat) (k : LaneState) (s : State) : Within [.lanes, .access, .counters, .trip, .panel] s (s.transition n k) :=
  State.transition_within
theorem dropSolves_queue (n : Nat) (u : State) : (u.dropSolves n).checkpoint.queue = u.checkpoint.queue.filter (fun r => r.lane ≠ n) := rfl
theorem closeLane_spec {s : State} (hs : s.tablesWf) (n : Nat) : s.closes (s.closeLane n) n ∧
    (s.closeLane n).lane n = { s.lane n with
      state := LaneState.vacant.stored, lastTransition := s.clock.tick, timer := 0, progress := 0, atHalt := 0xFF00, standstill := 0,
      pose := none, standPose := none, releaseAcked := false, selfStop := none } := by
  have hw := transition_keeps n .vacant s
  have h1 : (s.transition n .vacant).tablesWf := tablesWf_of_within hs hw rfl
  have hr : ∀ m, (s.transition n .vacant).route m = s.route m := fun m => by unfold State.route; rw [show (s.transition n .vacant).routes = s.routes from hw .routes rfl]
  have h2 : ((s.transition n .vacant).dropSolves n).tablesWf := tablesWf_of_within h1 (State.dropSolves_within (n := n)) rfl
  have hl2 : ∀ m, ((s.transition n .vacant).dropSolves n).lane m = (s.transition n .vacant).lane m := fun _ => by
    unfold State.lane; rw [show ((s.transition n .vacant).dropSolves n).lanes = _ from State.dropSolves_within .lanes rfl]
  have hr2 : ∀ m, ((s.transition n .vacant).dropSolves n).route m = (s.transition n .vacant).route m := fun _ => by
    unfold State.route; rw [show ((s.transition n .vacant).dropSolves n).routes = _ from State.dropSolves_within .routes rfl]
  generalize hx : (s.transition n .vacant).dropSolves n = x at h2 hl2 hr2
  have hck : ∀ q ∈ x.checkpoint.queue, q.lane ≠ n := by
    rw [← hx]
    intro q hq
    rw [dropSolves_queue] at hq
    simpa using (List.mem_filter.mp hq).2
  have h3 := onRoute_wf h2 n (fun r => { refused := r.refused, lastAccepted := r.lastAccepted })
  have hcl : s.closeLane n = ((x.onRoute n (fun r => { refused := r.refused, lastAccepted := r.lastAccepted })).onLane n
    (fun l => { l with atHalt := 0xFF00, standstill := 0, pose := none, standPose := none, releaseAcked := false, selfStop := none })).onAirLane n (fun a => { a with
    expected := 0, next := 0, stored := [], held := [], unacked := [], waiting := [],
    acks := [], keyGeneration := 0, relay := false, configured := [], stateHeld := 0 }) := by
    unfold State.closeLane
    rw [hx]
  have hlane : ∀ m, (s.closeLane n).lane m = if m = n then { s.lane n with
      state := LaneState.vacant.stored, lastTransition := s.clock.tick, timer := 0, progress := 0, atHalt := 0xFF00, standstill := 0,
      pose := none, standPose := none, releaseAcked := false, selfStop := none } else s.lane m := by
    intro m
    rw [hcl, onAirLane_lane, lane_onLane h3, onRoute_lane, onRoute_lane, hl2, hl2, transition_lane hs, transition_lane hs]
    split
    · simp
    · rfl
  have hroute : ∀ m, (s.closeLane n).route m = if m = n then { refused := (s.route n).refused, lastAccepted := (s.route n).lastAccepted } else s.route m := by
    intro m
    rw [hcl, onAirLane_route, onLane_route, route_onRoute h2, hr2, hr2, hr, hr]
  refine ⟨⟨?_, ?_, ?_, ?_, ?_, ?_⟩, ?_⟩
  · unfold State.laneIs; rw [hlane, if_pos rfl]
    show decide (laneStateOf LaneState.vacant.stored = some .vacant) = true
    decide
  · rw [hlane, if_pos rfl]
  · rw [hlane, if_pos rfl]
  · rw [hroute, if_pos rfl]
  · rw [hcl, onAirLane_checkpoint, onLane_checkpoint, onRoute_checkpoint]; exact hck
  · intro m hm
    rw [hlane, if_neg hm, hroute, if_neg hm]
    exact ⟨rfl, rfl⟩
  · rw [hlane, if_pos rfl]
theorem closes_not_is {s t : State} {n : Nat} (h : s.closes t n) {k : LaneState} (hk : k ≠ .vacant) : t.laneIs n k = false := by
  have := h.1
  unfold State.laneIs at this ⊢
  rw [of_decide_eq_true this]
  simpa using Ne.symm hk
theorem is_only {s : State} {n : Nat} {k j : LaneState} (h : s.laneIs n k = true) (hk : j ≠ k) : s.laneIs n j = false := by
  unfold State.laneIs at h ⊢
  rw [of_decide_eq_true h]
  simpa using Ne.symm hk

theorem code_other {s : State} {n : Nat} {k : LaneState} (h : s.laneIs n k = true) : laneStateOf (s.lane n).state = some k := of_decide_eq_true h
theorem code_not {s : State} {n : Nat} {k : LaneState} (h : s.laneIs n k = false) : laneStateOf (s.lane n).state ≠ some k := of_decide_eq_false h
theorem transition_is {s : State} (hs : s.tablesWf) (n : Nat) (k : LaneState) : (s.transition n k).laneIs n k = true := by
  unfold State.laneIs
  rw [transition_lane hs, if_pos rfl]
  show decide (laneStateOf k.stored = some k) = true
  cases k <;> decide
theorem entryOverlap_lane (n m : Nat) (e : Envelope) (c : List (Nat × List Point)) (s : State) : (s.entryOverlap n e c).lane m = s.lane m := by
  unfold State.lane
  rw [show (s.entryOverlap n e c).lanes = s.lanes from State.entryOverlap_within .lanes rfl]
theorem tell_lane (n m typ : Nat) (v : Bytes) (s : State) : (s.tell n typ v).lane m = s.lane m := rfl
theorem raise_lane (m code cls reg lane key : Nat) (p : Bytes) (s : State) : (s.raise code cls reg lane key p).lane m = s.lane m := by
  unfold State.lane; rw [State.raise_lanes]
theorem raise_route (m code cls reg lane key : Nat) (p : Bytes) (s : State) : (s.raise code cls reg lane key p).route m = s.route m := by
  unfold State.route; rw [State.raise_routes]

end Sys2Proof.Machine
end

