-- ==== Sys2Proof/Laws/Hearing.lean ====
section
/-! SUPPORT. Frames of the pair link that are heard, and what a unit does that takes the right of way. -/

namespace Sys2Proof.Machine

theorem epochAbove_self (a : U16) : epochAbove a a = false := by
  unfold epochAbove; simp
theorem hearEpoch_low {e : U16} {s : State} (h : epochAbove e s.pair.epoch = false) : s.hearEpoch e = s := by
  unfold State.hearEpoch; rw [h]; rfl
/-- A frame that is heard reaches its body; its sequence is taken. -/
theorem linkFrame_hears {s : State} {h : LinkHead} (body : State → State) (hh : s.hears h) :
    s.linkFrame h body = body { s.stamped h.stamp with pair := { s.pair with
      receiveSeq := h.seq + 1, partnerEpoch := if epochAbove h.epoch s.pair.partnerEpoch then h.epoch else s.pair.partnerEpoch } } := by
  obtain ⟨h1, h2, h3, h4, h5, h6⟩ := hh
  unfold State.linkFrame
  rw [show s.pair = (s.stamped h.stamp).pair from rfl] at h1 h5 h6 ⊢
  rw [show s.halt = (s.stamped h.stamp).halt from rfl] at h2
  generalize s.stamped h.stamp = s at h1 h2 h5 h6
  have e1 : ¬ ((!s.pair.linkUp) = true ∨ s.halt.silent = true) := by rw [h1, h2]; decide
  have e2 : ¬ s.pair.receiveSeq < h.seq := by rw [h5]; exact Nat.lt_irrefl _
  rw [if_neg e1, if_neg (by rw [h3]; decide), if_neg (by rw [h4]; decide), if_neg (by rw [h5]; exact Nat.lt_irrefl _)]
  dsimp only
  rw [if_neg e2, decide_eq_false e2, Bool.or_false]
  rw [hearEpoch_low]
  exact h6

end Sys2Proof.Machine
end

