-- ==== Sys2Proof/Laws/Effects.lean ====
section
/-! SUPPORT. Lemmas on what the operations of the pair, of neighbouring cells, of the chain and of the keys leave, which the statements
about their commands use. -/

namespace Sys2Proof.Machine

theorem selectOut_chain (on : Bool) (s : State) : (s.selectOut on).chain = { s.chain with selOut := if s.power.svcAlt then s.chain.selOut else on } ∧
    (s.selectOut on).access = s.access ∧ ∀ o ∈ s.out, o ∈ (s.selectOut on).out := by
  unfold State.selectOut
  by_cases h : s.power.svcAlt = true
  · rw [if_pos h, h]; exact ⟨rfl, rfl, fun _ h => h⟩
  · rw [if_neg h, if_neg h]
    dsimp only
    split
    · exact ⟨rfl, rfl, fun _ h => h⟩
    · exact ⟨rfl, rfl, fun _ h => List.mem_append_left _ h⟩
theorem stream_onStream (q : Nat) (f : Stream → Stream) (s : State) : (s.onStream q f).stream q = f (s.stream q) := by
  simp [State.onStream, Units.stream]
theorem stream_onStream_other {q j : Nat} {f : Stream → Stream} {s : State} (h : j ≠ q) (hv : f (s.stream q) ≠ {}) : (s.onStream q f).stream j = s.stream j := by
  simp only [State.onStream, Units.stream]
  exact tget_tput_other _ h hv

theorem setRole_pair (k : Nat) (s : State) : (s.setRole k).pair = { s.pair with role := k } := by
  unfold State.setRole
  split
  · rename_i h; rw [← h]
  · rw [State.trigger_pair]
/-- The state with which a new active starts its boundary work. -/
theorem becomeActive_spec (e : U16) (d : Bool) (s : State) : (s.becomeActive e d).pair.role = 4 ∧ (s.becomeActive e d).pair.epoch = e ∧
    (s.becomeActive e d).pair.takeovers = s.pair.takeovers ∧ (s.becomeActive e d).air.broadcast = 0 ∧
    (d = true → (s.becomeActive e d).due = [] ∧ (s.becomeActive e d).checkpoint.queue = [] ∧ (s.becomeActive e d).checkpoint.running = []) := by
  have h1 : (s.takeRight e).pair.role = 4 ∧ (s.takeRight e).pair.epoch = e ∧ (s.takeRight e).pair.takeovers = s.pair.takeovers := by
    unfold State.takeRight; rw [setRole_pair]; exact ⟨rfl, rfl, rfl⟩
  generalize hx : s.takeRight e = x at h1
  have hd : ∀ t : State, t.discardWork.pair = t.pair ∧ t.discardWork.due = [] ∧ t.discardWork.checkpoint.queue = [] ∧ t.discardWork.checkpoint.running = [] := by
    intro t
    unfold State.discardWork
    dsimp only
    generalize hu : List.foldl (fun (t : State) q => t.solveDropped q) _ _ = u
    have h1 : u.pair = t.pair := by rw [← hu]; exact State.foldl_keeps (fun t => t.pair) (f := fun (t : State) (q : CkRequest) => t.solveDropped q) (fun _ _ => rfl) _ _
    have h2 : u.checkpoint.queue = [] := by rw [← hu]; exact State.foldl_keeps (fun t => t.checkpoint.queue) (f := fun (t : State) (q : CkRequest) => t.solveDropped q) (fun _ _ => rfl) _ _
    have h3 : u.checkpoint.running = [] := by rw [← hu]; exact State.foldl_keeps (fun t => t.checkpoint.running) (f := fun (t : State) (q : CkRequest) => t.solveDropped q) (fun _ _ => rfl) _ _
    have hw : Within [.access, .counters, .trip, .panel, .lanes, .ledger, .settings, .gnss, .update] { u with due := [], ledger := { u.ledger with plans := [] } }
        (u.ledger.plans.foldl (fun (t : State) p => t.failPlan p 2) { u with due := [], ledger := { u.ledger with plans := [] } }) :=
      Within.foldl (f := fun (t : State) (p : Plan) => t.failPlan p 2) (fun t p => State.failPlan_within) (Within.refl _ _)
    have e2 := hw .checkpoint rfl
    exact ⟨(hw .pair rfl).trans h1, hw .due rfl, (congrArg Checkpoint.queue e2).trans h2, (congrArg Checkpoint.running e2).trans h3⟩
  generalize hy : (if d then x.discardWork else x) = y
  have hyp : y.pair = x.pair := by
    rw [← hy]; split
    · exact (hd x).1
    · rfl
  have hw : Within [.lanes, .access, .counters, .trip, .panel] y.freshAir.resumeBursts y.freshAir.resumeBursts.soundLanes := by
    refine Within.foldl (fun t n => ?_) (Within.refl _ _)
    refine Within.ite ?_ (Within.refl _ _)
    refine Within.after ?_ State.raise_within rfl
    exact State.onLane_within.mono rfl
  have he : s.becomeActive e d = y.freshAir.resumeBursts.soundLanes := by unfold State.becomeActive; dsimp only; rw [hx, hy]
  rw [he, show y.freshAir.resumeBursts.soundLanes.pair = y.pair from hw .pair rfl, hyp]
  refine ⟨h1.1, h1.2.1, h1.2.2, congrArg Air.broadcast (hw .air rfl), fun ht => ?_⟩
  rw [ht, if_pos rfl] at hy
  refine ⟨(hw .due rfl).trans ?_, (congrArg Checkpoint.queue (hw .checkpoint rfl)).trans ?_, (congrArg Checkpoint.running (hw .checkpoint rfl)).trans ?_⟩
  · show y.due = []; rw [← hy]; exact (hd x).2.1
  · show y.checkpoint.queue = []; rw [← hy]; exact (hd x).2.2.1
  · show y.checkpoint.running = []; rw [← hy]; exact (hd x).2.2.2

/-- A datagram of a cell link is counted; nothing else changes before it is looked at. -/
theorem count_eq (a n : Nat) (s : State) : ∃ c, s.count a n = { s with counters := c } := by
  refine ⟨(s.count a n).counters, ?_⟩
  unfold State.count
  suffices H : ∀ l : List Nat, ∀ t : State, l.foldl (State.addCounter n) t = { t with counters := (l.foldl (State.addCounter n) t).counters } from H _ s
  intro l
  induction l with
  | nil => intro t; rfl
  | cons x l ih =>
    intro t
    rw [List.foldl_cons, ih]
    unfold State.addCounter
    rfl
theorem sendCell_out {s : State} (pair : Nat) (m : CellMsg) (h : s.keys.security ≠ 0) (hr : s.pair.role = 0 ∨ s.pair.role = 1 ∨ s.pair.role = 4)
    (hs : s.halt.silent = false) : Output.cell pair m ∈ (s.sendCell pair m).out := by
  unfold State.sendCell
  rw [if_pos ⟨h, hr, by rw [hs]; rfl⟩]
  exact List.mem_append_right _ (List.mem_singleton.mpr rfl)
theorem onCells_parts {s : State} (h : s.onCells = true) : s.isStandby = false ∧ s.keys.security ≠ 0 ∧ s.halt.silent = false := by
  unfold State.onCells at h
  simpa [and_assoc] using h

theorem dropGuest_spec {s : State} (n : Nat) : tfind (s.dropGuest n).guests n = none ∧ ((s.dropGuest n).lane n).reserved = false ∧
    (s.dropGuest n).keys = s.keys ∧ (s.dropGuest n).pair = s.pair ∧ (s.dropGuest n).halt = s.halt ∧ (s.dropGuest n).ledger = s.ledger := by
  unfold State.dropGuest
  refine ⟨tfind_tdel _ _, ?_, rfl, rfl, rfl, rfl⟩
  show ((s.onLane n (fun l => { l with reserved := false })).lane n).reserved = false
  rw [lane_same_onLane]

theorem endRollover_keys (s : State) : s.endRollover.keys = s.keys.promote := by
  unfold State.endRollover
  dsimp only
  have hw : ∀ (l : List Nat) (t : State) (g : Nat), Within [.air, .access, .counters, .trip, .panel] t
      (l.foldl (fun (t : State) n => ({ t with air := { t.air with incomplete := t.air.incomplete + 1 } } : State).raise 0x1002 1 4 n 0 (le 1 g)) t) := by
    intro l t g
    refine Within.foldl (f := fun (t : State) (n : Nat) => ({ t with air := { t.air with incomplete := t.air.incomplete + 1 } } : State).raise 0x1002 1 4 n 0 (le 1 g)) (fun t n => ?_) (Within.refl _ _)
    exact Within.after ((within_air rfl)) State.raise_within rfl
  refine Eq.trans (b := Keys.promote _) rfl ?_
  exact congrArg Keys.promote (hw _ _ _ .keys rfl)
theorem rolloverSwitch_keys (s : State) : s.rolloverSwitch.keys = s.keys ∨ s.rolloverSwitch.keys = { s.keys with switched := true } := by
  unfold State.rolloverSwitch
  cases s.keys.switchTick with
  | none => exact .inl rfl
  | some t =>
    dsimp only
    split
    · exact .inr rfl
    · exact .inl rfl

end Sys2Proof.Machine
end

