-- ==== Sys2Proof/Laws/Phy.lean ====
section
/-! SUPPORT. Lemmas of the bit strings of Machine/Phy.lean: what packing, whitening and the CRC-16 do. -/

namespace Sys2Proof.Machine

/-- A shift register gives as many bits as it takes steps. -/
theorem shiftBits_length (c a b n x : Nat) : (shiftBits c a b n x).length = n := by
  induction n generalizing x with
  | zero => rfl
  | succ n ih => simp [shiftBits, ih]
theorem bitsOf_length (n v : Nat) : (bitsOf n v).length = n := by simp [bitsOf]
theorem byteBits_length (b : Bytes) : (byteBits b).length = 8 * b.length := by
  induction b with
  | nil => rfl
  | cons x b ih => simp only [byteBits, List.flatMap_cons, List.length_append, bitsOf_length, List.length_cons] at ih ⊢; omega
theorem xorBits_length (a b : List Bool) (h : a.length = b.length) : (xorBits a b).length = a.length := by simp [xorBits, h]
/-- Adding a bit string twice gives the first one back. -/
theorem xorBits_xorBits (a b : List Bool) (h : a.length = b.length) : xorBits (xorBits a b) b = a := by
  induction a generalizing b with
  | nil => rfl
  | cons x a ih =>
    cases b with
    | nil => cases h
    | cons y b =>
      have := ih b (by simpa using h)
      simp only [xorBits, List.zip_cons_cons, List.map_cons] at this ⊢
      rw [this]
      cases x <;> cases y <;> rfl
theorem bitsToBytes_cons (a l : List Bool) (h : a.length = 8) :
    bitsToBytes (a ++ l) = BitVec.ofNat 8 (((List.range 8).map (fun j => if a.getD j false then 2 ^ j else 0)).sum) :: bitsToBytes l := by
  unfold bitsToBytes
  have h1 : (a ++ l).length / 8 = l.length / 8 + 1 := by rw [List.length_append]; omega
  rw [h1, List.range_succ_eq_map (n := l.length / 8), List.map_cons, List.map_map]
  congr 1
  · congr 2
    refine List.map_congr_left fun j hj => ?_
    have hj := List.mem_range.mp hj
    rw [show 8 * 0 + j = j by omega, List.getD_append _ _ _ _ (by omega)]
  · refine List.map_congr_left fun k _ => ?_
    simp only [Function.comp]
    congr 2
    refine List.map_congr_left fun j hj => ?_
    rw [List.getD_append_right _ _ _ _ (by omega)]
    congr 2
    congr 1
    omega
theorem byte_bits (x : Byte) : BitVec.ofNat 8 (((List.range 8).map (fun j => if (bitsOf 8 x.toNat).getD j false then 2 ^ j else 0)).sum) = x := by
  revert x; decide +kernel
/-- The bits of bytes spell the bytes. -/
theorem bitsToBytes_byteBits (b : Bytes) : bitsToBytes (byteBits b) = b := by
  induction b with
  | nil => rfl
  | cons x b ih =>
    rw [byteBits, List.flatMap_cons, bitsToBytes_cons _ _ (bitsOf_length 8 _), byte_bits]
    exact congrArg _ ih
theorem eight_bits (a : List Bool) (h : a.length = 8) :
    bitsOf 8 (BitVec.ofNat 8 (((List.range 8).map (fun j => if a.getD j false then 2 ^ j else 0)).sum)).toNat = a := by
  match a, h with
  | [a0, a1, a2, a3, a4, a5, a6, a7], _ => revert a0 a1 a2 a3 a4 a5 a6 a7; decide
/-- Bits packed into bytes come out in their order. -/
theorem byteBits_bitsToBytes (n : Nat) (l : List Bool) (h : l.length = 8 * n) : byteBits (bitsToBytes l) = l := by
  induction n generalizing l with
  | zero => rw [List.length_eq_zero_iff.mp h]; rfl
  | succ n ih =>
    have e := List.take_append_drop 8 l
    have h1 : (l.take 8).length = 8 := by rw [List.length_take]; omega
    have h2 : (l.drop 8).length = 8 * n := by rw [List.length_drop]; omega
    rw [← e, bitsToBytes_cons _ _ h1, byteBits, List.flatMap_cons, eight_bits _ h1]
    exact congrArg _ (ih _ h2)
theorem bitsToBytes_length (l : List Bool) : (bitsToBytes l).length = l.length / 8 := by simp [bitsToBytes]
theorem whitened_length (b : Bytes) : (whitened b).length = b.length := by
  unfold whitened
  rw [bitsToBytes_length, xorBits_length _ _ (by rw [byteBits_length]; exact (shiftBits_length ..).symm), byteBits_length]
  omega
/-- Whitening twice gives the bytes back (R264). -/
theorem whitened_whitened (b : Bytes) : whitened (whitened b) = b := by
  have hl : (byteBits b).length = (pn9Bits (8 * b.length)).length := by rw [byteBits_length]; exact (shiftBits_length ..).symm
  have h := whitened_length b
  unfold whitened at h ⊢
  rw [h, byteBits_bitsToBytes b.length _ (by rw [xorBits_length _ _ hl, byteBits_length]), xorBits_xorBits _ _ hl, bitsToBytes_byteBits]
theorem crc16Bit_lt (c : Nat) : crc16Bit c < 65536 := by
  unfold crc16Bit
  split
  · exact Nat.xor_lt_two_pow (n := 16) (by omega) (by decide)
  · omega
/-- The CRC-16 of bytes has 16 bits. -/
theorem crc16_lt (b : Bytes) : crc16 b < 65536 := by
  unfold crc16
  have : ∀ (b : Bytes) (c : Nat), c < 65536 → b.foldl (fun c x => (List.range 8).foldl (fun c _ => crc16Bit c) (c ^^^ (x.toNat * 256))) c < 65536 := by
    intro b
    induction b with
    | nil => exact fun c h => h
    | cons x b ih =>
      intro c _
      refine ih _ ?_
      simp only [List.range_succ, List.range_zero, List.foldl_append, List.foldl]
      exact crc16Bit_lt _
  exact this b _ (by decide)
theorem le_length (n : Nat) (v : Int) : (le n v).length = n := by
  induction n generalizing v with
  | zero => rfl
  | succ n ih => simp [le, ih]
theorem unle_le2 (v : Nat) (h : v < 65536) : unle (le 2 v) = v := by
  simp only [le, unle]
  simp
  omega

end Sys2Proof.Machine
end

