-- ==== Sys2Proof/WellFormed.lean ====
section
/-! DEFINITION. The commands an environment can give: operands within the numbers the spec gives its lanes, units, streams and
engines, and stamps within a tick, lengthened by at most 20 ms (R15, R358). The meanings hold for any operands; out of these bounds
nothing outside the block could have sent the command. -/

namespace Sys2Proof

/-- A request stamped within a tick. -/
def Req.wf (r : Req) : Bool := decide (r.stamp < 40000000)

/-- A write item with an index of 16 bits and a subindex of 8 (R366). -/
def WriteItem.wf (x : WriteItem) : Bool := decide (x.index < 65536) && decide (x.sub < 256)

/-- The operands of a command are within bounds. -/
def Instr.wf : Instr → Bool
  | .tickBoundary _ | .permitWaitExpire _ | .profileCutoff | .ledgerCutoff | .planProfiled _ _ | .planChecked _
  | .mirrorDeltaStart | .siteLineReadback _ | .siteLineStuck | .siteLinePeriodic | .twoPartyWindowExpire | .lockstepMismatch
  | .vergeStageBeacon | .acquisitionSearchStart | .observablesReady _
  | .observablesLate | .ppsOutEdge _ | .ppsInEdge _ | .ref10mLost _ | .ref10mLocked | .heartbeat _ _ _ _ _
  | .takeover | .pairStartupTimeout | .linkStart | .delta _ _ _ _ | .transfer _ _ _ _ | .planned _ _
  | .addressClaimStart | .query _ | .addressClaimTimeout | .addressClaimConfirm | .addressClaimRetry | .rolloverWindowEnd
  | .tamperDetected | .vbatLost | .vbatRestored _ | .downloadExpire | .trialLimitExpire
  | .startTimerExpire | .watchdogReset | .romBoot _ _ | .resetRelease _ _ _ | .rstNAssert _ | .identify _ | .imageBegin _ _
  | .imageBlock _ _ _ _ | .imageEnd _ _ | .status _ | .serviceReset _ _ | .leaveRecovery _ _ | .serviceFrameGap
  | .servicePlugChange _ _ | .clientProof _ _ | .sessionEstablishTimeout _
  | .sessionIdleTimeout _ | .canHeartbeatProduce | .snapshotInstant _ _ | .snapshot _ _ _
  | .lampTestEnd | .keysWetEnd | .wakeRisingEdge | .feedTestDue | .standbyContactStrobe _ _ | .powerOn | .vbatLow _ _
  | .vergeTransmissionEnd _ | .nmtCommand _ | .debugTapInstruction _ => true
  | .pairAckReceive _ _ _ _ | .halt _ _ _ _ _ _ _ _ => true
  | .tftpWriteRequest peer _ => decide (peer.address < 2 ^ 32) && decide (peer.port < 65536)
  | .tftpDataBlock address port number _ => decide (address < 2 ^ 32) && decide (port < 65536) && decide (number < 65536)
  | .lampReturn opening count _ _ => decide (opening < 256) && decide (count < 256)
  | .sliceBoundary env => decide (env.rms.length = 4)
  | .acquisitionSearchDone result => decide (result.unit < 4)
  | .admissionTimeout lane | .releaseTimeout lane | .handoverConfirmationTimeout lane | .guestPlanExpire lane
  | .verdictStaleTimeout lane => decide (lane < 192)
  | .siteHaltSample _ stamp | .localResumePress _ stamp | .ownPairBeaconReceive _ stamp | .pairPulseEdge _ stamp | .downloadVerified stamp =>
    decide (stamp < 40000000)
  | .routeSubmit r lane _ | .hold r lane | .resumeRoute r lane | .cancelRoute r lane | .approveAdmission r lane
  | .refuseAdmission r lane | .resumeStoppedLane r lane | .release r lane | .evict r lane => r.wf && decide (lane < 192)
  | .limitChange r lane sub _ => r.wf && decide (lane < 192) && decide (sub < 256)
  | .closureChange r area _ => r.wf && decide (area < 1024)
  | .haltAssert r _ | .haltRestore r _ | .haltResume r _ | .surveyCommandStart r | .surveyCommandAbort r | .returnToTb1 r _
  | .ppsOutEnable r _ | .plannedHandover r _ | .addressCommand r _ | .pendingKeyWrite r _ _ _ _ | .keyVerify r
  | .keyAnnounce r | .keyDiscard r | .debugCertificateOpen r _ _ _ _ | .debugCertificateClose r _ _ _ _ | .imageChunk r _
  | .activate r | .confirmTrial r | .discardDownload r | .resetCommand r _ | .keepalive r | .close r | .acknowledgeEvents r _
  | .clearErrorList r _ | .snapshotNow r | .snapshotAtNextBoundary r | .snapshotAtTime r | .forceTrigger r _
  | .triggerOutputEnable r _ | .feedTest r _ | .powerCommandRun r | .powerCommandQuiet r | .powerCommandStandby r => r.wf
  | .haltRepetition _ index => decide (index < 65536)
  | .contactTestPulse channel low => decide (channel < 4) && decide (low.length = 4)
  | .siteLine address _ | .siteLineDriverTimeout address | .announce address _ _ _ _ _ => decide (address < 256)
  | .ccaObservationDone cw _ => decide (cw < 4)
  | .uplinkFrameReceive cw ppdu _ => decide (cw < 4) && decide (ppdu.stamp < 40000000)
  | .downlinkRetransmit lane msn => decide (lane < 192) && decide (msn < 256)
  | .checkpointSolveStart dsp stamp | .checkpointSolveDone dsp _ stamp => decide (dsp < 4) && decide (stamp < 40000000)
  | .checkpointSolveLate dsp => decide (dsp < 4)
  | .trackerIntegrationBoundary channel _ _ _ | .trackerLoopUpdate channel _ _ | .reacquisitionGiveUp channel _
  | .l5HandoverTimeout channel => decide (channel < 80)
  | .ptpMessageReceive port _ | .ptpMessageInterval port _ | .announceReceiptTimeout port => decide (port < 2)
  | .start nonce address _ _ _ => decide (nonce.length = 16) && decide (address < 256)
  | .input _ source stamp _ => decide (source < 4) && decide (stamp < 40000000)
  | .region pair _ _ _ | .released pair _ => decide (pair < 17)
  | .refusal head _ stamp | .withdrawal head stamp => decide (head.pair < 17) && decide (stamp < 40000000)
  | .commitNotice pair _ _ _ _ stamp | .handover pair _ stamp =>
    decide (pair < 17) && decide (stamp < 40000000)
  | .permitRequest head asker _ _ _ _ stamp => decide (head.pair < 17) && decide (asker.lane < 192) && decide (stamp < 40000000)
  | .grant pair _ lane _ stamp => decide (pair < 17) && decide (lane < 192) && decide (stamp < 40000000)
  | .confirm head lane stamp => decide (head.pair < 17) && decide (lane < 192) && decide (stamp < 40000000)
  | .dictionaryRequest _ _ _ _ entry _ => decide (entry.index < 65536) && decide (entry.sub < 256)
  | .transferSegmentTimeout index sub => decide (index < 65536) && decide (sub < 256)
  | .dictionaryWrite r item => r.wf && item.wf
  | .batch r items => r.wf && items.all WriteItem.wf
  | .domainDownloadSegment r index sub _ _ _ _ _ | .domainUploadSegment r index sub _ =>
    r.wf && decide (index < 65536) && decide (sub < 256)
  | .hello port _ slot _ share =>
    decide (port < 2) && decide (slot < 256) && decide (share.key.length = 65) && decide (share.nonce.length = 16)
  | .streamPull r stream _ | .streamClaim r stream | .streamRelease r stream | .streamKey r stream
  | .streamMulticastEnable r stream _ => r.wf && decide (stream < 6)
  | .canReaderTimeout stream => decide (stream < 6)
  | .counterConfigure r counter _ _ => r.wf && decide (counter < 256)
  | .taskWakeOnFlags task _ | .taskDeadlineDrop task _ => decide (task < 256)
  | .taskDelayExpiry engine | .taskYield engine _ _ _ => decide (engine < 20)
  | .captureUnitEnable r unit _ => r.wf && decide (unit < 4)
  | .autoTriggerTimeout unit | .captureComplete unit | .captureDrained unit => decide (unit < 4)
  | .channelHealthTimeout channel => decide (channel < 32)
  | .touchScan levels => decide (levels.length = 8)
  | .keyStuck key => decide (key < 8)
  | .feedQualifyRunEnd feed _ _ | .feedTestRunEnd feed _ _ | .feedComparatorRelease feed => decide (feed < 2)
  | .standbyWake source => decide (source < 4)
  | .temperatureHigh die _ => decide (die < 2)
  | .railOutOfTolerance rail => decide (rail < 8)

end Sys2Proof
end

