-- ==== Sys2Proof/Tests/Slice0.lean ====
section
/-! SUPPORT. Tests of the model: ill-formed commands that WellFormed refuses, single steps with results read from the spec, and for
every statement with hypotheses a state and operands that meet them together. The free values and the part's own constants cannot be
evaluated, so a witness never rests on one. -/

open Sys2Proof Sys2Proof.Machine

namespace Sys2Proof.Tests

-- One test at a time: a kernel evaluation that waits for the kernel holds a thread.
set_option Elab.async false

/-! ## Ill-formed commands -/

/-- A request of session 65536. -/
def who : Req := { origin := .vap 65536, id := 5, stamp := 1000, sequence := 7, tagOk := true }

/-- A request stamped after its tick, of 20 ms lengthened by at most 20 ms (R36, R358). -/
def whoLate : Req := { who with stamp := 40000000 }

/-- Stamps of requests: the bound itself is out. -/
theorem test_wf_request_stamp : Instr.wf (.keepalive whoLate) = false ∧ Instr.wf (.keepalive { who with stamp := 39999999 }) = true := by
  decide

/-- Lanes are numbered 0 to 191 (R15). -/
theorem test_wf_lane : Instr.wf (.evict who 192) = false ∧ Instr.wf (.evict who 191) = true ∧ Instr.wf (.admissionTimeout 192) = false ∧
    Instr.wf (.evict whoLate 0) = false ∧ Instr.wf (.confirm { pair := 0, plan := 1 } 192 0) = false ∧ Instr.wf (.downlinkRetransmit 192 0) = false ∧
    Instr.wf (.grant 0 1 192 [] 0) = false ∧ Instr.wf (.limitChange who 192 1 []) = false := by decide

/-- Subindices, areas, message numbers, repetition indices and stamps of events. -/
theorem test_wf_numbers : Instr.wf (.limitChange who 0 256 []) = false ∧ Instr.wf (.closureChange who 1024 []) = false ∧
    Instr.wf (.downlinkRetransmit 0 256) = false ∧ Instr.wf (.haltRepetition 0 65536) = false ∧ Instr.wf (.siteLine 256 true) = false ∧
    Instr.wf (.siteHaltSample true 40000000) = false ∧ Instr.wf (.localResumePress 1000 40000000) = false ∧
    Instr.wf (.transferSegmentTimeout 65536 0) = false ∧ Instr.wf (.dictionaryRequest { seq := 0, crc := 0 } 0 1 0 { index := 0, sub := 256 } []) = false ∧
    Instr.wf (.downloadVerified 40000000) = false ∧ Instr.wf (.tftpDataBlock 0 65536 1 []) = false ∧
    Instr.wf (.tftpWriteRequest { address := 2 ^ 32, port := 69 } { name := [], mode := [] }) = false ∧
    Instr.wf (.lampReturn 0xA5 256 [] []) = false := by decide

/-- Units of the block: contact channels, carriageways, DSPs, trackers, ports, pairs, streams, engines, counters, capture units, lamp
channels, keys, feeds, wake sources, dies, rails. -/
theorem test_wf_units : Instr.wf (.contactTestPulse 4 [true, true, true, true]) = false ∧ Instr.wf (.contactTestPulse 3 [true]) = false ∧
    Instr.wf (.ccaObservationDone 4 0) = false ∧ Instr.wf (.checkpointSolveStart 4 0) = false ∧ Instr.wf (.checkpointSolveLate 4) = false ∧
    Instr.wf (.l5HandoverTimeout 80) = false ∧ Instr.wf (.reacquisitionGiveUp 80 true) = false ∧ Instr.wf (.ptpMessageInterval 2 4) = false ∧
    Instr.wf (.withdrawal { pair := 17, plan := 0 } 0) = false ∧ Instr.wf (.streamClaim who 6) = false ∧ Instr.wf (.canReaderTimeout 6) = false ∧
    Instr.wf (.taskDelayExpiry 20) = false ∧ Instr.wf (.taskWakeOnFlags 256 0) = false ∧ Instr.wf (.counterConfigure who 256 0 0) = false ∧
    Instr.wf (.captureComplete 4) = false ∧ Instr.wf (.channelHealthTimeout 32) = false ∧ Instr.wf (.touchScan [0]) = false ∧
    Instr.wf (.keyStuck 8) = false ∧ Instr.wf (.feedComparatorRelease 2) = false ∧ Instr.wf (.standbyWake 4) = false ∧
    Instr.wf (.temperatureHigh 2 0) = false ∧ Instr.wf (.railOutOfTolerance 8) = false ∧ Instr.wf (.acquisitionSearchDone { unit := 4, found := none }) = false ∧
    Instr.wf (.hello 2 1 1 1 { key := List.replicate 65 0, nonce := List.replicate 16 0 }) = false := by decide

/-- A frame received outside carriageway 0 to 3, a link nonce that is not 16 bytes, a batch with an index past 16 bits. -/
theorem test_wf_frames (p : Ppdu) (psdu : Bytes) : Instr.wf (.uplinkFrameReceive 4 p psdu) = false ∧
    Instr.wf (.start [] 1 0 0 0) = false ∧ Instr.wf (.batch who [{ index := 65536, sub := 0, data := [] }]) = false ∧
    Instr.wf (.dictionaryWrite who { index := 0, sub := 256, data := [] }) = false :=
  ⟨rfl, by decide, by decide, by decide⟩

/-! ## States -/

/-- The session of port 0 of a host with all roles. -/
def idler : Session :=
  { id := 65536, port := 0, roles := 15, slot := 1, idle := 0, window := {}, sent := 0, up := [], down := [], transport := List.replicate 16 0
    answers := [] }

/-- An image. -/
def anImage : Image :=
  { id := 1, version := 5, length := 1, count := 1, schema := 1, low := 1, high := 1, digest := [], bodies := [] }

/-- A unit in service: an image runs, its lanes may be used (device state 2), a site key is in force, a host with the roles O, P, L and W
holds session 65536, a service plug is in. -/
def live : State :=
  { State.reset with
    power := { phase := .running, deviceState := 2, beacons := true }
    panel := { plug := true }
    keys := { security := 1, generation := 1 }
    access := { nmt := .operational
                sessions := [(65536, idler)] } }

/-- The state with a setting accepted and in force. -/
def withCfg (s : State) (index sub : Nat) (v : Int) : State :=
  { s with settings := (s.settings.accept index sub v).apply index sub v }

/-- The state with one lane in a lane state. -/
def withLane (s : State) (n : Nat) (l : Lane) : State := { s with lanes := [(n, l)] }

/-- The state after a command; the state before, where it gives none. -/
def after (c : Instr) (s : State) : State := match exec c s with | .next t => t | _ => s

/-- Request of a session that meets the conditions of `State.takes`, decided. -/
def takesNow (s : State) (r : Req) : Bool :=
  decide (s.power.phase = .running) && r.tagOk &&
    match r.origin with
    | .vap k => (match tfind s.access.sessions k with
      | some e => decide (e.window.judge r.sequence = .accept) && e.answers.isEmpty
      | none => false)
    | _ => false

theorem takes_of_takesNow {s : State} {r : Req} (h : takesNow s r = true) : s.takes r := by
  unfold takesNow at h
  unfold State.takes
  cases ho : r.origin with
  | vap k =>
    simp only [ho] at h
    cases he : tfind s.access.sessions k with
    | none => simp [he] at h
    | some e =>
      simp only [he, Bool.and_eq_true, decide_eq_true_eq, List.isEmpty_iff] at h
      obtain ⟨⟨hp, ht⟩, hw, ha⟩ := h
      exact ⟨hp, e, he, ht, hw, by simp [ha], by simp [ha], by simp [ha]⟩
  | can n => simp [ho] at h
  | service => simp [ho] at h

theorem grants_of {s : State} {r : Req} {index sub : Nat} {data : Bytes}
    (h : (takesNow s r && decide (s.commandCheck r index sub data = none)) = true) : s.grants r index sub data := by
  simp only [Bool.and_eq_true, decide_eq_true_eq] at h
  exact ⟨takes_of_takesNow h.1, h.2⟩

/-! ## Witnesses: the whole machine -/

theorem witness_stepTakesTheFront : ∃ t, step { State.reset with pending := [.serviceFrameGap] } = .next t ∧ t.pending = [] := ⟨_, rfl, rfl⟩

theorem witness_frameOfEveryCommand : ∃ t, exec .serviceFrameGap live = .next t := ⟨_, rfl⟩

theorem witness_powerStaysLegal : live.powerLegal ∧ ∃ t, step live = .next t := ⟨by unfold State.powerLegal; decide +kernel, _, rfl⟩

theorem witness_tablesStayCanonical : (withLane live 3 { state := LaneState.parked.stored }).tablesWf ∧
    ∃ t, step (withLane live 3 { state := LaneState.parked.stored }) = .next t := ⟨⟨by decide, by decide, by decide⟩, _, rfl⟩

theorem witness_silenceLasts : ({ live with halt := { silent := true } } : State).halt.silent = true ∧
    ∃ t, exec .serviceFrameGap { live with halt := { silent := true } } = .next t := ⟨rfl, _, rfl⟩

theorem witness_shownAndCustodyChange : ∃ t, exec .serviceFrameGap live = .next t := ⟨_, rfl⟩

/-- The head of a service-port frame whose CRC holds (R498). -/
def framed (command seq : Nat) (payload : Bytes) : ServiceHead := { seq := seq, crc := BitVec.ofNat 16 (serviceCrc command seq payload) }

theorem frameHolds_framed (command seq : Nat) (payload : Bytes) (h : serviceCrc command seq payload < 65536) :
    frameHolds (framed command seq payload) command payload := by
  simp [frameHolds, framed, Nat.mod_eq_of_lt h]

/-- A unit in recovery, and one in reset. -/
def inRecovery : State := { State.reset with power := { phase := .recovery }, panel := { plug := true } }
def inReset : State := { State.reset with power := { phase := .inReset } }

theorem witness_recoveryLeft :
    (inRecovery.power.phase = .recovery ∧ inRecovery.panel.plug = true ∧ inRecovery.update.lastSeq ≠ some 9) ∧
      frameHolds (framed 0x21 9 (le 2 0xA55A)) 0x21 (le 2 0xA55A) ∧ (inRecovery.power.phase = .recovery ∧ 6 < 7) ∧ inReset.power.phase = .inReset ∧
      3 ≤ ({ inReset with update := { failedBoots := 3 } } : State).update.failedBoots ∧
      (({ inReset with update := { failedBoots := 2 } } : State).update.failedBoots < 3 ∧
        ({ inReset with update := { slots := [(0, anImage)], x := { role := 1, writer := some 5 } } } : State).foreignArea = false) := by
  refine ⟨by decide +kernel, frameHolds_framed _ _ _ (by decide +kernel), by decide +kernel⟩

theorem witness_boundariesRun :
    State.reset.power.phase = .rom ∧ inRecovery.power.phase = .recovery ∧ inReset.power.phase = .inReset ∧
      (let s : State := { live with update := { activated := true } }; s.power.phase = .running ∧ s.update.activated = true) ∧
      (let s : State := { live with power := { live.power with resetDue := true } }
       s.power.phase = .running ∧ s.update.activated = false ∧ s.power.resetDue = true ∧ s.keys.debugDue = none) ∧
      (let s : State := { live with power := { live.power with powerDue := some 3 } }
       s.power.phase = .running ∧ s.update.activated = false ∧ s.power.resetDue = false ∧ s.power.powerDue = some 3) ∧
      (let s : State := { live with clock := { provisional := false } }
       s.power.phase = .running ∧ s.update.activated = false ∧ s.power.resetDue = false ∧ s.power.powerDue ≠ some 3 ∧
        s.clock.provisional = false ∧ s.time.step = none ∧ s.time.again = false ∧
        ((s.clock.source + 20000000) / 20000000 % 50).toNat ≠ 0) := by decide +kernel

/-! ## Witnesses: lanes and plans -/

theorem witness_laneTimers :
    (let s := withLane live 191 { state := LaneState.admitting.stored, timer := live.cfgNat 0x2003 1 * 50 }
     s.power.phase = .running ∧ s.tablesWf ∧ s.laneIs 191 .admitting = true ∧ s.cfgNat 0x2003 1 * 50 ≤ (s.lane 191).timer ∧
      s.isStandby = false ∧ ({ s with pair := { role := 2 } } : State).isStandby = true) ∧
    (let s := withLane live 191 { state := LaneState.admitting.stored, timer := live.cfgNat 0x2003 1 * 50 - 1 }
     s.tablesWf ∧ s.cfgNat 0x2003 1 * 50 ≤ (s.lane 191).timer + 1) ∧
    (let s := withLane live 191 { state := LaneState.admitting.stored, timer := live.cfgNat 0x2003 1 * 50 - 2 }
     s.tablesWf ∧ (s.lane 191).timer + 1 < s.cfgNat 0x2003 1 * 50) ∧
    (let s := withLane live 0 { state := LaneState.releasing.stored, timer := live.cfgNat 0x2003 2 * 50 }
     s.tablesWf ∧ s.laneIs 0 .releasing = true ∧ s.cfgNat 0x2003 2 * 50 ≤ (s.lane 0).timer) ∧
    (let s := withLane live 7 { state := LaneState.handingOver.stored, timer := live.cfgNat 0x2602 1 }
     s.tablesWf ∧ s.laneIs 7 .handingOver = true ∧ s.cfgNat 0x2602 1 ≤ (s.lane 7).timer + 1 ∧ s.laneIs 7 .admitting = false ∧
      s.laneIs 7 .releasing = false) := by
  unfold State.tablesWf
  decide +kernel

/-- A plan of lane 4 for a crossing into pair 2, submitted in tick 0. -/
def crossingPlan : Plan :=
  { id := 9, lane := 4, what := .hold false, req := none, submit := 0, epoch := 0, first := 3
    crossing := some { pair := 2, border := 20, handover := 25, commit := 10 } }

theorem witness_laneTimers_plans :
    (let s : State := { live with ledger := { plans := [{ crossingPlan with awaiting := true, submit := 0 - 1 - BitVec.ofNat 32 live.permitWait }] } }
     s.power.phase = .running ∧ s.tablesWf ∧ ∃ p c, s.planOf 9 = some p ∧ p.crossing = some c ∧ p.awaiting = true ∧ c.granted = false ∧
      p.expired = false ∧ s.clock.tick = p.submit + 1 + BitVec.ofNat 32 s.permitWait) ∧
    (let s : State := { live with clock := { tick := 10 }, guests := [(3, { pair := 2, planId := 9, border := 20, handover := 25, commit := 10, final := false, start := ⟨0, 0, 0⟩, legs := [], stretches := [] })] }
     s.power.phase = .running ∧ s.tablesWf ∧ ∃ g, tfind s.guests 3 = some g ∧ g.final = false ∧ later g.commit s.clock.tick = false ∧
      later g.commit (s.clock.tick - 1) = true) :=
  ⟨⟨rfl, ⟨rfl, rfl, rfl⟩, _, _, rfl, rfl, rfl, rfl, rfl, by decide +kernel⟩, rfl, ⟨rfl, rfl, rfl⟩, _, rfl, rfl, by decide +kernel⟩

theorem witness_laneCommandsWait :
    live.power.phase = .running ∧
    (∀ code ∈ ([1, 2, 3, 4, 5] : List Nat), live.grants who (0x4000 + 191) 0x10 (le 1 code) ∧
      permitted (live.roles who.origin) (laneCommandRoles code) = true ∧ live.frozen 191 = false ∧ (code = 1 → live.laneIs 191 .halted = false)) ∧
    (let s := withLane live 0 { state := LaneState.holding.stored, standstill := 1 }
     s.grants who 0x4200 2 (le 1 3) ∧ permitted (s.roles who.origin) roleL = true ∧ s.frozen 0 = false ∧ s.laneIs 0 .holding = true ∧
      (s.lane 0).standstill ≠ 0) := by
  refine ⟨rfl, ?_, grants_of (by decide +kernel), by decide +kernel⟩
  intro code h
  have : (takesNow live who && decide (live.commandCheck who (0x4000 + 191) 0x10 (le 1 code) = none)) = true := by
    revert code; decide +kernel
  exact ⟨grants_of this, by revert code; decide +kernel, by decide +kernel, fun _ => by decide +kernel⟩

theorem witness_laneCommandsTakeEffect :
    (∀ k ∈ [LaneState.admitting, .stopped, .parked, .releasing, .vacant, .moving, .holding, .halted, .handingOver],
      let s := withLane live 0 { state := k.stored, epoch := 1 }
      s.tablesWf ∧ (s.lane 0).integrityFault = false ∧ s.laneIs 0 k = true) ∧
    (let s := withLane live 191 { state := 0x0002 }
     s.tablesWf ∧ (s.lane 191).integrityFault = false ∧ laneStateOf (s.lane 191).state = none) := by
  refine ⟨fun k h => ?_, ⟨by decide, by decide, by decide⟩, by decide +kernel⟩
  exact ⟨⟨by revert k; decide +kernel, rfl, rfl⟩, by revert k; decide +kernel⟩

theorem witness_routePlansAccepted :
    (∀ k ∈ [LaneState.parked, .moving], let s := withLane live 5 { state := k.stored }
      s.power.phase = .running ∧ s.frozen 5 = false ∧ s.queuedPlans.length < 256 ∧ s.grants who 0x4205 1 (List.replicate 48 0) ∧
      s.laneIs 5 k = true ∧ (s.ck 5).refuses = false ∧ s.grants who 0x4205 2 (le 1 1)) ∧
    (let s := withLane live 5 { state := LaneState.holding.stored }
     s.frozen 5 = false ∧ s.grants who 0x4205 2 (le 1 2) ∧ permitted (s.roles who.origin) roleL = true ∧ s.laneIs 5 .holding = true ∧
      (s.ck 5).refuses = false) := by
  refine ⟨fun k h => ⟨rfl, ?_, ?_, grants_of ?_, ?_, ?_, grants_of ?_⟩, by decide +kernel, grants_of ?_, by decide +kernel⟩
  all_goals first | (revert k; decide +kernel) | decide +kernel

theorem witness_limitsAndAreasChange :
    (let s := withLane live 5 { state := LaneState.moving.stored }
     ∃ e, lookup 0x4105 1 = .entry e ∧ s.grants who 0x4105 1 (le 2 900) ∧ s.frozen 5 = false ∧ s.queuedPlans.length < 256 ∧
      s.limitRefused 5 1 (valueOf e.ty (le 2 900)) = none ∧ s.storeFull [numberItem (key 0x4105 1) (valueOf e.ty (le 2 900))] = false ∧
      s.laneIs 5 .moving = true ∧ (s.stamped who.stamp).otherPlan 5 = false) ∧
    (live.takes who ∧ live.areaCheck who 1023 [(2, [0])] = none ∧
      live.storeFull ((areaItems 1023 [(2, [0])]).map (fun x => numberItem (key (0x3000 + 1023) x.1) x.2)) = false ∧
      live.areaChange 1023 (areaItems 1023 [(2, [0])]) = .plain) :=
  ⟨⟨_, rfl, grants_of (by decide +kernel), by decide +kernel⟩, takes_of_takesNow (by decide +kernel), by decide +kernel⟩

/-- Area 0 with three corners, not enabled: enabling it is checked. -/
theorem witness_limitsAndAreasChange_checked :
    (let s := [(1, 1), (3, 3), (0x10, 0), (0x11, 0), (0x12, 9000), (0x13, 0), (0x14, 0), (0x15, 9000)].foldl
        (fun t (x : Nat × Int) => withCfg t 0x3000 x.1 x.2) live
     s.takes who ∧ s.areaCheck who 0 [(2, [1])] = none ∧
      s.storeFull ((areaItems 0 [(2, [1])]).map (fun x => numberItem (key (0x3000 + 0) x.1) x.2)) = false ∧
      s.areaChange 0 (areaItems 0 [(2, [1])]) = .checked) :=
  ⟨takes_of_takesNow (by decide +kernel), by decide +kernel⟩

/-- A plan of lane 4 submitted in tick 0, with a route of no bytes: refused by its form. -/
def formlessPlan : Plan := { id := 9, lane := 4, what := .route [], req := none, submit := 0, epoch := 0, first := 3 }

theorem witness_plansProfiledCheckedCutOff :
    (let s : State := { live with clock := { tick := 1 }, ledger := { plans := [formlessPlan] } }
     s.power.phase = .running ∧ s.planOf 9 = some formlessPlan ∧ formlessPlan.submit + 1 = s.clock.tick ∧ formlessPlan.profiled = false ∧
      formlessPlan.result = none ∧ s.ledger.profileClosed = false ∧ routeReason (s.limitsFor 4 (byteAt [] 1 = 0)) [] ≠ 0) ∧
    (let s : State := { live with clock := { tick := 1 }, ledger := { plans := [{ formlessPlan with profiled := true }] } }
     s.ledger.stopChecks = [] ∧ s.ledger.ledgerClosed = false ∧
      s.ledger.plans.find? (fun x => x.id = 9 && x.submit = s.clock.tick - 1 && x.result = none) = some { formlessPlan with profiled := true } ∧
      turnOf 9 (s.clock.tick - 1) true s.ledger.plans = true) ∧
    (let s : State := { live with clock := { tick := 1 }, ledger := { plans := [{ crossingPlan with result := some 0 }] } }
     s.keys.pendingState ≠ 3 ∧ s.keys.security ≠ 0 ∧ s.pair.role = 0 ∧ s.halt.silent = false ∧
      ∃ p ∈ s.ledger.plans, p.submit = s.clock.tick - 1 ∧ p.result = some 0 ∧ p.crossing.isSome = true) := by
  refine ⟨⟨rfl, rfl, by decide, rfl, rfl, rfl, ?_⟩, ?_, ?_⟩ <;> decide +kernel

/-- A hold of a lane that stands at the start of its path is profiled with no stretches. -/
theorem witness_plansProfiledCheckedCutOff_profile :
    (let s : State := { withLane live 4 { state := LaneState.moving.stored } with clock := { tick := 1 } }
     (s.profilePlan { formlessPlan with what := .hold false } ⟨[], []⟩).isSome ∧
      (s.profilePlan { formlessPlan with what := .hold false } ⟨[], []⟩).bind Plan.result = none) := by decide +kernel

/-! ## Witnesses: halts -/

/-- Lane 0 of scope lane, then cell and site (R219, R220). -/
theorem witness_haltAssertDecides :
    (∀ x ∈ [(0x5000, 1, 0), (0x50BF, 1, 191), (0x6000, 2, 0), (0x7000, 3, 0)],
      let s := withLane live x.2.2 { state := LaneState.moving.stored }
      let w := BitVec.ofNat 32 (x.1 + 65536 * (65535 - x.1))
      s.power.phase = .running ∧ s.grants who 0x2201 1 (le 4 w.toNat) ∧ haltFields w = (1, x.2.1, 0, x.2.2) ∧ s.halt.silent = false ∧
      (x.2.1 = 1 ∧ x.2.2 < 192 ∧ s.laneIs x.2.2 .vacant = false ∧ s.frozen x.2.2 = false ∨ (x.2.1 = 2 ∨ x.2.1 = 3) ∧ x.2.2 = 0) ∧
      (∀ k ∈ s.records, (codeOf (s.haltRecord k)).isSome) ∧
      s.haltRecord (if x.2.1 = 1 then x.2.2 + 2 else 3 - x.2.1) = 0xFF00) := by
  intro x h
  refine ⟨rfl, grants_of ?_, ?_⟩ <;> revert x <;> decide +kernel

/-- The word of a halt command with its complement (R219, R220). -/
def haltWord (v : Nat) : U32 := BitVec.ofNat 32 (v + 65536 * (65535 - v))

/-- A host source of site scope active; a cell record that awaits a resume. -/
def siteHalted : State := { live with halt := { hostSite := true, site := 0xFE01 } }
def cellHalted (half : Bool) : State := { live with halt := { cell := if half then 0xFC03 else 0xFD02 } }

theorem witness_haltRestoreAndResumeWait :
    (siteHalted.tablesWf ∧ siteHalted.grants who 0x2201 1 (le 4 (haltWord 0xB000).toNat) ∧
      haltFields (haltWord 0xB000) = (2, 3, 0, 0) ∧ siteHalted.halt.silent = false ∧
      (∀ k ∈ siteHalted.records, (codeOf (siteHalted.haltRecord k)).isSome) ∧ permitted (siteHalted.roles who.origin) roleP = true ∧
      siteHalted.hostActive 3 0 = true) ∧
    (∀ v : Bool,
      (cellHalted v).tablesWf ∧ (cellHalted v).grants who 0x2201 2 (le 4 (haltWord 0x2000).toNat) ∧
      haltFields (haltWord 0x2000) = (0, 2, 0, 0) ∧
      (∀ k ∈ (cellHalted v).records, (codeOf ((cellHalted v).haltRecord k)).isSome) ∧ (cellHalted v).haltRecord (3 - 2) = if v then 0xFC03 else 0xFD02) := by
  refine ⟨⟨⟨rfl, rfl, rfl⟩, grants_of (by decide +kernel), by decide +kernel⟩, fun v => ⟨⟨rfl, rfl, rfl⟩, grants_of ?_, ?_⟩⟩ <;>
    revert v <;> decide +kernel

/-- Lane 191, whose stored state fails its check. -/
theorem witness_haltRestoreAndResumeWait_frozen :
    (let s := withLane live 191 { state := 0x0002 }
     s.tablesWf ∧ s.frozen 191 = true ∧ s.grants who 0x2201 1 (le 4 (haltWord 0x90BF).toNat) ∧ haltFields (haltWord 0x90BF) = (2, 1, 0, 191) ∧
      permitted (s.roles who.origin) roleP = true ∧ s.grants who 0x2201 2 (le 4 (haltWord 0x10BF).toNat) ∧
      haltFields (haltWord 0x10BF) = (0, 1, 0, 191) ∧ ∀ k ∈ s.records, (codeOf (s.haltRecord k)).isSome) :=
  ⟨⟨by decide, by decide, by decide⟩, by decide +kernel, grants_of (by decide +kernel), by decide +kernel, by decide +kernel,
    grants_of (by decide +kernel), by decide +kernel, by decide +kernel⟩

theorem witness_localResumeAndWindow :
    (1000 ≤ 1000 ∧ 1000 ≤ 5000 ∧ live.halt.silent = false ∧ live.panel.wet = false) ∧
    (withCfg live 0x2202 1 0).cfg 0x2202 1 = 0 ∧
    (let s := withCfg live 0x2202 1 1
     s.cfg 0x2202 1 ≠ 0 ∧ ¬ (s.haltRecord 0 = 0xFD02 ∨ s.haltRecord 0 = 0xFC03) ∧ ¬ (s.haltRecord 1 = 0xFD02 ∨ s.haltRecord 1 = 0xFC03)) ∧
    (let s : State := { withCfg live 0x2202 1 1 with halt := { site := 0xFD02 } }; s.cfg 0x2202 1 = 1 ∧ s.haltRecord 0 = 0xFD02) ∧
    (let s : State := { withCfg live 0x2202 1 2 with halt := { site := 0xFC03, half := [(0, { host := false, until_ := 5 })] } }
     s.cfg 0x2202 1 = 2 ∧ s.haltRecord 0 = 0xFC03 ∧ s.haltRecord 1 = 0xFF00 ∧ (tfind s.halt.half 0).map (fun h => h.host) = some false) ∧
    (let s : State := { live with clock := { source := 6 }, halt := { site := 0xFC03, half := [(0, { host := false, until_ := 5 })] } }
     s.halt.half = [(0, { host := false, until_ := 5 })] ∧ (5 : Int) < s.clock.source ∧ s.haltRecord 0 = 0xFC03) := by
  decide +kernel

theorem witness_siteLine :
    (∀ k ∈ live.records, (codeOf (live.haltRecord k)).isSome) ∧ (false = live.halt.lastSample ∧ live.halt.lineRun < 3) ∧
    true ≠ live.halt.lastSample ∧
    (let s : State := { withCfg live 0x2202 7 1 with halt := { lastSample := true, lineRun := 3 } }
     true = s.halt.lastSample ∧ 3 ≤ s.halt.lineRun ∧ s.halt.lineLow = false ∧ s.cfgOn 0x2202 7 = true) ∧
    ({ live with halt := { driving := true } } : State).halt.driving = true ∧
    (let s : State := { live with halt := { lineLow := true, lowFor := 60000 } }
     s.halt.lineLow = true ∧ s.halt.stuck = false ∧ s.halt.driving = false ∧ s.halt.drivers = [] ∧ 60000 ≤ s.halt.lowFor) ∧
    (let s : State := { live with halt := { drivers := [(32, 3000)] } }; tfind s.halt.drivers 32 = some 3000) := by decide +kernel

theorem witness_haltBurstsAndSilence :
    (∀ k ∈ [0, 48, 49], let b : Burst := { haltId := 3, site := true, cell := false, lanes := [], next := k, delay := 0 }
      let s : State := { live with halt := { bursts := [b] }, clock := { source := 20000000 * k } }
      s.power.phase = .running ∧ s.halt.silent = false ∧ s.halt.bursts.find? (fun x => x.haltId = b.haltId && x.next = k) = some b ∧ k ≤ 49 ∧
        b.began + tickNs * k + 100000 * b.delay - s.clock.source < tickNs + s.clock.extension ∧ s.onAir = true ∧ s.air.verge = none ∧
        ¬ (s.cfgNat 0x2502 1 = 0 ∧ 5 ≤ k ∧ 340000 ≤ (s.stamped 0).dutyAccount)) ∧
    (let b : Burst := { haltId := 3, site := true, cell := false, lanes := [], next := 2, delay := 0 }
     let s : State := { live with halt := { bursts := [b] } }
     s.halt.bursts.find? (fun x => x.haltId = b.haltId && x.next = 2) = some b ∧
      tickNs + s.clock.extension ≤ b.began + tickNs * 2 + 100000 * b.delay - s.clock.source ∧
      b.began + tickNs * 2 + 100000 * b.delay - s.clock.source < 60 * tickNs) ∧
    (let s : State := { withCfg live 0x2502 1 0 with air := { duty := [(0, 340000000)] } }
     s.cfgNat 0x2502 1 = 0 ∧ 340000 ≤ (s.stamped 0).dutyAccount) := by decide +kernel

theorem witness_contactPulses :
    live.power.phase = .running ∧ live.pulses 0 = true ∧ live.pulses 3 = false ∧
      (let s : State := { live with panel := { live.panel with channels := [(3, { closed := true })] } }
       s.pulses 0 = true ∧ 3 ≠ 0 ∧ (s.contactChannel 3).closed = true ∧ [true, false, false, true].getD 3 false = true ∧
        [true, false, false, true].getD 0 false = true ∧ [true, false, false, true].getD 1 false = false) := by decide +kernel

/-! ## Witnesses: panel and lamps -/

theorem witness_panelKeys :
    (let s : State := { live with panel := { live.panel with keys := [(2, { run := 2 })] } }
     2 ≤ (s.touchKey 2).run ∧ (s.touchKey 2).touched = false ∧ 2 ≤ [0, 0, 2, 0, 0, 0, 0, 0].getD 2 0 ∧ s.panel.wet = false) ∧
    (let s : State := { live with panel := { live.panel with
        wet := true, keys := [0, 1, 2, 3, 4, 5, 6, 7].map (fun k => (k, ({ held := 20 } : TouchKey))) } }
     s.panel.wet = true ∧ ∀ k < 8, (s.touchKey k).touched = false ∧ 20 ≤ (s.touchKey k).held) ∧
    (let s : State := { live with panel := { live.panel with keys := [(7, { touched := true, held := 12001 })] } }
     (s.touchKey 7).touched = true ∧ 12000 < (s.touchKey 7).held ∧ (s.touchKey 7).ignored = false) ∧
    (50 ≤ 50 ∧ false ≠ live.panel.plug) ∧
    (∀ levels ∈ [[2, 2, 2, 0, 0, 0, 0, 0], [0, 0, 2, 0, 0, 0, 0, 0]],
      let s : State := { live with panel := { live.panel with keys := [0, 1, 2].map (fun k => (k, ({ run := 2 } : TouchKey))) } }
      let new := (List.range 8).filter (fun k => ((after (.touchScan levels) s).touchKey k).touched && !(s.touchKey k).touched)
      s.panel.wet = false ∧ (3 ≤ new.length ∨ (new.length < 3 ∧ 2 ∈ new))) := by decide +kernel

theorem witness_lampChain :
    (let s : State := { live with lamps := { count := 4, channels := [(0, { health := 1, age := 2000 }), (1, { health := 2, age := 2000, low := false }),
        (2, { health := 1, cleanAge := 2000 }), (3, { health := 1 })] } }
     let ch := fun c => (tget (fun _ => ({} : LampChannel)) s.lamps.channels c)
     ((ch 0).health ≠ 0 ∧ 2000 ≤ (ch 0).age ∧ (ch 0).low = true ∧ (withCfg s 0x2B01 4 0).cfgOn 0x2B01 4 = false) ∧
     ((ch 1).health ≠ 0 ∧ 2000 ≤ (ch 1).age ∧ ¬ ((ch 1).low = true ∧ s.cfgOn 0x2B01 4 = false)) ∧
     ((ch 2).health = 1 ∧ (ch 2).age < 2000 ∧ 2000 ≤ (ch 2).cleanAge) ∧ ((ch 3).health = 1 ∧ (ch 3).cleanAge < 2000) ∧
     (let shares := ((List.range 8).map s.sentShare).flatten
      s.returnFault (returnFrame 0xA5 s.lamps.count shares []) = none ∧
      s.returnFault (returnFrame 0xA5 s.lamps.count (shares.take 87) []) = some 1 ∧ (returnFrame 0xA5 5 [] []).take 2 ≠ le 1 0xA5 ++ le 1 s.lamps.count)) ∧
    ({ live with lamps := { valid := some true } } : State).lamps.valid = some true ∧ live.lamps.valid ≠ some true ∧
    ({ live with lamps := { test := 1 } } : State).lamps.test ≤ 1 := by decide +kernel

/-! ## Witnesses: air, checkpoint, trackers -/

/-- Payloads at both ends of the lengths a verge frame may have. -/
theorem witness_vergeFramesReadBack :
    1 ≤ ([8] : Bytes).length ∧ ([8] : Bytes).length ≤ 64 ∧ 1 ≤ (List.replicate 64 (0 : Byte)).length ∧ (List.replicate 64 (0 : Byte)).length ≤ 64 := by
  decide

/-- Carriageway 3 of a unit on air, on channel 1, its downlink of the tick not yet closed. -/
def onAirUnit (c : Carriageway) : State := { withCfg live 0x2501 4 1 with air := { cws := [(3, c)] } }

theorem witness_downlinksAssessed :
    (let s := onAirUnit { closed := false, tries := 3, skipRun := 2 }
     let bound := 100 * (-43 - s.cfg 0x2501 8 + s.cfg 0x2501 9)
     s.power.phase = .running ∧ s.cfg 0x2501 (3 + 1) ≠ 255 ∧ s.onAir = true ∧ (s.cw 3).closed = false ∧ bound ≤ bound ∧ bound < bound + 1 ∧
      3 ≤ (s.cw 3).tries ∧ (s.cw 3).skipRun ≠ 0) ∧
    (onAirUnit { closed := false, tries := 2 }).onAir = true ∧ ((onAirUnit { closed := false, tries := 2 }).cw 3).tries < 3 ∧
    (onAirUnit {}).cfg 0x2501 (3 + 1) ≠ 255 ∧ ((onAirUnit {}).cw 3).closed = true := by decide +kernel

/-- A message of lane 9 with number 4 that is owed its acknowledgement. -/
def owing (m : DownMsg) : State := { live with airLanes := [(9, { unacked := [m] })] }

theorem witness_vergeAndRetransmissions :
    (let s := owing { msn := 4, typ := 2, value := [], queued := true }
     ((s.airLane 9).unacked.find? (fun x => x.msn = 4)).map (fun m => m.queued) = some true) ∧
    (let s := owing { msn := 4, typ := 2, value := [], queued := false, slots := live.cfgNat 0x2507 2, sent := 1 }
     s.cfgNat 0x2507 2 ≤ s.cfgNat 0x2507 2 ∧ 1 < s.cfgNat 0x2507 1 ∧ ((s.airLane 9).unacked.find? (fun x => x.msn = 4)).isSome) ∧
    (let s := owing { msn := 4, typ := 2, value := [], queued := false, slots := live.cfgNat 0x2507 2, sent := live.cfgNat 0x2507 1 }
     s.cfgNat 0x2507 1 ≤ live.cfgNat 0x2507 1 ∧ ((s.airLane 9).unacked.find? (fun x => x.msn = 4)).isSome ∧
      ((s.airLane 9).unacked.find? (fun x => x.msn = 5)) = none) ∧
    (let s : State := { live with air := { stageBody := [1] }, clock := { source := 20000000 * ((300 + 6000 * live.cfgNat 0x2504 1) / 20000 : Nat) } }
     s.onAir = true ∧ s.air.beaconDone = false ∧ s.stagePos = (300 + 6000 * s.cfgNat 0x2504 1) / 20000 ∧ s.air.stageBody ≠ [] ∧
      s.air.verge = none) ∧
    (let s : State := { live with air := { verge := some ⟨9, [], 0⟩, vergeWaiting := [⟨10, [], 0⟩] } }
     s.onAir = true ∧ s.air.verge = some ⟨9, [], 0⟩ ∧ s.air.vergeWaiting = ⟨10, [], 0⟩ :: []) := by decide +kernel

/-- Lane 0 in service under a site key, its owned slot being slot 0 of the stage's first tick; its admission is on. -/
def served (k : LaneState) (a : AirLane) : State :=
  let s := withCfg (withCfg live 0x2501 1 1) 0x2506 1 1
  { s with keys := { s.keys with current := List.replicate 16 7 }, lanes := if k = .vacant then [] else [(0, { state := k.stored })]
           airLanes := [(0, a)] }

/-- Header of a frame of lane 0 in a pair epoch and a lane epoch, of a generation and a counter, over a body of a length (R310). -/
def uplinkHead (s : State) (generation : Nat) (pair : U16) (lane : Bytes) (counter size : Nat) : Bytes :=
  le 1 3 ++ le 1 generation ++ le 2 (s.laneAddress 0) ++ le 2 s.address ++ epochBytes pair ++ lane ++ le 4 counter ++ le 2 size

/-- The PPDU around a frame of a body of a length, at the first instant of slot 0 (R247). -/
def around (size : Nat) : Ppdu :=
  { header := BitVec.ofNat 24 (((List.range 24).map (fun i => if (headerBits 4 (28 + size)).getD i false then 2 ^ i else 0)).sum)
    start := 6000000, stamp := 7000000 }

/-- What a receiver knows of a frame, as UplinkFramesJudged names it. -/
def ours (s : State) (f : AirFrame) : Bool := decide (f.sender / 256 = s.pairNumber ∧ f.sender % 256 = 0)
def whole (f : AirFrame) : Bool := decide (f.pairComp = ~~~ f.pairEpoch ∧ f.laneComp = ~~~ f.laneEpoch)
def known (s : State) (f : AirFrame) : Bool := ours s f && ((s.lane 0).occupied || requestOnly f)
def right (s : State) (f : AirFrame) : Bool := whole f && known s f && s.acceptsGeneration 0 f
def ready (s : State) (f : AirFrame) : Bool :=
  right s f && decide (f.pairEpoch = s.pair.epoch) && (requestOnly f || decide (f.laneEpoch = (s.lane 0).epoch))
def judged (s : State) (f : AirFrame) : Verdict :=
  (s.windowOf 0 f.generation).judge ((s.windowOf 0 f.generation).extend f.counter)
def fresh (s : State) (f : AirFrame) : Bool :=
  ready s f && decide (judged s f = .accept) &&
    (!requestOnly f || decide ((s.windowOf 0 f.generation).high < (s.windowOf 0 f.generation).extend f.counter))

/-- A frame comes in from lane 0 in slot 0 of carriageway 0 and reads as one of which `goal` holds. -/
def comesIn (s : State) (goal : AirFrame → Bool) : Prop :=
  ∃ (p : Ppdu) (psdu : Bytes) (f : AirFrame), s.power.phase = .running ∧ s.onAir = true ∧ s.cfg 0x2501 (0 + 1) ≠ 255 ∧ slotAt p.start = some 0 ∧
    s.ownerOf 0 0 = some 0 ∧ headerBad p 0 = false ∧ s.readFrame psdu = some f ∧ f.frameType = 3 ∧ p.length = 28 + f.bodyLength ∧
    f.dest = s.address ∧ goal f = true

theorem comesIn_of (s : State) (h body : Bytes) (authentic : Bool) (goal : AirFrame → Bool)
    (k : (decide (s.power.phase = .running ∧ s.onAir = true ∧ s.cfg 0x2501 (0 + 1) ≠ 255 ∧ s.ownerOf 0 0 = some 0) &&
      decide (headerBad (around body.length) 0 = false ∧ (around body.length).length = 28 + body.length) &&
      decide (s.keys.switched = false ∧ s.keys.current.length = 16 ∧ h.length = 20 ∧ field h 18 2 = body.length ∧ byteAt h 0 = 3 ∧
        field h 4 2 = s.address) && goal (frameRead h body authentic)) = true) : comesIn s goal := by
  simp only [Bool.and_eq_true, decide_eq_true_eq] at k
  obtain ⟨⟨⟨⟨k1, k2, k3, k4⟩, k5, k6⟩, k7, k8, k9, k10, k11, k12⟩, k13⟩ := k
  obtain ⟨psdu, hp⟩ := s.readFrame_some h body authentic k7 k8 k9 k10
  exact ⟨around body.length, psdu, _, k1, k2, k3, show slotAt 6000000 = some 0 by decide, k4, k5, hp, k11, k6, k12, k13⟩

/-- A telemetry element of the present tick, a self-stop report, an admission request. -/
def telemetryItem : Bytes := elementBytes 1 none (List.replicate 64 0)
def selfStopItem : Bytes := elementBytes 5 (some 0) [0, 0, 1, 0]
def admissionItem : Bytes := elementBytes 4 (some 0) (List.replicate 12 0)

/-- A header that is not decoded, a PSDU that no header fits, and the frames that end at each step of the receiver. -/
theorem witness_uplinkFramesJudged :
    ((served .parked {}).onAir = true ∧ (served .parked {}).cfg 0x2501 (0 + 1) ≠ 255 ∧ headerBad { around 0 with header := 0 } 0 = true ∧
      headerBad (around 0) 0 = false ∧ (served .parked {}).readFrame [] = none ∧ slotAt 5999999 = none ∧ live.onAir = true) ∧
    comesIn (served .parked {}) (fun f => ours (served .parked {}) f && !whole f) ∧
    comesIn (served .vacant {}) (fun f => whole f && !known (served .vacant {}) f) ∧
    comesIn (served .parked {}) (fun f => whole f && known (served .parked {}) f && !(served .parked {}).acceptsGeneration 0 f) ∧
    comesIn (served .parked {}) (fun f => right (served .parked {}) f && epochAbove 0 f.pairEpoch) ∧
    comesIn (served .parked {}) (fun f => right (served .parked {}) f && decide (f.pairEpoch = 0 ∧ requestOnly f = false ∧ f.laneEpoch ≠ 0)) := by
  refine ⟨by decide +kernel, comesIn_of _ (uplinkHead (served .parked {}) 1 0 [0, 0, 0, 0] 5 0) [] true _ ?_,
    comesIn_of _ (uplinkHead (served .vacant {}) 1 0 (epochBytes 0) 5 0) [] true _ ?_,
    comesIn_of _ (uplinkHead (served .parked {}) 2 0 (epochBytes 0) 5 0) [] true _ ?_,
    comesIn_of _ (uplinkHead (served .parked {}) 1 65535 (epochBytes 0) 5 0) [] true _ ?_,
    comesIn_of _ (uplinkHead (served .parked {}) 1 0 (epochBytes 3) 5 0) [] true _ ?_⟩ <;> decide +kernel

/-- Frames at the edges of the replay window: 64 below the highest count, and the highest count itself (R325). -/
theorem witness_uplinkFramesJudged_window :
    (let s := served .parked { window := { high := 100 } }; comesIn s (fun f => ready s f && decide (judged s f = .tooOld))) ∧
    (let s := served .parked { window := { high := 100 } }; comesIn s (fun f => fresh s f && f.authentic && f.elements.isEmpty)) ∧
    (let s := served .parked { window := { high := 5, mask := 1 } }; comesIn s (fun f => ready s f && decide (judged s f = .repeated))) ∧
    (let s := served .parked {}; comesIn s (fun f => fresh s f && !f.authentic)) := by
  refine ⟨comesIn_of _ (uplinkHead (served .parked {}) 1 0 (epochBytes 0) 36 0) [] true _ ?_,
    comesIn_of _ (uplinkHead (served .parked {}) 1 0 (epochBytes 0) 37 0) [] true _ ?_,
    comesIn_of _ (uplinkHead (served .parked {}) 1 0 (epochBytes 0) 5 0) [] true _ ?_,
    comesIn_of _ (uplinkHead (served .parked {}) 1 0 (epochBytes 0) 5 0) [] false _ ?_⟩ <;> decide +kernel

/-- Authentic frames with one element. -/
theorem witness_uplinkFramesJudged_elements :
    (let s := served .parked {}
     comesIn s (fun f => fresh s f && f.authentic && (match f.elements with
        | [e] => decide (e.typ = 1 ∧ e.ack = false ∧ e.value.length = 64 ∧ field e.value 0 2 = s.clock.tick.toNat % 65536)
        | _ => false))) ∧
    (let s := served .parked {}
     comesIn s (fun f => fresh s f && f.authentic && (match f.elements with
        | [e] => decide ((s.lane 0).occupied = true ∧ e.typ = 5 ∧ e.ack = true ∧ e.value.length = 4 ∧ e.msn = (s.airLane 0).expected ∧
            (s.airLane 0).held = [])
        | _ => false))) ∧
    (let s := served .vacant {}
     comesIn s (fun f => fresh s f && f.authentic && (match f.elements with
        | [e] => decide (f.generation = 0 ∧ e.typ = 4 ∧ e.ack = true ∧ e.value.length = 12 ∧ s.power.deviceState = 2 ∧
            (s.lane 0).reserved = false ∧ s.laneIs 0 .vacant = true ∧ s.admissionOn 0 = true ∧ s.due = [])
        | _ => false))) := by
  refine ⟨comesIn_of _ (uplinkHead (served .parked {}) 1 0 (epochBytes 0) 5 68) telemetryItem true _ ?_,
    comesIn_of _ (uplinkHead (served .parked {}) 1 0 (epochBytes 0) 5 8) selfStopItem true _ ?_,
    comesIn_of _ (uplinkHead (served .vacant {}) 0 0 (epochBytes 0) 5 16) admissionItem true _ ?_⟩ <;> decide +kernel

/-- A record of lane 3 that arrived in the present tick. -/
def ckQuery : CkRequest := { lane := 3, laneEpoch := 0, epoch := 0, tick := 0, arrival := 0, record := [] }

theorem witness_checkpointSolves :
    (let s : State := { live with checkpoint := { queue := [ckQuery] } }
     tfind s.checkpoint.running 3 = none ∧ s.checkpoint.queue = ckQuery :: [] ∧ 10000000 ≤ (s.stamped 39999999).solveLeft ckQuery) ∧
    (let s : State := { live with clock := { tick := 2 }, checkpoint := { queue := [ckQuery] } }
     tfind s.checkpoint.running 3 = none ∧ s.checkpoint.queue = [ckQuery] ∧ (s.stamped 6000001).solveLeft ckQuery < 10000000 ∧
      10000000 ≤ (s.stamped 6000000).solveLeft ckQuery) ∧
    (let s : State := { live with checkpoint := { running := [(0, { ckQuery with startValid := false })] } }
     tfind s.checkpoint.running 0 = some { ckQuery with startValid := false } ∧ 0 ≤ (s.stamped 16000001).solveLeft ckQuery) ∧
    (let s : State := { live with clock := { tick := 3 }, checkpoint := { running := [(0, ckQuery)] } }
     tfind s.checkpoint.running 0 = some ckQuery ∧ (s.stamped 0).solveLeft ckQuery < 0 ∧ s.solveLeft ckQuery < 0) ∧
    (let s : State := { withLane live 3 { state := LaneState.parked.stored } with
        clock := { source := live.cfg 0x230B 5 * 20000000 + 1 }
        checkpoint := { lanes := [(3, { verdict := 0 })], queue := [{ ckQuery with arrival := live.cfg 0x230B 5 * 20000000 + 1 }] } }
     s.isStandby = false ∧ (s.lane 3).occupied = true ∧ (s.ck 3).arrival + s.cfg 0x230B 5 * 20000000 < s.clock.source ∧
      (∀ q ∈ s.checkpoint.queue, q.lane = 3 ∧ (s.ck 3).arrival + s.cfg 0x230B 5 * 20000000 < q.arrival) ∧
      s.checkpoint.running = [] ∧ s.checkpoint.found = [] ∧ (s.ck 3).verdict ≠ 3) := by decide +kernel

/-- A satellite with both bands. -/
def aSat : SatView := { system := 0, prn := 7, elev := some 450, l5 := true }
def tracking (x y : Tracker) : State := { live with gnss := { channels := [(79, { sat := some aSat, l1 := x, l5 := y })] } }

theorem witness_trackersFollow :
    (let x := ((tracking { phase := 4, lost := some (1, 2, 3) } {}).channel 79).tracker false
     ((tracking { phase := 3 } {}).channel 79).sat = some aSat ∧ x.phase = 4 ∧ x.lost = some (1, 2, 3) ∧ (live.channel 79).l1.phase = 0) ∧
    (let x := ((tracking { phase := 1, integration := 4, high := 199, weak := 90, codeLock := true } {}).channel 79).tracker false
     x.phase = 1 ∧ 3 < x.integration ∧ x.integration ≤ 4 ∧ 2199 < 2200 ∧ x.weak + 9 < 100 ∧ 100 ≤ x.weak + 10 ∧ 200 ≤ x.high + 1 ∧
      x.phaseLock = false ∧ x.codeLock = true ∧ (tracking x {}).channel 79 = { sat := some aSat, l1 := x } ∧ aSat.l5 = true) ∧
    ((tracking { phase := 4, age := 10000 } {}).channel 79).l1.phase = 4 ∧ ((tracking { phase := 4, age := 9999 } {}).channel 79).l1.age < 10000 ∧
    (let s := tracking { phase := 3, phaseLock := true } { phase := 4, age := 10000 }
     ((s.channel 79).tracker true).phase = 4 ∧ 10000 ≤ ((s.channel 79).tracker true).age) ∧
    (let s := tracking { phase := 3 } { phase := 1, age := 200, tries := 3 }
     (s.channel 79).l5.codeLock = false ∧ (s.channel 79).l5.phase = 1 ∧ 200 ≤ (s.channel 79).l5.age ∧ 3 ≤ (s.channel 79).l5.tries) ∧
    ((tracking {} { phase := 2, age := 199 }).channel 79).l5.age < 200 := by decide +kernel

/-- A search of the satellite on port A, and what a unit holds of it. -/
def aSearch (l5 : Bool) : SearchReq := { sat := aSat, portB := false, l5 := l5 }
def searching (l5 : Bool) (mode : Nat) : Search := { req := aSearch l5, mode := mode, bins := 1, blocks := 1, cells := 1, buffer := 0 }

theorem witness_trackersFollow_searches :
    (let s : State := { live with gnss := { searches := [aSearch false, aSearch true], units := [(0, searching false 0), (1, searching false 0),
        (2, searching false 0)] } }
     tfind s.gnss.units 3 = none ∧ (∀ k < 3, tfind s.gnss.units k ≠ none) ∧ s.gnss.searches ≠ [] ∧
      s.gnss.buffer (aSearch false) (s.signalCode 0 false) (s.searchMode aSat) = some (1, true)) ∧
    (let s : State := { live with gnss := { searches := [aSearch false], units := (List.range 4).map (fun k => (k, searching false 0)) } }
     ∀ u < 4, tfind s.gnss.units u ≠ none) ∧ live.gnss.searches = [] ∧
    (∀ l5 : Bool, let s : State := { tracking {} {} with gnss := { (tracking {} {}).gnss with units := [(3, searching l5 1)] } }
     tfind s.gnss.units 3 = some (searching l5 1) ∧ s.channelOf (searching l5 1).req.sat (searching l5 1).req.portB = some 79 ∧
      (searching l5 1).req.l5 = l5) := by decide +kernel

theorem witness_observablesAndSurvey :
    (let s : State := { live with gnss := { latched := some ⟨4, 0, []⟩ }, reference := { state := 2 } }
     s.gnss.latched = some ⟨4, 0, []⟩ ∧ s.reference.valid = true ∧ live.reference.valid = false ∧ live.gnss.latched = none) ∧
    live.grants who 0x2307 5 (le 1 1) ∧ live.grants who 0x2307 5 (le 1 0) ∧ live.notMoving = true ∧
    (let s := withLane live 3 { state := LaneState.moving.stored }
     s.grants who 0x2307 5 (le 1 1) ∧ s.grants who 0x2307 5 (le 1 0) ∧ s.notMoving = false) :=
  ⟨by decide +kernel, grants_of (by decide +kernel), grants_of (by decide +kernel), by decide +kernel, grants_of (by decide +kernel),
    grants_of (by decide +kernel), by decide +kernel⟩

/-! ## Witnesses: time -/

/-- Ethernet port 1 in a PTP role, with its clock. -/
def ptpUnit (role : Int) (p : PtpPort) : State := { withCfg live 0x2104 1 role with time := { ports := [(1, p)] } }

/-- A message of the port's domain from source 8. -/
def ptpMessage (s : State) (kind : Nat) : PtpMsg :=
  { kind := kind, domain := s.cfgNat 0x2104 2, source := 8, priority1 := 0, clockClass := 6, accuracy := 0x21, priority2 := 0, steps := 1
    transport := s.cfgNat 0x2104 3, sequence := 5, requester := s.address, ptpScale := true, utcValid := true, twoStep := true, origin := 0, stamp := 0 }

theorem witness_ptpPortsServe :
    (let s := ptpUnit 2 { master := some (8, 0, 6, 33, 0, 1), sync := some (8, 5, 6), t3 := some (5, 4), state := 9 }
     let m := ptpMessage s 0
     m.domain = s.cfgNat (0x2103 + 1) 2 ∧ m.transport = s.cfgNat (0x2103 + 1) 3 ∧ { m with transport := m.transport + 1 }.transport ≠ m.transport ∧ { m with domain := m.domain + 1 }.domain ≠ s.cfgNat (0x2103 + 1) 2 ∧ s.ptpRole 1 = 2 ∧ m.kind = 0 ∧
      (s.ptpPort 1).master.map (fun x => x.1) = some m.source ∧ m.twoStep = true ∧ { m with twoStep := false }.twoStep = false ∧
      (ptpMessage s 1).kind = 1 ∧ (s.ptpPort 1).sync = some (m.source, m.sequence, 6) ∧ (ptpMessage s 3).kind = 3 ∧
      (s.ptpPort 1).t3 = some (m.sequence, 4) ∧ m.requester = s.address ∧
      (s.ptpPort 1).state = 9 ∧ 16 * (s.ptpPort 1).announceAge < s.cfgNat (0x2103 + 1) 8 * intervalTicks16 (s.cfg (0x2103 + 1) 7)) ∧
    (let s := ptpUnit 1 { announceAge := 100000 }
     s.ptpRole 1 = 1 ∧ (ptpMessage s 4).domain = s.cfgNat (0x2103 + 1) 2 ∧ (ptpMessage s 4).transport = s.cfgNat (0x2103 + 1) 3 ∧ (ptpMessage s 4).kind = 4 ∧ (s.ptpPort 1).master = none ∧
      s.cfgNat (0x2103 + 1) 8 * intervalTicks16 (s.cfg (0x2103 + 1) 7) ≤ 16 * (s.ptpPort 1).announceAge) ∧
    (let s := ptpUnit 3 { state := 6 }
     let m := ptpMessage s 4
     s.ptpRole 1 = 3 ∧ m.domain = s.cfgNat (0x2103 + 1) 2 ∧ m.transport = s.cfgNat (0x2103 + 1) 3 ∧ (s.ptpPort 1).state = 6 ∧ (ptpMessage s 2).kind = 2 ∧
      betterMaster (m.source, m.priority1, m.clockClass, m.accuracy, m.priority2, m.steps)
        (s.address, s.cfgNat (0x2103 + 1) 0x0C, s.grandmaster.1, s.grandmaster.2.1, s.cfgNat (0x2103 + 1) 0x0D, 0) = true) ∧
    (ptpUnit 0 {}).ptpRole 1 = 0 := by decide +kernel

theorem witness_ppsAndReturn :
    live.grants who 0x2101 9 (le 1 1) ∧
    (let s := withCfg live 0x2105 1 1
     let t : State := { withCfg s 0x2105 2 3 with time := { ppsLast := some 0 } }
     t.cfgOn 0x2105 1 = true ∧ t.cfgNat 0x2105 2 = 3 ∧ t.time.ppsLast = some 0 ∧ 500000000 ≤ (500000000 : Int) - 0 ∧
      ¬ (500000000 ≤ (499999999 : Int) - 0) ∧ t.secondPart 3 (1000000000 - t.cfg 0x2105 4 + t.cfg 0x2105 4) = 0 ∧
      t.secondPart 3 1 ≠ 0 ∧ (withCfg live 0x2105 1 0).cfgOn 0x2105 1 = false ∧ (withCfg live 0x2105 5 1).cfgOn 0x2105 5 = true ∧
      (withCfg live 0x2105 5 0).cfgOn 0x2105 5 = false) ∧
    (live.grants who 0x2105 1 (le 1 1) ∧ (withCfg live 0x2A00 4 1).grants who 0x2105 1 (le 1 1) ∧
      (withCfg live 0x2A00 4 1).cfgAccepted 0x2A00 4 = 1 ∧ live.grants who 0x2105 1 (le 1 0) ∧
      live.storeFull [numberItem (key 0x2105 1) 0] = false) :=
  ⟨grants_of (by decide +kernel), by decide +kernel, grants_of (by decide +kernel), grants_of (by decide +kernel), by decide +kernel,
    grants_of (by decide +kernel), by decide +kernel⟩

/-! ## Witnesses: pair, cells, chain -/

/-- A unit of a pair in the given role, its link up. -/
def paired (p : Pair) : State :=
  { withCfg live 0x2601 1 1 with pair := { p with linkUp := true }, chain := { address := 3, seen := 8 } }

/-- The head of the next frame of the pair link. -/
def nextHead : LinkHead := { tagOk := true, compOk := true, seq := 0, epoch := 0, tick := 0, stamp := 20000000 }

theorem hears_of {s : State} {h : LinkHead} (k : (s.pair.linkUp && !s.halt.silent && h.tagOk && h.compOk && decide (h.seq = s.pair.receiveSeq) &&
    !epochAbove h.epoch s.pair.epoch) = true) : s.hears h := by
  simp only [Bool.and_eq_true, Bool.not_eq_true', decide_eq_true_eq] at k
  exact ⟨k.1.1.1.1.1, k.1.1.1.1.2, k.1.1.1.2, k.1.1.2, k.1.2, k.2⟩

theorem witness_pairHearsPartner :
    (paired {}).power.phase = .running ∧ (paired {}).halt.silent = false ∧ (paired {}).paired = true ∧
    ¬ ((paired {}).pair.linkUp = true ∧ le 16 7 = (paired {}).pair.partnerNonce) ∧
    (∀ low high : Nat, high < low → sharedVersion low high = none) ∧
    (paired { role := 2 }).hears nextHead ∧ (paired { role := 2 }).isStandby = true ∧ pulseIs 40 50 = true ∧ pulseIs 60 50 = true ∧
    (100 : Int).natAbs ≤ 100 ∧ epochAbove 1 (paired { role := 1 }).pair.epoch = true ∧ (paired { role := 1 }).isActive = true ∧
    nextHead.tick = (paired {}).clock.tick ∧ (paired { exchange := some (1, 2, 3) }).pair.exchange = some (1, 2, 3) ∧
    ((paired {}).vergeHeard (some [])).1 = false ∧ ((paired {}).vergeHeard none).1 = true ∧
    ((paired {}).vergeHeard (some ((vergeFrame [8]).drop 6))).1 = true := by
  refine ⟨rfl, rfl, by decide +kernel, by decide +kernel, fun low high h => ?_, hears_of (by decide +kernel), by decide +kernel⟩
  simp only [sharedVersion]
  rw [if_neg (by omega)]

theorem witness_rightOfWayTaken :
    (let s := paired { role := 2, linkSilent := 8, pulseSilent := 8, airSilent := 8 }
     s.pair.role = 2 ∧ s.allSilent 8 = true ∧ s.heardNow = false ∧ s.clock.slice = 0 ∧ s.halt.silent = false) ∧
    (let s := paired { role := 3, waited := 50, linkSilent := 50, pulseSilent := 50, airSilent := 50 }
     s.pair.role = 3 ∧ (if s.chain.address % 2 = 1 then 50 else 8) ≤ s.pair.waited ∧
      s.allSilent (if s.chain.address % 2 = 1 then 50 else 8) = true ∧ s.heardNow = false) ∧
    (paired { role := 2 }).hears nextHead ∧
    (let s := paired { role := 1, partnerRole := 2 }
     s.grants who 0x2601 6 (le 1 1) ∧ s.pair.role = 1 ∧ s.pair.partnerRole = 2 ∧ s.pair.plannedReq = none) :=
  ⟨by decide +kernel, by decide +kernel, hears_of (by decide +kernel), grants_of (by decide +kernel), by decide +kernel⟩

theorem witness_mirrorBeforeAir :
    (let s := paired { role := 1, version := some 2 }
     s.isActive = true ∧ s.pair.linkUp = true ∧ s.halt.silent = false ∧ s.pair.version ≠ none) ∧
    ((paired { role := 4, deltaSent := some 0 }).hears nextHead ∧ nextHead.stamp ≤ 20000000 ∧
      let s := paired { role := 4, deltaSent := some 0 }
      s.isActive = true ∧ s.pair.deltaSent = some s.clock.tick ∧ s.pair.ackResult = none) ∧
    ((paired { role := 2 }).hears nextHead ∧
      let s := paired { role := 2 }
      s.isStandby = true ∧ s.queuedPlans.length < 256 ∧ s.pair.gap = false ∧ s.pair.commits = []) ∧
    ({ lane := 0, kind := 0, epoch := 0, planId := 0, first := 0, last := 0, crc := 0, comp := [] } : CommitRecord).compOk = false ∧
    (paired { role := 2, gap := true }).pair.gap = true ∧ (0x000C#16).getLsbD 2 = true ∧ (0x000C#16).getLsbD 3 = true ∧
    (paired { role := 3 }).hears nextHead ∧ (paired { role := 3 }).pair.role = 3 :=
  ⟨by decide +kernel, ⟨hears_of (by decide +kernel), by decide +kernel⟩, ⟨hears_of (by decide +kernel), by decide +kernel⟩, by decide +kernel,
    by decide +kernel, by decide, by decide, hears_of (by decide +kernel), by decide +kernel⟩

/-- A neighbour of pair 16. -/
def bordering (n : Neighbour) : State := { withCfg live 0x2013 1 16 with ledger := { neighbours := [(16, n)] } }

/-- The crossing plan, asked of pair 2. -/
def asking : State := { live with ledger := { plans := [{ crossingPlan with awaiting := true }] } }

/-- Lane 5 handing over to pair 2 under plan 9. -/
def handing : State :=
  { withLane live 5 { state := LaneState.handingOver.stored } with
    routes := [(5, { planId := 9, crossing := some { pair := 2, border := 20, handover := 25, commit := 10 } })] }

theorem witness_permitsAskedAndGiven :
    live.onCells = true ∧ 16 ∈ (bordering {}).neighbourPairs ∧ ((bordering { mismatch := true }).neighbour 16).mismatch = true ∧
    ((bordering {}).neighbour 16).mismatch = false ∧ (bordering {}).keys.pendingState ≠ 3 ∧ (bordering {}).power.deviceState = 2 ∧ 16 ∉ live.neighbourPairs ∧
    (∃ p, asking.askedBy 2 9 = some p ∧ p.expired = false) ∧
    asking.byCutoff (0 + 1 + BitVec.ofNat 32 asking.permitWait) 20000000 = true ∧
    (let s : State := { asking with clock := { tick := 1 + BitVec.ofNat 32 asking.permitWait } }
     s.byCutoff (0 + 1 + BitVec.ofNat 32 s.permitWait) 17000000 = true ∧ s.byCutoff (0 + 1 + BitVec.ofNat 32 s.permitWait) 17000001 = false) ∧
    asking.handingLane 2 9 = none ∧ handing.handingLane 2 9 = some 5 := by
  refine ⟨by decide +kernel, by decide +kernel, by decide +kernel, by decide +kernel, by decide +kernel, by decide +kernel, by decide +kernel, ⟨_, rfl, rfl⟩, ?_⟩
  decide +kernel

/-- A guest of pair 2, final, whose handover falls in the present tick. -/
def aGuest (done : Bool) : Guest :=
  { pair := 2, planId := 9, border := 8, handover := 10, commit := 10, final := done, start := ⟨0, 0, 0⟩, legs := [], stretches := [] }
def hosting (done : Bool) : State := { live with clock := { tick := 10 }, guests := [(3, aGuest done)] }

/-- The HANDOVER of its machine, MOVING. -/
def aHandover : HandoverMsg :=
  { planId := 9, state := LaneState.moving.stored, epoch := 1, identity := 7, setAcked := true, verdict := 0, reason := 0, disagree := 0
    top := 1000, acc := 500, dec := 1000, jerk := 1000, reversal := false, dwell := 500, halfLen := 2000, halfWid := 900, margin := 100
    policy := 0, policyCount := 3, horizontal := 100, vertical := 250, telemetry := [] }

theorem aHandover_states : handedState aHandover ≠ none ∧ handedState { aHandover with state := 0xFF02 } = none ∧ aHandover.setAcked = true := by
  decide +kernel

theorem witness_guestsAndHandover :
    (hosting true).onCells = true ∧ (∃ n g, (hosting false).guestOf 2 9 = some (n, g) ∧ (hosting false).byCutoff g.commit 17000000 = true ∧
      (hosting false).byCutoff g.commit 17000001 = false) ∧
    (∃ n g, (hosting true).guestOf 2 9 = some (n, g) ∧ tfind (hosting true).cells.arriving n = none ∧ g.final = true ∧ g.withdrawn = false ∧
      (hosting true).clock.tick = g.handover) ∧
    live.guestOf 2 9 = none ∧
    (let s : State := { withLane live 6 { state := LaneState.parked.stored } with cells := { held := [(6, (2, 9))] } }
     s.heldLane 2 9 = some 6 ∧ s.guestOf 2 9 = none) ∧
    handing.handingLane 2 9 = some 5 ∧
    (let s : State := { live with cells := { releasedPlans := [(2, 9)], failedPlans := [4] } }
     s.handingLane 2 9 = none ∧ (2, 9) ∈ s.cells.releasedPlans ∧ s.pair.role = 0 ∧ s.handingLane 2 4 = none ∧
      (2, 4) ∉ s.cells.releasedPlans ∧ 4 ∈ s.cells.failedPlans) ∧
    (handedState aHandover ≠ none ∧ handedState { aHandover with state := 0xFF02 } = none ∧ aHandover.setAcked = true) :=
  ⟨by decide +kernel, ⟨_, _, rfl, by decide +kernel, by decide +kernel⟩, ⟨_, _, rfl, rfl, rfl, rfl, rfl⟩, by decide +kernel, by decide +kernel,
    by decide +kernel, by decide +kernel, aHandover_states⟩

/-- The comparisons with the unit's own serial number (R439, R440) rest on a value that the part is given at manufacture, and have no
witness here. -/
theorem witness_chainAddressClaim :
    (live.power.svcAlt = false ∧ live.chain.stored = 0 ∧ live.chain.phase = 0) ∧
    (let s : State := { live with chain := { address := 1, phase := 5, rival := 8 } }
     s.chain.address ≠ 0 ∧ s.chain.phase = 5 ∧ 8 = s.chain.rival) ∧
    (let s : State := { live with chain := { phase := 2, claiming := 32 } }
     1 ≤ 32 ∧ 32 ≤ 32 ∧ s.chain.phase = 2 ∧ 32 = s.chain.claiming ∧ s.power.svcAlt = false) ∧
    (let s : State := { live with chain := { phase := 4, stored := 1 } }; s.chain.phase = 4 ∧ 1 = s.chain.stored) ∧
    (let s : State := { live with chain := { phase := 1, named := [1, 2] } }; s.chain.phase = 1 ∧ lowestFree s.chain.named = some 3) ∧
    (let s : State := { live with chain := { phase := 1, named := (List.range 32).map (· + 1) } }; lowestFree s.chain.named = none) ∧
    ({ live with chain := { phase := 3 } } : State).chain.phase = 3 := by decide +kernel

theorem witness_canNode :
    (live.grants who 0x2600 3 (le 1 1) ∧ live.allVacant = true ∧ live.cfgAccepted 0x2601 1 ≠ 1) ∧
    ({ live with chain := { phase := 4 } } : State).chain.phase = 4 ∧
    (let s := withCfg live 0x1017 0 1000; s.access.nmt ≠ .initialising ∧ s.cfg 0x1017 0 ≠ 0) ∧
    (let s : State := { live with access := { live.access with streams := [(5, { reader := 0x101, idle := 500, items := [⟨0, 1, 0, []⟩] })] } }
     canReader (s.stream 5).reader = true ∧ 500 ≤ (s.stream 5).idle ∧ (s.stream 5).items ≠ []) :=
  ⟨⟨grants_of (by decide +kernel), by decide +kernel⟩, by decide +kernel⟩

/-! ## Witnesses: keys, images, starts, service port -/

/-- A unit with a pending half in the given state, and its check value. -/
def pendingUnit (state : Nat) : State :=
  { live with keys := { security := 1, generation := 255, pendingState := state, pendingKey := [1], pendingGeneration := 1, windowEnd := some 40,
                        pendingCheck := siteCheck [1] } }

theorem witness_pendingHalf :
    (∀ c : U32, live.grants who 0x2700 5 (pendingKeyBytes 2 [0, 0, 0] c)) ∧ (who.origin = .vap 65536 ∧ tfind live.access.sessions 65536 = some idler ∧
      (List.replicate 40 (0 : Byte)).length = 40 ∧ ∀ b ∈ ([0, 0, 0] : Bytes), b = 0) ∧ live.keys.pendingState = 0 ∧
    followsGeneration live.keys.generation 2 = true ∧ followsGeneration 255 1 = true ∧
    ((pendingUnit 1).grants who 0x2700 6 (le 1 1) ∧ (pendingUnit 1).keys.pendingState = 1 ∧ (pendingUnit 1).keys.verifyDue = none ∧
      siteCheck (pendingUnit 1).keys.pendingKey = (pendingUnit 1).keys.pendingCheck) ∧
    ((pendingUnit 2).grants who 0x2700 6 (le 1 2) ∧ (pendingUnit 2).grants who 0x2700 6 (le 1 3) ∧ (pendingUnit 2).keys.pendingState = 2 ∧
      (pendingUnit 2).keys.announceDue = none) ∧
    (let s : State := { pendingUnit 3 with clock := { tick := 40 } }
     s.keys.windowEnd = some 40 ∧ s.keys.pendingState = 3 ∧ atOrAfter s.clock.tick 40 = true) := by
  refine ⟨fun c => ⟨takes_of_takesNow (by decide +kernel), ?_⟩, by decide +kernel, by decide +kernel, by decide +kernel, by decide +kernel,
    ⟨grants_of (by decide +kernel), rfl, rfl, rfl⟩, ⟨grants_of (by decide +kernel), grants_of (by decide +kernel), rfl, rfl⟩, by decide +kernel⟩
  exact (show live.commandCheck who 0x2700 5 (pendingKeyBytes 2 [0, 0, 0] c) = none from by
    simp only [State.commandCheck, State.precheck]; rfl)

/-- A pending half whose check value is another. -/
theorem witness_pendingHalf_mismatch :
    (let s : State := { pendingUnit 1 with keys := { (pendingUnit 1).keys with pendingCheck := siteCheck [1] + 1 } }
     siteCheck s.keys.pendingKey ≠ s.keys.pendingCheck) := by
  show ¬ (siteCheck [1] = siteCheck [1] + 1)
  generalize siteCheck [1] = x
  intro h
  have := congrArg (· - x) h
  simp at this

theorem witness_certificatesAndTamper :
    (∀ opens : Bool, ∃ s : State, s.power.phase = .running ∧ s.grants who 0x2700 7 (debugBytes (if opens then 1 else 2) 1 Config.serial s.power.resets) ∧
      s.power.state = 1 ∧ (opens = true → s.keys.security ≠ 2) ∧ (opens = false → s.keys.security = 2 ∧ s.keys.development = false)) ∧
    live.power.vbatPresent = true ∧ ({ live with power := { vbatPresent := false } } : State).power.vbatPresent = false := by
  refine ⟨fun opens => ⟨{ live with power := { phase := .running, state := 1 }, keys := { security := if opens then 1 else 2 } }, rfl,
    ⟨takes_of_takesNow (by cases opens <;> decide +kernel), ?_⟩, rfl, ?_, ?_⟩, rfl, rfl⟩
  · cases opens <;> (simp only [State.commandCheck, State.precheck]; rfl)
  · rintro rfl; decide
  · rintro rfl; decide

/-- A manifest record of an image of one body record, and the image. -/
def aManifest : ImageRecord :=
  { magicOk := true, kind := 0, index := 0, imageId := 3, dataLen := 208, tagOk := true, sigOk := true, manifestOk := true, variants := 3
    stepping := 0x41, version := 9, length := 4096, count := 1, schema := 1, lowSchema := 1, highSchema := 1, digest := [] }
def aBody : ImageRecord := { aManifest with kind := 1, index := 1, dataLen := 4112, data := [] }

/-- Bytes of a container that hold one record without data, whose reserved bytes are set. -/
def badRecord : Bytes := List.replicate 16 1 ++ [0, 0] ++ List.replicate 14 1
def receivingUnit (d : Nat) : State := { live with update := { download := d, manifest := some (manifestImage aManifest), bits := 1 } }

theorem witness_imagesDelivered :
    (live.grants who 0x2800 1 (List.replicate (32 + 208) 0) ∧ live.update.busy = false ∧ manifestAccepted live.keys.development aManifest = true ∧
      manifestAccepted live.keys.development { aManifest with count := 2 } = false ∧ aManifest.reserved = false ∧ aManifest.kind = 0 ∧
      ¬ ((live.update.download = 1 ∨ live.update.download = 2) ∧ live.update.manifest.any (fun m => m.id = aManifest.imageId) = true)) ∧
    ((receivingUnit 1).grants who 0x2800 1 (List.replicate (32 + 4112) 0) ∧ (receivingUnit 1).update.busy = false ∧
      (receivingUnit 1).update.manifest = some (manifestImage aManifest) ∧ aBody.reserved = false ∧ aBody.kind ≠ 0 ∧
      (manifestImage aManifest).id = aBody.imageId ∧ 1 ≤ aBody.index ∧
      aBody.index ≤ (manifestImage aManifest).count ∧ aBody.dataLen = bodyLength (manifestImage aManifest) aBody.index ∧
      bit (receivingUnit 1).update.bits aBody.index = false) ∧
    ({ receivingUnit 1 with update := { (receivingUnit 1).update with verifying := true } } : State).update.endDue = none ∧
    (let s : State := { receivingUnit 1 with update := { (receivingUnit 1).update with age := live.cfgNat 0x2800 4 * 86400000 } }
     s.update.download = 1 ∧ s.cfgNat 0x2800 4 * 86400000 ≤ s.update.age) ∧
    (live.grants who 0x2800 6 (le 1 3) ∧ live.grants who 0x2800 6 (le 1 1) ∧ live.grants who 0x2800 6 (le 1 2) ∧ live.update.activateDue = none) ∧
    (let s : State := { live with update := { trial := 1, trialSeconds := live.cfgNat 0x2800 7 } }
     s.update.trial = 1 ∧ s.cfgNat 0x2800 7 ≤ s.update.trialSeconds ∧ s.update.confirmDue = none) :=
  ⟨⟨grants_of (by decide +kernel), by decide +kernel⟩, ⟨grants_of (by decide +kernel), by decide +kernel⟩, by decide +kernel, by decide +kernel,
    ⟨grants_of (by decide +kernel), grants_of (by decide +kernel), grants_of (by decide +kernel), by decide +kernel⟩, by decide +kernel⟩

/-- The image in slot 0 is of version 5 and reads the schemas 1 to 3; the settings area was written by version 6 under schema 3. -/
theorem witness_resetsAndStarts :
    (live.power.phase.alive = true ∧ 10 ≤ 10) ∧ inReset.power.phase = .inReset ∧
    (let s : State := { State.reset with power := { recover := true } }; s.power.phase = .rom ∧ s.power.recover = true) ∧
    (let s : State := { State.reset with update := { failedBoots := 2, slots := [(0, { anImage with schema := 3, high := 3 })], x := { role := 1, writer := some 5 } } }
     s.power.recover = false ∧ s.update.failedBoots < 3 ∧ s.foreignArea = false) ∧
    (let s : State := { State.reset with update := { slots := [(0, { anImage with schema := 3, high := 3 })], x := { role := 1, writer := some 6, schema := some 3 } } }
     s.foreignArea = true ∧ s.image.low ≤ s.update.area.schemaNo ∧ s.update.area.schemaNo ≤ s.image.high) ∧
    (let s : State := { State.reset with update := { slots := [(0, { anImage with schema := 2, high := 2 })], x := { role := 1, writer := some 6, schema := some 3 } } }
     s.foreignArea = true ∧ ¬ s.update.area.schemaNo ≤ s.image.high) ∧
    (live.power.phase = .running ∧ live.update.started = false ∧ live.update.trial ≠ 1 ∧ ({ live with update := { trial := 1 } } : State).update.trial = 1) := by
  decide +kernel

theorem witness_servicePort :
    (∀ s ∈ [live, inRecovery], (s.power.phase = .running ∨ s.power.phase = .recovery) ∧ s.panel.plug = true ∧ s.update.lastSeq ≠ some 9) ∧
    (frameHolds (framed 0x13 9 []) 0x13 [] ∧ ¬ frameHolds { framed 0x13 9 [] with crc := (framed 0x13 9 []).crc + 1 } 0x13 [] ∧
      frameHolds (framed 0x01 9 []) 0x01 [] ∧ frameHolds (framed 0x10 9 (le 4 1024)) 0x10 (le 4 1024) ∧
      frameHolds (framed 0x11 9 (le 4 1024 ++ [0])) 0x11 (le 4 1024 ++ [0]) ∧ frameHolds (framed 0x12 9 (le 1 0)) 0x12 (le 1 0) ∧
      frameHolds (framed 0x20 9 (le 2 0xA55A)) 0x20 (le 2 0xA55A) ∧ frameHolds (framed 0x21 9 (le 2 0xA55A)) 0x21 (le 2 0xA55A)) ∧
    (let s : State := { live with update := { lastSeq := some 9, lastReply := some [1] } }
     s.update.lastSeq = some 9 ∧ s.update.lastReply = some [1]) ∧
    (let s : State := { live with update := { receiving := true, offset := 1024, total := 2048 } }
     s.update.receiving = true ∧ 1024 = s.update.offset ∧ 1024 + 1024 ≤ s.update.total ∧ 1023 ≠ s.update.offset ∧
      ((s.asked 9).takeRecords (recordsIn s.update.partRecord [0]).1).2 = none ∧
      ((s.asked 9).takeRecords (recordsIn s.update.partRecord badRecord).1).2 = some 0x06090030) ∧
    ({ live with update := { verifying := true } } : State).update.verifying = true ∧ live.update.manifest = none ∧
    (receivingUnit 1).update.manifest = some (manifestImage aManifest) := by
  refine ⟨fun s h => ?_, ?_, ?_, ?_, rfl, rfl, rfl⟩
  · simp only [List.mem_cons, List.not_mem_nil, or_false] at h
    rcases h with rfl | rfl <;> decide +kernel
  · unfold frameHolds; decide +kernel
  all_goals decide +kernel

theorem witness_serviceRefusals :
    (∀ s ∈ [live, inRecovery], (s.power.phase = .running ∨ s.power.phase = .recovery) ∧ s.panel.plug = true ∧ s.update.lastSeq ≠ some 9) ∧
    frameHolds (framed 0x20 9 (le 2 1)) 0x20 (le 2 1) ∧ frameHolds (framed 0x21 9 (le 2 0xA55A)) 0x21 (le 2 0xA55A) ∧
    frameHolds (framed 0x12 9 (le 1 2)) 0x12 (le 1 2) := by
  refine ⟨fun s h => ?_, ?_⟩
  · simp only [List.mem_cons, List.not_mem_nil, or_false] at h
    rcases h with rfl | rfl <;> decide +kernel
  · unfold frameHolds; decide +kernel

theorem witness_serviceRequestsAndRecoveryTransfer :
    (live.power.phase = .running ∧ live.panel.plug = true ∧ live.update.lastSeq ≠ some 9) ∧ inRecovery.power.phase = .recovery ∧
    (∀ op ∈ [1, 0xA, 0xC], frameHolds (framed 0x40 9 (requestBytes 7 op 0 0x2000 1 [])) 0x40 (requestBytes 7 op 0 0x2000 1 [])) ∧
    (let s : State := { inRecovery with update := { tftp := true, block := 65535 } }
     s.update.tftp = true ∧ inRecovery.update.tftp = false ∧ tftpTaken { name := ascii "vl4192.img", mode := ascii "Octet" } = true ∧
      tftpTaken { name := ascii "vl4192.img", mode := ascii "netascii" } = false ∧
      ({ address := 0, port := 0 } : TftpPeer) = s.update.tftpPeer ∧ ({ address := 1, port := 69 } : TftpPeer) ≠ s.update.tftpPeer ∧ 65534 % 65536 = (s.update.block + 65535) % 65536 ∧ 65535 % 65536 = s.update.block % 65536 ∧
      7 % 65536 ≠ (s.update.block + 65535) % 65536 ∧ 7 % 65536 ≠ s.update.block % 65536 ∧
      (s.begin.takeRecords (recordsIn s.update.tftpPart []).1).2 = none ∧
      (s.begin.takeRecords (recordsIn s.update.tftpPart []).1).1.update.verifying = false ∧
      (s.begin.takeRecords (recordsIn s.update.tftpPart badRecord).1).2 = some 0x06090030) ∧
    (let s : State := { inRecovery with update := { tftp := true, verifying := true, manifest := some (manifestImage aManifest), block := 5 } }
     let u := (s.begin.takeRecords (recordsIn s.update.tftpPart []).1).1
     (s.begin.takeRecords (recordsIn s.update.tftpPart []).1).2 = none ∧ u.update.verifying = true ∧ u.update.manifest.isSome = true ∧
      u.power.phase = .recovery ∧ 5 % 65536 = s.update.block % 65536) := by
  refine ⟨by decide +kernel, by decide +kernel, ?_, by decide +kernel, by decide +kernel⟩
  unfold frameHolds; decide +kernel

/-! ## Witnesses: the dictionary -/

theorem witness_settingsWritten :
    (∃ e, live.grants who 0x1017 0 (le 2 500) ∧ lookup 0x1017 0 = .entry e ∧ e.ty.isDomain = false ∧ e.acc = .rw ∧
      live.ruling 0x1017 0 500 = none ∧ live.storeFull [{ index := 0x1017, sub := 0, data := le 2 500 }] = false) ∧
    (let s : State := { live with update := { x := { role := 1, journal := 10000000 }, y := { role := 2 } } }
     s.storeFull [{ index := 0x1017, sub := 0, data := le 2 500 }] = true) ∧
    (let s := withCfg live 0x2A00 4 1
     (byteItem 0x2105 1 1).index = 0x2105 ∧ (s.ruling 0x2105 1 1).isSome) ∧
    (let items : List WriteItem := [{ index := 0x1017, sub := 0, data := le 2 500 }]
     live.takes who ∧ 1 ≤ items.length ∧ items.length ≤ 64 ∧ (items.map itemBytes).sum ≤ 1384 ∧
      (∀ x ∈ items, ¬ (0x3000 ≤ x.index ∧ x.index < 0x3400) ∧ ¬ (0x4100 ≤ x.index ∧ x.index < 0x41C0)) ∧
      badItem 1 [] items = none ∧ (State.batchRefusal who 1 items live).isNone ∧ live.storeFull items = false ∧
      badItem 1 [] (items ++ items) = some 2 ∧ (State.batchRefusal who 1 [{ index := 0x2105, sub := 1, data := [1] }] (withCfg live 0x2A00 4 1)).isSome) ∧
    live.grants who 0x2002 1 (le 1 1) ∧ live.grants who 0x1003 0 (le 1 0) :=
  ⟨⟨_, grants_of (by decide +kernel), rfl, by decide +kernel, by decide +kernel, by decide +kernel, by decide +kernel⟩, by decide +kernel,
    by decide +kernel, ⟨takes_of_takesNow (by decide +kernel), by decide +kernel⟩, grants_of (by decide +kernel), grants_of (by decide +kernel)⟩

/-- A credential download of slot 8 as far as its first 60 bytes, and an upload of 2,000 bytes. -/
def transferring : State :=
  { live with access := { live.access with transfers := [
      { index := 0x2701, sub := 8, origin := who.origin, upload := false, total := 68, data := List.replicate 60 0, idle := 49 },
      { index := 0x4203, sub := 1, origin := who.origin, upload := true, total := 3024, data := List.replicate 2000 0, idle := 50 }] } }

theorem witness_transfersBySegments :
    (∃ e, lookup 0x2701 8 = .entry e ∧ e.ty.isDomain = true ∧ live.grants who 0x2701 8 (List.replicate 68 0) ∧ 68 ≤ domainMax 0x2701 8 ∧
      live.transferRefused who 0x2701 8 = none ∧ live.transfer 0x2701 8 = none) ∧
    (∃ x, transferring.takes who ∧ transferring.transfer 0x2701 8 = some x ∧ x.origin = who.origin ∧ x.upload = false ∧ x.data.length = 60 ∧
      x.data.length + 8 = x.total ∧ x.total = 68 ∧ x.data.length + 7 ≠ x.total ∧ x.idle < 50 ∧
      transferring.grants who 0x2701 8 (x.data ++ List.replicate 8 0) ∧ byteAt (x.data ++ List.replicate 8 0) 65 ≤ 15 ∧
      field (x.data ++ List.replicate 8 0) 66 2 = 0 ∧
      transferring.storeFull [{ index := 0x2701, sub := 8, data := x.data ++ List.replicate 8 0 }] = false) ∧
    (∃ e, lookup 0x4203 1 = .entry e ∧ e.ty.isDomain = true ∧ e.acc ≠ .wo ∧ live.transferRefused who 0x4203 1 = none) ∧
    (∃ x, transferring.transfer 0x4203 1 = some x ∧ x.origin = who.origin ∧ x.upload = true ∧ 1024 < x.data.length ∧ 50 ≤ x.idle) :=
  ⟨⟨_, rfl, by decide +kernel, grants_of (by decide +kernel), by decide +kernel, by decide +kernel, by decide +kernel⟩,
    ⟨_, takes_of_takesNow (by decide +kernel), rfl, rfl, rfl, by decide +kernel, by decide +kernel, rfl, by decide +kernel, by decide +kernel,
      grants_of (by decide +kernel), by decide +kernel, by decide +kernel, by decide +kernel⟩,
    ⟨_, rfl, by decide +kernel, by decide +kernel, by decide +kernel⟩, ⟨_, rfl, rfl, rfl, by decide +kernel, by decide +kernel⟩⟩

/-- A session without a role takes requests, and may read nothing. -/
theorem witness_transfersBySegments_roles :
    (let s : State := { live with access := { sessions := [(65536, { idler with roles := 0 })] } }
     s.takes who ∧ permitted (s.roles who.origin) 0x1F = false) ∧ permitted (live.roles who.origin) 0x1F = true ∧ live.transfer 0x2701 8 = none :=
  ⟨⟨takes_of_takesNow (by decide +kernel), by decide +kernel⟩, by decide +kernel, by decide +kernel⟩

/-- A handshake of slot 2, 2 s old, and a credential with the roles O and P. -/
def greeting : State :=
  { live with
    settings := { credentials := [(2, List.replicate 65 0 ++ [3, 0, 0])] }
    access := { live.access with handshakes := [(65537, { id := 65537, port := 0, slot := 2, roles := 15, key := [], nonce := [], scalar := 1, ownNonce := [],
                                                                 digest := [], age := 100 })] } }

theorem witness_sessionsOpenAndClose :
    (let s := withCfg greeting 0x2022 3 1
     s.cfgOn 0x2022 (2 + 1) = true ∧ s.helloRefused 1 2 = none ∧ s.helloRefused 2 2 = some 4 ∧ (withCfg s 0x2022 3 0).cfgOn 0x2022 (2 + 1) = false) ∧
    (∃ h, tfind greeting.access.handshakes 65537 = some h ∧ h.id = 65537 ∧ greeting.credentialRoles h.slot = some 3 ∧
      greeting.firstCredential = false ∧ 100 ≤ h.age) ∧
    live.credentialRoles 2 = none ∧
    (let s : State := { live with access := { sessions := [(65536, { idler with idle := live.cfgNat 0x2022 1 * 50 + 1 })] } }
     (tfind s.access.sessions 65536).map (fun e => decide (s.cfgNat 0x2022 1 * 50 < e.idle)) = some true) ∧
    (live.takes who ∧ who.origin = .vap 65536) :=
  ⟨by decide +kernel, ⟨_, rfl, rfl, by decide +kernel, by decide +kernel, by decide +kernel⟩, by decide +kernel, by decide +kernel,
    takes_of_takesNow (by decide +kernel), rfl⟩

/-- Stream 5 with a reader, and a session of role O alone. -/
def streaming (reader : U32) : State :=
  { live with access := { live.access with streams := [(5, { reader := reader, items := [⟨0, 1, 0, [9]⟩] })] } }
def watcher : State :=
  { live with access := { sessions := [(65536, { idler with roles := 1 })] } }

theorem witness_streamsRead :
    (live.takes who ∧ (∀ q < 6, live.streamRefused (live.roles who.origin) q = none) ∧ (live.stream 5).reader = 0) ∧
    ((streaming 65536).takes who ∧ (streaming 65536).streamRefused ((streaming 65536).roles who.origin) 5 = none ∧
      ((streaming 65536).stream 5).reader = BitVec.ofNat 32 (readerOf who.origin) ∧ ((streaming 65536).stream 5).write.ok = true ∧
      ((streaming 65536).stream 5).readPtr.ok = true) ∧
    (((streaming 7).stream 5).reader ≠ 0 ∧ ((streaming 7).stream 5).reader ≠ BitVec.ofNat 32 (readerOf who.origin)) ∧
    (watcher.takes who ∧ ∃ q < 6, (watcher.streamRefused (watcher.roles who.origin) q).isSome) :=
  ⟨⟨takes_of_takesNow (by decide +kernel), by decide +kernel⟩, ⟨takes_of_takesNow (by decide +kernel), by decide +kernel⟩, by decide +kernel,
    takes_of_takesNow (by decide +kernel), by decide +kernel⟩

/-! ## Witnesses: events and counters -/

/-- A snapshot at a time, not yet taken. -/
def snapping : State := { live with counters := { snap := some { number := 1, code := 3, time := 100 } } }

theorem witness_snapshotsTaken :
    (∀ code ∈ ([1, 2, 3] : List Nat), live.grants who 0x2900 1 (le 1 code) ∧ snapping.grants who 0x2900 1 (le 1 code)) ∧
    live.counters.snap = none ∧ snapping.counters.snap ≠ none ∧
    (let s := withCfg live 0x2900 2 (100000000 + 1000)
     100000000 ≤ s.cfgAccepted 0x2900 2 - (s.stamped who.stamp).now ∧ s.cfgAccepted 0x2900 2 - (s.stamped who.stamp).now ≤ 3600000000000) ∧
    live.cfgAccepted 0x2900 2 - (live.stamped who.stamp).now < 100000000 ∧
    (∃ x, snapping.counters.snap = some x ∧ x.code = 3 ∧ x.taken = none ∧ x.time ≤ 100 ∧ ¬ x.time ≤ 99) ∧
    20000000 < 20000001 - live.now ∧ 20000000 - live.now ≤ 20000000 := by
  refine ⟨fun code h => ⟨grants_of ?_, grants_of ?_⟩, by decide +kernel, by decide +kernel, by decide +kernel, by decide +kernel,
    ⟨_, rfl, by decide +kernel⟩, by decide +kernel, by decide +kernel⟩ <;> revert code <;> decide +kernel

/-- Task 0x61 of engine 4 waits on flag 0, of higher priority than task 0x60, which runs. -/
def tasking (running : Bool) : State :=
  { live with disp := {
      tasks := [(0x60, { status := .running, priority := 5 }), (0x61, { status := .waiting, any := 1, priority := 6, delay := some 0 })]
      running := if running then [(4, 0x60)] else [] } }

theorem witness_tasksWake :
    ((tasking true).task 0x60).status ≠ .waiting ∧ ((tasking true).task 0x61).status = .waiting ∧ engineOf 0x61 = 4 ∧
      ¬ ((((tasking true).task 0x61).flags ||| 2) &&& ((tasking true).task 0x61).any ≠ 0) ∧
      (((tasking true).task 0x61).flags ||| 1) &&& ((tasking true).task 0x61).any ≠ 0 ∧ (tasking true).runningOn 4 = some 0x60 ∧
      ((tasking true).task 0x60).priority < ((tasking true).task 0x61).priority ∧ (tasking false).runningOn 4 = none ∧
      ((tasking true).task 0x61).delay = some 0 := by decide +kernel

theorem witness_tasksDropAndYield :
    ((tasking true).task 0x60).status ≠ .ended ∧ ((tasking true).task 0x61).status ≠ .ended ∧ (tasking true).runningOn 4 = some 0x60 ∧
      ¬ (((tasking true).task 0x60).flags &&& 1 ≠ 0 ∨ ((2 : U32) ≠ 0 ∧ ((tasking true).task 0x60).flags &&& 2 = 2)) ∧
      (let s : State := { live with disp := { tasks := [(0x60, { status := .running, flags := 2 })], running := [(4, 0x60)] } }
       s.runningOn 4 = some 0x60 ∧ (2 : U32) ≠ 0 ∧ (s.task 0x60).flags &&& 2 = 2) ∧
      (let s : State := { live with disp := { tasks := [(0x10, { status := .running })], running := [(engineOf 0x10, 0x10)] } }
       (s.task 0x10).status ≠ .ended ∧ engineOf 0x10 ≠ 4) ∧ engineOf 0x61 = 4 := by decide +kernel

/-- Capture unit 3. -/
def capturing (u : TripUnit) : State := { live with trip := { units := [(3, u)] } }

theorem witness_capturesRun :
    ((capturing { state := 2 }).grants who 0x2A00 5 (le 1 8) ∧ (∀ u, u < 4 → bit 8 u = true → ((capturing { state := 2 }).tripUnit u).state = 2) ∧
      (8 : Nat) = 2 ^ 3 ∧ 15 ≤ 15 ∧ live.grants who 0x2A00 5 (le 1 8) ∧ (live.tripUnit 3).state ≠ 2) ∧
    (let s := withCfg (capturing { state := 2, armed := 10 }) 0x2A13 6 10
     (s.tripUnit 3).state = 2 ∧ s.cfgNat (0x2A10 + 3) 6 ≠ 0 ∧ s.cfgNat (0x2A10 + 3) 6 ≤ (s.tripUnit 3).armed ∧ (s.tripUnit 3).fired = [] ∧
      (capturing { state := 2, armed := 9 }).cfgNat (0x2A10 + 3) 6 = 0) ∧
    (let s := capturing { state := 3, need := 0 }
     (s.tripUnit 3).state = 3 ∧ (s.tripUnit 3).need ≤ partSize (s.tripUnit 3).post ∧ (s.stream 1).write.ok = true ∧ (s.stream 1).readPtr.ok = true) ∧
    (let s := capturing { state := 3, need := 1 }; partSize (s.tripUnit 3).post < (s.tripUnit 3).need) ∧
    (let s : State := { withCfg (capturing { state := 4, items := [(1, [2])], sealed := [(1, [2])] }) 0x2A13 7 1 with
        access := { live.access with streams := [(3, { reader := 65536 })] } }
     (s.tripUnit 3).state = 4 ∧ (s.stream 3).reader ≠ 0 ∧ s.trip.reexport = [] ∧ (s.stream 3).write.ok = true ∧ (s.stream 3).readPtr.ok = true ∧
      (s.stream 3).fill + ((s.tripUnit 3).items.map (fun i => 8 + i.2.length)).sum ≤ 524288 ∧ s.cfgOn (0x2A10 + 3) 7 = true ∧
      retainedBytes (s.tripUnit 3).sealed ≤ 2097152) ∧ (live.stream 3).reader = 0 :=
  ⟨⟨grants_of (by decide +kernel), by decide +kernel, by decide, by decide, grants_of (by decide +kernel), by decide +kernel⟩, by decide +kernel⟩

/-! ## Witnesses: power -/

/-- Feed `k` runs alone. -/
def runningAlone (k cause : Nat) : State :=
  { live with power := { live.power with
      alone := some { feed := k, cause := cause, before := 24000 }
      feedA := { state := if k = 0 then 3 else 1 }, feedB := { state := if k = 1 then 3 else 1 } } }

theorem witness_feedRunsAlone :
    (∀ k < 2, ∀ cause ∈ [1, 2, 3], (runningAlone k cause).power.alone = some { feed := k, cause := cause, before := 24000 } ∧
      ((runningAlone k cause).feed k).state = 3) ∧
    (24000 ≤ 23950 + 50 ∧ ¬ 24000 ≤ 23949 + 50) ∧ (runningAlone 0 2).power.feedB.state = 1 ∧
    (let s : State := { live with power := { live.power with feedA := { state := 1 }, feedB := { state := 1 } } }
     s.grants who 0x2C00 6 (le 1 1) ∧ s.power.feedA.state = 1 ∧ s.power.feedB.state = 1 ∧ s.power.powerDue ≠ some 3) ∧
    (let s : State := { withCfg live 0x2C00 5 7 with power := { live.power with sinceTest := 7 * 86400000 } }
     s.cfg 0x2C00 5 ≠ 0 ∧ s.cfgNat 0x2C00 5 * 86400000 ≤ s.power.sinceTest ∧ s.power.testDue = false) :=
  ⟨by decide +kernel, by decide, by decide +kernel, ⟨grants_of (by decide +kernel), by decide +kernel⟩, by decide +kernel⟩

/-- A unit with a raised condition. -/
def conditioned (code key : Nat) : State :=
  { live with access := { live.access with conditions := [{ code := code, key := key, bit := 3, silenced := false }] } }

theorem witness_powerCommandsAndMonitors :
    (∀ code ∈ ([1, 2, 3] : List Nat), live.grants who 0x2C00 2 (le 1 code)) ∧ live.allVacant = true ∧ live.feedsTested = false ∧
    live.keys.pendingState ≠ 3 ∧ live.grants who 0x2001 1 (le 2 0xA55A) ∧ live.notMoving = true ∧
    (({ live with power := { live.power with vbatLow := 9900 } } : State).power.vbatLow + 100 = 10000 ∧ 2499 < 2500 ∧
      live.access.raised 0x200B 0 = false ∧ (conditioned 0x200B 0).access.raised 0x200B 0 = true ∧ 2550 ≤ 2550 ∧ 2549 < 2550) ∧
    ((1450 : Int) < 1451 ∧ live.access.raised 0x2009 1 = false ∧ (1399 : Int) < 1400 ∧ (conditioned 0x2009 1).access.raised 0x2009 1 = true) ∧
    ({ live with power := { live.power with refSel := true, refLocked := true } } : State).power.refLocked = true ∧
    ({ live with power := { live.power with refSel := true } } : State).power.refLocked = false := by
  refine ⟨fun code h => grants_of ?_, by decide +kernel, by decide +kernel, by decide +kernel, grants_of (by decide +kernel), by decide +kernel⟩
  revert code; decide +kernel

theorem witness_offAndStandby :
    (live.power.phase ≠ .standby ∧ live.power.phase ≠ .off ∧ 6 < 7) ∧
    (let s : State := { State.reset with power := { phase := .off } }; s.power.phase = .off ∧ s.power.pwrEn = true ∧ s.power.vbatPresent = true) ∧
    ({ State.reset with power := { phase := .off, vbatPresent := false } } : State).power.vbatPresent = false ∧
    (let s : State := { State.reset with power := { phase := .standby, pwrEn := false, standbyFlag := true }, panel := { strobe1 := 1 } }
     s.power.phase = .standby ∧ 3 ≤ 3 ∧ 1 ≤ s.panel.strobe1 ∧ ¬ 1 ≤ s.panel.strobe2) := by decide +kernel

theorem witness_debugTap :
    live.tapPowered = true ∧ live.scanAllowed = false ∧ live.debugOpen = false ∧ inRecovery.tapPowered = true ∧ inRecovery.scanAllowed = true ∧
      inRecovery.debugOpen = false := by decide +kernel

/-! ## Single steps -/

/-- What a boundary brings, and what a slice samples, when nothing is connected. -/
def quietTick : TickEnv := { sats := [], survey := none, osc := 0, rtc := 0 }

/-- R24, R340: a tick is 20 ms, on TB3 as well; nothing else runs in the ROM. -/
theorem test_tick_in_rom : (after (.tickBoundary quietTick) State.reset).clock.tick = 1 ∧
    (after (.tickBoundary quietTick) State.reset).clock.tb3 = 20000000 := by decide +kernel

/-- R593: RST_N low for less than 10 µs resets nothing. -/
theorem test_rstN_width : (after (.rstNAssert 9) live).power.phase = .running ∧ (after (.rstNAssert 10) live).power.phase = .inReset ∧
    (after (.rstNAssert 10) live).power.cause = 1 := by decide +kernel

/-- R211: the fourth low sample in a row makes SITE_HALT_N a site source, and the site record IN_FORCE as code 1 and complement. -/
theorem test_site_line_low :
    (let s : State := { withCfg live 0x2202 7 1 with halt := { lastSample := true, lineRun := 3 } }
     (after (.siteHaltSample true 500000) s).halt.lineLow = true ∧ (after (.siteHaltSample true 500000) s).halt.site = 0xFE01) ∧
    (let s : State := { withCfg live 0x2202 7 1 with halt := { lastSample := true, lineRun := 2 } }
     (after (.siteHaltSample true 500000) s).halt.site = 0xFF00) := by decide +kernel

/-- R214, R219: an accepted cell assert puts the cell record IN_FORCE with a new halt ID, and leaves the site record. -/
theorem test_halt_assert_cell : (after (.haltAssert who (haltWord 0x6000)) live).halt.cell = 0xFE01 ∧
    (after (.haltAssert who (haltWord 0x6000)) live).halt.site = 0xFF00 ∧ (after (.haltAssert who (haltWord 0x6000)) live).halt.haltId = 1 := by
  decide +kernel

/-- R368: a safety word whose complement does not match changes nothing. -/
theorem test_halt_assert_complement : (after (.haltAssert who 0x00006000) live).halt = live.halt := by decide +kernel

/-- R20 transition 3, R23: an admission that has run its timeout by the next boundary ends there; one that has not goes on. -/
theorem test_admission_timeout :
    (let s := withLane live 3 { state := LaneState.admitting.stored, timer := live.cfgNat 0x2003 1 * 50 - 1 }
     (after (.admissionTimeout 3) s).due = [{ lane := 3, what := .timeout }] ∧ (after (.admissionTimeout 3) s).laneIs 3 .admitting = true) ∧
    (after (.admissionTimeout 3) (withLane live 3 { state := LaneState.admitting.stored, timer := live.cfgNat 0x2003 1 * 50 - 2 })).due = [] ∧
    ((withLane live 3 { state := LaneState.admitting.stored, timer := live.cfgNat 0x2003 1 * 50 }).timeOut 3).laneIs 3 .vacant = true := by
  decide +kernel

/-- R377, R399: NMT start, and the boot-up message after a reset of communication. -/
theorem test_nmt : (after (.nmtCommand 2) { live with chain := { address := 4, phase := 4 } }).access.nmt = .stopped ∧
    (after (.nmtCommand 130) { live with chain := { address := 4, phase := 4 } }).out = [.can 0x704 [0]] := by decide +kernel

/-- R592: VBAT low is reported below 2,500 mV held for 10 s. -/
theorem test_vbat_low :
    (let s : State := { live with power := { live.power with vbatLow := 9900 } }
     (after (.vbatLow 2499 100) s).access.raised 0x200B 0 = true ∧ (after (.vbatLow 2499 99) s).access.raised 0x200B 0 = false) := by
  decide +kernel

/-- R472: tamper is counted and zeroises no key. -/
theorem test_tamper : (after .tamperDetected { live with keys := { live.keys with current := [1] } }).keys.tamper = 1 ∧
    (after .tamperDetected { live with keys := { live.keys with current := [1] } }).keys.current = [1] := by decide +kernel

/-- R369, R372: a write is read back at once, and holds in the journal. -/
theorem test_write_read_back : (after (.dictionaryWrite who { index := 0x1017, sub := 0, data := le 2 500 }) live).cfgAccepted 0x1017 0 = 500 ∧
    (after (.dictionaryWrite who { index := 0x1017, sub := 0, data := le 2 500 }) live).update.generation = 1 := by decide +kernel

/-- R366: a write of the wrong length is refused with 0x06070010. -/
theorem test_write_length : Output.response who.origin who.id (.refused 0x06070010 0) ∈
    (after (.dictionaryWrite who { index := 0x1017, sub := 0, data := [1] }) live).out := by decide +kernel

/-- R608: IDCODE is captured; bits 27 to 12 read 0x4192. -/
theorem test_idcode : (after (.debugTapInstruction .idcode) live).tap.captured / 4096 % 65536 = 0x4192 := by decide +kernel

/-- R590: power command 3 enters Standby at the next boundary: PWR_EN falls. -/
theorem test_standby : (let s : State := { live with power := { live.power with powerDue := some 3 } }
    (after (.tickBoundary quietTick) s).power.phase = .standby ∧ (after (.tickBoundary quietTick) s).power.pwrEn = false) := by decide +kernel

/-- R235: a unit that reports that it drives the line is kept, and dropped when it reports that it does not. -/
theorem test_site_line_drivers : (after (.siteLine 32 true) live).halt.drivers = [(32, 0)] ∧
    (after (.siteLine 32 false) (after (.siteLine 32 true) live)).halt.drivers = [] := by decide +kernel

/-- R510: a task that waits on a flag is woken by it. -/
theorem test_task_wake : ((after (.taskWakeOnFlags 0x61 1) (tasking false)).task 0x61).status = .running ∧
    ((after (.taskWakeOnFlags 0x61 2) (tasking false)).task 0x61).status = .waiting := by decide +kernel

/-- R250: what one set bit sends is the generators 133 and 171, highest bit first. -/
theorem test_encoder : (convolve [] [true, false, false, false, false, false, false]).map (fun x => (x.1.toNat, x.2.toNat)) =
    [(1, 1), (0, 1), (1, 1), (1, 1), (0, 0), (1, 0), (1, 1)] := by decide

/-- R251: bits 1 and 12 of a BPSK symbol, and bit 1 of a 16-QAM symbol, by hand from the rule's formulas. -/
theorem test_interleaver : interleaved 0 1 = 4 ∧ interleaved 0 12 = 1 ∧ interleaved 3 1 = 17 := by decide

/-- R252, R253: corners of the mapping table, and the ends of the subcarrier map. -/
theorem test_mapping : point 3 [true, false, false, true] = (3, -1) ∧ point 6 [false, true, false, true, false, false] = (-1, 7) ∧
    dataSubcarrier 0 = -26 ∧ dataSubcarrier 23 = -1 ∧ dataSubcarrier 24 = 1 ∧ dataSubcarrier 47 = 26 := by decide

/-- R263: the CRC's polynomial and initial value over the usual check string. -/
theorem test_crc16 : crc16 [0x31, 0x32, 0x33, 0x34, 0x35, 0x36, 0x37, 0x38, 0x39] = 0x29B1 := by decide +kernel

/-- FIPS 197, appendix C.1: the cipher that R323 and R456 name. -/
theorem test_aes : Crypto.aes ((List.range 16).map (BitVec.ofNat 8)) ((List.range 16).map (fun i => BitVec.ofNat 8 (17 * i))) =
    [0x69, 0xC4, 0xE0, 0xD8, 0x6A, 0x7B, 0x04, 0x30, 0xD8, 0xCD, 0xB7, 0x80, 0x70, 0xB4, 0xC5, 0x5A] := by decide +kernel

end Sys2Proof.Tests
end

/-! PROOF. A lane state is stored and reported as its code with the complement above it (R18). -/

namespace Sys2Proof.Machine

theorem LaneState.code_lt (k : LaneState) : k.code < 256 := by cases k <;> decide

@[simp] theorem LaneState.ofCode_code (k : LaneState) : LaneState.ofCode k.code = some k := by cases k <;> rfl

theorem coded_toNat {c : Nat} (h : c < 256) : (coded c).toNat = c + 256 * (255 - c) := by
  rw [coded, BitVec.toNat_ofNat, Nat.mod_eq_of_lt h]
  omega

/-- A coded value passes its own complement check (R10). -/
theorem codeOf_coded {c : Nat} (h : c < 256) : codeOf (coded c) = some c := by
  have low : (coded c).toNat % 256 = c := by rw [coded_toNat h]; omega
  rw [codeOf, low, if_pos rfl]

theorem LaneState.stored_toNat (k : LaneState) : k.stored.toNat = k.code + 256 * (255 - k.code) :=
  coded_toNat k.code_lt

@[simp] theorem laneStateOf_stored (k : LaneState) : laneStateOf k.stored = some k := by
  rw [laneStateOf, LaneState.stored, codeOf_coded k.code_lt, Option.bind_some, LaneState.ofCode_code]

/-- Of the lane table, telemetry and trigger leave what the change of the lane's record made of it; so this holds of any
state, its tables in canonical form or not. -/
theorem transition_lane_state (s : State) (n : Nat) (k : LaneState) : ((s.transition n k).lane n).state = k.stored := by
  unfold State.transition
  dsimp only
  split <;> simp [State.lane, State.onLane, State.setLane]

end Sys2Proof.Machine

namespace Sys2Proof.Proofs

open Sys2Proof Sys2Proof.Machine

/-- Settles O8: a transition stores `LaneState.stored` on its lane, whose halves are the code and its complement, and the
lane state record reads the stored value. -/
theorem laneStateStored : Obligations.LaneStateStored := by
  unfold Obligations.LaneStateStored
  refine ⟨fun s n k => ?_, fun k => ?_, fun u n => rfl, by decide⟩
  · rw [transition_lane_state, k.stored_toNat]
  · have value := k.stored_toNat
    have bound := k.code_lt
    exact ⟨by omega, by omega, laneStateOf_stored k⟩

end Sys2Proof.Proofs

/-! PROOF. What a verdict does to a lane's consecutive-DISAGREE count (R128): commitment applies `disagreeAfter` to it once,
and a verdict that becomes STALE without a solve leaves it. -/

namespace Sys2Proof.Machine

/-- What may not touch the checkpoint part leaves every lane's checkpoint record. -/
theorem Within.ck_eq {l : List Part} {s t : State} (h : Within l s t) (unlisted : l.contains .checkpoint = false) (n : Nat) :
    t.ck n = s.ck n := by
  rw [State.ck, State.ck, show t.checkpoint = s.checkpoint from h .checkpoint unlisted]

@[simp] theorem onCk_ck_same (s : State) (n : Nat) (f : CkLane → CkLane) : (s.onCk n f).ck n = f (s.ck n) :=
  tget_tmod_same _ _ _ _

@[simp] theorem onLane_ck (s : State) (n m : Nat) (f : Lane → Lane) : (s.onLane n f).ck m = s.ck m := rfl

@[simp] theorem standAt_ck (s : State) (n m : Nat) (p : Pose) : (s.standAt n p).ck m = s.ck m :=
  State.standAt_within.ck_eq rfl m

@[simp] theorem acceptPlan_ck (s : State) (n m : Nat) (what : PlanWhat) (req : Option Req) :
    (s.acceptPlan n what req).ck m = s.ck m :=
  State.acceptPlan_within.ck_eq rfl m

@[simp] theorem reportVerdict_ck (s : State) (n m before : Nat) : (s.reportVerdict n before).ck m = s.ck m :=
  State.reportVerdict_within.ck_eq rfl m

/-- The policy reads the count and writes the refusals of route commands only (R132, R133). -/
@[simp] theorem policy_disagree (s : State) (n verdict : Nat) : ((s.policy n verdict).ck n).disagree = (s.ck n).disagree := by
  unfold State.policy
  dsimp only
  split
  · simp only [onCk_ck_same]
  · split
    · split
      · simp only [acceptPlan_ck, onCk_ck_same]
      · simp only [onCk_ck_same]
    · rfl

/-- Of all that a commitment does, the record `CkLane.after` leaves is what decides the count. -/
theorem commitVerdict_disagree (s : State) (v : CkVerdict) :
    ((s.commitVerdict v).ck v.request.lane).disagree = disagreeAfter (s.ck v.request.lane).disagree v.verdict := by
  have recorded : ((s.onCk v.request.lane (fun c => c.after v)).ck v.request.lane).disagree =
      disagreeAfter (s.ck v.request.lane).disagree v.verdict := by rw [onCk_ck_same, CkLane.after]
  unfold State.commitVerdict
  dsimp only
  rw [policy_disagree, reportVerdict_ck, ← recorded]
  split
  · split
    · rw [standAt_ck, onLane_ck]
    · rw [onLane_ck]
  · split
    · rw [standAt_ck]
    · rfl

/-- The mark of a verdict that the mirror carries (R136) is no part of the lane's record. -/
theorem stale_disagree (s : State) (n reason : Nat) : ((s.stale n reason).ck n).disagree = (s.ck n).disagree := by
  have reported : (((s.onCk n (fun c => { c with verdict := 3, reason := reason })).reportVerdict n (s.ck n).verdict).ck n).disagree =
      (s.ck n).disagree := by rw [reportVerdict_ck, onCk_ck_same]
  unfold State.stale
  dsimp only
  split
  · exact reported
  · exact reported

end Sys2Proof.Machine

namespace Sys2Proof.Proofs

open Sys2Proof Sys2Proof.Machine

/-- Settles O9: of commitment and staleness, commitment alone changes the count, as `disagreeAfter` says; and the results of
the lane show it. -/
theorem disagreeCounted : Obligations.DisagreeCounted := by
  unfold Obligations.DisagreeCounted
  exact ⟨commitVerdict_disagree, stale_disagree, fun _ _ => rfl⟩

end Sys2Proof.Proofs

/-! PROOF. Ways out of recovery (R505, R576, log entry 36) and the start that follows (R486, R487, R593). -/

namespace Sys2Proof.Machine

/-- The power state belongs to the supply part: what may not touch the supply leaves the unit in its power state. -/
theorem Within.phase_eq {l : List Part} {s t : State} (h : Within l s t) (unlisted : l.contains .supply = false) :
    t.power.phase = s.power.phase :=
  (show Power.sameSupply s.power t.power from h .supply unlisted).1

/-! ### Reset -/

@[simp] theorem restart_phase (cause : Nat) (s : State) : (s.restart cause).power.phase = .inReset := rfl

@[simp] theorem restart_cause (cause : Nat) (s : State) : (s.restart cause).power.cause = cause := rfl

@[simp] theorem restart_failedBoots (cause : Nat) (s : State) : (s.restart cause).update.failedBoots = s.update.failedBoots := rfl

@[simp] theorem restartFree_phase (s : State) : s.restartFree.power.phase = .inReset := rfl

@[simp] theorem restartFree_failedBoots (s : State) : s.restartFree.update.failedBoots = s.update.failedBoots := rfl

/-- The release of the reset samples the straps and starts the ROM on the update record as it stands (R593, R594). -/
theorem exec_resetRelease_inReset {s : State} (inReset : s.power.phase = .inReset) (recoverHigh refSel svcAlt : Bool) :
    ∃ t, exec (.resetRelease recoverHigh refSel svcAlt) s = .next t ∧ t.power.phase = .rom ∧ t.power.recover = !recoverHigh ∧
      t.update.failedBoots = s.update.failedBoots ∧ t.foreignArea = s.foreignArea :=
  ⟨_, congrArg Host.Outcome.next (if_pos inReset), rfl, rfl, rfl, rfl⟩

/-- A rail out of tolerance in recovery is power removed: the unit restarts with cause 0, and is off (R576, log entry 36). -/
theorem exec_railOutOfTolerance_inRecovery {s : State} (recovery : s.power.phase = .recovery) {rail : Nat} (inside : rail < 7) :
    exec (.railOutOfTolerance rail) s =
      .next { s.begin.restart 0 with power := { (s.begin.restart 0).power with phase := .off } } :=
  congrArg Host.Outcome.next (if_neg (by simp [recovery, inside]))

/-! ### Start -/

@[simp] theorem setAreas_failedBoots (u : Update) (a b : Area) : (u.setAreas a b).failedBoots = u.failedBoots := by
  rw [Update.setAreas]
  split <;> rfl

/-- A revert changes the areas only where the other one is pinned (R489, R496); either way the count of failed starts stays. -/
@[simp] theorem revert_failedBoots (cause : Nat) (s : State) : (s.revert cause).update.failedBoots = s.update.failedBoots := by
  unfold State.revert
  dsimp only
  split
  · exact setAreas_failedBoots ..
  · rfl

/-- A failed start counts once, whether or not it reverts a trial (R487, R489). -/
@[simp] theorem startFailed_failedBoots (cause : Nat) (s : State) :
    (s.startFailed cause).update.failedBoots = s.update.failedBoots + 1 := by
  unfold State.startFailed
  dsimp only
  split
  · exact revert_failedBoots ..
  · rfl

/-- The handover sets the power state first; the settings, keys and events that follow leave the supply alone. -/
@[simp] theorem handOverTo_phase (s : State) : s.handOverTo.power.phase = .running := by
  unfold State.handOverTo
  dsimp only
  rw [State.owedEvents_within.phase_eq rfl, State.loadKeys_within.phase_eq rfl, State.loadSettings_within.phase_eq rfl]

section
variable {s : State} (rom : s.power.phase = .rom)
include rom

/-- RECOVER_N low, or three failed starts: the ROM enters recovery (R486, R501). -/
theorem romBoot_toRecovery (asked : s.power.recover = true ∨ 3 ≤ s.update.failedBoots) (verified migrates : Bool) :
    romBoot verified migrates s = { s with power := { s.power with phase := .recovery } } :=
  (if_neg (not_not_intro rom)).trans (if_pos asked)

/-- An image that fails its verification is a failed start, which counts before the unit resets (R487). -/
theorem romBoot_unverified (notAsked : ¬(s.power.recover = true ∨ 3 ≤ s.update.failedBoots)) (migrates : Bool) :
    romBoot false migrates s = (s.startFailed 2).restartFree :=
  (if_neg (not_not_intro rom)).trans (if_neg notAsked)

/-- A verified image runs at once on an area that its own version wrote: nothing is migrated (R486, R494). -/
theorem romBoot_ownArea (notAsked : ¬(s.power.recover = true ∨ 3 ≤ s.update.failedBoots)) (own : s.foreignArea = false)
    (migrates : Bool) : romBoot true migrates s = s.handOverTo := by
  rw [romBoot, if_neg (not_not_intro rom), if_neg notAsked]
  simp [own]

end

/-! ### Service port -/

/-- A request of the service port that is new and whose CRC holds reaches its body (R498, R499). -/
theorem service_new {s : State} {f : ServiceHead} {command : Nat} {payload : Bytes} (port : s.servicePort = true)
    (holds : frameHolds f command payload) (new : s.update.lastSeq ≠ some f.seq) (body : State → State) :
    s.begin.service f command payload body = body (s.asked f.seq) := by
  have passes : ¬((!s.begin.servicePort) = true ∨ f.crc.toNat ≠ serviceCrc command f.seq payload) := by
    simp [show s.begin.servicePort = true from port, show f.crc.toNat = _ from holds]
  rw [State.service, if_neg passes, if_neg (by rwa [State.begin_update])]
  rfl

/-- Leave recovery with the word 0xA55A replies, clears the count of failed starts and resets with cause 4 (R505). -/
theorem exec_leaveRecovery_inRecovery {s : State} {f : ServiceHead} (recovery : s.power.phase = .recovery)
    (plugged : s.panel.plug = true) (new : s.update.lastSeq ≠ some f.seq) (holds : frameHolds f 0x21 (le 2 (0xA55A : Nat))) :
    ∃ r : State, r.update.failedBoots = 0 ∧ exec (.leaveRecovery f 0xA55A) s = .next (r.restart 4) := by
  have port : s.servicePort = true := by simp [State.servicePort, plugged, recovery]
  have still : (s.asked f.seq).power.phase = .recovery := recovery
  have served : exec (.leaveRecovery f 0xA55A) s = .next (leaveRecovery f 0xA55A s.begin) :=
    congrArg Host.Outcome.next (if_pos (.inr recovery))
  rw [served, leaveRecovery, service_new port holds new, if_neg (not_not_intro still), if_neg (not_not_intro rfl)]
  exact ⟨_, rfl, rfl⟩

end Sys2Proof.Machine

namespace Sys2Proof.Proofs

open Sys2Proof Sys2Proof.Machine

/-- Settles O10: the request and the lost rail come down to a reset, which keeps the update record; the start reads the
strap sampled at the release of the reset, and the count of failed starts that the record holds. -/
theorem recoveryLeft : Obligations.RecoveryLeft := by
  unfold Obligations.RecoveryLeft
  refine ⟨fun s f recovery plugged new holds => ?leave, fun s ref alt verified migrates inReset => ?low,
    fun s rail recovery inside => ?rail, fun s ref alt verified migrates inReset => ?high⟩
  case leave =>
    obtain ⟨r, cleared, left⟩ := exec_leaveRecovery_inRecovery recovery plugged new holds
    exact ⟨_, left, (restart_failedBoots 4 r).trans cleared, restart_phase 4 r, restart_cause 4 r⟩
  case low =>
    obtain ⟨t, released, rom, strap, -, -⟩ := exec_resetRelease_inReset inReset false ref alt
    refine ⟨t, released, romBoot verified migrates t.begin, rfl, ?_⟩
    rw [romBoot_toRecovery (s := t.begin) rom (.inl strap)]
  case rail =>
    exact ⟨_, exec_railOutOfTolerance_inRecovery recovery inside, rfl, rfl, rfl, rfl, rfl, rfl, rfl, rfl, rfl, rfl, rfl, rfl⟩
  case high =>
    obtain ⟨t, released, rom, strap, boots, area⟩ := exec_resetRelease_inReset inReset true ref alt
    have notAsked (few : s.update.failedBoots < 3) : ¬(t.power.recover = true ∨ 3 ≤ t.update.failedBoots) := by
      simp [strap, boots, few]
    refine ⟨t, released, romBoot verified migrates t.begin, rfl, fun many => ?_, fun few unverified => ?_,
      fun few isVerified own => ?_⟩
    · rw [romBoot_toRecovery (s := t.begin) rom (.inr (boots ▸ many))]
    · rw [unverified, romBoot_unverified (s := t.begin) rom (notAsked few), restartFree_failedBoots, startFailed_failedBoots]
      exact ⟨restartFree_phase _, congrArg (· + 1) boots⟩
    · rw [isVerified, romBoot_ownArea (s := t.begin) rom (notAsked few) (area.trans own), handOverTo_phase]

end Sys2Proof.Proofs

/-! PROOF. What every command leaves alone: the frame of `exec`, from the frame of each command, and what a step keeps. -/

namespace Sys2Proof.Machine

theorem Within.post_mono {k l : List Part} {s : State} {o : Host.Outcome State Fault Refusal} (h : Within.post k s o)
    (hk : k.all l.contains = true) : Within.post l s o :=
  Within.post_after (Within.refl l s) h hk

/-- The frame of a command: what `touches` lists for it covers what the law of its meaning lists. -/
theorem exec_within (c : Instr) (s : State) : Within.post (touches c) s (exec c s) :=
  match c with
  | .tickBoundary _ => Within.post_mono execTickBoundary_within rfl
  | .sliceBoundary _ => Within.post_mono execSliceBoundary_within rfl
  | .admissionTimeout _ => Within.post_mono execAdmissionTimeout_within rfl
  | .releaseTimeout _ => Within.post_mono execReleaseTimeout_within rfl
  | .handoverConfirmationTimeout _ => Within.post_mono execHandoverConfirmationTimeout_within rfl
  | .permitWaitExpire _ => Within.post_mono execPermitWaitExpire_within rfl
  | .guestPlanExpire _ => Within.post_mono execGuestPlanExpire_within rfl
  | .profileCutoff => Within.post_mono execProfileCutoff_within rfl
  | .ledgerCutoff => Within.post_mono execLedgerCutoff_within rfl
  | .planProfiled _ _ => Within.post_mono execPlanProfiled_within rfl
  | .planChecked _ => Within.post_mono execPlanChecked_within rfl
  | .mirrorDeltaStart => Within.post_mono execMirrorDeltaStart_within rfl
  | .pairAckReceive _ _ _ checked => Within.post_mono (execPairAckReceive_within (checked := checked)) rfl
  | .routeSubmit _ _ _ => Within.post_mono execRouteSubmit_within rfl
  | .hold _ _ => Within.post_mono execHold_within rfl
  | .resumeRoute _ _ => Within.post_mono execResumeRoute_within rfl
  | .cancelRoute _ _ => Within.post_mono execCancelRoute_within rfl
  | .limitChange _ _ _ _ => Within.post_mono execLimitChange_within rfl
  | .approveAdmission _ _ => Within.post_mono execApproveAdmission_within rfl
  | .refuseAdmission _ _ => Within.post_mono execRefuseAdmission_within rfl
  | .resumeStoppedLane _ _ => Within.post_mono execResumeStoppedLane_within rfl
  | .release _ _ => Within.post_mono execRelease_within rfl
  | .evict _ _ => Within.post_mono execEvict_within rfl
  | .closureChange _ _ _ => Within.post_mono execClosureChange_within rfl
  | .haltAssert _ _ => Within.post_mono execHaltAssert_within rfl
  | .haltRestore _ _ => Within.post_mono execHaltRestore_within rfl
  | .haltResume _ _ => Within.post_mono execHaltResume_within rfl
  | .haltRepetition _ _ => Within.post_mono execHaltRepetition_within rfl
  | .contactTestPulse _ _ => Within.post_mono execContactTestPulse_within rfl
  | .siteHaltSample _ _ => Within.post_mono execSiteHaltSample_within rfl
  | .siteLineReadback _ => Within.post_mono execSiteLineReadback_within rfl
  | .siteLineStuck => Within.post_mono execSiteLineStuck_within rfl
  | .siteLine _ _ => Within.post_mono execSiteLine_within rfl
  | .siteLinePeriodic => Within.post_mono execSiteLinePeriodic_within rfl
  | .siteLineDriverTimeout _ => Within.post_mono execSiteLineDriverTimeout_within rfl
  | .localResumePress _ _ => Within.post_mono execLocalResumePress_within rfl
  | .twoPartyWindowExpire => Within.post_mono execTwoPartyWindowExpire_within rfl
  | .lockstepMismatch => Within.post_mono execLockstepMismatch_within rfl
  | .ccaObservationDone _ _ => Within.post_mono execCcaObservationDone_within rfl
  | .vergeStageBeacon => Within.post_mono execVergeStageBeacon_within rfl
  | .uplinkFrameReceive _ _ _ => Within.post_mono execUplinkFrameReceive_within rfl
  | .downlinkRetransmit _ _ => Within.post_mono execDownlinkRetransmit_within rfl
  | .ownPairBeaconReceive _ _ => Within.post_mono execOwnPairBeaconReceive_within rfl
  | .checkpointSolveStart _ _ => Within.post_mono execCheckpointSolveStart_within rfl
  | .checkpointSolveDone _ _ _ => Within.post_mono execCheckpointSolveDone_within rfl
  | .checkpointSolveLate _ => Within.post_mono execCheckpointSolveLate_within rfl
  | .verdictStaleTimeout _ => Within.post_mono execVerdictStaleTimeout_within rfl
  | .trackerIntegrationBoundary _ _ _ _ => Within.post_mono execTrackerIntegrationBoundary_within rfl
  | .trackerLoopUpdate _ _ _ => Within.post_mono execTrackerLoopUpdate_within rfl
  | .reacquisitionGiveUp _ _ => Within.post_mono execReacquisitionGiveUp_within rfl
  | .l5HandoverTimeout _ => Within.post_mono execL5HandoverTimeout_within rfl
  | .acquisitionSearchStart => Within.post_mono execAcquisitionSearchStart_within rfl
  | .acquisitionSearchDone _ => Within.post_mono execAcquisitionSearchDone_within rfl
  | .observablesReady _ => Within.post_mono execObservablesReady_within rfl
  | .observablesLate => Within.post_mono execObservablesLate_within rfl
  | .surveyCommandStart _ => Within.post_mono execSurveyCommandStart_within rfl
  | .surveyCommandAbort _ => Within.post_mono execSurveyCommandAbort_within rfl
  | .ptpMessageReceive _ _ => Within.post_mono execPtpMessageReceive_within rfl
  | .returnToTb1 _ _ => Within.post_mono execReturnToTb1_within rfl
  | .ppsOutEdge _ => Within.post_mono execPpsOutEdge_within rfl
  | .ppsInEdge _ => Within.post_mono execPpsInEdge_within rfl
  | .ppsOutEnable _ _ => Within.post_mono execPpsOutEnable_within rfl
  | .ref10mLost _ => Within.post_mono execRef10mLost_within rfl
  | .ref10mLocked => Within.post_mono execRef10mLocked_within rfl
  | .heartbeat _ _ _ _ _ => Within.post_mono execHeartbeat_within rfl
  | .pairPulseEdge _ _ => Within.post_mono execPairPulseEdge_within rfl
  | .takeover => Within.post_mono execTakeover_within rfl
  | .pairStartupTimeout => Within.post_mono execPairStartupTimeout_within rfl
  | .linkStart => Within.post_mono execLinkStart_within rfl
  | .start _ _ _ _ _ => Within.post_mono execStart_within rfl
  | .input _ _ _ _ => Within.post_mono execInput_within rfl
  | .delta _ _ _ _ => Within.post_mono execDelta_within rfl
  | .halt _ _ _ _ _ _ _ _ => Within.post_mono execHalt_within rfl
  | .transfer _ _ _ _ => Within.post_mono execTransfer_within rfl
  | .planned _ _ => Within.post_mono execPlanned_within rfl
  | .plannedHandover _ _ => Within.post_mono execPlannedHandover_within rfl
  | .region _ _ _ _ => Within.post_mono execRegion_within rfl
  | .permitRequest _ _ _ _ _ _ _ => Within.post_mono execPermitRequest_within rfl
  | .grant _ _ _ _ _ => Within.post_mono execGrant_within rfl
  | .refusal _ _ _ => Within.post_mono execRefusal_within rfl
  | .commitNotice _ _ _ _ _ _ => Within.post_mono execCommitNotice_within rfl
  | .withdrawal _ _ => Within.post_mono execWithdrawal_within rfl
  | .handover _ _ _ => Within.post_mono execHandover_within rfl
  | .confirm _ _ _ => Within.post_mono execConfirm_within rfl
  | .released _ _ => Within.post_mono execReleased_within rfl
  | .addressClaimStart => Within.post_mono execAddressClaimStart_within rfl
  | .query _ => Within.post_mono execQuery_within rfl
  | .announce _ _ _ _ _ _ => Within.post_mono execAnnounce_within rfl
  | .addressClaimTimeout => Within.post_mono execAddressClaimTimeout_within rfl
  | .addressClaimConfirm => Within.post_mono execAddressClaimConfirm_within rfl
  | .addressClaimRetry => Within.post_mono execAddressClaimRetry_within rfl
  | .addressCommand _ _ => Within.post_mono execAddressCommand_within rfl
  | .pendingKeyWrite _ _ _ _ _ => Within.post_mono execPendingKeyWrite_within rfl
  | .keyVerify _ => Within.post_mono execKeyVerify_within rfl
  | .keyAnnounce _ => Within.post_mono execKeyAnnounce_within rfl
  | .keyDiscard _ => Within.post_mono execKeyDiscard_within rfl
  | .rolloverWindowEnd => Within.post_mono execRolloverWindowEnd_within rfl
  | .debugCertificateOpen _ _ _ _ _ => Within.post_mono execDebugCertificateOpen_within rfl
  | .debugCertificateClose _ _ _ _ _ => Within.post_mono execDebugCertificateClose_within rfl
  | .tamperDetected => Within.post_mono execTamperDetected_within rfl
  | .vbatLost => Within.post_mono execVbatLost_within rfl
  | .vbatRestored _ => Within.post_mono execVbatRestored_within rfl
  | .imageChunk _ _ => Within.post_mono execImageChunk_within rfl
  | .downloadVerified _ => Within.post_mono execDownloadVerified_within rfl
  | .downloadExpire => Within.post_mono execDownloadExpire_within rfl
  | .activate _ => Within.post_mono execActivate_within rfl
  | .confirmTrial _ => Within.post_mono execConfirmTrial_within rfl
  | .discardDownload _ => Within.post_mono execDiscardDownload_within rfl
  | .trialLimitExpire => Within.post_mono execTrialLimitExpire_within rfl
  | .startTimerExpire => Within.post_mono execStartTimerExpire_within rfl
  | .watchdogReset => Within.post_mono execWatchdogReset_within rfl
  | .romBoot _ _ => Within.post_mono execRomBoot_within rfl
  | .resetRelease _ _ _ => Within.post_mono execResetRelease_within rfl
  | .rstNAssert _ => Within.post_mono execRstNAssert_within rfl
  | .resetCommand _ _ => Within.post_mono execResetCommand_within rfl
  | .identify _ => Within.post_mono execIdentify_within rfl
  | .imageBegin _ _ => Within.post_mono execImageBegin_within rfl
  | .imageBlock _ _ _ _ => Within.post_mono execImageBlock_within rfl
  | .imageEnd _ _ => Within.post_mono execImageEnd_within rfl
  | .status _ => Within.post_mono execStatus_within rfl
  | .serviceReset _ _ => Within.post_mono execServiceReset_within rfl
  | .leaveRecovery _ _ => Within.post_mono execLeaveRecovery_within rfl
  | .dictionaryRequest _ _ _ _ _ _ => Within.post_mono execDictionaryRequest_within rfl
  | .serviceFrameGap => Within.post_mono execServiceFrameGap_within rfl
  | .servicePlugChange _ _ => Within.post_mono execServicePlugChange_within rfl
  | .tftpWriteRequest _ _ => Within.post_mono execTftpWriteRequest_within rfl
  | .tftpDataBlock _ _ _ _ => Within.post_mono execTftpDataBlock_within rfl
  | .dictionaryWrite _ _ => Within.post_mono execDictionaryWrite_within rfl
  | .batch _ _ => Within.post_mono execBatch_within rfl
  | .domainDownloadSegment _ _ _ _ _ _ _ _ => Within.post_mono execDomainDownloadSegment_within rfl
  | .domainUploadSegment _ _ _ _ => Within.post_mono execDomainUploadSegment_within rfl
  | .transferSegmentTimeout _ _ => Within.post_mono execTransferSegmentTimeout_within rfl
  | .hello _ _ _ _ _ => Within.post_mono execHello_within rfl
  | .clientProof _ _ => Within.post_mono execClientProof_within rfl
  | .sessionEstablishTimeout _ => Within.post_mono execSessionEstablishTimeout_within rfl
  | .sessionIdleTimeout _ => Within.post_mono execSessionIdleTimeout_within rfl
  | .streamPull _ _ _ => Within.post_mono execStreamPull_within rfl
  | .streamClaim _ _ => Within.post_mono execStreamClaim_within rfl
  | .streamRelease _ _ => Within.post_mono execStreamRelease_within rfl
  | .streamKey _ _ => Within.post_mono execStreamKey_within rfl
  | .keepalive _ => Within.post_mono execKeepalive_within rfl
  | .close _ => Within.post_mono execClose_within rfl
  | .streamMulticastEnable _ _ _ => Within.post_mono execStreamMulticastEnable_within rfl
  | .canReaderTimeout _ => Within.post_mono execCanReaderTimeout_within rfl
  | .canHeartbeatProduce => Within.post_mono execCanHeartbeatProduce_within rfl
  | .acknowledgeEvents _ _ => Within.post_mono execAcknowledgeEvents_within rfl
  | .clearErrorList _ _ => Within.post_mono execClearErrorList_within rfl
  | .snapshotNow _ => Within.post_mono execSnapshotNow_within rfl
  | .snapshotAtNextBoundary _ => Within.post_mono execSnapshotAtNextBoundary_within rfl
  | .snapshotAtTime _ => Within.post_mono execSnapshotAtTime_within rfl
  | .snapshotInstant _ _ => Within.post_mono execSnapshotInstant_within rfl
  | .snapshot _ _ _ => Within.post_mono execSnapshot_within rfl
  | .counterConfigure _ _ _ _ => Within.post_mono execCounterConfigure_within rfl
  | .taskWakeOnFlags _ _ => Within.post_mono execTaskWakeOnFlags_within rfl
  | .taskDelayExpiry _ => Within.post_mono execTaskDelayExpiry_within rfl
  | .taskDeadlineDrop _ _ => Within.post_mono execTaskDeadlineDrop_within rfl
  | .taskYield _ _ _ _ => Within.post_mono execTaskYield_within rfl
  | .captureUnitEnable _ _ _ => Within.post_mono execCaptureUnitEnable_within rfl
  | .forceTrigger _ _ => Within.post_mono execForceTrigger_within rfl
  | .autoTriggerTimeout _ => Within.post_mono execAutoTriggerTimeout_within rfl
  | .captureComplete _ => Within.post_mono execCaptureComplete_within rfl
  | .captureDrained _ => Within.post_mono execCaptureDrained_within rfl
  | .triggerOutputEnable _ _ => Within.post_mono execTriggerOutputEnable_within rfl
  | .lampReturn _ _ _ _ => Within.post_mono execLampReturn_within rfl
  | .channelHealthTimeout _ => Within.post_mono execChannelHealthTimeout_within rfl
  | .touchScan _ => Within.post_mono execTouchScan_within rfl
  | .lampTestEnd => Within.post_mono execLampTestEnd_within rfl
  | .keysWetEnd => Within.post_mono execKeysWetEnd_within rfl
  | .keyStuck _ => Within.post_mono execKeyStuck_within rfl
  | .wakeRisingEdge => Within.post_mono execWakeRisingEdge_within rfl
  | .feedQualifyRunEnd _ _ _ => Within.post_mono execFeedQualifyRunEnd_within rfl
  | .feedTest _ _ => Within.post_mono execFeedTest_within rfl
  | .feedTestDue => Within.post_mono execFeedTestDue_within rfl
  | .feedTestRunEnd _ _ _ => Within.post_mono execFeedTestRunEnd_within rfl
  | .feedComparatorRelease _ => Within.post_mono execFeedComparatorRelease_within rfl
  | .powerCommandRun _ => Within.post_mono execPowerCommandRun_within rfl
  | .powerCommandQuiet _ => Within.post_mono execPowerCommandQuiet_within rfl
  | .powerCommandStandby _ => Within.post_mono execPowerCommandStandby_within rfl
  | .standbyContactStrobe _ _ => Within.post_mono execStandbyContactStrobe_within rfl
  | .standbyWake _ => Within.post_mono execStandbyWake_within rfl
  | .powerOn => Within.post_mono execPowerOn_within rfl
  | .vbatLow _ _ => Within.post_mono execVbatLow_within rfl
  | .temperatureHigh _ _ => Within.post_mono execTemperatureHigh_within rfl
  | .railOutOfTolerance _ => Within.post_mono execRailOutOfTolerance_within rfl
  | .vergeTransmissionEnd _ => Within.post_mono execVergeTransmissionEnd_within rfl
  | .ptpMessageInterval _ _ => Within.post_mono execPtpMessageInterval_within rfl
  | .announceReceiptTimeout _ => Within.post_mono execAnnounceReceiptTimeout_within rfl
  | .nmtCommand _ => Within.post_mono execNmtCommand_within rfl
  | .debugTapInstruction _ => Within.post_mono execDebugTapInstruction_within rfl

/-- A command that ends in a next state changes the parts that `touches` names for it, and no others. -/
theorem within_touches {c : Instr} {s t : State} (h : exec c s = .next t) : Within (touches c) s t := by
  have hw := exec_within c s
  rwa [h] at hw

theorem touches_not_pending (c : Instr) : (touches c).contains .pending = false := by cases c <;> rfl

theorem touches_not_tables (c : Instr) : (touches c).contains .tables = false := by cases c <;> rfl

theorem exec_pending {c : Instr} {s t : State} (h : exec c s = .next t) : t.pending = s.pending :=
  within_touches h .pending (touches_not_pending c)

theorem step_of_nil {s : State} (h : s.pending = []) : step s = .next s := by
  unfold step
  rw [h]

theorem step_of_cons {s : State} {c : Instr} {rest : List Instr} (h : s.pending = c :: rest) :
    step s = exec c { s with pending := rest } := by
  unfold step
  rw [h]

/-- What every command keeps, and what the queue does not bear on, every step keeps. -/
theorem step_invariant {P : State → Prop} (queue : ∀ (s : State) (rest : List Instr), P s → P { s with pending := rest })
    (keeps : ∀ (c : Instr) (s t : State), P s → exec c s = .next t → P t) {s t : State} (hs : P s) (h : step s = .next t) : P t := by
  cases hq : s.pending with
  | nil =>
    rw [step_of_nil hq] at h
    exact Host.Outcome.next.inj h ▸ hs
  | cons c rest =>
    rw [step_of_cons hq] at h
    exact keeps c _ t (queue s rest hs) h

end Sys2Proof.Machine

namespace Sys2Proof.Proofs

open Sys2Proof Sys2Proof.Machine

/-- Settles O3: each command keeps to its list, and no list names the queue. -/
theorem frameOfEveryCommand : Obligations.FrameOfEveryCommand :=
  fun _ _ _ h => ⟨within_touches h, exec_pending h⟩

/-- Settles O5: no command's list names the form of the tables, and the queue does not bear on it. -/
theorem tablesStayCanonical : Obligations.TablesStayCanonical :=
  fun _ _ => step_invariant (fun _ _ hs => hs) fun c _ _ hs h => tablesWf_of_within hs (within_touches h) (touches_not_tables c)

/-- Settles O1: by cases on the queue; that a command leaves the queue alone is its frame. -/
theorem stepTakesTheFront : Obligations.StepTakesTheFront := by
  refine ⟨fun _ _ _ => step_of_cons, fun _ => step_of_nil, fun s t h => ?_, fun _ _ _ => ⟨rfl, rfl⟩⟩
  cases hq : s.pending with
  | nil =>
    rw [step_of_nil hq] at h
    rw [← Host.Outcome.next.inj h, hq, List.tail_nil]
  | cons c rest =>
    rw [step_of_cons hq] at h
    exact exec_pending h

end Sys2Proof.Proofs

/-! PROOF. The commands that may reset the part: each lets it go on as it is supplied, or breaks it off into reset, Off or Standby.
The legality of the power state and the end of silence follow from that. -/

namespace Sys2Proof.Machine

/-- The commands that may reset the part, and the start that follows a reset. -/
def Instr.mayReset : Instr → Bool
  | .tickBoundary _ => true
  | .downloadVerified _ => true
  | .trialLimitExpire => true
  | .startTimerExpire => true
  | .watchdogReset => true
  | .romBoot _ _ => true
  | .rstNAssert _ => true
  | .serviceReset _ _ => true
  | .leaveRecovery _ _ => true
  | .tftpDataBlock _ _ _ _ => true
  | .railOutOfTolerance _ => true
  | _ => false

/-- The commands that change how the part is supplied without a reset of a powered part. -/
def Instr.resupplies : Instr → Bool
  | .resetRelease _ _ _ => true
  | .vbatLost => true
  | .standbyContactStrobe _ _ => true
  | .standbyWake _ => true
  | .powerOn => true
  | _ => false

theorem touches_silence (c : Instr) : (touches c).contains .silence = Instr.mayReset c := by cases c <;> rfl

theorem touches_readiness (c : Instr) : (touches c).contains .readiness = Instr.mayReset c := by cases c <;> rfl

theorem touches_supply (c : Instr) : (touches c).contains .supply = (Instr.mayReset c || Instr.resupplies c) := by cases c <;> rfl

/-- From `s` to `t` the part goes on: it stays in its power state, or the ROM hands over, and a silent unit stays silent. -/
structure State.GoesOn (s t : State) : Prop where
  pwrEn : t.power.pwrEn = s.power.pwrEn
  flag : t.power.standbyFlag = s.power.standbyFlag
  phase : t.power.phase = s.power.phase ∨ s.power.phase = .rom ∧ t.power.phase ≠ .standby
  readiness : t.power.phase = .running ∨ s.power.phase ≠ .running ∧ Power.sameReadiness s.power t.power
  silence : s.halt.silent = true → t.halt.silent = true

/-- From `s` to `t` a part that was not in Standby breaks off, into reset, Off or Standby. -/
structure State.BreaksOff (s t : State) : Prop where
  awake : s.power.phase ≠ .standby
  down : t.power.phase = .inReset ∨ t.power.phase = .off ∨ t.power.phase = .standby
  legal : s.power.standbyFlag = false → t.powerLegal

theorem Within.goesOn {l : List Part} {s t : State} (h : Within l s t) (supply : l.contains .supply = false)
    (silence : l.contains .silence = false) (readiness : s.power.phase = .running ∨ l.contains .readiness = false) : s.GoesOn t := by
  obtain ⟨phase, pwrEn, flag⟩ := show Power.sameSupply s.power t.power from h .supply supply
  refine ⟨pwrEn, flag, .inl phase, ?_, h .silence silence⟩
  by_cases running : s.power.phase = .running
  · exact .inl (phase.trans running)
  · exact .inr ⟨running, h .readiness (readiness.resolve_left running)⟩

theorem State.GoesOn.refl (s : State) : s.GoesOn s := (Within.refl [] s).goesOn rfl rfl (.inr rfl)

/-- A reset, after changes that leave the supply alone, breaks off a part that is not in Standby. -/
theorem Within.breaksOff_restart {l : List Part} {s r : State} (h : Within l s r) (supply : l.contains .supply = false)
    (awake : s.power.phase ≠ .standby) (cause : Nat) : s.BreaksOff (r.restart cause) := by
  obtain ⟨-, -, flag⟩ := show Power.sameSupply s.power r.power from h .supply supply
  refine ⟨awake, .inl rfl, fun low => ?_⟩
  have low : (r.restart cause).power.standbyFlag = false := flag.trans low
  exact ⟨by simp [State.restart, Units.persisted], by simp [low], fun _ => ⟨rfl, rfl⟩⟩

theorem Within.breaksOff_restartFree {l : List Part} {s r : State} (h : Within l s r) (supply : l.contains .supply = false)
    (awake : s.power.phase ≠ .standby) : s.BreaksOff r.restartFree :=
  (h.trans (State.draw_within.mono rfl)).breaksOff_restart supply awake _

theorem enterStandby_breaksOff {s : State} (awake : s.power.phase ≠ .standby) : s.BreaksOff s.enterStandby :=
  ⟨awake, .inr (.inr rfl), fun _ => ⟨iff_of_true rfl rfl, iff_of_true rfl rfl, fun _ => ⟨rfl, rfl⟩⟩⟩

/-! ### Each command that may reset the part -/

/-- From `s` to `t` the part goes on, or it breaks off. -/
def State.Outlives (s t : State) : Prop := s.GoesOn t ∨ s.BreaksOff t

/-- What a powered part may change while it goes on. -/
def Part.goingOn : List Part := Part.others.filter fun p => p ≠ .supply ∧ p ≠ .silence

theorem running_awake {s : State} (running : s.power.phase = .running) : s.power.phase ≠ .standby := by simp [running]

theorem Within.outlives {l : List Part} {s t : State} (h : Within l s t) (supply : l.contains .supply = false)
    (silence : l.contains .silence = false) (readiness : l.contains .readiness = false) : s.Outlives t :=
  .inl (h.goesOn supply silence (.inr readiness))

/-- An activation resets the part once the plans in flight have failed and the update record is written (R484). -/
theorem activationReset_breaksOff {s : State} (awake : s.power.phase ≠ .standby) : s.BreaksOff s.activationReset := by
  unfold State.activationReset
  dsimp only
  refine Within.breaksOff_restart (Within.trans (l := Part.goingOn) ?_
    (within_update rfl)) rfl awake 2
  refine Within.foldl (fun _ _ => ?_) (within_ledger rfl)
  split
  · exact Within.refl _ _
  · exact State.failPlan_within.mono rfl

theorem powerBoundary_breaksOff {s t : State} (awake : s.power.phase ≠ .standby) (due : s.powerBoundary = some t) : s.BreaksOff t := by
  unfold State.powerBoundary at due
  split at due
  · cases due
    split
    · exact (Within.refl [] s).breaksOff_restartFree rfl awake
    · exact (Within.refl [] s).breaksOff_restart rfl awake 2
  · split at due
    · cases due
      exact enterStandby_breaksOff awake
    · cases due

theorem runningTick_outlives (e : TickEnv) {s : State} (running : s.power.phase = .running) : s.Outlives (s.runningTick e) := by
  have awake := running_awake running
  unfold State.runningTick
  split
  · exact .inr (activationReset_breaksOff awake)
  · cases due : s.powerBoundary with
    | none =>
      have opens : Within Part.goingOn s (s.tickOpens e) := State.tickOpens_within.mono rfl
      have changes := opens.after State.applyChanges_within rfl
      exact .inl ((changes.after State.tickCloses_within rfl).goesOn rfl rfl (.inl running))
    | some t => exact .inr (powerBoundary_breaksOff awake due)

theorem tickBoundary_outlives (e : TickEnv) (s : State) : s.Outlives (tickBoundary e s) := by
  unfold tickBoundary
  split
  · exact runningTick_outlives e ‹_›
  · exact State.nextTick_within.outlives rfl rfl rfl
  · exact State.nextTick_within.outlives rfl rfl rfl
  · exact .inl (.refl s)

/-- The image recovered is set running on trial, by a reset (R504). -/
theorem recovered_breaksOff {l : List Part} {s r : State} (h : Within l s r) (supply : l.contains .supply = false)
    (update : l.contains .update = true) (awake : s.power.phase ≠ .standby) : s.BreaksOff r.recovered := by
  unfold State.recovered
  exact (h.trans (within_update update)).breaksOff_restart supply awake 4

/-- A verification in recovery that ends well is followed by the reset of R504; any other leaves the part going on. -/
theorem recoveredIf_outlives {s r : State} {c : Prop} [Decidable c]
    (h : Within [.access, .counters, .trip, .panel, .update] s r) (awake : s.power.phase ≠ .standby) :
    s.Outlives (if c then r.recovered else r) := by
  split
  · exact .inr (recovered_breaksOff h rfl rfl awake)
  · exact h.outlives rfl rfl rfl

theorem downloadVerified_outlives {s : State} (awake : s.power.phase ≠ .standby) : s.Outlives (downloadVerified s) := by
  unfold downloadVerified
  split
  · exact .inl (.refl s)
  · have verified : Within [.access, .counters, .trip, .panel, .update] s { s.verified with update := { s.verified.update with endDue := none } } :=
      (State.verified_within.mono rfl).trans (within_update rfl)
    cases s.update.endDue with
    | none => exact recoveredIf_outlives verified awake
    | some due => exact recoveredIf_outlives (verified.trans State.endReply_within) awake

theorem trialLimitExpire_outlives {s : State} (awake : s.power.phase ≠ .standby) : s.Outlives (trialLimitExpire s) := by
  unfold trialLimitExpire
  split
  · exact .inr (State.revert_within.breaksOff_restart rfl awake 2)
  · exact .inl (.refl s)

theorem startTimerExpire_outlives {s : State} (awake : s.power.phase ≠ .standby) : s.Outlives (startTimerExpire s) := by
  unfold startTimerExpire
  split
  · exact .inl (.refl s)
  · exact .inr (State.startFailed_within.breaksOff_restartFree rfl awake)

theorem watchdogReset_outlives {s : State} (awake : s.power.phase ≠ .standby) : s.Outlives (watchdogReset s) := by
  unfold watchdogReset
  refine .inr (Within.breaksOff_restart (l := [.update]) ?_ rfl awake 3)
  exact .ite State.startFailed_within (.ite State.revert_within (.refl _ _))

/-- The handover sets the power state first; the settings, keys and events that follow keep it. -/
theorem handOverTo_keeps (s : State) : s.handOverTo.power.pwrEn = s.power.pwrEn ∧
    s.handOverTo.power.standbyFlag = s.power.standbyFlag ∧ (s.halt.silent = true → s.handOverTo.halt.silent = true) := by
  let u : State := { s with
    power := { s.power with phase := .running, state := if s.power.startQuiet then 1 else 0, startQuiet := false }
    trip := { s.trip with reexport := s.trip.again }
    update := { s.update with age := if s.power.rtcValid then s.update.age else 0
                              verifying := decide (s.update.download = 1) && s.update.manifest.any (fun m =>
                                decide (s.update.bits + 1 = 2 ^ (m.count + 1))) } }
  have loads : Within [.settings, .keys, .custody, .access, .counters, .trip, .panel, .update, .power] u s.handOverTo :=
    ((State.loadSettings_within.mono rfl).after State.loadKeys_within rfl).after State.owedEvents_within rfl
  obtain ⟨-, pwrEn, flag⟩ := show Power.sameSupply u.power _ from loads .supply rfl
  exact ⟨pwrEn, flag, loads .silence rfl⟩

/-- The ROM hands over to an image after changes of the update record alone. -/
theorem handOverTo_goesOn {s u : State} (h : Within [.update] s u) (rom : s.power.phase = .rom) : s.GoesOn u.handOverTo := by
  obtain ⟨pwrEn, flag, silence⟩ := handOverTo_keeps u
  have supply : Power.sameSupply s.power u.power := h .supply rfl
  exact {
    pwrEn := pwrEn.trans supply.2.1
    flag := flag.trans supply.2.2
    phase := .inr ⟨rom, by simp⟩
    readiness := .inl (handOverTo_phase u)
    silence := fun silent => silence (h .silence rfl silent) }

/-- The ROM enters recovery, starts a slot again by a reset, or hands over (R486, R487, R494, R495). -/
theorem romBoot_outlives (verified migrates : Bool) (s : State) : s.Outlives (romBoot verified migrates s) := by
  unfold romBoot
  split
  · exact .inl (.refl s)
  · next notRom =>
    have rom : s.power.phase = .rom := not_not.mp notRom
    have awake : s.power.phase ≠ .standby := by simp [rom]
    split
    · exact .inl ⟨rfl, rfl, .inr ⟨rom, by simp⟩, .inr ⟨by simp [rom], ⟨rfl, rfl⟩⟩, id⟩
    · split
      · exact .inr (State.startFailed_within.breaksOff_restartFree rfl awake)
      · dsimp only
        split
        · exact .inl (handOverTo_goesOn (.refl _ s) rom)
        · split
          · exact .inl (handOverTo_goesOn State.migrate_within rom)
          · exact .inr (Within.breaksOff_restartFree (within_update (l := [.update]) rfl) rfl awake)

theorem rstNAssert_outlives (lowUs : Nat) (s : State) : s.Outlives (rstNAssert lowUs s) := by
  unfold rstNAssert
  split
  · next alive => exact .inr ((Within.refl [] s).breaksOff_restart rfl (by rintro standby; simp [standby, Phase.alive] at alive) 1)
  · exact .inl (.refl s)

/-- A request of the service port is discarded, answered from store, or reaches its body. -/
theorem service_outlives {f : ServiceHead} {command : Nat} {payload : Bytes} {body : State → State} {s : State}
    (h : ∀ u, Within [.update] s u → s.Outlives (body u)) : s.Outlives (s.service f command payload body) := by
  unfold State.service
  split
  · exact .inl (.refl s)
  · split
    · split
      · exact State.emit_within.outlives rfl rfl rfl
      · exact State.emit_within.outlives rfl rfl rfl
      · exact .inl (.refl s)
    · exact h _ (within_update rfl)

theorem serviceReset_outlives (f : ServiceHead) (word : Nat) {s : State} (awake : s.power.phase ≠ .standby) :
    s.Outlives (serviceReset f word s) := by
  refine service_outlives fun u h => ?_
  have replies (code : Nat) := h.trans (State.reply_within (seq := f.seq) (command := 0x20) (code := code) (data := []) (s := u))
  split
  · exact (replies _).outlives rfl rfl rfl
  · exact .inr ((replies _).breaksOff_restart rfl awake 2)

theorem leaveRecovery_outlives (f : ServiceHead) (word : Nat) {s : State} (awake : s.power.phase ≠ .standby) :
    s.Outlives (leaveRecovery f word s) := by
  refine service_outlives fun u h => ?_
  have replies (code : Nat) := h.trans (State.reply_within (seq := f.seq) (command := 0x21) (code := code) (data := []) (s := u))
  split
  · exact (replies _).outlives rfl rfl rfl
  · split
    · exact (replies _).outlives rfl rfl rfl
    · exact .inr (((replies _).trans (within_update rfl)).breaksOff_restart rfl awake 4)

/-- What the records of a block leave is acknowledged, and verified where it was the last one (R502, R504). -/
theorem verifiedIf_outlives {s r : State} (h : Within [.access, .counters, .trip, .panel, .update] s r)
    (awake : s.power.phase ≠ .standby) :
    s.Outlives (if r.update.verifying then (if r.verified.update.download = 2 then r.verified.recovered else r.verified) else r) := by
  split
  · exact recoveredIf_outlives (h.trans (State.verified_within.mono rfl)) awake
  · exact h.outlives rfl rfl rfl

theorem tftpData_outlives (peer : TftpPeer) (number : Nat) (data : Bytes) (s : State) : s.Outlives (tftpData peer number data s) := by
  unfold tftpData
  split
  · exact .inl (.refl s)
  · next served =>
    have recovery : s.power.phase = .recovery := not_not.mp fun h => served (.inl h)
    have awake : s.power.phase ≠ .standby := by simp [recovery]
    split
    · exact State.tftpSay_within.outlives rfl rfl rfl
    · split
      · exact State.tftpSay_within.outlives rfl rfl rfl
      · split
        · exact .inl (.refl s)
        · have taken (l : List ImageRecord) : Within [.access, .counters, .trip, .panel, .update] s (s.takeRecords l).1 :=
            State.takeRecords_within.mono rfl
          dsimp only
          split
          · exact Within.outlives (((taken _).trans (within_update rfl)).trans (State.tftpSay_within.mono rfl)) rfl rfl rfl
          · exact verifiedIf_outlives (((taken _).trans (within_update rfl)).trans (State.tftpSay_within.mono rfl)) awake

theorem railOutOfTolerance_outlives (rail : Nat) (s : State) : s.Outlives (railOutOfTolerance rail s) := by
  unfold railOutOfTolerance
  split
  · exact .inl (.refl s)
  · next inside =>
    have awake : s.power.phase ≠ .standby := fun h => inside (.inl h)
    refine .inr ⟨awake, .inr (.inl rfl), fun low => ?_⟩
    have low : (s.restart 0).power.standbyFlag = false := low
    exact ⟨by simp [State.restart, Units.persisted], by simp [low], fun _ => ⟨rfl, rfl⟩⟩

/-! ### The commands themselves -/

/-- What a command clears or stamps before it starts bears on neither power nor silence. -/
theorem State.Outlives.of_same {s u t : State} (h : u.Outlives t) (power : u.power = s.power) (halt : u.halt = s.halt) :
    s.Outlives t := by
  rcases h with ⟨pwrEn, flag, phase, readiness, silence⟩ | ⟨awake, down, legal⟩
  · exact .inl ⟨power ▸ pwrEn, power ▸ flag, power ▸ phase, power ▸ readiness, halt ▸ silence⟩
  · exact .inr ⟨power ▸ awake, down, power ▸ legal⟩

theorem State.Outlives.of_begin {s t : State} (h : s.begin.Outlives t) : s.Outlives t := h.of_same rfl rfl

theorem running_outlives {f : State → State} {s t : State} (h : s.power.phase ≠ .standby → s.begin.Outlives (f s.begin))
    (next : running f s = .next t) : s.Outlives t := by
  cases next
  split
  · exact (h (running_awake ‹_›)).of_begin
  · exact .of_begin (.inl (.refl s.begin))

theorem serving_outlives {f : State → State} {s t : State} (h : s.power.phase ≠ .standby → s.begin.Outlives (f s.begin))
    (next : serving f s = .next t) : s.Outlives t := by
  cases next
  split
  · next served => exact (h (by rcases served with phase | phase <;> simp [phase])).of_begin
  · exact .of_begin (.inl (.refl s.begin))

theorem mayReset_outlives {c : Instr} {s t : State} (hc : Instr.mayReset c = true) (next : exec c s = .next t) : s.Outlives t := by
  unfold Instr.mayReset at hc
  split at hc
  next e => cases next; exact (tickBoundary_outlives e s.begin).of_begin
  next stamp =>
    exact serving_outlives (f := fun u => downloadVerified (u.stamped stamp))
      (fun awake => (downloadVerified_outlives (s := s.begin.stamped stamp) awake).of_same rfl rfl) next
  next => exact running_outlives (fun awake => trialLimitExpire_outlives (s := s.begin) awake) next
  next => exact running_outlives (fun awake => startTimerExpire_outlives (s := s.begin) awake) next
  next => exact running_outlives (fun awake => watchdogReset_outlives (s := s.begin) awake) next
  next verified migrates => cases next; exact (romBoot_outlives verified migrates s.begin).of_begin
  next lowUs => cases next; exact (rstNAssert_outlives lowUs s.begin).of_begin
  next f word => exact serving_outlives (fun awake => serviceReset_outlives f word (s := s.begin) awake) next
  next f word => exact serving_outlives (fun awake => leaveRecovery_outlives f word (s := s.begin) awake) next
  next number data => exact serving_outlives (fun _ => tftpData_outlives _ number data s.begin) next
  next rail => cases next; exact (railOutOfTolerance_outlives rail s.begin).of_begin
  next => cases hc

/-! ### Legality of the power state -/

theorem powerLegal_congr {s t : State} (legal : s.powerLegal) (supply : Power.sameSupply s.power t.power)
    (readiness : Power.sameReadiness s.power t.power) : t.powerLegal := by
  obtain ⟨phase, pwrEn, flag⟩ := supply
  obtain ⟨deviceState, beacons⟩ := readiness
  unfold State.powerLegal
  rwa [phase, pwrEn, flag, deviceState, beacons]

theorem State.GoesOn.powerLegal {s t : State} (h : s.GoesOn t) (legal : s.powerLegal) : t.powerLegal := by
  obtain ⟨pwrEn, flag, quiet⟩ := legal
  obtain ⟨samePwrEn, sameFlag, phase, readiness, -⟩ := h
  have standby : t.power.phase = .standby ↔ s.power.phase = .standby := by
    rcases phase with same | ⟨rom, up⟩
    · rw [same]
    · simp [rom, up]
  refine ⟨by rw [samePwrEn, pwrEn, standby], by rw [sameFlag, flag, standby], fun notRunning => ?_⟩
  obtain ⟨before, deviceState, beacons⟩ := readiness.resolve_left notRunning
  rw [deviceState, beacons]
  exact quiet before

theorem State.Outlives.powerLegal {s t : State} (h : s.Outlives t) (legal : s.powerLegal) : t.powerLegal := by
  rcases h with on | off
  · exact on.powerLegal legal
  · exact off.legal (Bool.eq_false_iff.mpr fun high => off.awake (legal.2.1.mp high))

/-- A power state other than Standby and Run, with PWR_EN high and the Standby flag off, is legal where device state and beacons
stay as they were in a state without a running image. -/
theorem powerLegal_of_down {s t : State} (legal : s.powerLegal) (before : s.power.phase ≠ .running)
    (readiness : Power.sameReadiness s.power t.power) (pwrEn : t.power.pwrEn = true) (flag : t.power.standbyFlag = false)
    (awake : t.power.phase ≠ .standby) : t.powerLegal := by
  obtain ⟨deviceState, beacons⟩ := readiness
  refine ⟨by simp [pwrEn, awake], by simp [flag, awake], fun _ => ?_⟩
  rw [deviceState, beacons]
  exact legal.2.2 before

theorem awake_supply {s : State} (legal : s.powerLegal) (awake : s.power.phase ≠ .standby) :
    s.power.pwrEn = true ∧ s.power.standbyFlag = false :=
  ⟨Bool.not_eq_false _ |>.mp fun low => awake (legal.1.mp low), Bool.eq_false_iff.mpr fun high => awake (legal.2.1.mp high)⟩

theorem resetRelease_powerLegal {s : State} (recoverHigh refSel svcAlt : Bool) (legal : s.powerLegal) :
    (resetRelease recoverHigh refSel svcAlt s).powerLegal := by
  unfold resetRelease
  split
  · next inReset =>
    obtain ⟨pwrEn, flag⟩ := awake_supply legal (by simp [inReset])
    exact powerLegal_of_down legal (by simp [inReset]) ⟨rfl, rfl⟩ pwrEn flag (by simp)
  · exact legal

theorem powerOn_powerLegal {s : State} (legal : s.powerLegal) : (powerOn s).powerLegal := by
  unfold powerOn
  split
  · next off =>
    obtain ⟨pwrEn, flag⟩ := awake_supply legal (by simp [off.1])
    exact powerLegal_of_down legal (by simp [off.1]) ⟨rfl, rfl⟩ pwrEn flag (by simp)
  · exact legal

theorem vbatLost_powerLegal {s : State} (legal : s.powerLegal) : (vbatLost s).powerLegal := by
  unfold vbatLost
  split
  · exact legal
  · dsimp only
    split
    · exact powerLegal_congr (s := { s with power := { s.power with vbatPresent := false } }) legal (State.raise_within .supply rfl)
        (State.raise_within .readiness rfl)
    · exact legal
    · next standby => exact powerLegal_of_down legal (by simp [standby]) ⟨rfl, rfl⟩ rfl rfl (by simp)
    · exact legal

theorem wake_powerLegal {s : State} (quiet : Bool) (legal : s.powerLegal) (standby : s.power.phase = .standby) :
    (s.wake quiet).powerLegal :=
  powerLegal_of_down legal (by simp [standby]) ⟨rfl, rfl⟩ rfl rfl (by simp [State.wake])

theorem standbyStrobe_powerLegal {s : State} (open1 open2 : Bool) (legal : s.powerLegal) : (standbyStrobe open1 open2 s).powerLegal := by
  unfold standbyStrobe
  split
  · exact legal
  · next standby =>
    let u : State := { s with panel := { s.panel with
      strobe1 := if open1 then s.panel.strobe1 + 1 else 0, strobe2 := if open2 then s.panel.strobe2 + 1 else 0 } }
    have woken : (u.wake false).powerLegal := wake_powerLegal false legal (not_not.mp standby)
    exact iteInduction (motive := State.powerLegal) (fun _ => woken) (fun _ => legal)

theorem standbyWake_powerLegal {s : State} (source : Nat) (legal : s.powerLegal) : (standbyWake source s).powerLegal := by
  unfold standbyWake
  split
  · next standby => exact wake_powerLegal _ legal standby.1
  · exact legal

theorem resupplies_powerLegal {c : Instr} {s t : State} (hc : Instr.resupplies c = true) (legal : s.powerLegal)
    (next : exec c s = .next t) : t.powerLegal := by
  unfold Instr.resupplies at hc
  split at hc
  next recoverHigh refSel svcAlt => cases next; exact resetRelease_powerLegal recoverHigh refSel svcAlt (s := s.begin) legal
  next => cases next; exact vbatLost_powerLegal (s := s.begin) legal
  next open1 open2 => cases next; exact standbyStrobe_powerLegal open1 open2 (s := s.begin) legal
  next source => cases next; exact standbyWake_powerLegal source (s := s.begin) legal
  next => cases next; exact powerOn_powerLegal (s := s.begin) legal
  next => cases hc

theorem exec_powerLegal {c : Instr} {s t : State} (legal : s.powerLegal) (next : exec c s = .next t) : t.powerLegal := by
  cases resets : Instr.mayReset c with
  | true => exact (mayReset_outlives resets next).powerLegal legal
  | false =>
    cases supplied : Instr.resupplies c with
    | true => exact resupplies_powerLegal supplied legal next
    | false =>
      have within := within_touches next
      exact powerLegal_congr legal (within .supply (by rw [touches_supply, resets, supplied]; rfl))
        (within .readiness (by rw [touches_readiness, resets]))

end Sys2Proof.Machine

namespace Sys2Proof.Proofs

open Sys2Proof Sys2Proof.Machine

/-- Settles O4: a command that may reset the part lets it go on or breaks it off, five more supply it otherwise, and no other
touches supply or readiness. -/
theorem powerStaysLegal : Obligations.PowerStaysLegal :=
  fun _ _ => step_invariant (fun _ _ legal => legal) fun _ _ _ => exec_powerLegal

/-- Settles O6: a command that may reset the part keeps silence unless it breaks the part off, and no other ends it. -/
theorem silenceLasts : Obligations.SilenceLasts := by
  intro c s t silent next
  cases resets : Instr.mayReset c with
  | true =>
    rcases mayReset_outlives resets next with on | off
    · exact .inl (on.silence silent)
    · exact .inr off.down
  | false => exact .inl (within_touches next .silence (by rw [touches_silence, resets]) silent)

/-- Settles O2: what the reset state reads as, field by field. -/
theorem resetLeaves : Obligations.ResetLeaves := by
  have legal : State.reset.powerLegal := ⟨by decide, by decide, fun _ => ⟨rfl, rfl⟩⟩
  have vacant (n : Nat) : State.reset.laneIs n .vacant = true := show decide (laneStateOf 0xFF00 = some LaneState.vacant) = true by decide
  exact ⟨rfl, rfl, rfl, rfl, rfl, rfl, rfl, rfl, rfl, rfl, rfl, rfl, legal, ⟨rfl, rfl, rfl⟩, fun n => ⟨vacant n, rfl⟩, fun _ _ => ⟨rfl, rfl⟩⟩

end Sys2Proof.Proofs

/-! PROOF. A verge frame is read back as it was sent (R263, R264). -/

namespace Sys2Proof.Machine

/-- After preamble and sync word comes what the transmitter whitened. -/
theorem vergeFrame_drop (payload : Bytes) :
    (vergeFrame payload).drop 6 = whitened (le 1 payload.length ++ payload ++ le 2 (crc16 (le 1 payload.length ++ payload))) := by
  simp [vergeFrame, le]

theorem vergeFrame_take (payload : Bytes) : (vergeFrame payload).take 6 = List.replicate 4 0x55 ++ le 2 0x4FD3 := by
  simp [vergeFrame, le]

theorem vergeFrame_read (payload : Bytes) :
    whitened ((vergeFrame payload).drop 6) =
      le 1 payload.length ++ payload ++ le 2 (crc16 (le 1 payload.length ++ payload)) := by
  rw [vergeFrame_drop, whitened_whitened]

theorem vergeFrame_drop_length (payload : Bytes) : ((vergeFrame payload).drop 6).length = payload.length + 3 := by
  rw [vergeFrame_drop, whitened_length]
  simp only [List.length_append, le_length]
  omega

/-- The length byte in front of a payload of up to 255 bytes reads as its length. -/
theorem byteAt_length_front {payload : Bytes} (short : payload.length < 256) (rest : Bytes) :
    byteAt (le 1 payload.length ++ payload ++ rest) 0 = payload.length := by
  simp [byteAt, le]
  omega

section
variable {payload : Bytes} (nonempty : 1 ≤ payload.length) (short : payload.length ≤ 64)
include nonempty short

theorem vergeLengthOk_vergeFrame : vergeLengthOk ((vergeFrame payload).drop 6) = true := by
  rw [vergeLengthOk, vergeFrame_read, byteAt_length_front (by omega), vergeFrame_drop_length]
  simp [nonempty, short]

omit nonempty in
theorem vergeCrcOk_vergeFrame : vergeCrcOk ((vergeFrame payload).drop 6) = true := by
  have body : (le 1 payload.length ++ payload).length = payload.length + 1 := by simp [le_length]; omega
  rw [vergeCrcOk, vergeFrame_read, byteAt_length_front (by omega), ← body, List.take_left, field, List.drop_left,
    List.take_of_length_le (by simp [le_length]), unle_le2 _ (crc16_lt _)]
  simp

end

end Sys2Proof.Machine

namespace Sys2Proof.Proofs

open Sys2Proof Sys2Proof.Machine

/-- Settles O28: whitening twice gives back length, payload and CRC, which the two checks then find as they were put. -/
theorem vergeFramesReadBack : Obligations.VergeFramesReadBack :=
  fun payload nonempty short => ⟨vergeFrame_take payload, vergeLengthOk_vergeFrame nonempty short, vergeCrcOk_vergeFrame short,
    vergeFrame_read payload⟩

end Sys2Proof.Proofs

/-! PROOF. How a command of a running unit comes to its meaning, and how a request comes to its answer. -/

namespace Sys2Proof.Machine

theorem running_next {s : State} (f : State → State) (phase : s.power.phase = .running) : running f s = .next (f s.begin) :=
  congrArg Host.Outcome.next (if_pos phase)

theorem running_serving {s : State} (f : State → State) (phase : s.power.phase = .running) : serving f s = .next (f s.begin) :=
  congrArg Host.Outcome.next (if_pos (.inl phase))

/-- A request that is taken runs its body on the state it finds, and is answered as the body says. -/
theorem exec_serve {c : Instr} {s : State} {r : Req} {body : State → State × Answer} {a : Answer} {P : State → Prop}
    (meaning : exec c s = running (State.serve r body) s) (taken : s.takes r)
    (h : ∀ u, Arrived s u r → ∃ y, body u = (y, a) ∧ ∀ z, Within [.access, .update] y z → P z) :
    ∃ t, exec c s = .next t ∧ t.says r a ∧ P t :=
  ⟨_, meaning.trans (running_next _ taken.1), State.serve_completes taken h⟩

/-- A write that is granted runs its body on the state it finds, and is answered as the body says. -/
theorem exec_serveWrite {c : Instr} {s : State} {r : Req} {index sub : Nat} {data : Bytes} {body : State → State × Answer}
    {a : Answer} {P : State → Prop} (meaning : exec c s = running (State.serveWrite r index sub data body) s)
    (granted : s.grants r index sub data)
    (h : ∀ u, Arrived s u r → ∃ y, body u = (y, a) ∧ ∀ z, Within [.access, .update] y z → P z) :
    ∃ t, exec c s = .next t ∧ t.says r a ∧ P t :=
  ⟨_, meaning.trans (running_next _ granted.1.1), State.serveWrite_completes granted h⟩

/-- The state that a request leaves: the answer of its body, on the state that its body found and changed. -/
theorem exec_serve_answer {c : Instr} {s : State} {r : Req} {body : State → State × Answer}
    (meaning : exec c s = running (State.serve r body) s) (taken : s.takes r) :
    ∃ u, Arrived s u r ∧ exec c s = .next ((body u).1.answer r (body u).2) := by
  obtain ⟨u, served, found⟩ := State.serve_takes body taken
  exact ⟨u, .mk' found, meaning.trans ((running_next _ taken.1).trans (congrArg _ served))⟩

theorem exec_serveWrite_answer {c : Instr} {s : State} {r : Req} {index sub : Nat} {data : Bytes} {body : State → State × Answer}
    (meaning : exec c s = running (State.serveWrite r index sub data body) s) (granted : s.grants r index sub data) :
    ∃ u, Arrived s u r ∧ exec c s = .next ((body u).1.answer r (body u).2) := by
  obtain ⟨u, served, found⟩ := State.serveWrite_takes body granted.1 granted.2
  exact ⟨u, .mk' found, meaning.trans ((running_next _ granted.1.1).trans (congrArg _ served))⟩

/-- An answer of the service port is kept with its request; nothing else of the update record changes. -/
theorem answer_update (s : State) (r : Req) (a : Answer) : ∃ x, (s.answer r a).update = { s.update with lastAnswer := x } := by
  unfold State.answer
  dsimp only
  split
  · split
    · exact ⟨_, rfl⟩
    · exact ⟨_, rfl⟩
  · split
    · exact ⟨_, rfl⟩
    · exact ⟨_, rfl⟩
  · exact ⟨_, rfl⟩

/-- What the body finds of a part that neither the session nor the instant belongs to. -/
theorem Arrived.lanes {s u : State} {r : Req} (h : Arrived s u r) : u.lanes = s.lanes := h.within .lanes rfl

theorem Arrived.power {s u : State} {r : Req} (h : Arrived s u r) : u.power = s.power := h.within .power rfl

theorem Arrived.update {s u : State} {r : Req} (h : Arrived s u r) : u.update = s.update := h.within .update rfl

theorem Arrived.keys {s u : State} {r : Req} (h : Arrived s u r) : u.keys = s.keys := h.within .keys rfl

end Sys2Proof.Machine

/-! PROOF. Power commands, monitors and the reference clock (R406, R407, R416, R578, R589, R592). -/

namespace Sys2Proof.Machine

/-! ### Power commands -/

/-- A power command that its lanes, feeds and keys allow waits for the next boundary (R416). -/
theorem orderPower_confirms {s : State} {code : Nat} (known : 1 ≤ code ∧ code ≤ 3) (vacant : 2 ≤ code → s.allVacant = true)
    (standby : code = 3 → s.feedsTested = false ∧ s.keys.pendingState ≠ 3) :
    ∃ y, s.orderPower code = (y, .done []) ∧ y.power = { s.power with powerDue := some code } := by
  unfold State.orderPower
  rw [if_neg (by omega), if_neg (by simpa using vacant), if_neg (by simpa using standby)]
  refine ⟨_, rfl, ?_⟩
  split
  · exact State.mirror_power ..
  · rfl

theorem exec_powerCommand {c : Instr} {s : State} {r : Req} {code : Nat} (meaning : exec c s = running (powerCommand r code) s)
    (granted : s.grants r 0x2C00 2 (le 1 code)) (known : 1 ≤ code ∧ code ≤ 3) (vacant : 2 ≤ code → s.allVacant = true)
    (standby : code = 3 → s.feedsTested = false ∧ s.keys.pendingState ≠ 3) :
    ∃ t, exec c s = .next t ∧ t.says r (.done []) ∧ t.power = { s.power with powerDue := some code } := by
  refine exec_serveWrite meaning granted fun u hu => ?_
  have sameVacant : u.allVacant = s.allVacant := by unfold Units.allVacant; rw [hu.lanes]
  have sameFeeds : u.feedsTested = s.feedsTested := by unfold State.feedsTested; rw [hu.power]
  obtain ⟨y, answered, power⟩ := orderPower_confirms (s := u) known (sameVacant ▸ vacant) (by rwa [sameFeeds, hu.keys])
  refine ⟨y, answered, fun z within => ?_⟩
  rw [show z.power = y.power from within .power rfl, power, hu.power]

/-! ### Monitors -/

theorem raise_raised (code reg lane key : Nat) (params : Bytes) (s : State) :
    (s.raise code 2 reg lane key params).access.raised code key = true := by
  obtain ⟨c, mem, code, key⟩ := State.raise_condition code reg lane key params s
  exact List.any_eq_true.mpr ⟨c, mem, by simp [code, key]⟩

/-- VBAT (R592): the samples are kept, the condition is raised after 10 s, ended from 2,550 mV, and left alone between. -/
theorem vbatLow_spec (mv ms : Nat) (s : State) :
    (vbatLow mv ms s).power = { s.power with vbat := mv, vbatLow := if mv < 2500 then s.power.vbatLow + ms else 0 } ∧
      (mv < 2500 → 10000 ≤ s.power.vbatLow + ms → s.access.raised 0x200B 0 = false →
        (vbatLow mv ms s).reported 0x200B 2 2 0xFF (le 2 mv) ∧ (vbatLow mv ms s).access.raised 0x200B 0 = true) ∧
      (2550 ≤ mv → s.access.raised 0x200B 0 = true → (vbatLow mv ms s).reported 0x200C 3 2 0xFF (le 2 mv)) ∧
      (2500 ≤ mv → mv < 2550 → (vbatLow mv ms s).access = s.access) := by
  unfold vbatLow
  dsimp only
  refine ⟨?_, fun low long fresh => ?_, fun high raised => ?_, fun above below => ?_⟩
  · exact State.ite_same (fun u => u.power) State.raise_power (State.ite_same (fun u => u.power) State.raise_power rfl)
  · rw [if_pos (by simp [low, long, fresh])]
    exact ⟨State.raise_reported .., raise_raised ..⟩
  · rw [if_neg (by simp [raised]), if_pos ⟨high, raised⟩]
    exact State.raise_reported ..
  · rw [if_neg (by rw [if_neg (by omega)]; omega), if_neg (by omega)]

/-- Temperature of a die (R592): the sample is kept, the condition is raised above 145 °C, ended below 140 °C, and left alone between. -/
theorem temperatureHigh_spec {die : Nat} (known : die ≤ 1) (c : Int) (s : State) :
    (temperatureHigh die c s).power = { s.power with
        dieTemp := (if die = 0 then c else s.power.dieTemp), rfTemp := (if die = 0 then s.power.rfTemp else c) } ∧
      (1450 < c → s.access.raised 0x2009 die = false →
        (temperatureHigh die c s).reported 0x2009 2 3 0xFF (le 1 die ++ le 2 c)) ∧
      (c < 1400 → s.access.raised 0x2009 die = true →
        (temperatureHigh die c s).reported 0x200A 3 3 0xFF (le 1 die ++ le 2 c)) ∧
      (1400 ≤ c → c ≤ 1450 → (temperatureHigh die c s).access = s.access) := by
  unfold temperatureHigh
  rw [if_neg (by omega)]
  dsimp only
  refine ⟨?_, fun high fresh => ?_, fun low raised => ?_, fun above below => ?_⟩
  · exact State.ite_same (fun u => u.power) State.raise_power (State.ite_same (fun u => u.power) State.raise_power rfl)
  · rw [if_pos (by simp [high, fresh])]
    exact State.raise_reported ..
  · rw [if_neg (by omega), if_pos ⟨low, raised⟩]
    exact State.raise_reported ..
  · rw [if_neg (by omega), if_neg (by omega)]

end Sys2Proof.Machine

namespace Sys2Proof.Proofs

open Sys2Proof Sys2Proof.Machine

/-- Settles O58: the commands by their bodies, the monitors by `vbatLow_spec` and `temperatureHigh_spec`, the reference clock by its
two events. -/
theorem powerCommandsAndMonitors : Obligations.PowerCommandsAndMonitors := by
  intro s running
  refine ⟨fun r granted => ?run, fun r granted vacant => ?quiet, fun r granted vacant untested notRolling => ?standby,
    fun r granted still => ?reset, fun mv ms => ?vbat, fun die c known => ?temperature, fun cause selected locked => ?lost,
    fun selected unlocked => ?found⟩
  case run => exact exec_powerCommand rfl granted (by decide) (by simp) (by simp)
  case quiet => exact exec_powerCommand rfl granted (by decide) (fun _ => vacant) (by simp)
  case standby => exact exec_powerCommand rfl granted (by decide) (fun _ => vacant) (fun _ => ⟨untested, notRolling⟩)
  case reset =>
    refine exec_serveWrite rfl granted fun u hu => ?_
    have still : u.notMoving = true := by rw [Units.notMoving, hu.lanes]; exact still
    refine ⟨{ u with power := { u.power with resetDue := true } }, ?_, fun z within => ?_⟩
    · rw [State.orderReset, if_neg (by decide), if_neg (by simp [still]), confirm]
    · rw [show z.power = _ from within .power rfl, hu.power]
  case vbat => exact ⟨_, running_next _ running, vbatLow_spec mv ms s.begin⟩
  case temperature => exact ⟨_, running_next _ running, temperatureHigh_spec known c s.begin⟩
  case lost =>
    refine ⟨_, (running_next _ running).trans (congrArg _ (if_pos ⟨selected, locked⟩)), State.raise_power, State.raise_reported ..⟩
  case found =>
    refine ⟨_, (running_next _ running).trans (congrArg _ (if_pos ⟨selected, ?_⟩)), State.raise_power, State.raise_reported ..⟩
    simp [unlocked]

end Sys2Proof.Proofs

/-! PROOF. Runs of a feed alone, and the feed test (R582 to R585). -/

namespace Sys2Proof.Machine

/-! ### Feeds and their gates -/

theorem feed_onFeed_same (k : Nat) (f : Feed → Feed) (s : State) : (s.onFeed k f).feed k = f (s.feed k) := by
  by_cases h : k = 0 <;> simp [State.onFeed, State.feed, h]

theorem feed_onFeed_other {j k : Nat} (other : ¬(j = 0 ↔ k = 0)) (f : Feed → Feed) (s : State) :
    (s.onFeed k f).feed j = s.feed j := by
  by_cases hj : j = 0 <;> by_cases hk : k = 0 <;> simp_all [State.onFeed, State.feed]

/-- Driving a gate changes that gate and nothing else of any feed. -/
theorem feed_driveGate (j k : Nat) (low : Bool) (s : State) :
    (s.driveGate k low).feed j = if (j = 0 ↔ k = 0) then { s.feed j with gate := low } else s.feed j := by
  unfold State.driveGate
  split
  · next same =>
    split
    · next both => rw [show s.feed j = s.feed k by unfold State.feed; simp [both], ← same]
    · rfl
  · show ((s.onFeed k fun f => { f with gate := low }).feed j) = _
    by_cases hj : j = 0 <;> by_cases hk : k = 0 <;> simp [State.onFeed, State.feed, hj, hk]

theorem driveGate_power (k : Nat) (low : Bool) (s : State) :
    (s.driveGate k low).power.alone = s.power.alone ∧ (s.driveGate k low).power.sinceTest = s.power.sinceTest := by
  unfold State.driveGate
  split
  · exact ⟨rfl, rfl⟩
  · exact ⟨rfl, rfl⟩

/-! ### A run begins -/

theorem runAlone_state {j k : Nat} (hj : j < 2) (hk : k < 2) (cause : Nat) (s : State) :
    ((s.runAlone k cause).feed j).state = (if j = k then 3 else (s.feed j).state) ∧
      ((s.runAlone k cause).feed j).judged = (s.feed j).judged := by
  unfold State.runAlone
  dsimp only
  rw [feed_driveGate]
  obtain rfl | rfl : j = 0 ∨ j = 1 := by omega
  all_goals obtain rfl | rfl : k = 0 ∨ k = 1 := by omega
  all_goals exact ⟨rfl, rfl⟩

theorem runAlone_gate (k cause : Nat) (s : State) : ((s.runAlone k cause).feed (1 - k)).gate = true := by
  unfold State.runAlone
  rw [feed_driveGate, if_pos Iff.rfl]

theorem runAlone_alone (k cause : Nat) (s : State) :
    (s.runAlone k cause).power.alone = some { feed := k, cause := cause, before := (s.feed k).sense } := by
  unfold State.runAlone
  rw [(driveGate_power ..).1]
  show some _ = _
  rw [feed_onFeed_same]

/-- Outside a test only a feed not yet judged, or one that is not in use and has been back for 10,000 slices, begins a run. -/
theorem nextRun_keeps {k : Nat} (hk : k < 2) {s : State} (judged : (s.feed k).judged = true) (back : (s.feed k).back = none) :
    (s.nextRun.feed k).state = (s.feed k).state ∧ (s.nextRun.feed k).judged = true := by
  have other (j cause : Nat) (hj : j < 2) (ne : k ≠ j) :
      ((s.runAlone j cause).feed k).state = (s.feed k).state ∧ ((s.runAlone j cause).feed k).judged = true := by
    obtain ⟨state, same⟩ := runAlone_state hk hj cause s
    exact ⟨state.trans (if_neg ne), same.trans judged⟩
  unfold State.nextRun
  dsimp only
  split
  · exact ⟨rfl, judged⟩
  · split
    · exact ⟨rfl, judged⟩
    · split
      · next start => exact other 0 0 (by decide) (by rintro rfl; simp [judged] at start)
      · split
        · next start => exact other 1 0 (by decide) (by rintro rfl; simp [judged] at start)
        · split
          · next again => exact other 0 1 (by decide) (by rintro rfl; simp [back] at again)
          · split
            · next again => exact other 1 1 (by decide) (by rintro rfl; simp [back] at again)
            · exact ⟨rfl, judged⟩

/-! ### A run ends -/

/-- The gate that a run alone held low is released, and no run is under way. -/
def State.runReleased (x : RunAlone) (s : State) : State :=
  let s := s.driveGate (1 - x.feed) false
  { s with power := { s.power with alone := none } }

/-- The state that the end of a run leaves, before its event. -/
def State.runEnded (x : RunAlone) (passed : Bool) (s : State) : State :=
  let s := s.runReleased x
  let f := s.feed x.feed
  let state := if passed then 1 else if f.cls = 2 ∨ f.state = 3 then 2 else f.state
  s.onFeed x.feed fun f => { f with state := state, judged := true, back := none }

theorem endRun_eq (x : RunAlone) (passed : Bool) (lowest : Nat) (s : State) : s.endRun x passed lowest =
    if passed then (s.runEnded x passed).raise 0x2003 0 0 0xFF 0 (le 1 x.feed ++ le 1 x.cause)
    else (s.runEnded x passed).raise 0x2004 1 2 0xFF 0 (le 1 x.feed ++ le 1 x.cause ++ le 2 lowest) := rfl

theorem endRun_power (x : RunAlone) (passed : Bool) (lowest : Nat) (s : State) :
    (s.endRun x passed lowest).power = (s.runEnded x passed).power := by
  rw [endRun_eq]
  exact State.ite_same (fun u => u.power) State.raise_power State.raise_power

theorem endRun_feed (x : RunAlone) (passed : Bool) (lowest : Nat) (s : State) (k : Nat) :
    (s.endRun x passed lowest).feed k = (s.runEnded x passed).feed k := by
  unfold State.feed
  rw [endRun_power]

/-- A feed under a run alone leaves it in state 1 or 2, judged (R583). -/
theorem runEnded_feed {x : RunAlone} (two : x.feed < 2) (passed : Bool) {s : State} (state3 : (s.feed x.feed).state = 3) :
    ((s.runEnded x passed).feed x.feed).state = (if passed then 1 else 2) ∧ ((s.runEnded x passed).feed x.feed).judged = true ∧
      ((s.runEnded x passed).feed x.feed).back = none := by
  have own : ((s.runReleased x).feed x.feed).state = 3 := by
    have gate := feed_driveGate x.feed (1 - x.feed) false s
    rw [if_neg (by omega)] at gate
    exact (congrArg Feed.state gate).trans state3
  unfold State.runEnded
  dsimp only
  rw [feed_onFeed_same, if_pos (Or.inr own)]
  exact ⟨rfl, rfl, rfl⟩

/-- The feed that was cut off during the run gets its gate back, and is else as it was (R583). -/
theorem runEnded_partner {x : RunAlone} (two : x.feed < 2) (passed : Bool) (s : State) :
    (s.runEnded x passed).feed (1 - x.feed) = { s.feed (1 - x.feed) with gate := false } := by
  have released := feed_driveGate (1 - x.feed) (1 - x.feed) false s
  rw [if_pos Iff.rfl] at released
  unfold State.runEnded
  dsimp only
  rw [feed_onFeed_other (by omega)]
  exact released

theorem onFeed_power (k : Nat) (f : Feed → Feed) (s : State) :
    (s.onFeed k f).power.alone = s.power.alone ∧ (s.onFeed k f).power.sinceTest = s.power.sinceTest := ⟨rfl, rfl⟩

theorem runEnded_power (x : RunAlone) (passed : Bool) (s : State) :
    (s.runEnded x passed).power.alone = none ∧ (s.runEnded x passed).power.sinceTest = s.power.sinceTest := by
  unfold State.runEnded
  dsimp only
  rw [(onFeed_power ..).1, (onFeed_power ..).2]
  exact ⟨rfl, (driveGate_power (1 - x.feed) false s).2⟩

theorem endRun_reported (x : RunAlone) (passed : Bool) (lowest : Nat) (s : State) :
    (passed = true → (s.endRun x passed lowest).reported 0x2003 0 0 0xFF (le 1 x.feed ++ le 1 x.cause)) ∧
      (passed = false → (s.endRun x passed lowest).reported 0x2004 1 2 0xFF (le 1 x.feed ++ le 1 x.cause ++ le 2 lowest)) := by
  rw [endRun_eq]
  constructor
  · intro passed
    rw [if_pos passed]
    exact State.raise_reported ..
  · intro failed
    rw [if_neg (by simp [failed])]
    exact State.raise_reported ..

theorem passes_eq (x : RunAlone) (stayed : Bool) (lowest : Nat) :
    x.passes stayed lowest = decide (stayed = true ∧ x.before ≤ lowest + 50) := by
  simp [RunAlone.passes]

/-- What follows in the power unit alone leaves an event reported. -/
theorem Within.reported {l : List Part} {s t : State} (h : Within l s t) {code cls reg lane : Nat} {params : Bytes}
    (event : s.reported code cls reg lane params) (access : l.contains .access = false) (clock : l.contains .clock = false)
    (chain : l.contains .chain = false) : t.reported code cls reg lane params :=
  State.reported_congr event (congrArg Access.streams (h .access access)) (h .clock clock) (h .chain chain)

/-- The end of a run alone, as the commands make it (R583). -/
theorem endRun_spec {x : RunAlone} (two : x.feed < 2) (stayed : Bool) (lowest : Nat) {s : State} (state3 : (s.feed x.feed).state = 3) :
    let t := s.endRun x (x.passes stayed lowest) lowest
    (stayed = true ∧ x.before ≤ lowest + 50 → (t.feed x.feed).state = 1 ∧ t.reported 0x2003 0 0 0xFF (le 1 x.feed ++ le 1 x.cause)) ∧
      (¬ (stayed = true ∧ x.before ≤ lowest + 50) → (t.feed x.feed).state = 2 ∧
        t.reported 0x2004 1 2 0xFF (le 1 x.feed ++ le 1 x.cause ++ le 2 lowest)) ∧
      (t.feed x.feed).judged = true ∧ (t.feed x.feed).back = none := by
  obtain ⟨passedEvent, failedEvent⟩ := endRun_reported x (x.passes stayed lowest) lowest s
  obtain ⟨state, judged, back⟩ := runEnded_feed two (x.passes stayed lowest) state3
  dsimp only
  rw [endRun_feed]
  refine ⟨fun ok => ⟨?_, passedEvent ?_⟩, fun bad => ⟨?_, failedEvent ?_⟩, judged, back⟩
  · rw [state, passes_eq, decide_eq_true ok, if_pos rfl]
  · rw [passes_eq, decide_eq_true ok]
  · rw [state, passes_eq, decide_eq_false bad]
    rfl
  · rw [passes_eq, decide_eq_false bad]

/-- The end of a qualification run may be followed by the next run, which leaves the feed just judged as it is. -/
theorem feedQualifyRunEnd_eq {s : State} {x : RunAlone} (alone : s.power.alone = some x) (cause : x.cause < 2) (stayed : Bool)
    (lowest : Nat) : feedQualifyRunEnd x.feed stayed lowest s = (s.endRun x (x.passes stayed lowest) lowest).nextRun := by
  rw [feedQualifyRunEnd, alone]
  exact if_pos ⟨rfl, cause⟩

theorem feedTestRunEnd_eq {s : State} {x : RunAlone} (alone : s.power.alone = some x) (cause : 2 ≤ x.cause) (stayed : Bool)
    (lowest : Nat) : feedTestRunEnd x.feed stayed lowest s =
      if !x.passes stayed lowest then s.endRun x (x.passes stayed lowest) lowest
      else if x.feed = 0 then (if (s.endRun x (x.passes stayed lowest) lowest).power.feedB.state = 1
        then (s.endRun x (x.passes stayed lowest) lowest).runAlone 1 x.cause else s.endRun x (x.passes stayed lowest) lowest)
      else { s.endRun x (x.passes stayed lowest) lowest with
        power := { (s.endRun x (x.passes stayed lowest) lowest).power with sinceTest := 0 } } := by
  rw [feedTestRunEnd, alone]
  exact if_pos ⟨rfl, cause⟩

theorem feedComparatorRelease_eq {s : State} {x : RunAlone} (alone : s.power.alone = some x) :
    feedComparatorRelease x.feed s = s.endRun x false (s.feed x.feed).sense := by
  rw [feedComparatorRelease, alone]
  exact if_pos rfl

end Sys2Proof.Machine

namespace Sys2Proof.Proofs

open Sys2Proof Sys2Proof.Machine

/-- Settles O57: the end of a run by `endRun_spec`, what may follow it by `nextRun_keeps` and `runAlone_state`. -/
theorem feedRunsAlone : Obligations.FeedRunsAlone := by
  intro s running
  refine ⟨fun x stayed lowest alone two cause state3 => ?qualify, fun x stayed lowest alone two cause state3 => ?test,
    fun x alone two state3 => ?release, fun r granted a b notStandby => ?ask, fun interval passed fresh => ?due⟩
  case qualify =>
    obtain ⟨passed, failed, judged, back⟩ := endRun_spec two stayed lowest (s := s.begin) state3
    refine ⟨_, running_next _ running, ?_⟩
    rw [feedQualifyRunEnd_eq (s := s.begin) alone cause]
    obtain ⟨state, stillJudged⟩ := nextRun_keeps two judged back
    have follows := State.nextRun_within (s := s.begin.endRun x (x.passes stayed lowest) lowest)
    refine ⟨stillJudged, fun ok => ?_, fun bad => ?_⟩
    · exact ⟨state.trans (passed ok).1, follows.reported (passed ok).2 rfl rfl rfl⟩
    · exact ⟨state.trans (failed bad).1, follows.reported (failed bad).2 rfl rfl rfl⟩
  case test =>
    obtain ⟨passed, failed, judged, back⟩ := endRun_spec two stayed lowest (s := s.begin) state3
    obtain ⟨none, since⟩ := runEnded_power x (x.passes stayed lowest) s.begin
    refine ⟨_, running_next _ running, ?_⟩
    rw [feedTestRunEnd_eq (s := s.begin) alone cause]
    refine ⟨fun ok => ?_, fun bad => ?_⟩
    · have ended := runEnded_partner two (x.passes stayed lowest) s.begin
      rw [if_neg (by simp [passes_eq, ok])]
      obtain feed | feed : x.feed = 0 ∨ x.feed = 1 := by omega
      · rw [if_pos feed]
        rw [feed] at passed ended
        have partner : (s.begin.endRun x (x.passes stayed lowest) lowest).feed 1 = { s.power.feedB with gate := false } :=
          (endRun_feed ..).trans ended
        have feedB : (s.begin.endRun x (x.passes stayed lowest) lowest).power.feedB = { s.power.feedB with gate := false } := partner
        split
        · next qualified =>
          refine ⟨?_, fun _ _ => ⟨?_, ?_, ?_⟩, fun one => by omega⟩
          · rw [feed, (runAlone_state (j := 0) (k := 1) (by decide) (by decide) ..).1]
            exact (passed ok).1
          · exact runAlone_gate 1 x.cause _
          · exact (runAlone_state (j := 1) (k := 1) (by decide) (by decide) x.cause _).1
          · rw [runAlone_alone, partner]
        · next unqualified =>
          refine ⟨?_, fun _ state => absurd state ?_, fun one => by omega⟩
          · rw [feed]
            exact (passed ok).1
          · rwa [feedB] at unqualified
      · rw [if_neg (by omega)]
        refine ⟨(passed ok).1, fun zero => by omega, fun _ => ⟨?_, rfl⟩⟩
        exact (congrArg Power.alone (endRun_power ..)).trans none
    · rw [if_pos (by simp [passes_eq, bad]), endRun_power]
      exact ⟨(failed bad).1, none, since⟩
  case release =>
    refine ⟨_, running_next _ running, ?_⟩
    rw [feedComparatorRelease_eq (s := s.begin) alone, endRun_feed, endRun_feed, endRun_power, runEnded_partner two]
    exact ⟨(runEnded_feed (s := s.begin) two false state3).1, rfl, (runEnded_power x false s.begin).1, (endRun_reported ..).2 rfl⟩
  case ask =>
    refine exec_serveWrite rfl granted fun u hu => ?_
    refine ⟨{ u with power := { u.power with testAsked := true } }, ?_, fun z within => ?_⟩
    · rw [State.askFeedTest, if_neg (by decide), if_neg (by rw [hu.power]; simp [a, b, notStandby]), confirm]
    · rw [show z.power = _ from within .power rfl, hu.power]
  case due =>
    refine ⟨_, (running_next _ running).trans (congrArg _ (if_pos ⟨interval, passed, ?_⟩)), rfl⟩
    simp [fresh]

end Sys2Proof.Proofs

/-! PROOF. Off, Standby and waking (R472, R552, R577, R590, R591), and the debug balls (R608). -/

namespace Sys2Proof.Machine

theorem exec_railOutOfTolerance {s : State} {rail : Nat} (awake : s.power.phase ≠ .standby) (on : s.power.phase ≠ .off)
    (inside : rail < 7) : exec (.railOutOfTolerance rail) s =
      .next { s.begin.restart 0 with power := { (s.begin.restart 0).power with phase := .off } } :=
  congrArg Host.Outcome.next (if_neg (by rintro (h | h | h); exacts [awake h, on h, by omega]))

theorem exec_powerOn {s : State} (off : s.power.phase = .off) (high : s.power.pwrEn = true) :
    ∃ (t : State) (asleep : Nat), exec .powerOn s = .next t ∧ t.power.phase = .inReset ∧ t.power.cause = 0 ∧
      t.power.resets = s.power.resets ∧ t.power.rtc = if s.power.vbatPresent then s.power.rtc + asleep else 0 :=
  ⟨_, _, congrArg Host.Outcome.next (if_pos ⟨off, high⟩), rfl, rfl, rfl, rfl⟩

/-- A wake source starts the part as at power-on, in Quiet where it says so (R591). -/
theorem wake_spec (quiet : Bool) (s : State) : (s.wake quiet).power.phase = .inReset ∧ (s.wake quiet).power.cause = 0 ∧
    (s.wake quiet).power.pwrEn = true ∧ (s.wake quiet).power.standbyFlag = false ∧ (s.wake quiet).power.startQuiet = quiet ∧
    Output.pin .pwrEn true ∈ (s.wake quiet).out ∧ (s.wake quiet).panel = { s.panel with strobe1 := 0, strobe2 := 0 } :=
  ⟨rfl, rfl, rfl, rfl, rfl, List.mem_append_right _ (List.mem_singleton.mpr rfl), rfl⟩

/-- The state after the contact channels are strobed in Standby (R552). -/
def State.strobed (open1 open2 : Bool) (s : State) : State :=
  { s with panel := { s.panel with
      strobe1 := if open1 then s.panel.strobe1 + 1 else 0, strobe2 := if open2 then s.panel.strobe2 + 1 else 0 } }

theorem standbyStrobe_eq {s : State} (standby : s.power.phase = .standby) (open1 open2 : Bool) : standbyStrobe open1 open2 s =
    if (open1 = true ∧ 1 ≤ s.panel.strobe1) ∨ (open2 = true ∧ 1 ≤ s.panel.strobe2) then (s.strobed open1 open2).wake false
    else s.strobed open1 open2 := by
  have twice : (2 ≤ (if open1 then s.panel.strobe1 + 1 else 0) ∨ 2 ≤ (if open2 then s.panel.strobe2 + 1 else 0)) ↔
      ((open1 = true ∧ 1 ≤ s.panel.strobe1) ∨ (open2 = true ∧ 1 ≤ s.panel.strobe2)) := by
    cases open1 <;> cases open2 <;> simp
  unfold standbyStrobe
  rw [if_neg (not_not_intro standby)]
  simp only [twice]
  rfl

/-- Channels read once, or closed, leave the part in Standby with the strobes counted. -/
theorem strobed_panel {s : State} {open1 open2 : Bool}
    (once : ¬ ((open1 = true ∧ 1 ≤ s.panel.strobe1) ∨ (open2 = true ∧ 1 ≤ s.panel.strobe2))) :
    (s.strobed open1 open2).panel = { s.panel with strobe1 := if open1 then 1 else 0, strobe2 := if open2 then 1 else 0 } := by
  unfold State.strobed
  have zero1 (h : open1 = true) : s.panel.strobe1 = 0 := Nat.lt_one_iff.mp (Nat.not_le.mp fun k => once (.inl ⟨h, k⟩))
  have zero2 (h : open2 = true) : s.panel.strobe2 = 0 := Nat.lt_one_iff.mp (Nat.not_le.mp fun k => once (.inr ⟨h, k⟩))
  cases open1 <;> cases open2 <;> simp_all

/-! ### The debug balls -/

theorem exec_debugTap {s : State} (powered : s.tapPowered = true) (i : TapInstr) : exec (.debugTapInstruction i) s =
    match i with
    | .bypass => .next (s.begin.setTap 0 0)
    | .idcode => .next (s.begin.setTap 1 idcode)
    | .samplePreload => .next (if s.begin.scanAllowed then s.begin.samplePins else s.begin)
    | .extest pins => .next (if s.begin.scanAllowed then s.begin.extest pins else s.begin)
    | .debugFunction code => if s.begin.debugOpen then .refused (.debugFunctionOpen code) else .next s.begin :=
  if_neg (by rw [show s.begin.tapPowered = true from powered]; decide)

theorem extest_tap (pins : List Bool) (s : State) : (s.extest pins).tap = { s.tap with selected := 3, driven := pins } := by
  have keeps (l : List (Pin × Bool)) (u : State) : (l.foldl (fun (t : State) x => t.emit (.pin x.1 x.2)) u).tap = u.tap := by
    induction l generalizing u with
    | nil => rfl
    | cons x l ih => exact ih _
  exact keeps _ _

/-- EXTEST drives every output ball that it has a bit for. -/
theorem extest_out (pins : List Bool) (s : State) : ∀ x ∈ scanPins.zip pins, Output.pin x.1 x.2 ∈ (s.extest pins).out := by
  have drives (l : List (Pin × Bool)) (u : State) (x : Pin × Bool) (mem : x ∈ l) :
      Output.pin x.1 x.2 ∈ (l.foldl (fun (t : State) x => t.emit (.pin x.1 x.2)) u).out := by
    induction l generalizing u with
    | nil => cases mem
    | cons y l ih =>
      rcases List.mem_cons.mp mem with rfl | later
      · exact State.out_foldl _ _ (fun _ _ => State.out_emit) l _ (List.mem_append_right _ (List.mem_singleton.mpr rfl))
      · exact ih _ later
  exact drives _ _

end Sys2Proof.Machine

namespace Sys2Proof.Proofs

open Sys2Proof Sys2Proof.Machine

/-- Settles O59: a lost rail by the reset it is, the starts by `exec_powerOn` and `wake_spec`, the strobes by `standbyStrobe_eq`. -/
theorem offAndStandby : Obligations.OffAndStandby := by
  refine ⟨fun s rail awake on inside => ?rail, fun s off high => ?start, fun s source standby known => ?wake, fun s a b standby => ?strobe⟩
  case rail =>
    refine ⟨_, exec_railOutOfTolerance awake on inside, rfl, rfl, rfl, rfl, rfl, rfl, rfl, rfl, ?_⟩
    simp [State.restart, State.emit]
  case start =>
    obtain ⟨t, asleep, started, phase, cause, resets, rtc⟩ := exec_powerOn off high
    refine ⟨t, started, phase, cause, resets, fun empty => ?_, fun present => ?_⟩
    · rw [rtc, if_neg (by simp [empty])]
    · rw [rtc, if_pos present]
      omega
  case wake =>
    refine ⟨_, congrArg Host.Outcome.next (if_pos ⟨standby, known⟩), ?_⟩
    obtain ⟨phase, cause, pwrEn, flag, quiet, out, -⟩ := wake_spec (decide (source = 2))
      { s.begin with panel := { s.panel with
          plug := s.panel.plug || decide (source = 2), wake := s.panel.wake || decide (source = 3) } }
    exact ⟨phase, cause, pwrEn, flag, quiet, out, rfl, rfl⟩
  case strobe =>
    refine ⟨_, rfl, ?_⟩
    rw [standbyStrobe_eq (s := s.begin) standby]
    refine ⟨fun twice => ?_, fun once => ?_⟩
    · rw [State.begin_panel, if_pos twice]
      obtain ⟨phase, -, pwrEn, -, quiet, out, -⟩ := wake_spec false (s.begin.strobed a b)
      exact ⟨phase, pwrEn, quiet, out⟩
    · rw [State.begin_panel, if_neg once]
      exact ⟨rfl, strobed_panel once, rfl⟩

/-- Settles O60: each instruction by its arm; what EXTEST drives by induction on the balls. -/
theorem debugTap : Obligations.DebugTap := by
  refine ⟨by unfold idcode; omega, fun s powered => ⟨⟨_, exec_debugTap powered .bypass, rfl, rfl⟩,
    ⟨_, exec_debugTap powered .idcode, rfl, rfl⟩, ⟨_, exec_debugTap powered .samplePreload, ?_, ?_, ?_⟩,
    fun pins => ⟨_, exec_debugTap powered (.extest pins), fun allowed => ?_, fun barred => ?_⟩, fun code closed => ⟨s.begin, ?_, rfl, rfl⟩⟩⟩
  · split <;> rfl
  · intro allowed
    rw [if_pos (show s.begin.scanAllowed = true from allowed)]
    rfl
  · intro barred
    rw [if_neg (by rw [show s.begin.scanAllowed = false from barred]; decide)]
    rfl
  · rw [if_pos (show s.begin.scanAllowed = true from allowed), extest_tap]
    exact ⟨rfl, rfl, extest_out pins _⟩
  · rw [if_neg (by rw [show s.begin.scanAllowed = false from barred]; decide)]
    exact ⟨rfl, rfl⟩
  · exact (exec_debugTap powered (.debugFunction code)).trans (if_neg (by rw [show s.begin.debugOpen = false from closed]; decide))

end Sys2Proof.Proofs

/-! PROOF. Resets and starts (R407, R486, R487, R489, R494, R495, R593, R594). -/

namespace Sys2Proof.Machine

/-! ### Reverts and failed starts -/

theorem setAreas_running (u : Update) (a b : Area) : (u.setAreas a b).running = u.running := by
  rw [Update.setAreas]
  split <;> rfl

/-- A revert sets the other slot running, with the image that ran kept as a verified download (R489). -/
theorem revert_update (cause : Nat) (s : State) : (s.revert cause).update.trial = 2 ∧
    (s.revert cause).update.running = 1 - s.update.running ∧ (s.revert cause).update.download = 2 := by
  refine ⟨rfl, ?_, rfl⟩
  unfold State.revert
  dsimp only
  split
  · rw [setAreas_running]
  · rfl

theorem startFailed_ofTrial (cause : Nat) {s : State} (trial : s.update.trial = 1) :
    (s.startFailed cause).update.trial = 2 ∧ (s.startFailed cause).update.running = 1 - s.update.running := by
  rw [State.startFailed, if_pos trial]
  obtain ⟨reverted, other, -⟩ := revert_update cause { s with update := { s.update with failedBoots := s.update.failedBoots + 1 } }
  exact ⟨reverted, other⟩

theorem startFailed_outsideTrial (cause : Nat) {s : State} (outside : s.update.trial ≠ 1) :
    (s.startFailed cause).update.trial = s.update.trial ∧ (s.startFailed cause).update.running = s.update.running := by
  rw [State.startFailed, if_neg outside]
  exact ⟨rfl, rfl⟩

/-! ### Handover -/

/-- The keys that the start loads: those of the store, without a half whose check value does not hold (R453, R472). -/
theorem loadKeys_store (s : State) : s.loadKeys.keys.storeCurrent = s.keys.storeCurrent ∧
    (siteCheck s.keys.storeCurrent = s.keys.check → s.loadKeys.keys.current = s.keys.storeCurrent) := by
  unfold State.loadKeys
  dsimp only
  constructor
  · refine State.ite_same (fun u => u.keys.storeCurrent) ?_ ?_
    · rw [State.raise_keys]
      exact State.ite_same (fun u => u.keys.storeCurrent) ((congrArg Keys.storeCurrent State.raise_keys).trans rfl) rfl
    · exact State.ite_same (fun u => u.keys.storeCurrent) ((congrArg Keys.storeCurrent State.raise_keys).trans rfl) rfl
  · intro checks
    have good : ¬(s.keys.generation ≠ 0 ∧ siteCheck s.keys.storeCurrent ≠ s.keys.check) := fun bad => bad.2 checks
    simp only [if_neg good]
    refine State.ite_same (fun u => u.keys.current) ?_ rfl
    rw [State.raise_keys]
    rfl

/-- The state as the ROM hands it over, before its settings and keys are loaded (R486, R595). -/
def State.handed (s : State) : State := { s with
  power := { s.power with phase := .running, state := if s.power.startQuiet then 1 else 0, startQuiet := false }
  trip := { s.trip with reexport := s.trip.again }
  update := { s.update with age := if s.power.rtcValid then s.update.age else 0
                            verifying := decide (s.update.download = 1) && s.update.manifest.any (fun m =>
                              decide (s.update.bits + 1 = 2 ^ (m.count + 1))) } }

theorem handOverTo_eq (s : State) : s.handOverTo = s.handed.loadSettings.loadKeys.owedEvents := rfl

/-- The events owed are raised, and are owed no more. -/
theorem owedEvents_eq (s : State) : ∃ u, Within [.access, .counters, .trip, .panel] s u ∧
    s.owedEvents = { u with
      update := { u.update with reverted := none, failed := none }
      power := { u.power with tamperOwed := 0, unobserved := none } } := by
  have raises {u : State} (code cls reg lane key : Nat) (params : Bytes) (h : Within [.access, .counters, .trip, .panel] s u) :
      Within [.access, .counters, .trip, .panel] s (u.raise code cls reg lane key params) := h.trans State.raise_within
  have tamper {u : State} (l : List Nat) (h : Within [.access, .counters, .trip, .panel] s u) :
      Within [.access, .counters, .trip, .panel] s (l.foldl (fun (t : State) _ => t.raise 0x1501 1 7 0xFF 0 []) u) :=
    Within.foldl (fun _ _ => State.raise_within) h
  have reverted : Within [.access, .counters, .trip, .panel] s (match s.update.reverted with
      | some (c, a, b) => s.raise 0x1605 1 7 0xFF 0 (le 1 c ++ le 4 a.toNat ++ le 4 b.toNat)
      | none => s) := by
    split
    · exact raises _ _ _ _ _ _ (.refl _ _)
    · exact .refl _ _
  have failed {u : State} (h : Within [.access, .counters, .trip, .panel] s u) : Within [.access, .counters, .trip, .panel] s
      (match u.update.failed with
      | some n => u.raise 0x1606 1 7 0xFF 0 (le 2 n)
      | none => u) := by
    split
    · exact raises _ _ _ _ _ _ h
    · exact h
  refine ⟨_, ?_, rfl⟩
  split
  · exact raises _ _ _ _ _ _ (tamper _ (failed reverted))
  · exact tamper _ (failed reverted)

theorem owedEvents_update (s : State) :
    s.owedEvents.update.running = s.update.running ∧ s.owedEvents.update.generation = s.update.generation := by
  obtain ⟨u, within, owed⟩ := owedEvents_eq s
  have update : u.update = s.update := within .update rfl
  rw [owed, ← update]
  exact ⟨rfl, rfl⟩

/-- What the handover loads: the settings of the area in force and the keys of the store; the slot and the generation stay (R486). -/
theorem handOverTo_spec (s : State) : s.handOverTo.settings.inForce = s.update.area.values ∧
    s.handOverTo.update.running = s.update.running ∧ s.handOverTo.update.generation = s.update.generation ∧
    s.handOverTo.keys.storeCurrent = s.keys.storeCurrent ∧
    (siteCheck s.keys.storeCurrent = s.keys.check → s.handOverTo.keys.current = s.keys.storeCurrent) := by
  have keys : s.handOverTo.keys = s.handed.loadSettings.loadKeys.keys := by rw [handOverTo_eq]; exact State.owedEvents_within .keys rfl
  have settings : s.handOverTo.settings = s.handed.loadSettings.settings := by
    rw [handOverTo_eq]
    exact (State.owedEvents_within .settings rfl).trans (State.loadKeys_within .settings rfl)
  have update : s.handed.loadSettings.loadKeys.update = s.handed.update := State.loadKeys_within .update rfl
  obtain ⟨running, generation⟩ := owedEvents_update s.handed.loadSettings.loadKeys
  rw [keys, settings]
  rw [update] at running generation
  exact ⟨rfl, running, generation, loadKeys_store s.handed.loadSettings⟩

theorem migrate_generation (s : State) : s.migrate.update.generation = s.update.generation + 1 := rfl

/-! ### ROM boot -/

section
variable {s : State} (rom : s.power.phase = .rom) (notAsked : ¬(s.power.recover = true ∨ 3 ≤ s.update.failedBoots))
include rom notAsked

/-- The migration that R494 allows: the image runs it, and reads the schema of the area. -/
def State.migratable (migrates : Bool) (s : State) : Prop :=
  migrates = true ∧ s.image.low ≤ s.update.area.schemaNo ∧ s.update.area.schemaNo ≤ s.image.high

theorem romBoot_foreign (foreign : s.foreignArea = true) (migrates : Bool) :
    (s.migratable migrates → romBoot true migrates s = s.migrate.handOverTo) ∧
      (¬ s.migratable migrates → romBoot true migrates s =
        ({ s with update := { s.update with
            trial := 3, unmigrated := (tfind s.update.slots s.update.running).map (·.id), running := 1 - s.update.running
            failed := some s.update.area.schemaNo } } : State).restartFree) := by
  have can : ((migrates && decide (s.image.low ≤ s.update.area.schemaNo) && decide (s.update.area.schemaNo ≤ s.image.high)) = true) ↔
      s.migratable migrates := by simp [State.migratable, and_assoc]
  rw [romBoot, if_neg (not_not_intro rom), if_neg notAsked, if_neg (by decide)]
  dsimp only
  rw [if_neg (by simp [foreign])]
  exact ⟨fun h => if_pos (can.mpr h), fun h => if_neg (fun k => h (can.mp k))⟩

end

/-! ### The watchdog -/

theorem watchdogReset_update (s : State) :
    (watchdogReset s).update.failedBoots = (if s.update.started then s.update.failedBoots else s.update.failedBoots + 1) ∧
      (s.update.trial = 1 → (watchdogReset s).update.trial = 2 ∧ (watchdogReset s).update.running = 1 - s.update.running) ∧
      (s.update.trial ≠ 1 → (watchdogReset s).update.trial = s.update.trial ∧ (watchdogReset s).update.running = s.update.running) := by
  unfold watchdogReset
  cases started : s.update.started
  · refine ⟨startFailed_failedBoots 1 s, startFailed_ofTrial 1, startFailed_outsideTrial 1⟩
  · by_cases trial : s.update.trial = 1
    · obtain ⟨reverted, other, -⟩ := revert_update 1 s
      simp only [Bool.not_true, Bool.false_eq_true, if_false, if_pos trial]
      exact ⟨revert_failedBoots 1 s, fun _ => ⟨reverted, other⟩, fun outside => absurd trial outside⟩
    · simp only [Bool.not_true, Bool.false_eq_true, if_false, if_neg trial]
      exact ⟨rfl, fun h => absurd h trial, fun _ => ⟨rfl, rfl⟩⟩

end Sys2Proof.Machine

namespace Sys2Proof.Proofs

open Sys2Proof Sys2Proof.Machine

/-- Settles O45: resets keep the update record and the stores; the ROM's ways by the outcome of `romBoot` in each case. -/
theorem resetsAndStarts : Obligations.ResetsAndStarts := by
  refine ⟨fun s us alive long => ?rstN, fun s recover ref alt inReset => ?release, fun s v m rom => ?rom, fun s running => ?watchdog,
    fun s running unstarted => ?timer⟩
  case rstN =>
    refine ⟨_, congrArg Host.Outcome.next (if_pos ⟨alive, long⟩), rfl, rfl, rfl, rfl, rfl, rfl, rfl, rfl, rfl, rfl, rfl, rfl, rfl, rfl, ?_⟩
    simp [State.restart, State.emit]
  case release => exact ⟨_, congrArg Host.Outcome.next (if_pos inReset), rfl⟩
  case rom =>
    refine ⟨_, rfl, fun asked => ?_, fun high few => ?_⟩
    · rw [romBoot_toRecovery (s := s.begin) rom asked]
      exact ⟨rfl, rfl⟩
    · have notAsked : ¬(s.power.recover = true ∨ 3 ≤ s.update.failedBoots) := by
        simp [high, few]
      refine ⟨?_, ?_, ?_, ?_⟩
      · rintro rfl
        rw [romBoot_unverified (s := s.begin) rom notAsked]
        exact ⟨rfl, startFailed_failedBoots 2 s.begin, startFailed_ofTrial (s := s.begin) 2⟩
      · rintro rfl own
        rw [romBoot_ownArea (s := s.begin) rom notAsked own]
        obtain ⟨settings, slot, -, store, current⟩ := handOverTo_spec s.begin
        exact ⟨handOverTo_phase _, settings, slot, store, current⟩
      · rintro rfl foreign migratable
        rw [(romBoot_foreign (s := s.begin) rom notAsked foreign m).1 migratable]
        exact ⟨handOverTo_phase _, (handOverTo_spec _).2.2.1.trans (migrate_generation _)⟩
      · rintro rfl foreign unmigratable
        rw [(romBoot_foreign (s := s.begin) rom notAsked foreign m).2 unmigratable]
        exact ⟨rfl, rfl, rfl, rfl⟩
  case watchdog => exact ⟨_, running_next _ running, rfl, rfl, watchdogReset_update s.begin⟩
  case timer =>
    refine ⟨_, (running_next _ running).trans (congrArg _ (if_neg ?_)), rfl, startFailed_failedBoots 2 s.begin, startFailed_ofTrial (s := s.begin) 2⟩
    simp [unstarted]

end Sys2Proof.Proofs

/-! PROOF. Delivery of an image, activation and trial (R476, R479 to R483, R488 to R490). -/

namespace Sys2Proof.Machine

/-! ### Records -/

theorem writeChunk_refused {s : State} {x : ImageRecord} {code : Nat} (h : s.takeRecord x = (s, some code)) :
    State.writeChunk x s = (s, .refused code 0) := by
  rw [State.writeChunk, h]

theorem writeChunk_taken {s y : State} {x : ImageRecord} (h : s.takeRecord x = (y, none)) : State.writeChunk x s = (y, .done []) := by
  rw [State.writeChunk, h]

theorem takeRecord_reserved {s : State} {x : ImageRecord} (reserved : x.reserved = true) :
    s.takeRecord x = (s, some 0x06090030) := if_pos reserved

theorem reportDiscard_update (cause : Nat) (s : State) : (s.reportDiscard cause).update = s.update := by
  unfold State.reportDiscard State.raiseRunning
  split
  · exact State.ite_same (fun u => u.update) State.raise_update rfl
  · rfl

/-- A manifest accepted takes the place of an earlier download (R479). -/
theorem takeManifest_update (m : Image) (s : State) : (s.takeManifest m).update = { s.update with
    manifest := some m, bits := 1, download := 1, age := 0, slots := tset s.update.slots (1 - s.update.running) m } := by
  have kept : (if s.update.download = 1 ∨ s.update.download = 2 then s.reportDiscard 0 else s).update = s.update :=
    State.ite_same (fun u => u.update) (reportDiscard_update 0 s) rfl
  unfold State.takeManifest
  dsimp only
  rw [kept]

section
variable {s : State} (phase : s.power.phase = .running) {x : ImageRecord} (plain : x.reserved = false)
include phase plain

theorem takeRecord_busy (busy : s.update.busy = true) : s.takeRecord x = (s, some 0x0F000008) := by
  rw [State.takeRecord, if_neg (by simp [plain]), if_neg (by simp [phase]), if_pos busy]

variable (free : s.update.busy = false)
include free

theorem takeRecord_kind : s.takeRecord x = if x.kind = 0 then s.takeManifestRecord x else s.takeBodyRecord x := by
  rw [State.takeRecord, if_neg (by simp [plain]), if_neg (by simp [phase]), if_neg (by simp [free])]

theorem takeRecord_manifest (kind : x.kind = 0)
    (new : ¬ ((s.update.download = 1 ∨ s.update.download = 2) ∧ s.update.manifest.any (fun m => m.id = x.imageId) = true)) :
    s.takeRecord x = if manifestAccepted s.keys.development x then (s.takeManifest (manifestImage x), none) else (s, some 0x06040043) := by
  rw [takeRecord_kind phase plain free, if_pos kind, State.takeManifestRecord, if_neg new]
  cases manifestAccepted s.keys.development x
  · rfl
  · rw [if_neg (by decide), if_neg (by simp [phase]), if_pos rfl]

/-- The state with one more body record stored; the last bit starts the verification (R478, R481). -/
def State.withBody (x : ImageRecord) (s : State) : State :=
  let u := { s.update with bits := s.update.bits + 2 ^ x.index
                           slots := tset s.update.slots (1 - s.update.running) ((s.update.target).store x.index x.data) }
  { s with update := { u with verifying := u.full } }

theorem takeRecord_body (kind : x.kind ≠ 0) {m : Image} (manifest : s.update.manifest = some m)
    (open' : s.update.download = 1 ∨ s.update.download = 2) (same : m.id = x.imageId) (first : 1 ≤ x.index) (last : x.index ≤ m.count)
    (length : x.dataLen = bodyLength m x.index) (new : bit s.update.bits x.index = false) :
    s.takeRecord x = if x.magicOk = true ∧ x.tagOk = true then (s.withBody x, none) else (s, some 0x06040043) := by
  have known : ¬((s.update.download ≠ 1 ∧ s.update.download ≠ 2) ∨ m.id ≠ x.imageId) := by
    rintro (⟨h, k⟩ | h)
    · exact open'.elim h k
    · exact h same
  have fits : ¬(x.index = 0 ∨ m.count < x.index ∨ x.dataLen ≠ bodyLength m x.index) := by
    rintro (h | h | h)
    · omega
    · omega
    · exact h length
  rw [takeRecord_kind phase plain free, if_neg kind, State.takeBodyRecord]
  dsimp only
  split
  · next none => simp [manifest] at none
  · next m' found =>
    obtain rfl : m = m' := Option.some.inj (manifest.symm.trans found)
    rw [if_neg known, if_neg fits, if_neg (by simp [new])]
    by_cases ok : x.magicOk = true ∧ x.tagOk = true
    · rw [if_pos ok, if_neg (by simp [ok])]
      rfl
    · rw [if_neg ok, if_pos (by simpa [imp_iff_not_or] using ok)]

end

theorem withBody_verifying {s : State} {x : ImageRecord} {m : Image} (manifest : s.update.manifest = some m) :
    (s.withBody x).update.verifying = true ↔ s.update.bits + 2 ^ x.index + 1 = 2 ^ (m.count + 1) := by
  unfold State.withBody Update.full
  simp [manifest]

/-! ### Verification -/

/-- A verification that ends in a running image (R481): digest and image decide, with their events. -/
theorem verified_spec {s : State} (phase : s.power.phase = .running) {m : Image} (manifest : s.update.manifest = some m) :
    s.verified.update.verifying = false ∧ s.verified.power = s.power ∧
      (if s.update.target.intact = true then s.verified.update.download = 2 ∧ s.verified.reported 0x1601 0 0 0xFF (le 8 m.id)
        else s.verified.update.download = 4 ∧ s.verified.update.bits = 0 ∧ s.verified.reported 0x1602 1 7 0xFF (le 8 m.id)) := by
  rw [State.verified, manifest]
  dsimp only
  split
  · rw [if_neg (by simp [phase]), State.raiseRunning, if_pos phase, State.raise_update, State.raise_power]
    exact ⟨rfl, rfl, rfl, State.raise_reported ..⟩
  · rw [State.raiseRunning, if_pos phase, State.raise_update, State.raise_power]
    exact ⟨rfl, rfl, rfl, rfl, State.raise_reported ..⟩

theorem downloadVerified_running {s : State} (phase : s.power.phase = .running) (verifying : s.update.verifying = true) {m : Image}
    (manifest : s.update.manifest = some m) (nothingDue : s.update.endDue = none) :
    downloadVerified s = { s.verified with update := { s.verified.update with endDue := none } } := by
  rw [downloadVerified, if_neg (by simp [verifying]), nothingDue]
  dsimp only
  exact if_neg (by simp [(verified_spec phase manifest).2.1, phase])

theorem reportDiscard_reported {s : State} (phase : s.power.phase = .running) {m : Image} (manifest : s.update.manifest = some m)
    (cause : Nat) : (s.reportDiscard cause).reported 0x1603 0 0 0xFF (le 1 cause ++ le 8 m.id) := by
  rw [State.reportDiscard, manifest]
  dsimp only
  rw [State.raiseRunning, if_pos phase]
  exact State.raise_reported ..

theorem downloadExpire_eq {s : State} (receiving : s.update.download = 1) (old : s.cfgNat 0x2800 4 * 86400000 ≤ s.update.age) :
    downloadExpire s = { s.reportDiscard 1 with update := { s.update.dropSlot with download := 3, bits := 0, verifying := false } } := by
  rw [downloadExpire, if_pos ⟨receiving, old⟩]
  dsimp only
  rw [reportDiscard_update]

/-- A download discarded is gone, with its slot where that was given to it (R481). -/
theorem discardDownload_spec (s : State) : ∃ y, s.discardDownload = (y, .done []) ∧
    y.update = { s.update.dropSlot with download := 0, manifest := none, bits := 0, verifying := false } := by
  have kept : (if s.update.download = 0 then s else s.reportDiscard 2).update = s.update :=
    State.ite_same (fun u => u.update) rfl (reportDiscard_update 2 s)
  refine ⟨_, rfl, ?_⟩
  dsimp only
  rw [kept]

end Sys2Proof.Machine

namespace Sys2Proof.Proofs

open Sys2Proof Sys2Proof.Machine

/-- Settles O44: each record by the row of R479 that it meets, and each command by its body. -/
theorem imagesDelivered : Obligations.ImagesDelivered := by
  intro s running
  refine ⟨fun r x granted => ?chunk, fun m stamp verifying manifest nothingDue => ?verified, fun m receiving manifest old => ?expire,
    fun r granted => ?discard, fun r granted free => ?activate, fun r granted trial => ?confirm, fun trial passed free => ?limit⟩
  case chunk =>
    obtain ⟨u, hu, next⟩ := exec_serveWrite_answer (c := .imageChunk r x) rfl granted
    have phase : u.power.phase = .running := by rw [hu.power, running]
    refine ⟨_, next, fun reserved => ?_, fun plain busy => ?_, fun plain free kind new => ⟨fun accepted => ?_, fun barred => ?_⟩,
      fun m plain free kind manifest open' same first last length new => ⟨fun ok => ?_, fun bad => ?_⟩⟩
    · rw [writeChunk_refused (takeRecord_reserved reserved), ← hu.update]
      exact ⟨State.answer_says .., answer_update ..⟩
    · rw [← hu.update] at busy ⊢
      rw [writeChunk_refused (takeRecord_busy phase plain busy)]
      exact ⟨State.answer_says .., answer_update ..⟩
    · rw [← hu.update] at free new ⊢
      rw [← hu.keys] at accepted
      rw [writeChunk_taken ((takeRecord_manifest phase plain free kind new).trans (if_pos accepted))]
      obtain ⟨a, update⟩ := answer_update (u.takeManifest (manifestImage x)) r (.done [])
      rw [update, takeManifest_update]
      exact ⟨State.answer_says .., rfl, rfl, rfl, rfl, tfind_tset ..⟩
    · rw [← hu.update] at free new ⊢
      rw [← hu.keys] at barred
      rw [writeChunk_refused ((takeRecord_manifest phase plain free kind new).trans (if_neg (by simp [barred])))]
      exact ⟨State.answer_says .., answer_update ..⟩
    · rw [← hu.update] at free manifest open' new ⊢
      rw [writeChunk_taken ((takeRecord_body phase plain free kind manifest open' same first last length new).trans (if_pos ok))]
      obtain ⟨a, update⟩ := answer_update (u.withBody x) r (.done [])
      rw [update]
      exact ⟨State.answer_says .., rfl, tfind_tset .., withBody_verifying manifest⟩
    · rw [← hu.update] at free manifest open' new ⊢
      rw [writeChunk_refused ((takeRecord_body phase plain free kind manifest open' same first last length new).trans (if_neg bad))]
      exact ⟨State.answer_says .., answer_update ..⟩
  case verified =>
    refine ⟨_, running_serving (fun u => downloadVerified (u.stamped stamp)) running, ?_⟩
    rw [downloadVerified_running (s := s.begin.stamped stamp) running verifying manifest nothingDue]
    obtain ⟨ended, -, outcome⟩ := verified_spec (s := s.begin.stamped stamp) running manifest
    refine ⟨ended, ?_⟩
    split
    · next intact =>
      rw [if_pos (show (s.begin.stamped stamp).update.target.intact = true from intact)] at outcome
      exact ⟨outcome.1, State.reported_congr outcome.2 rfl rfl rfl⟩
    · next broken =>
      rw [if_neg (show ¬(s.begin.stamped stamp).update.target.intact = true from broken)] at outcome
      exact ⟨outcome.1, outcome.2.1, State.reported_congr outcome.2.2 rfl rfl rfl⟩
  case expire =>
    refine ⟨_, (running_next _ running).trans (congrArg _ (downloadExpire_eq (s := s.begin) receiving old)), rfl, ?_⟩
    exact State.reported_congr (reportDiscard_reported (s := s.begin) running manifest 1) rfl rfl rfl
  case discard =>
    obtain ⟨u, hu, next⟩ := exec_serveWrite_answer (c := .discardDownload r) rfl granted
    refine ⟨_, next, ?_⟩
    obtain ⟨y, answered, update⟩ := discardDownload_spec u
    rw [show State.updateOrder r 3 u = _ from answered]
    obtain ⟨a, kept⟩ := answer_update y r (.done [])
    rw [kept, update, ← hu.update]
    exact ⟨State.answer_says .., rfl, rfl, rfl, rfl, rfl⟩
  case activate =>
    obtain ⟨u, hu, next⟩ := exec_serveWrite_answer (c := .activate r) rfl granted
    refine ⟨_, next, ?_⟩
    rw [show State.updateOrder r 1 u = ({ u with update := { u.update with activateDue := some r } }, .pending) from
      if_neg (by simp [hu.update, free]), ← hu.update]
    exact ⟨State.answer_says .., answer_update ..⟩
  case confirm =>
    obtain ⟨u, hu, next⟩ := exec_serveWrite_answer (c := .confirmTrial r) rfl granted
    refine ⟨_, next, ?_⟩
    rw [show State.updateOrder r 2 u = ({ u with update := { u.update with confirmDue := some r } }, .done []) from
      if_neg (by simp [hu.update, trial]), ← hu.update]
    exact ⟨State.answer_says .., answer_update ..⟩
  case limit =>
    obtain ⟨reverted, other, download⟩ := revert_update 0 s.begin
    exact ⟨_, (running_next _ running).trans (congrArg _ (if_pos ⟨trial, passed, by simp [free]⟩)), rfl, rfl, reverted, other, download⟩

end Sys2Proof.Proofs

/-! PROOF. The pending half of the key register, debug certificates, tamper and VBAT (R456, R462 to R464, R467 to R472). -/

namespace Sys2Proof.Machine

/-! ### The session that a request comes in -/

/-- Admission over VAP marks the session's replay window, and leaves its keys (R380). -/
theorem admitted_transport {s u : State} {r : Req} {k : Nat} {e : Session} (admitted : s.begin.admitted r = .go u)
    (origin : r.origin = .vap k) (session : tfind s.access.sessions k = some e) :
    ∃ e', tfind u.access.sessions k = some e' ∧ e'.transport = e.transport := by
  have found : tfind (s.begin.stamped r.stamp).access.sessions k = some e := session
  unfold State.admitted at admitted
  simp only [origin, found] at admitted
  split at admitted
  · cases admitted
  · unfold admitVap at admitted
    split at admitted
    · cases admitted
    · split at admitted
      · cases admitted
      · cases admitted
      · dsimp only at admitted
        split at admitted
        · cases admitted
        · split at admitted
          · cases admitted
          · split at admitted
            · cases admitted
            · cases admitted
              exact ⟨_, tfind_tset _ _ _, rfl⟩

/-- A granted write runs its body on the state that its admission leaves. -/
theorem exec_serveWrite_admitted {c : Instr} {s : State} {r : Req} {index sub : Nat} {data : Bytes} {body : State → State × Answer}
    (meaning : exec c s = running (State.serveWrite r index sub data body) s) (granted : s.grants r index sub data) :
    ∃ u, s.begin.admitted r = .go u ∧ exec c s = .next ((body u).1.answer r (body u).2) ∧ u.keys = s.keys := by
  obtain ⟨u, admitted, found⟩ := State.admitted_takes granted.1
  have arrived := Arrived.mk' found
  refine ⟨u, admitted, meaning.trans ((running_next _ granted.1.1).trans (congrArg _ ?_)), arrived.keys⟩
  rw [State.serveWrite, State.serve, admitted]
  dsimp only
  rw [State.checkedWrite, State.commandCheck_arrived arrived, granted.2]

/-! ### The pending half -/

/-- A pending half that may be loaded is taken where it unwraps (R462). -/
theorem loadPending_eq {s : State} {generation : Nat} {reserved : Bytes} (zero : ∀ b ∈ reserved, b = 0)
    (empty : s.keys.pendingState = 0) (follows : followsGeneration s.keys.generation generation = true) (key : Option Bytes)
    (check : U32) : s.loadPending generation reserved key check =
      match key with
      | none => refuse 0x06040043 s
      | some k => confirm (s.onKeys (fun x => { x with
          pendingKey := k, storePending := k, pendingGeneration := generation, pendingCheck := check, pendingState := 1 })) := by
  unfold State.loadPending
  exact (if_neg (by simpa using zero)).trans ((if_neg (by simp [empty])).trans (if_neg (by simp [follows])))

/-- The promotion of the pending half, whether or not the ports send under it already (R464). -/
theorem rolloverWindowEnd_keys {s : State} {tick : U32} (ends : s.keys.windowEnd = some tick) (announced : s.keys.pendingState = 3)
    (after : atOrAfter s.clock.tick tick = true) :
    (rolloverWindowEnd s).keys = s.keys.promote ∨ (rolloverWindowEnd s).keys = ({ s.keys with switched := true } : Keys).promote := by
  rw [rolloverWindowEnd, ends]
  dsimp only
  rw [if_pos ⟨announced, after⟩, endRollover_keys]
  exact (rolloverSwitch_keys s).imp (congrArg _) (congrArg _)

/-! ### Certificates, tamper and VBAT -/

theorem debugCertificate_confirms {s : State} {opens : Bool} (quiet : s.power.state = 1) (closed : opens = true → s.keys.security ≠ 2)
    (open' : opens = false → s.keys.security = 2 ∧ s.keys.development = false) :
    s.debugCertificate opens 1 Config.serial s.power.resets true = confirm { s with
      keys := { s.keys.zeroise with security := if opens then 2 else 0, debugDue := some opens }
      power := { s.power with resetDue := true } } := by
  rw [State.debugCertificate, if_neg (by decide), if_neg, if_neg (by simp)]
  · rfl
  · cases opens
    · simp [quiet, open']
    · simp [quiet, closed]

theorem tamperDetected_spec (s : State) : (tamperDetected s).keys = { s.keys with tamper := s.keys.tamper + 1 } ∧
    (s.power.phase = .running → (tamperDetected s).reported 0x1501 1 7 0xFF []) ∧
    (s.power.phase ≠ .running → (tamperDetected s).power.tamperOwed = s.power.tamperOwed + 1) := by
  unfold tamperDetected
  refine ⟨?_, fun running => ?_, fun down => ?_⟩
  · exact State.ite_same (fun u => u.keys) State.raise_keys rfl
  · rw [if_pos (show (s.onKeys _).power.phase = .running from running)]
    exact State.raise_reported ..
  · rw [if_neg (show ¬(s.onKeys _).power.phase = .running from down)]
    rfl

/-- The loss of VBAT, by the power state that the part is in (R471, R472). -/
theorem vbatLost_spec {s : State} (present : s.power.vbatPresent = true) :
    (vbatLost s).power.vbatPresent = false ∧ (vbatLost s).keys = s.keys ∧
      (s.power.phase = .running → (vbatLost s).reported 0x1503 1 2 0xFF []) ∧
      (s.power.phase = .standby → (vbatLost s).power.phase = .off ∧ (vbatLost s).power.rtcValid = false ∧
        (vbatLost s).power.standbyFlag = false ∧ (vbatLost s).power.pwrEn = true) ∧
      (s.power.phase = .off → (vbatLost s).power.phase = .off ∧ (vbatLost s).power.rtcValid = false) := by
  rw [vbatLost, if_neg (by simp [present])]
  dsimp only
  split
  · next running =>
    rw [State.raise_power, State.raise_keys]
    exact ⟨rfl, rfl, fun _ => State.raise_reported .., by simp [running], by simp [running]⟩
  · next off => exact ⟨rfl, rfl, by simp [off], by simp [off], fun _ => ⟨off, rfl⟩⟩
  · next standby => exact ⟨rfl, rfl, by simp [standby], fun _ => ⟨rfl, rfl, rfl, rfl⟩, by simp [standby]⟩
  · next notRunning notOff notStandby => exact ⟨rfl, rfl, fun h => absurd h notRunning, fun h => absurd h notStandby, fun h => absurd h notOff⟩

theorem vbatRestored_spec {s : State} (lost : s.power.vbatPresent = false) (n : Nat) :
    (vbatRestored n s).power.vbatPresent = true ∧ (vbatRestored n s).power.rtcValid = false ∧ (vbatRestored n s).keys = s.keys ∧
      (s.power.phase = .running → (vbatRestored n s).reported 0x1504 0 0 0xFF (le 4 n)) ∧
      (s.power.phase ≠ .running → (vbatRestored n s).power.unobserved = some n) := by
  rw [vbatRestored, if_neg (by simp [lost])]
  dsimp only
  split
  · next running =>
    rw [State.raise_power, State.raise_keys]
    exact ⟨rfl, rfl, rfl, fun _ => State.raise_reported .., fun down => absurd running down⟩
  · next down => exact ⟨rfl, rfl, rfl, fun running => absurd running down, fun _ => rfl⟩

end Sys2Proof.Machine

namespace Sys2Proof.Proofs

open Sys2Proof Sys2Proof.Machine

/-- Settles O42: each key command by its body, with the key that its session unwraps; the window's end by `Keys.promote`. -/
theorem pendingHalf : Obligations.PendingHalf := by
  intro s running
  refine ⟨fun r k generation e reserved wrapped check granted three zero forty origin session empty follows => ?write,
    fun r granted loaded free => ?verify, fun r granted verified free => ?announce, fun r granted held free => ?discard,
    fun tick ends announced after => ?window⟩
  case write =>
    obtain ⟨u, admitted, next, keys⟩ := exec_serveWrite_admitted (c := .pendingKeyWrite r generation reserved wrapped check) rfl granted
    refine ⟨_, next, ?_⟩
    obtain ⟨e', session', transport⟩ := admitted_transport admitted origin session
    have unwrapped : u.unwrapped r.origin wrapped = Crypto.unwrap e.transport wrapped := by
      simp only [State.unwrapped, origin, session', transport]
    rw [if_neg (by simp [three, forty]), loadPending_eq zero (by rw [keys, empty]) (by rw [keys, follows]), unwrapped]
    refine ⟨fun key unwraps => ?_, fun fails => ?_⟩
    · rw [unwraps]
      refine ⟨State.answer_says .., ?_⟩
      rw [State.answer_keys, ← keys]
      rfl
    · rw [fails]
      exact ⟨State.answer_says .., State.answer_keys.trans keys⟩
  case verify =>
    obtain ⟨u, hu, next⟩ := exec_serveWrite_answer (c := .keyVerify r) rfl granted
    refine ⟨_, next, fun holds => ?_, fun differs => ?_⟩
    all_goals
      rw [show State.keyOrder r 1 u = u.verifyKey r from rfl, State.verifyKey, if_neg (by simp [hu.keys, loaded, free])]
    · rw [if_neg (by rw [hu.keys]; exact not_not_intro holds), State.answer_keys, ← hu.keys]
      exact ⟨State.answer_says .., rfl⟩
    · rw [if_pos (by rw [hu.keys]; exact differs), State.answer_keys, ← hu.keys]
      exact ⟨State.answer_says .., rfl, rfl, rfl, rfl⟩
  case announce =>
    obtain ⟨u, hu, next⟩ := exec_serveWrite_answer (c := .keyAnnounce r) rfl granted
    refine ⟨_, next, ?_⟩
    rw [show State.keyOrder r 2 u = u.announceKey r from rfl, State.announceKey, if_neg (by simp [hu.keys, verified, free]),
      State.answer_keys, ← hu.keys]
    exact ⟨State.answer_says .., rfl⟩
  case discard =>
    obtain ⟨u, hu, next⟩ := exec_serveWrite_answer (c := .keyDiscard r) rfl granted
    refine ⟨_, next, ?_⟩
    have discards : ¬((u.keys.pendingState ≠ 1 ∧ u.keys.pendingState ≠ 2) ∨ u.keys.announceDue.isSome = true) := by
      rw [hu.keys]
      rcases held with held | held <;> simp [held, free]
    have keys : ((u.answerOpt u.keys.verifyDue (.refused 0x08000022 0)).onKeys (fun k => { k.dropPending with owed := 1 })).keys =
        { s.keys.dropPending with owed := 1 } :=
      congrArg (fun k : Keys => { k.dropPending with owed := 1 }) (State.answerOpt_keys.trans hu.keys)
    rw [show State.keyOrder r 3 u = u.discardKey from rfl, State.discardKey, if_neg discards]
    refine ⟨State.answer_says .., ?_⟩
    rw [State.answer_keys, show (confirm (State.onKeys _ _)).1.keys = _ from keys]
    exact ⟨rfl, rfl, rfl, rfl, rfl⟩
  case window =>
    refine ⟨_, running_next _ running, ?_⟩
    rcases rolloverWindowEnd_keys (s := s.begin) ends announced after with keys | keys
    · rw [keys]
      exact ⟨rfl, rfl, rfl, rfl, rfl, rfl⟩
    · rw [keys]
      exact ⟨rfl, rfl, rfl, rfl, rfl, rfl⟩

/-- Settles O43: the certificates by `debugCertificate_confirms`, the rest by the lemma of each event. -/
theorem certificatesAndTamper : Obligations.CertificatesAndTamper := by
  refine ⟨fun s r opens kind running code granted quiet closed open' => ?certificate, fun s => ⟨_, rfl, tamperDetected_spec s.begin⟩,
    fun s present => ⟨_, rfl, vbatLost_spec (s := s.begin) present⟩, fun s n lost => ⟨_, rfl, vbatRestored_spec (s := s.begin) lost n⟩⟩
  have meaning : exec (if opens then .debugCertificateOpen r 1 Config.serial s.power.resets true
      else .debugCertificateClose r 1 Config.serial s.power.resets true) s =
      Machine.running (debugCertificate opens r 1 Config.serial s.power.resets true) s := by cases opens <;> rfl
  obtain ⟨u, hu, next⟩ := exec_serveWrite_answer meaning (code ▸ granted)
  refine ⟨_, next, ?_⟩
  rw [← hu.power, debugCertificate_confirms (by rw [hu.power, quiet]) (by rwa [hu.keys]) (by rwa [hu.keys]), State.answer_keys,
    State.answer_power]
  exact ⟨State.answer_says .., rfl, rfl, rfl, rfl, rfl, rfl, rfl, rfl⟩

end Sys2Proof.Proofs

/-! PROOF. Halt commands: assert, restore and resume (R211, R215 to R222, R229). -/

namespace Sys2Proof.Machine

/-- A record that stands nowhere reads as CLEAR, so the records listed speak for all. -/
theorem codes_of_records {s : State} (h : ∀ k ∈ s.records, (codeOf (s.haltRecord k)).isSome) (k : Nat) :
    (codeOf (s.haltRecord k)).isSome := by
  match k with
  | 0 => exact h 0 (by simp [State.records])
  | 1 => exact h 1 (by simp [State.records])
  | m + 2 =>
    by_cases plain : s.lane m = {}
    · rw [State.haltRecord, plain]
      decide
    · exact h (m + 2) (by simpa [State.records, Units.listed] using mem_of_tget plain)

/-- A lane that is not at its defaults stands among the records. -/
theorem record_of_lane {s : State} {n : Nat} (h : s.lane n ≠ {}) : n + 2 ∈ s.records := by
  simpa [State.records, Units.listed] using mem_of_tget h

/-- A lane after a change of one lane to what is not the default, or of canonical tables. -/
theorem lane_onLane_of {s : State} {n : Nat} {f : Lane → Lane} (h : s.tablesWf ∨ f (s.lane n) ≠ {}) (m : Nat) :
    (s.onLane n f).lane m = if m = n then f (s.lane n) else s.lane m := by
  rcases h with ⟨wf, -, -⟩ | h
  · exact tget_tput n m _ wf
  · by_cases same : m = n
    · rw [if_pos same, same, lane_same_onLane]
    · rw [if_neg same, lane_other_onLane same h]

/-- A change of one lane that keeps a field keeps it in every lane. -/
theorem lane_onLane_field {α : Type} {s : State} {n : Nat} {f : Lane → Lane} (g : Lane → α) (same : ∀ l, g (f l) = g l)
    (h : s.tablesWf ∨ f (s.lane n) ≠ {}) (m : Nat) : g ((s.onLane n f).lane m) = g (s.lane m) := by
  rw [lane_onLane_of h]
  split
  · next e => rw [same, e]
  · rfl

/-- What a host source leaves as it was (R211). -/
structure SourceOnly (s t : State) : Prop where
  record : ∀ k, t.haltRecord k = s.haltRecord k
  state : ∀ m, (t.lane m).state = (s.lane m).state
  silent : t.halt.silent = s.halt.silent
  haltId : t.halt.haltId = s.halt.haltId
  decided : t.halt.decided = s.halt.decided

theorem hostSource_only {s : State} {on : Bool} (h : s.tablesWf ∨ on = true) (scope lane : Nat) :
    SourceOnly s (s.hostSource scope lane on) := by
  have kept : ∀ {α : Type} (g : Lane → α) (_ : ∀ l : Lane, g { l with hostHalt := on } = g l) (m : Nat),
      g ((s.onLane lane (fun l => { l with hostHalt := on })).lane m) = g (s.lane m) := fun g same m =>
    lane_onLane_field g same (h.imp_right (fun set e => by cases (congrArg Lane.hostHalt e).symm.trans set)) m
  unfold State.hostSource
  split
  · refine ⟨fun k => ?_, kept Lane.state fun _ => rfl, rfl, rfl, rfl⟩
    match k with
    | 0 => rfl
    | 1 => rfl
    | m + 2 => exact kept Lane.haltRecord (fun _ => rfl) m
  · exact ⟨fun k => match k with | 0 => rfl | 1 => rfl | _ + 2 => rfl, fun _ => rfl, rfl, rfl, rfl⟩
  · exact ⟨fun k => match k with | 0 => rfl | 1 => rfl | _ + 2 => rfl, fun _ => rfl, rfl, rfl, rfl⟩

theorem hostSource_active (s : State) (scope lane : Nat) (on : Bool) : (s.hostSource scope lane on).hostActive scope lane = on := by
  unfold State.hostActive State.hostSource
  split
  · exact congrArg Lane.hostHalt (lane_same_onLane ..)
  · rfl
  · split
    · contradiction
    · contradiction
    · rfl

theorem Keeps.hostActive {s t : State} (h : Keeps s t) (scope lane : Nat) : t.hostActive scope lane = s.hostActive scope lane := by
  unfold State.hostActive
  split
  · rw [h.lane]
  · exact h.hostCell
  · exact h.hostSite

/-- The halt record that a halt command names (R215). -/
def scopeRecord (scope lane : Nat) : Nat := if scope = 1 then lane + 2 else 3 - scope

/-- A scope with a host source has its record's source active (R211). -/
theorem recordActive_of_host {s : State} {scope lane : Nat} (valid : scope = 1 ∧ lane < 192 ∨ (scope = 2 ∨ scope = 3) ∧ lane = 0)
    (h : s.hostActive scope lane = true) : s.recordActive (scopeRecord scope lane) = true := by
  rcases valid with ⟨rfl, -⟩ | ⟨rfl | rfl, -⟩
  · exact h
  · have host : s.halt.hostCell = true := h
    show s.cellActive = true
    simp [State.cellActive, host]
  · have host : s.halt.hostSite = true := h
    show s.siteActive = true
    simp [State.siteActive, State.ownSite, host]

theorem scopeOk_of {scope lane : Nat} (valid : scope = 1 ∧ lane < 192 ∨ (scope = 2 ∨ scope = 3) ∧ lane = 0) : scopeOk scope 0 lane = true := by
  rcases valid with ⟨rfl, below⟩ | ⟨rfl | rfl, rfl⟩
  · simpa [scopeOk] using below
  · rfl
  · rfl

theorem scopeRecord_mem {s : State} {scope lane : Nat} (valid : scope = 1 ∧ lane < 192 ∨ (scope = 2 ∨ scope = 3) ∧ lane = 0)
    (h : s.hostActive scope lane = true) : scopeRecord scope lane ∈ s.records := by
  rcases valid with ⟨rfl, -⟩ | ⟨rfl | rfl, -⟩
  · exact record_of_lane fun e => by simp [State.hostActive, e] at h
  · simp [scopeRecord, State.records]
  · simp [scopeRecord, State.records]

/-- The decision keeps the host sources and every lane's state. -/
theorem decideHalt_sources (s : State) : (∀ scope lane, s.decideHalt.hostActive scope lane = s.hostActive scope lane) ∧
    (∀ m, (s.decideHalt.lane m).state = (s.lane m).state) := by
  obtain ⟨u, -, lanes, cell, site, same, -, -, cell', site', -, -⟩ := decideHalt_spec s
  have lane : ∀ m, s.decideHalt.lane m = u.lane m := fun m => by unfold State.lane; rw [same]
  refine ⟨fun scope n => ?_, fun m => ?_⟩
  · unfold State.hostActive
    split
    · rw [lane]
      rcases lanes n with e | e <;> rw [e]
    · exact cell'.trans cell
    · exact site'.trans site
  · rw [lane]
    rcases lanes m with e | e <;> rw [e]

/-- A decision counts a new halt ID where a record with an active source was CLEAR (R217). -/
theorem decideHalt_fresh {s : State} {k : Nat} (mem : k ∈ s.records) (source : s.recordActive k = true) (clear : s.haltRecord k = 0xFF00) :
    s.decideHalt.halt.haltId = s.halt.haltId + 1 ∧ s.decideHalt.halt.decided = s.halt.decided + 1 := by
  obtain ⟨u, -, -, -, -, -, -, -, -, -, fresh, -⟩ := decideHalt_spec s
  have zero : recordCode (s.haltRecord k) = 0 := by rw [clear]; decide
  exact fresh ⟨k, List.mem_filter.mpr ⟨mem, by simp [source, zero]⟩, zero⟩

/-- A decision takes no record out of force (R217). -/
theorem sourcesChanged_stands {s : State} {k : Nat} (loud : s.halt.silent = false)
    (codes : ∀ k ∈ s.records, (codeOf (s.haltRecord k)).isSome) (stands : s.haltRecord k = 0xFE01) : s.sourcesChanged.haltRecord k = 0xFE01 := by
  obtain ⟨u, records, -, -, -, lanes, site, cell, -⟩ := decideHalt_spec s
  have same : s.decideHalt.haltRecord k = u.haltRecord k := by
    match k with
    | 0 => exact site
    | 1 => exact cell
    | m + 2 =>
      unfold State.haltRecord State.lane
      rw [lanes]
  rw [(sourcesChanged_spec loud codes).record, same, records]
  split
  · exact coded1
  · exact stands

/-- A lane command meets the lane as it stood when it came. -/
theorem Keeps.frozen {s t : State} (h : Keeps s t) (n : Nat) : t.frozen n = s.frozen n := by
  unfold State.frozen
  rw [h.lane]

theorem record_scope (scope lane : Nat) (req : Option Req) (i : Int) (h : scope = 1 ∨ scope = 2 ∨ scope = 3) :
    ({ scope := scope, lane := lane, req := req, instant := i } : Resume).record = scopeRecord scope lane := by
  rcases h with rfl | rfl | rfl <;> rfl

theorem now_arrived {s u : State} {r : Req} (h : Arrived s u r) : u.now = s.clock.source + (max s.clock.offset r.stamp : Nat) := by
  rw [State.now, h.clock]

/-- What the answer of a command leaves of the halt chain. -/
theorem Keeps.of_answer {y z : State} (h : Within [.access, .update] y z) : Keeps y z := .of_within h rfl rfl

end Sys2Proof.Machine

namespace Sys2Proof.Proofs

open Sys2Proof Sys2Proof.Machine

/-- Settles O18: the decision on the state with the host source set, by `sourcesChanged_active` and `decideHalt_fresh`. -/
theorem haltAssertDecides : Obligations.HaltAssertDecides := by
  intro s r w scope lane running granted fields loud target codes
  have valid : scope = 1 ∧ lane < 192 ∨ (scope = 2 ∨ scope = 3) ∧ lane = 0 := target.imp_left fun ⟨one, below, _⟩ => ⟨one, below⟩
  refine exec_serveWrite (c := .haltAssert r w) (body := State.assertHalt w) rfl granted fun u hu => ?_
  have found : Keeps s u := .of_within hu.within rfl rfl
  have taken : ¬(scope = 1 ∧ (u.laneIs lane .vacant = true ∨ u.frozen lane = true)) := by
    rintro ⟨one, barred⟩
    rcases target with ⟨-, -, occupied, sound⟩ | ⟨other, -⟩
    · rw [State.laneIs, State.frozen, found.lane] at barred
      rw [State.laneIs] at occupied
      rw [State.frozen] at sound
      simp_all
    · omega
  have body : u.assertHalt w = ((u.hostSource scope lane true).sourcesChanged, .done []) := by
    simp only [State.assertHalt, fields]
    rw [if_neg (by simp [scopeOk_of valid]), if_neg (by simp [found.silent, loud]), if_neg taken]
  refine ⟨_, body, fun z hz => ?_⟩
  have source := hostSource_only (s := u) (.inr (rfl : true = true)) scope lane
  generalize hx : u.hostSource scope lane true = x at source hz
  have active : x.hostActive scope lane = true := hx ▸ hostSource_active u scope lane true
  have loud' : x.halt.silent = false := source.silent.trans (found.silent.trans loud)
  have codes' : ∀ k ∈ x.records, (codeOf (x.haltRecord k)).isSome := fun k _ => by
    rw [source.record, found.record]
    exact codes_of_records codes k
  have mem := scopeRecord_mem valid active
  have decided := (sourcesChanged_spec loud' codes').trans (.of_answer hz)
  obtain ⟨hosts, states⟩ := decideHalt_sources x
  refine ⟨⟨?_, ?_, fun clear => ?_⟩, fun m => ?_⟩
  · rw [Keeps.record (.of_answer hz)]
    exact (sourcesChanged_active loud' codes' mem (recordActive_of_host valid active)).trans coded1
  · rw [decided.hostActive, hosts, active]
  · have fresh := decideHalt_fresh mem (recordActive_of_host valid active) ((source.record _).trans ((found.record _).trans clear))
    rw [decided.haltId, decided.decided, fresh.1, fresh.2, source.haltId, source.decided, found.haltId, found.decided]
    exact ⟨rfl, rfl⟩
  · rw [decided.lane, states, source.state, found.lane]

/-- Settles O19: a restore by `sourcesChanged_stands` on canonical tables, a resume by its place in the queue of resumes. -/
theorem haltRestoreAndResumeWait : Obligations.HaltRestoreAndResumeWait := by
  intro s r w scope lane running wf loud valid codes
  have scopes : scope = 1 ∨ scope = 2 ∨ scope = 3 := by omega
  refine ⟨fun granted fields role sound active => ?restore, fun granted fields sound rests => ?resume, fun one faulty => ⟨fun granted fields role => ?_, fun granted fields => ?_⟩⟩
  case restore =>
    refine exec_serveWrite (c := .haltRestore r w) (body := fun t => t.restoreHalt (t.roles r.origin) w) rfl granted fun u hu => ?_
    have found : Keeps s u := .of_within hu.within rfl rfl
    have body : u.restoreHalt (u.roles r.origin) w = ((u.hostSource scope lane false).sourcesChanged, .done []) := by
      simp only [State.restoreHalt, fields]
      rw [if_neg (by simp [scopeOk_of valid]), if_neg (by simp [hu.roles, role]),
        if_neg (by simpa [found.silent, loud, found.hostActive, active, found.frozen] using sound)]
    refine ⟨_, body, fun z hz => ?_⟩
    have wf' : u.tablesWf := by
      rw [State.tablesWf, hu.lanes, hu.within .routes rfl, hu.within .airLanes rfl]
      exact wf
    have source := hostSource_only (on := false) (.inl wf') scope lane
    have inactive := hostSource_active u scope lane false
    generalize u.hostSource scope lane false = x at source hz inactive
    have loud' : x.halt.silent = false := source.silent.trans (found.silent.trans loud)
    have codes' : ∀ k ∈ x.records, (codeOf (x.haltRecord k)).isSome := fun k _ => by
      rw [source.record, found.record]
      exact codes_of_records codes k
    refine ⟨?_, fun k stands => ?_⟩
    · rw [((sourcesChanged_spec loud' codes').trans (.of_answer hz)).hostActive, (decideHalt_sources x).1, inactive]
    · rw [Keeps.record (.of_answer hz)]
      exact sourcesChanged_stands loud' codes' ((source.record k).trans ((found.record k).trans stands))
  case resume =>
    refine exec_serveWrite (c := .haltResume r w) (body := State.resumeHalt r w) rfl granted fun u hu => ?_
    have found : Keeps s u := .of_within hu.within rfl rfl
    have waits : recordCode (u.haltRecord (scopeRecord scope lane)) = 2 ∨ recordCode (u.haltRecord (scopeRecord scope lane)) = 3 := by
      rw [found.record]
      rcases rests with h | h
      · exact .inl (by rw [scopeRecord, h]; decide)
      · exact .inr (by rw [scopeRecord, h]; decide)
    have body : u.resumeHalt r w = (State.haltSample (recordLane (scopeRecord scope lane)) 2 { u with halt := { u.halt with
        resumes := u.halt.resumes ++ [{ scope := scope, lane := lane, req := some r, instant := u.now }] } }, .pending) := by
      simp only [State.resumeHalt, fields]
      rw [if_neg (by simp [scopeOk_of valid]), if_neg, record_scope _ _ _ _ scopes]
      rw [record_scope _ _ _ _ scopes, found.silent, found.frozen]
      rintro (h | h | ⟨one, h⟩)
      · simp [loud] at h
      · omega
      · simp [sound one] at h
    refine ⟨_, body, fun z hz => ?_⟩
    have same : u.halt = s.halt := hu.within .halt rfl
    exact ⟨by rw [hz .halt rfl, State.haltSample_within .halt rfl, now_arrived hu, same],
      (hz .lanes rfl).trans ((State.haltSample_within .lanes rfl).trans hu.lanes)⟩
  · subst one
    refine exec_serveWrite (c := .haltRestore r w) (body := fun t => t.restoreHalt (t.roles r.origin) w) rfl granted fun u hu => ?_
    have found : Keeps s u := .of_within hu.within rfl rfl
    have body : u.restoreHalt (u.roles r.origin) w = refuse 0x08000022 u := by
      simp only [State.restoreHalt, fields]
      rw [if_neg (by simp [scopeOk_of valid]), if_neg (by simp [hu.roles, role]), if_pos (.inr (.inr ⟨trivial, by rw [found.frozen, faulty]⟩))]
    exact ⟨u, body, fun z hz => ⟨(hz .halt rfl).trans (hu.within .halt rfl), (hz .lanes rfl).trans hu.lanes⟩⟩
  · subst one
    refine exec_serveWrite (c := .haltResume r w) (body := State.resumeHalt r w) rfl granted fun u hu => ?_
    have found : Keeps s u := .of_within hu.within rfl rfl
    have body : u.resumeHalt r w = refuse 0x08000022 u := by
      simp only [State.resumeHalt, fields]
      rw [if_neg (by simp [scopeOk_of valid]), if_pos (.inr (.inr ⟨trivial, by rw [found.frozen, faulty]⟩))]
    exact ⟨u, body, fun z hz => ⟨(hz .halt rfl).trans (hu.within .halt rfl), (hz .lanes rfl).trans hu.lanes⟩⟩

end Sys2Proof.Proofs

/-! PROOF. Local resume, the two-party window, the site line, bursts and silence (R211, R224, R230, R231, R235, R237). -/

namespace Sys2Proof.Machine

/-! ### Records and their codes -/

theorem recordCode_iff {v : U16} {c : Nat} (pos : 0 < c) (below : c < 256) : recordCode v = c ↔ v = coded c := by
  unfold recordCode codeOf
  refine ⟨fun h => ?_, fun h => ?_⟩
  · split at h
    · next e =>
      rw [← h]
      exact e
    · simp only [Option.getD_none] at h
      omega
  · have low : v.toNat % 256 = c := by
      rw [h, coded, BitVec.toNat_ofNat]
      omega
    rw [low, if_pos h]
    rfl

/-- A record set to a code other than CLEAR. -/
theorem setRecord_record {c : Nat} (h : coded c ≠ 0xFF00) (j k : Nat) (s : State) :
    (s.setRecord j c).haltRecord k = if k = j then coded c else s.haltRecord k := by
  match j, k with
  | 0, 0 => rfl
  | 0, 1 => rfl
  | 0, m + 2 => rfl
  | 1, 0 => rfl
  | 1, 1 => rfl
  | 1, m + 2 => rw [if_neg (by omega)]; rfl
  | n + 2, 0 => rfl
  | n + 2, 1 => rw [if_neg (by omega)]; rfl
  | n + 2, m + 2 =>
    simp only [State.setRecord, State.haltRecord, Nat.add_right_cancel_iff]
    rw [lane_onLane_of (.inr fun e => h (congrArg Lane.haltRecord e))]
    split
    · rfl
    · rfl

/-! ### Local resume -/

/-- The two records that a local resume press may resume (R230). -/
def State.resumable (s : State) : List Nat :=
  [0, 1].filter (fun k => recordCode (s.haltRecord k) = 2 || recordCode (s.haltRecord k) = 3)

theorem mem_resumable {s : State} {k : Nat} : k ∈ s.resumable ↔ k < 2 ∧ (s.haltRecord k = 0xFD02 ∨ s.haltRecord k = 0xFC03) := by
  have two : ∀ v : U16, recordCode v = 2 ↔ v = 0xFD02 := fun v => recordCode_iff (by decide) (by decide)
  have three : ∀ v : U16, recordCode v = 3 ↔ v = 0xFC03 := fun v => recordCode_iff (by decide) (by decide)
  have range : k = 0 ∨ k = 1 ↔ k < 2 := by omega
  simp [State.resumable, two, three, range]

theorem resumable_empty {s : State} : s.resumable.isEmpty = true ↔
    ¬(s.haltRecord 0 = 0xFD02 ∨ s.haltRecord 0 = 0xFC03) ∧ ¬(s.haltRecord 1 = 0xFD02 ∨ s.haltRecord 1 = 0xFC03) := by
  rw [List.isEmpty_iff, List.eq_nil_iff_forall_not_mem]
  refine ⟨fun none => ⟨fun h => none 0 (mem_resumable.mpr ⟨by decide, h⟩), fun h => none 1 (mem_resumable.mpr ⟨by decide, h⟩)⟩,
    fun ⟨zero, one⟩ k mem => ?_⟩
  obtain ⟨below, h⟩ := mem_resumable.mp mem
  match k with
  | 0 => exact zero h
  | 1 => exact one h

/-- Every record that waits was half resumed by the local party already (R231). -/
def State.halvedHere (s : State) : Bool :=
  s.resumable.all (fun k => match tfind s.halt.half k with | some h => !h.host | none => false)

/-- The resumes that a local press adds (R230). -/
def State.localResumes (s : State) : List Resume :=
  s.resumable.map (fun k => { scope := 3 - k, lane := 0, req := none, instant := s.now })

theorem halvedHere_of {s : State} (h : ∀ k ∈ s.resumable, ∃ x, tfind s.halt.half k = some x ∧ x.host = false) : s.halvedHere = true := by
  refine List.all_eq_true.mpr fun k mem => ?_
  obtain ⟨x, found, here⟩ := h k mem
  simp [found, here]

theorem localResumePress_eq {s : State} {hold stamp : Nat} (loud : s.halt.silent = false) (dry : s.panel.wet = false) (low : 1000 ≤ hold)
    (high : hold ≤ 5000) : localResumePress hold stamp s =
      if s.cfg 0x2202 1 = 0 then (s.stamped stamp).raise 0x1906 0 0 0xFF 0 (le 1 1)
      else if s.resumable.isEmpty then (s.stamped stamp).raise 0x1906 0 0 0xFF 0 (le 1 0)
      else if s.cfg 0x2202 1 = 2 ∧ s.halvedHere then (s.stamped stamp).raise 0x1906 0 0 0xFF 0 (le 1 2)
      else s.resumable.foldl (fun (t : State) _ => t.haltSample 0xFF 2)
        { s.stamped stamp with halt := { s.halt with resumes := s.halt.resumes ++ (s.stamped stamp).localResumes } } := by
  have taken : ¬(hold < 1000 ∨ 5000 < hold ∨ s.panel.wet = true ∨ s.halt.silent = true) := by
    simp only [loud, dry, Bool.false_eq_true, or_false]
    omega
  exact if_neg taken

/-- What a press of the local resume key does, by the clearing policy and the records that wait (R230, R231). -/
theorem localResumePress_spec {s : State} {hold stamp : Nat} (loud : s.halt.silent = false) (dry : s.panel.wet = false) (low : 1000 ≤ hold)
    (high : hold ≤ 5000) :
    (s.cfg 0x2202 1 = 0 → (localResumePress hold stamp s).halt = s.halt ∧ (localResumePress hold stamp s).reported 0x1906 0 0 0xFF (le 1 1)) ∧
    (s.cfg 0x2202 1 ≠ 0 → s.resumable.isEmpty = true →
      (localResumePress hold stamp s).halt = s.halt ∧ (localResumePress hold stamp s).reported 0x1906 0 0 0xFF (le 1 0)) ∧
    (s.cfg 0x2202 1 = 1 → s.resumable.isEmpty ≠ true → (localResumePress hold stamp s).lanes = s.lanes ∧
      (localResumePress hold stamp s).halt = { s.halt with resumes := s.halt.resumes ++ (s.stamped stamp).localResumes }) ∧
    (s.cfg 0x2202 1 = 2 → s.halvedHere = true → s.resumable.isEmpty ≠ true →
      (localResumePress hold stamp s).halt = s.halt ∧ (localResumePress hold stamp s).reported 0x1906 0 0 0xFF (le 1 2)) := by
  rw [localResumePress_eq loud dry low high]
  refine ⟨fun never => ?_, fun some empty => ?_, fun one waiting => ?_, fun two halved waiting => ?_⟩
  · rw [if_pos never, State.raise_halt]
    exact ⟨rfl, State.raise_reported ..⟩
  · rw [if_neg some, if_pos empty, State.raise_halt]
    exact ⟨rfl, State.raise_reported ..⟩
  · rw [if_neg (by rw [one]; decide), if_neg waiting, if_neg (by rw [one]; simp)]
    have sampled (t : State) : Within [.trip] t (s.resumable.foldl (fun (t : State) _ => t.haltSample 0xFF 2) t) :=
      Within.foldl (fun _ _ => State.haltSample_within) (Within.refl _ _)
    rw [sampled _ .lanes rfl, sampled _ .halt rfl]
    exact ⟨rfl, rfl⟩
  · rw [if_neg (by rw [two]; decide), if_neg waiting, if_pos ⟨two, halved⟩, State.raise_halt]
    exact ⟨rfl, State.raise_reported ..⟩

theorem localResumes_spec (s : State) : (∀ x ∈ s.localResumes, x.req = none ∧ x.instant = s.now) ∧
    ((∃ x ∈ s.localResumes, x.scope = 3) ↔ s.haltRecord 0 = 0xFD02 ∨ s.haltRecord 0 = 0xFC03) ∧
    ((∃ x ∈ s.localResumes, x.scope = 2) ↔ s.haltRecord 1 = 0xFD02 ∨ s.haltRecord 1 = 0xFC03) := by
  simp only [State.localResumes, List.mem_map, mem_resumable]
  refine ⟨?_, ⟨?_, fun h => ⟨_, ⟨0, ⟨by decide, h⟩, rfl⟩, rfl⟩⟩, ⟨?_, fun h => ⟨_, ⟨1, ⟨by decide, h⟩, rfl⟩, rfl⟩⟩⟩
  · rintro _ ⟨k, -, rfl⟩
    exact ⟨rfl, rfl⟩
  · rintro ⟨_, ⟨k, ⟨below, h⟩, rfl⟩, scope⟩
    obtain rfl : k = 0 := by dsimp only at scope; omega
    exact h
  · rintro ⟨_, ⟨k, ⟨below, h⟩, rfl⟩, scope⟩
    obtain rfl : k = 1 := by dsimp only at scope; omega
    exact h

/-! ### The end of the two-party window -/

/-- One half-resumed record becomes RESTORED again (R231). -/
def State.endHalf (t : State) (h : Nat × HalfResume) : State :=
  (t.setRecord h.1 2).raise 0x0705 0 0 (recordLane h.1) 0 (le 1 (if h.1 < 2 then 3 - h.1 else 1))

theorem endHalf_record (t : State) (h : Nat × HalfResume) (k : Nat) : (t.endHalf h).haltRecord k = if k = h.1 then 0xFD02 else t.haltRecord k := by
  have raised : Keeps (t.setRecord h.1 2) (t.endHalf h) := by
    unfold State.endHalf
    exact .of State.raise_halt State.raise_lanes
  rw [raised.record, setRecord_record (by decide)]
  rfl

theorem endHalves_record (l : List (Nat × HalfResume)) (t : State) (k : Nat) :
    (l.foldl State.endHalf t).haltRecord k = if k ∈ l.map (·.1) then 0xFD02 else t.haltRecord k := by
  induction l generalizing t with
  | nil => simp
  | cons h l ih =>
    rw [List.foldl_cons, ih, endHalf_record]
    by_cases inside : k ∈ l.map (·.1)
    · simp [inside]
    · by_cases same : k = h.1 <;> simp [inside, same]

/-- The records whose window has ended (R231). -/
def State.endedHalves (s : State) : List (Nat × HalfResume) := s.halt.half.filter (fun h => decide (h.2.until_ < s.clock.source))

theorem setRecord_half (j c : Nat) (s : State) : (s.setRecord j c).halt.half = s.halt.half :=
  match j with | 0 => rfl | 1 => rfl | _ + 2 => rfl

theorem endHalves_keep (l : List (Nat × HalfResume)) (t : State) :
    (l.foldl State.endHalf t).halt.half = t.halt.half ∧ (l.foldl State.endHalf t).clock = t.clock := by
  induction l generalizing t with
  | nil => exact ⟨rfl, rfl⟩
  | cons h l ih =>
    have raised : (t.endHalf h).halt = (t.setRecord h.1 2).halt := by
      unfold State.endHalf
      exact State.raise_halt
    have clock : (t.endHalf h).clock = (t.setRecord h.1 2).clock := by
      unfold State.endHalf
      exact State.raise_clock
    obtain ⟨half, source⟩ := ih (t.endHalf h)
    rw [List.foldl_cons, half, source, raised, clock, setRecord_half]
    exact ⟨rfl, State.setRecord_within .clock rfl⟩

/-- What the end of windows leaves: the half resumes whose window still runs, and the records of the others RESTORED. -/
theorem twoPartyWindowExpire_spec (s : State) :
    (twoPartyWindowExpire s).halt.half = s.halt.half.filter (fun e => decide (s.clock.source ≤ e.2.until_)) ∧
      ∀ k, (twoPartyWindowExpire s).haltRecord k = if k ∈ s.endedHalves.map (·.1) then 0xFD02 else s.haltRecord k := by
  have folded := endHalves_record s.endedHalves s
  obtain ⟨half, clock⟩ := endHalves_keep s.endedHalves s
  rw [show twoPartyWindowExpire s = { s.endedHalves.foldl State.endHalf s with halt := { (s.endedHalves.foldl State.endHalf s).halt with
    half := (s.endedHalves.foldl State.endHalf s).halt.half.filter
      (fun h => decide ((s.endedHalves.foldl State.endHalf s).clock.source ≤ h.2.until_)) } } from rfl]
  generalize s.endedHalves.foldl State.endHalf s = t at folded half clock
  refine ⟨?_, fun k => ?_⟩
  · rw [← half, ← clock]
  · rw [← folded k]
    match k with
    | 0 => rfl
    | 1 => rfl
    | _ + 2 => rfl

/-! ### The site line -/

/-- The line sampled, before its state is judged (R211). -/
def State.sampledLine (low : Bool) (run stamp : Nat) (s : State) : State :=
  { s.stamped stamp with halt := { s.halt with lastSample := low, lineRun := run } }

theorem siteHaltSample_waits {s : State} {low : Bool} {stamp run : Nat}
    (count : (if low = s.halt.lastSample then min 4 (s.halt.lineRun + 1) else 1) = run) (few : run < 4) :
    siteHaltSample low stamp s = s.sampledLine low run stamp := by
  subst count
  exact if_pos (.inr (.inl few))

/-- The line found low at its fourth sample, with the trip recorder's trigger (R211, R533). -/
def State.loweredLine (stamp : Nat) (s : State) : State :=
  let t := s.sampledLine true 4 stamp
  State.trigger 2 t.now 0xFF { t with halt := { t.halt with lineLow := true } }

theorem siteHaltSample_falls {s : State} {stamp : Nat} (loud : s.halt.silent = false) (last : true = s.halt.lastSample)
    (three : 3 ≤ s.halt.lineRun) (high : s.halt.lineLow = false) (enabled : s.cfgOn 0x2202 7 = true) :
    siteHaltSample true stamp s = (s.loweredLine stamp).sourcesChanged := by
  have run : (if true = s.halt.lastSample then min 4 (s.halt.lineRun + 1) else 1) = 4 := by
    rw [if_pos last]
    omega
  have changes : ¬((s.stamped stamp).halt.silent = true ∨ 4 < 4 ∨ true = (s.stamped stamp).halt.lineLow) := by simp [loud, high]
  unfold siteHaltSample
  dsimp only
  rw [show (if true = (s.stamped stamp).halt.lastSample then min 4 ((s.stamped stamp).halt.lineRun + 1) else 1) = 4 from run, if_neg changes,
    if_pos (show true = true from rfl), if_pos ⟨rfl, enabled⟩]
  rfl

/-- The line's fall halts the site, since it is a site source (R211, R217). -/
theorem loweredLine_site {s : State} {stamp : Nat} (loud : s.halt.silent = false) (enabled : s.cfgOn 0x2202 7 = true)
    (codes : ∀ k ∈ s.records, (codeOf (s.haltRecord k)).isSome) : (s.loweredLine stamp).sourcesChanged.halt.site = 0xFE01 := by
  have kept : Within [.trip] _ (s.loweredLine stamp) := State.trigger_within
  have halt : (s.loweredLine stamp).halt = { s.halt with lastSample := true, lineRun := 4, lineLow := true } := kept .halt rfl
  have lanes : (s.loweredLine stamp).lanes = s.lanes := kept .lanes rfl
  have settings : (s.loweredLine stamp).settings = s.settings := kept .settings rfl
  have records : ∀ k, (s.loweredLine stamp).haltRecord k = s.haltRecord k := fun k => by
    unfold State.haltRecord State.lane
    rw [halt, lanes]
  have low : (s.loweredLine stamp).recordActive 0 = true := by
    have enabled' : (s.loweredLine stamp).cfgOn 0x2202 7 = true := by
      rw [Units.cfgOn, Units.cfg, settings]
      exact enabled
    show (s.loweredLine stamp).siteActive = true
    simp [State.siteActive, halt, enabled']
  exact sourcesChanged_active (by rw [halt, loud]) (fun k _ => by rw [records]; exact codes_of_records codes k) (by simp [State.records]) low

end Sys2Proof.Machine

namespace Sys2Proof.Proofs

open Sys2Proof Sys2Proof.Machine

/-- Settles O20: the press by `localResumePress_eq`, the windows by `twoPartyWindowExpire_spec`. -/
theorem localResumeAndWindow : Obligations.LocalResumeAndWindow := by
  intro s running
  refine ⟨fun hold stamp loud dry low high => ?press, ?windows⟩
  case press =>
    obtain ⟨never, idle, adds, halved⟩ := localResumePress_spec (s := s.begin) (stamp := stamp) loud dry low high
    obtain ⟨resumes, zero, one⟩ := localResumes_spec (s.begin.stamped stamp)
    have waits : ∀ {a b : Prop}, (a ∨ b) → (s.begin.resumable.isEmpty = true ↔ ¬a ∧ ¬b) → s.begin.resumable.isEmpty ≠ true :=
      fun some none empty => some.elim (none.mp empty).1 (none.mp empty).2
    exact ⟨_, running_next _ running, never, fun some site cell => idle some (resumable_empty.mpr ⟨site, cell⟩),
      fun policy some => ⟨(adds policy (waits some resumable_empty)).1, _, (adds policy (waits some resumable_empty)).2, resumes, zero, one⟩,
      fun policy halves some => halved policy (halvedHere_of fun k mem => halves k (mem_resumable.mp mem).1 (mem_resumable.mp mem).2)
        (waits some resumable_empty)⟩
  case windows =>
    refine ⟨_, running_next _ running, ?_⟩
    obtain ⟨half, records⟩ := twoPartyWindowExpire_spec s.begin
    refine ⟨fun e mem ended => ?_, half, fun k standing => ?_⟩
    · rw [records, if_pos]
      exact List.mem_map_of_mem (List.mem_filter.mpr ⟨mem, decide_eq_true ended⟩)
    · rw [records, if_neg]
      · rfl
      · rintro mem
        obtain ⟨e, listed, rfl⟩ := List.mem_map.mp mem
        have ended : e.2.until_ < s.clock.source := of_decide_eq_true (List.mem_filter.mp listed).2
        exact absurd ended (Int.not_lt.mpr (standing e (List.mem_filter.mp listed).1 rfl))

/-- Settles O21: samples by `siteHaltSample_waits` and `loweredLine_site`, each event of the line by its own branch. -/
theorem siteLine : Obligations.SiteLine := by
  intro s running loud
  refine ⟨fun low stamp codes => ?sample, fun driving => ?readback, fun low free idle none minute => ?stuck, fun address => ?drivers,
    fun driving => ?periodic⟩
  case sample =>
    refine ⟨_, running_next _ running, fun same few => ?_, fun differs => ?_, fun same many isLow high enabled => ?_⟩
    · rw [siteHaltSample_waits (s := s.begin) ((if_pos same).trans (Nat.min_eq_right (by show s.halt.lineRun + 1 ≤ 4; omega)))
        (by show s.halt.lineRun + 1 < 4; omega), same]
      rfl
    · rw [siteHaltSample_waits (s := s.begin) (if_neg differs) (by decide)]
      rfl
    · subst isLow
      rw [siteHaltSample_falls (s := s.begin) loud same many high enabled]
      exact loweredLine_site loud enabled codes
  case readback =>
    refine ⟨_, running_next _ running, ?_⟩
    rw [siteLineReadback, if_pos ⟨driving, rfl, by simpa using loud⟩]
    exact ⟨State.raise_halt.trans rfl, State.raise_reported ..⟩
  case stuck =>
    refine ⟨_, running_next _ running, ?_⟩
    rw [siteLineStuck, if_pos ⟨low, by simpa using free, by simpa using idle, by simpa using none, minute, by simpa using loud⟩]
    obtain ⟨c, mem, code, -⟩ := State.raise_condition 0x0703 7 0xFF 0 [] { s.begin with halt := { s.begin.halt with stuck := true } }
    exact ⟨State.raise_halt.trans rfl, State.raise_reported .., c, mem, code⟩
  case drivers =>
    refine ⟨⟨_, running_next _ running, tfind_tset ..⟩, ⟨_, running_next _ running, tfind_tdel ..⟩, fun age found aged => ⟨_, running_next _ running, ?_⟩⟩
    rw [siteLineDriverTimeout, show tfind s.begin.halt.drivers address = _ from found]
    dsimp only
    rw [if_pos aged]
    exact tfind_tdel ..
  case periodic =>
    refine ⟨_, running_next _ running, ?_⟩
    rw [siteLinePeriodic, if_pos ⟨driving, by simpa using loud⟩, State.sendSiteLine, show s.begin.halt.driving = true from driving]
    rfl

end Sys2Proof.Proofs

/-! PROOF. Halt bursts and falling silent (R224, R237, R302). -/

namespace Sys2Proof.Machine

/-! ### The verge transmitter -/

theorem beginVerge_verge (code : Nat) (payload : Bytes) (s : State) :
    (s.beginVerge code payload).air.verge = some { code := code, payload := payload, began := s.vergeStart } := by
  unfold State.beginVerge
  show (State.count _ _ _).air.verge = _
  rw [State.count_air]
  rfl

theorem sendVerge_free {s : State} {payload : Bytes} (onAir : s.onAir = true) (free : s.air.verge = none) :
    s.sendVerge 9 payload = s.beginVerge 9 payload := by
  unfold State.sendVerge
  rw [if_neg (show ¬(s.onAir = true ∧ 9 ≠ 9) from fun h => h.2 rfl)]
  dsimp only
  rw [if_neg (by simp [onAir]), free]

theorem addDuty_verge (us : Nat) (s : State) : (s.addDuty us).air.verge = s.air.verge := by
  unfold State.addDuty
  exact State.ite_same (fun u => u.air.verge) ((congrArg Air.verge State.raise_air).trans rfl) rfl

theorem cutVerge_verge (s : State) : s.cutVerge.air.verge = none := by
  unfold State.cutVerge
  split
  · next free => exact free
  · rw [addDuty_verge]

/-! ### Repetitions of a burst -/

/-- The place of repetition `index` of a burst in the present tick (R224). -/
def State.repetitionDue (s : State) (b : Burst) (index : Nat) : Int := b.began + tickNs * index + 100000 * b.delay - s.clock.source

/-- The bursts after repetition `index` of the burst `id`, the next one delayed by `delay` (R224). -/
def burstsAfter (id : U16) (index delay : Nat) (l : List Burst) : List Burst :=
  if index = 49 then l.filter (fun x => x.haltId ≠ id) else l.map (fun x => if x.haltId = id then { x with next := index + 1, delay := delay } else x)

theorem burstsAfter_other {id : U16} {index delay : Nat} {l : List Burst} {x : Burst} (mem : x ∈ l) (other : x.haltId ≠ id) :
    x ∈ burstsAfter id index delay l := by
  unfold burstsAfter
  split
  · exact List.mem_filter.mpr ⟨mem, decide_eq_true other⟩
  · exact List.mem_map.mpr ⟨x, mem, if_neg other⟩

/-- The state at a repetition's place, its burst moved on (R224). -/
def State.repeated (s : State) (b : Burst) (index : Nat) : State :=
  let t := s.stamped (s.repetitionDue b index).toNat
  { t.draw.2 with halt := { t.halt with bursts := burstsAfter b.haltId index (t.draw.1 % 41) t.halt.bursts } }

theorem haltRepetition_due {s : State} {b : Burst} {index : Nat} (loud : s.halt.silent = false)
    (found : s.halt.bursts.find? (fun x => x.haltId = b.haltId && x.next = index) = some b) (last : index ≤ 49)
    (inTick : s.repetitionDue b index < tickNs + s.clock.extension) : haltRepetition b.haltId index s =
      if s.cfgNat 0x2502 1 = 0 ∧ 5 ≤ index ∧ 340000 ≤ (s.repeated b index).dutyAccount then
        { s.repeated b index with air := { s.air with withheldHalts := s.air.withheldHalts + 1 } }
      else (s.repeated b index).sendVerge 9 ((s.repeated b index).vergeHalt index b.lanes) := by
  have due : ¬(s.halt.silent = true ∨ 49 < index ∨
      ((tickNs + s.clock.extension : Int) ≤ s.repetitionDue b index ∧ s.repetitionDue b index < tickNs * 60)) := by
    simp only [loud, Bool.false_eq_true, false_or]
    omega
  unfold haltRepetition
  rw [found]
  exact if_neg due

theorem haltRepetition_early {s : State} {b : Burst} {index : Nat}
    (found : s.halt.bursts.find? (fun x => x.haltId = b.haltId && x.next = index) = some b)
    (later : (tickNs + s.clock.extension : Int) ≤ s.repetitionDue b index) (near : s.repetitionDue b index < tickNs * 60) :
    haltRepetition b.haltId index s = s := by
  unfold haltRepetition
  rw [found]
  exact if_pos (.inr (.inr ⟨later, near⟩))

theorem haltRepetition_halt {s : State} {b : Burst} {index : Nat} (loud : s.halt.silent = false)
    (found : s.halt.bursts.find? (fun x => x.haltId = b.haltId && x.next = index) = some b) (last : index ≤ 49)
    (inTick : s.repetitionDue b index < tickNs + s.clock.extension) :
    (haltRepetition b.haltId index s).halt = (s.repeated b index).halt := by
  rw [haltRepetition_due loud found last inTick]
  exact State.ite_same (fun u => u.halt) rfl (State.sendVerge_within .halt rfl)

/-! ### Falling silent -/

theorem fallSilent_spec {s : State} {cause : Nat} (loud : s.halt.silent = false) :
    (s.fallSilent cause).halt = { s.halt with silent := true } ∧ .cutOff ∈ (s.fallSilent cause).out ∧
      (s.fallSilent cause).air.verge = none ∧ (s.fallSilent cause).air.vergeWaiting = [] ∧ (s.fallSilent cause).air.pa = false ∧
      (s.fallSilent cause).air.vgPa = false ∧ (s.fallSilent cause).reported 0x0706 1 7 0xFF (le 1 cause) := by
  have cut : (State.cutVerge { s with halt := { s.halt with silent := true } }).halt = { s.halt with silent := true } :=
    State.cutVerge_within .halt rfl
  unfold State.fallSilent
  rw [if_neg (by simp [loud])]
  dsimp only
  rw [State.raise_halt, State.raise_air]
  exact ⟨cut, State.out_raise (List.mem_append_right _ (List.mem_singleton.mpr rfl)), cutVerge_verge _, rfl, rfl, rfl,
    State.raise_reported ..⟩

end Sys2Proof.Machine

namespace Sys2Proof.Proofs

open Sys2Proof Sys2Proof.Machine

/-- Settles O22: a repetition by `haltRepetition_due`, the mismatch by `fallSilent_spec`. -/
theorem haltBurstsAndSilence : Obligations.HaltBurstsAndSilence := by
  intro s running loud
  refine ⟨fun b index found last inTick => ?due, fun b index found later near => ?early, _, running_next _ running,
    fallSilent_spec (s := s.begin) loud⟩
  case early =>
    exact (running_next _ running).trans (congrArg _ (haltRepetition_early (s := s.begin) found later (near.trans_eq (by decide))))
  case due =>
    have mem := List.mem_of_find?_eq_some found
    have next := haltRepetition_due (s := s.begin) loud found last inTick
    have halt := haltRepetition_halt (s := s.begin) loud found last inTick
    refine ⟨_, running_next _ running, fun final x left => ?_, fun more => ?_, fun x left other => ?_, ?_, ?_, fun onAir free allowed => ?_,
      fun limited five full => ?_⟩
    · have left' : x ∈ burstsAfter b.haltId index _ s.halt.bursts := halt ▸ left
      rw [burstsAfter, if_pos final] at left'
      exact of_decide_eq_true (List.mem_filter.mp left').2
    · refine ⟨Config.free s.free % 41, Nat.lt_succ_iff.mp (Nat.mod_lt _ (by decide)), ?_⟩
      rw [halt]
      show _ ∈ burstsAfter b.haltId index _ s.halt.bursts
      rw [burstsAfter, if_neg (by omega)]
      exact List.mem_map.mpr ⟨b, mem, if_pos rfl⟩
    · rw [halt]
      exact burstsAfter_other left other
    · rw [halt]
      rfl
    · rw [halt]
      rfl
    · rw [next, if_neg (show ¬(s.begin.cfgNat 0x2502 1 = 0 ∧ 5 ≤ index ∧ 340000 ≤ (s.begin.repeated b index).dutyAccount) from allowed)]
      have onAir' : (s.begin.repeated b index).onAir = true := onAir
      rw [sendVerge_free onAir' free, beginVerge_verge]
      exact ⟨_, rfl, rfl⟩
    · rw [next, if_pos (show s.begin.cfgNat 0x2502 1 = 0 ∧ 5 ≤ index ∧ 340000 ≤ (s.begin.repeated b index).dutyAccount from ⟨limited, five, full⟩)]
      rfl

end Sys2Proof.Proofs

/-! PROOF. Contact test pulses (R211, R549, R550). -/

namespace Sys2Proof.Machine

/-- The pulse of a channel judged by its own sense input (R549, R550). -/
def State.pulseSeen (channel : Nat) (low : List Bool) (s : State) : State :=
  let t := s.emit (.pulse (.haltPulse channel) 300000)
  if low.getD channel false then t.onContactChannel channel (fun c => { c with pulsed := true })
  else t.latchFault 2 (channel % 2) (contactOf channel)

/-- The closed channels that read low in the pulse of another (R550). -/
def State.crossed (channel : Nat) (low : List Bool) (s : State) : List Nat :=
  (List.range 4).filter (fun d => d ≠ channel && low.getD d false && (s.contactChannel d).closed)

/-- The state after the pulse, before the sources follow. -/
def State.pulsedAll (channel : Nat) (low : List Bool) (s : State) : State :=
  ((s.pulseSeen channel low).crossed channel low).foldl (fun (t : State) d => t.latchFault 3 (d % 2) (contactOf d)) (s.pulseSeen channel low)

theorem contactTestPulse_pulses {s : State} {channel : Nat} {low : List Bool} (pulses : s.pulses channel = true) :
    contactTestPulse channel low s = (s.pulsedAll channel low).contactSources :=
  if_neg (by simp [pulses])

theorem pulseSeen_low {s : State} {channel : Nat} {low : List Bool} (isLow : low.getD channel false = true) :
    ((s.pulseSeen channel low).contactChannel channel).pulsed = true := by
  rw [State.pulseSeen, if_pos isLow]
  simp only [State.contactChannel, State.onContactChannel, tget_tmod_same]

theorem pulseSeen_high {s : State} {channel : Nat} {low : List Bool} (isHigh : low.getD channel false = false) :
    ((s.pulseSeen channel low).contact (contactOf channel)).fault = true := by
  rw [State.pulseSeen, if_neg (by rw [isHigh]; decide)]
  exact (latchFault_spec ..).1

theorem pulseSeen_other {s : State} {channel d : Nat} {low : List Bool} (other : d ≠ channel) :
    (s.pulseSeen channel low).contactChannel d = s.contactChannel d := by
  unfold State.pulseSeen
  dsimp only
  split
  · exact tget_tput_other _ other (by simp)
  · exact (latchFault_spec ..).2.2 d

/-- The faults latched by the pulse stand, and are sources, once the sources have followed (R211). -/
theorem contactSources_latched {s : State} {k : Nat} (contact : k = 1 ∨ k = 2) (fault : (s.contact k).fault = true) :
    (s.contactSources.contact k).fault = true ∧ s.contactSources.contactActive k = true :=
  ⟨by rw [(contact_congr (contactSources_spec s).1 k).1, fault], contactSources_fault s k contact fault⟩

theorem mem_crossed {s : State} {channel d : Nat} {low : List Bool} (below : d < 4) (other : d ≠ channel)
    (isLow : low.getD d false = true) (closed : (s.contactChannel d).closed = true) : d ∈ (s.pulseSeen channel low).crossed channel low :=
  List.mem_filter.mpr ⟨List.mem_range.mpr below, by simp only [pulseSeen_other other, closed, isLow, decide_eq_true other, Bool.and_self]⟩

end Sys2Proof.Machine

namespace Sys2Proof.Proofs

open Sys2Proof Sys2Proof.Machine

/-- Settles O23: the pulse seen by its channel, the cross shorts that it latches, and the sources that follow. -/
theorem contactPulses : Obligations.ContactPulses := by
  intro s channel low running below
  obtain ⟨faults, crossed, channels⟩ := latches contactOf ((s.begin.pulseSeen channel low).crossed channel low) (s.begin.pulseSeen channel low)
  refine ⟨_, running_next _ running, fun pulses isLow => ?_, fun pulses isHigh => ?_, fun d inside pulses other isLow closed => ?_, fun idle => ?_⟩
  · rw [contactTestPulse_pulses (s := s.begin) pulses, (contact_congr (contactSources_spec _).1 channel).2]
    exact (congrArg Channel.pulsed (channels channel)).trans (pulseSeen_low isLow)
  · rw [contactTestPulse_pulses (s := s.begin) pulses]
    exact contactSources_latched (contactOf_12 below) (faults _ (pulseSeen_high isHigh))
  · rw [contactTestPulse_pulses (s := s.begin) pulses]
    exact contactSources_latched (contactOf_12 inside) (crossed d (mem_crossed inside other isLow closed))
  · exact if_pos (by rw [show s.begin.pulses channel = false from idle]; rfl)

end Sys2Proof.Proofs

/-! PROOF. Touch keys, service plug, WAKE and the lamp chain (R398, R554 to R560, R566, R571, R572). -/

namespace Sys2Proof.Machine

/-! ### Touch keys -/

theorem touchKey_congr {s t : State} (h : t.panel.keys = s.panel.keys) (k : Nat) : t.touchKey k = s.touchKey k := by
  rw [State.touchKey, h, State.touchKey]

theorem Panel.butSounder.keys {a b : Panel} (h : a.butSounder b) : b.keys = a.keys := by
  obtain ⟨on, rfl⟩ := h
  rfl

theorem raise_keys' {code cls reg lane key : Nat} {params : Bytes} {s : State} :
    (s.raise code cls reg lane key params).panel.keys = s.panel.keys := (State.raise_panel ..).keys

theorem assigned_panelKeys (k code : Nat) (s : State) : (s.assigned k code).panel.keys = s.panel.keys := by
  unfold State.assigned
  refine State.ite_same (fun u => u.panel.keys) raise_keys' (State.ite_same (fun u => u.panel.keys) rfl ?_)
  split
  · rfl
  · rfl
  · exact (State.sound_panel _).keys
  · rfl

/-- The action of a key leaves the keys themselves (R555). -/
theorem keyTouched_panelKeys (s : State) (k : Nat) : (s.keyTouched k).panel.keys = s.panel.keys := by
  unfold State.keyTouched
  split
  · rfl
  · rfl
  · rfl
  · exact (State.sound_panel _).keys
  · exact assigned_panelKeys ..

/-- The action of a key starts the lamp test or leaves the lamps (R555, R572). -/
theorem keyTouched_lamps (s : State) (k : Nat) : (s.keyTouched k).lamps = s.lamps ∨ (s.keyTouched k).lamps = { s.lamps with test := 3000 } := by
  unfold State.keyTouched State.assigned
  split
  · exact .inl rfl
  · exact .inl rfl
  · exact .inr rfl
  · exact .inl (State.sound_within .lamps rfl)
  · split
    · exact .inl State.raise_lamps
    · split
      · exact .inl rfl
      · split
        · exact .inl rfl
        · exact .inr rfl
        · exact .inl (State.sound_within .lamps rfl)
        · exact .inl rfl

theorem keysTouched_lamps (l : List Nat) (s : State) :
    ((l.foldl State.keyTouched s).lamps = s.lamps ∨ (l.foldl State.keyTouched s).lamps = { s.lamps with test := 3000 }) ∧
      (2 ∈ l → (l.foldl State.keyTouched s).lamps = { s.lamps with test := 3000 }) := by
  induction l generalizing s with
  | nil => exact ⟨.inl rfl, fun mem => nomatch mem⟩
  | cons k l ih =>
    obtain ⟨either, third⟩ := ih (s.keyTouched k)
    rw [List.foldl_cons]
    rcases keyTouched_lamps s k with same | test
    · rw [same] at either third
      refine ⟨either, fun mem => ?_⟩
      rcases List.mem_cons.mp mem with rfl | mem
      · have test : (s.keyTouched 2).lamps = { s.lamps with test := 3000 } := rfl
        rcases either with e | e
        · rw [e, ← same, test]
        · exact e
      · exact third mem
    · rw [test] at either third
      have final := either.elim id id
      exact ⟨.inr final, fun _ => final⟩

/-- The keys after a scan (R554). -/
def State.scanned (levels : List Nat) (s : State) : State :=
  { s with panel := { s.panel with keys := tbuild (fun _ => {}) (fun k => (s.touchKey k).scan (levels.getD k 0)) 8 } }

/-- The keys newly touched by a scan, as they stand in `t` (R555). -/
def State.newKeys (s t : State) : List Nat := (List.range 8).filter (fun k => (t.touchKey k).touched && !(s.touchKey k).touched)

theorem touchScan_eq (levels : List Nat) (s : State) : touchScan levels s =
    if 3 ≤ (s.newKeys (s.scanned levels)).length ∧ !s.panel.wet then
      State.raise 0x1904 1 7 0xFF 0 (le 1 (s.scanned levels).keysTouched)
        { s.scanned levels with panel := { (s.scanned levels).panel with wet := true } }
    else if s.panel.wet then s.scanned levels
    else (s.newKeys (s.scanned levels)).foldl State.keyTouched (s.scanned levels) := rfl

theorem touchScan_panelKeys (levels : List Nat) (s : State) : (touchScan levels s).panel.keys = (s.scanned levels).panel.keys := by
  rw [touchScan_eq]
  refine State.ite_same (fun u => u.panel.keys) raise_keys' (State.ite_same (fun u => u.panel.keys) rfl ?_)
  exact State.foldl_keeps (fun t => t.panel.keys) keyTouched_panelKeys ..

theorem scan_touched (x : TouchKey) (level : Nat) : (x.scan level).touched =
    if 2 ≤ x.run ∧ (if x.touched then level = 0 else 2 ≤ level) then !x.touched else x.touched := by
  unfold TouchKey.scan
  dsimp only
  by_cases other : if x.touched = true then level = 0 else 2 ≤ level
  · rw [if_pos other]
    by_cases two : 2 ≤ x.run
    · rw [if_pos (by omega), if_pos ⟨two, other⟩]
    · rw [if_neg (by omega), if_neg (fun h => two h.1)]
  · rw [if_neg other, if_neg (by decide), if_neg (fun h => other h.2)]

theorem scanned_touched {levels : List Nat} {s : State} {k : Nat} (below : k < 8) :
    (s.scanned levels).touchKey k = (s.touchKey k).scan (levels.getD k 0) := by
  show tget _ (tbuild _ _ 8) k = _
  rw [tget_tbuild, if_pos below]

theorem newKeys_congr {s t u : State} (h : t.panel.keys = u.panel.keys) : s.newKeys t = s.newKeys u := by
  unfold State.newKeys
  simp only [touchKey_congr h]

theorem keyStuck_spec {s : State} {k : Nat} (below : k < 8) (touched : (s.touchKey k).touched = true) (long : 12000 < (s.touchKey k).held)
    (heeded : (s.touchKey k).ignored = false) : ((keyStuck k s).touchKey k).ignored = true ∧ (keyStuck k s).reported 0x1905 1 7 0xFF (le 1 k) := by
  rw [keyStuck, if_pos ⟨touched, long, by simp [heeded], below⟩]
  refine ⟨?_, State.raise_reported ..⟩
  rw [touchKey_congr raise_keys']
  simp only [State.touchKey, State.onTouchKey, tget_tmod_same]

/-! ### Service plug -/

theorem releaseReader_transfers (reader : U32) (s : State) : (s.releaseReader reader).access.transfers = s.access.transfers := by
  unfold State.releaseReader
  refine State.foldl_keeps (fun t => t.access.transfers) (fun t q => ?_) _ _
  exact State.ite_same (fun u => u.access.transfers) rfl rfl

theorem plugRemoved_spec (s : State) : s.plugRemoved.panel = s.panel ∧ s.plugRemoved.update.receiving = false ∧
    (∀ x ∈ s.plugRemoved.access.transfers, x.origin ≠ .service) ∧ s.plugRemoved.power = s.power := by
  unfold State.plugRemoved
  dsimp only
  rw [State.releaseReader_within .panel rfl, State.releaseReader_within .update rfl, State.releaseReader_within .power rfl]
  rw [releaseReader_transfers]
  exact ⟨rfl, rfl, fun x mem => of_decide_eq_true (List.mem_filter.mp mem).2, rfl⟩

/-- The plug as 50 agreeing samples found it (R559). -/
def State.plugAt (present : Bool) (s : State) : State := { s with panel := { s.panel with plug := present } }

/-- Without the plug the port is idle; then the change is reported (R498, R559). -/
def State.plugSet (present : Bool) (s : State) : State := if present then s.plugAt present else (s.plugAt present).plugRemoved

theorem plugSet_spec (present : Bool) (s : State) : (s.plugSet present).panel.plug = present ∧ (s.plugSet present).power = s.power ∧
    (present = false → (s.plugSet present).update.receiving = false ∧ ∀ x ∈ (s.plugSet present).access.transfers, x.origin ≠ .service) := by
  unfold State.plugSet
  cases present
  · rw [if_neg (by decide)]
    obtain ⟨panel, idle, left, power⟩ := plugRemoved_spec (s.plugAt false)
    rw [panel, power]
    exact ⟨rfl, rfl, fun _ => ⟨idle, left⟩⟩
  · rw [if_pos rfl]
    exact ⟨rfl, rfl, nofun⟩

theorem servicePlugChange_eq {s : State} {present : Bool} {run : Nat} (running : s.power.phase = .running) (steady : 50 ≤ run)
    (changed : present ≠ s.panel.plug) :
    servicePlugChange present run s = (s.plugSet present).raise 0x190B 0 0 0xFF 0 (le 1 (if present then 1 else 0)) := by
  have phase : (s.plugSet present).power.phase = .running := (congrArg Power.phase (plugSet_spec present s).2.1).trans running
  unfold servicePlugChange
  rw [if_neg (by simp [changed]; omega)]
  exact if_pos phase

theorem servicePlugChange_spec {s : State} {present : Bool} {run : Nat} (running : s.power.phase = .running) (steady : 50 ≤ run)
    (changed : present ≠ s.panel.plug) : (servicePlugChange present run s).panel.plug = present ∧
      (servicePlugChange present run s).reported 0x190B 0 0 0xFF (le 1 (if present then 1 else 0)) ∧
      (present = false → (servicePlugChange present run s).update.receiving = false ∧
        ∀ x ∈ (servicePlugChange present run s).access.transfers, x.origin ≠ .service) := by
  obtain ⟨plug, -, idle⟩ := plugSet_spec present s
  obtain ⟨on, panel⟩ := State.raise_panel 0x190B 0 0 0xFF 0 (le 1 (if present then 1 else 0)) (s.plugSet present)
  rw [servicePlugChange_eq running steady changed, State.raise_transfers, State.raise_update, panel]
  exact ⟨plug, State.raise_reported .., idle⟩

/-- The state that shows the edge of WAKE, before it is reported (R560). -/
def State.woken (s : State) : State := { s with panel := { s.panel with wake := true }, free := s.free + 1 }

/-- The edge is reported under a code of the model's choice (R560, log entry 43). -/
theorem wakeRisingEdge_spec (s : State) : (wakeRisingEdge s).panel.wake = true ∧
    (wakeRisingEdge s).reported (Config.free s.free % 65536) 0 0 0xFF [] := by
  obtain ⟨on, panel⟩ := State.raise_panel (Config.free s.free % 65536) 0 0 0xFF 0 [] s.woken
  rw [show wakeRisingEdge s = s.woken.raise (Config.free s.free % 65536) 0 0 0xFF 0 [] from rfl, panel]
  exact ⟨rfl, State.raise_reported ..⟩

/-! ### The lamp chain -/

/-- What the statuses of a return leave of the chain's own record (R566). -/
def Lamps.ends (l : Lamps) : Nat × Option Bool × Nat := (l.drivers, l.valid, l.count)

theorem setHealth_ends (c h : Nat) (s : State) : (s.setHealth c h).lamps.ends = s.lamps.ends := by
  unfold State.setHealth
  exact State.ite_same (fun u => u.lamps.ends) rfl (by rw [State.raise_lamps]; rfl)

theorem measured_ends (c : Nat) (op sh : Bool) (s : State) : (s.measured c op sh).lamps.ends = s.lamps.ends := by
  unfold State.measured
  exact State.ite_same (fun u => u.lamps.ends) rfl ((setHealth_ends ..).trans rfl)

theorem driverStatus_ends (s : State) (p : Nat × DriverStatus) : (s.driverStatus p).lamps.ends = s.lamps.ends := by
  unfold State.driverStatus
  refine (State.foldl_keeps (fun t => t.lamps.ends) (fun t j => ?_) _ _).trans ?_
  · exact State.ite_same (fun u => u.lamps.ends) (measured_ends ..) rfl
  · refine State.ite_same (fun u => u.lamps.ends) ?_ (State.ite_same (fun u => u.lamps.ends) ?_ rfl)
    · rw [State.raise_lamps]
      rfl
    · rw [State.raise_lamps]
      rfl

/-- A valid return counts its drivers (R566). -/
theorem lampReturn_valid {s : State} {b : Bytes} (valid : s.returnFault b = none) :
    (lampReturn b s).lamps.ends = ((readStatuses b).length, some true, s.lamps.count) := by
  unfold lampReturn
  rw [valid]
  refine (State.foldl_keeps (fun t => t.lamps.ends) driverStatus_ends _ _).trans ?_
  exact State.ite_same (fun u => u.lamps.ends) (by rw [State.raise_lamps]; rfl) rfl

theorem lampReturn_fault {s : State} {b : Bytes} {c : Nat} (fault : s.returnFault b = some c) :
    (lampReturn b s).lamps = { s.lamps with valid := some false } ∧
      (s.lamps.valid = some true → (lampReturn b s).reported 0x1907 2 7 0xFF (le 1 s.lamps.count ++ le 1 c)) ∧
      (lampReturn b s).chain = s.chain := by
  unfold lampReturn
  rw [fault]
  refine ⟨State.ite_same (fun u => u.lamps) (State.raise_lamps.trans rfl) rfl, fun before => ?_,
    State.ite_same (fun u => u.chain) (State.raise_chain.trans rfl) rfl⟩
  dsimp only
  rw [if_pos before]
  exact State.raise_reported ..

theorem returnFault_le {s : State} {b : Bytes} {c : Nat} (fault : s.returnFault b = some c) : c ≤ 2 := by
  unfold State.returnFault at fault
  split at fault
  · cases fault
    decide
  · split at fault
    · cases fault
      decide
    · split at fault
      · cases fault
        decide
      · split at fault
        · cases fault
          decide
        · cases fault

/-- Lamp channel `c` (R571). -/
def State.lampChannel (s : State) (c : Nat) : LampChannel := tget (fun _ => {}) s.lamps.channels c

theorem setHealth_health (c h : Nat) (s : State) : ((s.setHealth c h).lampChannel c).health = h := by
  unfold State.setHealth
  dsimp only
  split
  · next same => exact same
  · rw [State.lampChannel, State.raise_lamps]
    dsimp only
    rw [tget_tmod_same]

/-- The health of a channel whose last measurement, or last clean one, is too old (R571). -/
theorem healthTimeout_spec (c : Nat) (s : State) :
    ((s.lampChannel c).health ≠ 0 → 2000 ≤ (s.lampChannel c).age →
      ((healthTimeout c s).lampChannel c).health = if (s.lampChannel c).low && !s.cfgOn 0x2B01 4 then 4 else 5) ∧
    ((s.lampChannel c).health = 1 → (s.lampChannel c).age < 2000 → 2000 ≤ (s.lampChannel c).cleanAge →
      ((healthTimeout c s).lampChannel c).health = 5) ∧
    ((s.lampChannel c).health = 1 → (s.lampChannel c).age < 2000 → (s.lampChannel c).cleanAge < 2000 → healthTimeout c s = s) := by
  rw [show healthTimeout c s = if (s.lampChannel c).health = 0 then s
    else if 2000 ≤ (s.lampChannel c).age then s.setHealth c (if (s.lampChannel c).low && !s.cfgOn 0x2B01 4 then 4 else 5)
    else if (s.lampChannel c).health = 1 ∧ 2000 ≤ (s.lampChannel c).cleanAge then s.setHealth c 5 else s from rfl]
  refine ⟨fun used old => ?_, fun good recent old => ?_, fun good recent clean => ?_⟩
  · rw [if_neg used, if_pos old, setHealth_health]
  · rw [if_neg (by omega), if_neg (by omega), if_pos ⟨good, old⟩, setHealth_health]
  · rw [if_neg (by omega), if_neg (by omega), if_neg (by omega)]

end Sys2Proof.Machine

namespace Sys2Proof.Proofs

open Sys2Proof Sys2Proof.Machine

/-- Settles O24: a scan by `scan_touched` and the actions of the keys newly touched, the other events each by its branch. -/
theorem panelKeys : Obligations.PanelKeys := by
  intro s running
  refine ⟨fun levels => ?scan, fun released => ?dry, fun k below touched long heeded => ?stuck, fun present run steady changed => ?plug, ?wake⟩
  case scan =>
    have same : ∀ k, (touchScan levels s.begin).touchKey k = (s.begin.scanned levels).touchKey k :=
      touchKey_congr (touchScan_panelKeys levels s.begin)
    have new : s.newKeys (touchScan levels s.begin) = s.newKeys (s.begin.scanned levels) := newKeys_congr (touchScan_panelKeys levels s.begin)
    have next := touchScan_eq levels s.begin
    refine ⟨_, running_next _ running, fun k below => ?_, fun many dry => ?_, fun wet => ?_, fun few dry third => ?_⟩
    · rw [same, scanned_touched below]
      exact scan_touched ..
    · have film : 3 ≤ (s.begin.newKeys (s.begin.scanned levels)).length ∧ (!s.begin.panel.wet) = true :=
        ⟨(congrArg List.length new) ▸ many, by simpa using dry⟩
      have keys : (touchScan levels s.begin).keysTouched = (s.begin.scanned levels).keysTouched := by
        unfold Units.keysTouched
        rw [touchScan_panelKeys]
      rw [keys, next, if_pos film]
      obtain ⟨on, panel⟩ := State.raise_panel 0x1904 1 7 0xFF 0 (le 1 (s.begin.scanned levels).keysTouched)
        { s.begin.scanned levels with panel := { (s.begin.scanned levels).panel with wet := true } }
      exact ⟨(congrArg Panel.wet panel).trans rfl, State.raise_lamps.trans rfl, State.raise_reported ..⟩
    · rw [next, if_neg (by simp [wet]), if_pos (show s.begin.panel.wet = true from wet)]
      exact ⟨rfl, rfl⟩
    · have few' : (s.newKeys (s.begin.scanned levels)).length < 3 := (congrArg List.length new) ▸ few
      have third' : 2 ∈ s.newKeys (s.begin.scanned levels) := new ▸ third
      rw [next, if_neg (by rintro ⟨many, -⟩; exact absurd few' (Nat.not_lt.mpr many)), if_neg (by simp [dry])]
      exact (keysTouched_lamps ..).2 third'
  case dry =>
    refine (running_next _ running).trans (congrArg _ (if_pos (List.all_eq_true.mpr fun k mem => ?_)))
    obtain ⟨up, long⟩ := released k (List.mem_range.mp mem)
    simp only [Bool.and_eq_true, decide_eq_true_eq]
    exact ⟨by rw [show (s.begin.touchKey k).touched = false from up]; rfl, long⟩
  case stuck => exact ⟨_, running_next _ running, keyStuck_spec (s := s.begin) below touched long heeded⟩
  case plug => exact ⟨_, running_serving _ running, servicePlugChange_spec (s := s.begin) running steady changed⟩
  case wake => exact ⟨_, _, running_next _ running, wakeRisingEdge_spec s.begin⟩

/-- Settles O25: a return by `lampReturn_valid` and `lampReturn_fault`, a channel's health by `healthTimeout_spec`. -/
theorem lampChain : Obligations.LampChain := by
  intro s running
  refine ⟨fun start count shares statuses => ?returns, fun c => ?health, fun ended => ?test⟩
  case returns =>
    refine ⟨_, running_next _ running, fun valid => ?_, fun c fault => ?_, fun header => if_pos header⟩
    · have ends := lampReturn_valid (s := s.begin) valid
      exact ⟨congrArg Prod.fst ends, congrArg (fun e => e.2.1) ends, congrArg (fun e => e.2.2) ends⟩
    · obtain ⟨lamps, reported, chain⟩ := lampReturn_fault (s := s.begin) fault
      exact ⟨returnFault_le fault, lamps, reported, fun _ => chain⟩
  case health =>
    obtain ⟨old, unclean, recent⟩ := healthTimeout_spec c s.begin
    refine ⟨_, running_next _ running, fun used aged low plain => ?_, fun used aged other => ?_, unclean, fun good young clean => ?_⟩
    · refine (old used aged).trans (if_pos ?_)
      rw [show (s.begin.lampChannel c).low = true from low, show s.begin.cfgOn 0x2B01 4 = false from plain]
      rfl
    · refine (old used aged).trans (if_neg fun both => other ?_)
      have ⟨low, plain⟩ := Bool.and_eq_true_iff.mp both
      exact ⟨low, by rw [← Bool.not_eq_true']; exact plain⟩
    · rw [recent good young clean]
      rfl
  case test => exact (running_next _ running).trans (congrArg _ (if_pos ended))

end Sys2Proof.Proofs

/-! PROOF. Snapshots (R413, R517 to R521). -/

namespace Sys2Proof.Machine

/-- An answer goes out behind what went out before it. -/
theorem answer_out (s : State) (r : Req) (a : Answer) : (s.answer r a).out = s.out ++ [.response r.origin r.id a] := by
  unfold State.answer
  dsimp only
  split
  · split
    · rfl
    · rfl
  · split
    · rfl
    · rfl
  · rfl

theorem Arrived.counters {s u : State} {r : Req} (h : Arrived s u r) : u.counters = s.counters := h.within .counters rfl

theorem Arrived.time {s u : State} {r : Req} (h : Arrived s u r) : u.time = s.time := h.within .time rfl

theorem Arrived.shown {s u : State} {r : Req} (h : Arrived s u r) : u.shown = s.shown := h.within .shown rfl

theorem Arrived.cfg {s u : State} {r : Req} (h : Arrived s u r) (index sub : Nat) : u.cfg index sub = s.cfg index sub := by
  rw [Units.cfg, h.within .settings rfl]
  rfl

theorem Arrived.cfgAccepted {s u : State} {r : Req} (h : Arrived s u r) (index sub : Nat) : u.cfgAccepted index sub = s.cfgAccepted index sub := by
  rw [Units.cfgAccepted, h.within .settings rfl]
  rfl

theorem Arrived.now {s u : State} {r : Req} (h : Arrived s u r) : u.now = (s.stamped r.stamp).now := now_arrived h

/-! ### The commands -/

/-- A snapshot as it is taken: the counters, and the lane banks of `u` (R518, R521). -/
def State.snapTaken (u : Units) (instant : Int) (atStep : Bool) (x : Snap) (s : State) : Snap :=
  let flags : Nat := (if s.time.valid then 0 else 1) + (if atStep then 2 else 0)
  { x with
    taken := some (instant, s.clock.tick, flags), values := s.counters.live
    lanes := (u.lanes.filter (fun e => e.2.occupied)).map (fun e => le 4 x.number.toNat ++ u.laneItem flags e.1) }

/-- The snapshot that a command begins, the next in number (R521). -/
def State.newSnap (code : Nat) (s : State) : Snap := { number := s.counters.number + 1, code := code, time := s.now }

theorem snapshotCommand_held {s : State} {code : Nat} (known : 1 ≤ code ∧ code ≤ 3) (held : s.counters.snap ≠ none) :
    s.snapshotCommand code = refuse 0x0F000002 (s.inUse "shadows" "snapshot") := by
  unfold State.snapshotCommand
  rw [if_neg (by omega), if_pos (Option.isSome_iff_ne_none.mpr held)]

/-- A snapshot command meets free shadows (R413, R518). -/
theorem snapshotCommand_free {s : State} {code : Nat} (known : 1 ≤ code ∧ code ≤ 3) (free : s.counters.snap = none) :
    s.snapshotCommand code =
      if code = 1 then confirm (s.takeSnap s.shown s.now false (s.newSnap 1))
      else if code = 2 then confirm { s with counters := { s.counters with snap := some (s.newSnap 2) } }
      else if s.cfgAccepted 0x2900 2 - s.now < 100000000 ∨ 3600000000000 < s.cfgAccepted 0x2900 2 - s.now then refuse 0x08000022 s
      else
        confirm (State.emit (.can 0x7C2 (le 4 (s.counters.number + 1).toNat ++ le 8 (s.cfgAccepted 0x2900 2) ++ le 1 s.chain.address ++ le 3 0))
          { s with counters := { s.counters with snap := some { s.newSnap 3 with time := s.cfgAccepted 0x2900 2 } } }) := by
  obtain rfl | rfl | rfl : code = 1 ∨ code = 2 ∨ code = 3 := by omega
  all_goals
    unfold State.snapshotCommand
    rw [if_neg (by decide), if_neg (by simp [free])]
    rfl

theorem exec_snapshot_refused {s : State} {r : Req} {c : Instr} {code : Nat} (meaning : exec c s = running (snapshotCommand r code) s)
    (known : 1 ≤ code ∧ code ≤ 3) (granted : s.grants r 0x2900 1 (le 1 code)) (held : s.counters.snap ≠ none) :
    ∃ t, exec c s = .next t ∧ t.says r (.refused 0x0F000002 0) := by
  obtain ⟨u, hu, next⟩ := exec_serveWrite_answer (body := State.snapshotCommand code) meaning granted
  refine ⟨_, next, ?_⟩
  rw [snapshotCommand_held known (by rw [hu.counters]; exact held)]
  exact State.answer_says ..

/-! ### Events leave the shadows -/

theorem count_snap (sel n : Nat) (s : State) : (s.count sel n).counters.snap = s.counters.snap := by
  unfold State.count
  exact State.foldl_keeps (fun t => t.counters.snap) (f := State.addCounter n) (fun _ _ => rfl) _ _

theorem occupy_snap (sel v : Nat) (s : State) : (s.occupy sel v).counters.snap = s.counters.snap := rfl

theorem placeItem_snap (q typ : Nat) (body : Bytes) (s : State) : (s.placeItem q typ body).counters.snap = s.counters.snap := by
  unfold State.placeItem
  rw [occupy_snap, count_snap, count_snap]
  rfl

theorem raiseCore_snap (code cls reg lane key : Nat) (params : Bytes) (s : State) :
    (s.raiseCore code cls reg lane key params).counters.snap = s.counters.snap := by
  unfold State.raiseCore
  have sampled : ∀ (v : State) (b : Bytes), (if reg = 4 then v.tripSample 2 lane v.now b else v).counters = v.counters := fun v b =>
    State.ite_same (fun u => u.counters) (State.tripSample_within .counters rfl) rfl
  have triggered : ∀ v : State, (if cls = 1 ∨ cls = 2 then v.trigger 20 v.now lane else v).counters = v.counters := fun v =>
    State.ite_same (fun u => u.counters) (State.trigger_within .counters rfl) rfl
  dsimp only
  rw [State.sound_within .counters rfl, sampled, triggered, placeItem_snap]
  refine State.ite_same (fun u => u.counters.snap) ?_ (State.ite_same (fun u => u.counters.snap) ?_ rfl)
  · rw [State.sendEmcy_within .counters rfl]
  · rw [State.sendEmcy_within .counters rfl]

theorem raise_snap (code cls reg lane key : Nat) (params : Bytes) (s : State) :
    (s.raise code cls reg lane key params).counters.snap = s.counters.snap := by
  unfold State.raise State.checkQueue
  rw [raiseCore_snap]
  refine State.ite_same (fun u => u.counters.snap) rfl ?_
  rw [State.trigger_within .counters rfl, raiseCore_snap, count_snap]
  rfl

/-! ### The instant, and a snapshot of the chain -/

theorem snapshotInstant_taken {s : State} {instant : Int} {atStep : Bool} {x : Snap} (pending : s.counters.snap = some x)
    (timed : x.code = 3 ∨ x.code = 4) (waits : x.taken = none) (reached : x.time ≤ instant) :
    (snapshotInstant instant atStep s).counters.snap = (s.takeSnap s.shown instant atStep x).counters.snap ∧
      (atStep = true → (snapshotInstant instant atStep s).reported 0x1703 0 0 0xFF (le 4 x.number.toNat ++ le 8 x.time)) := by
  unfold snapshotInstant
  rw [pending]
  dsimp only
  rw [if_pos ⟨timed, waits, reached⟩]
  refine ⟨State.ite_same (fun u => u.counters.snap) (raise_snap ..) rfl, fun step => ?_⟩
  rw [if_pos step]
  exact State.raise_reported ..

theorem snapshotInstant_other {s : State} {instant : Int} {atStep : Bool}
    (other : ∀ x, s.counters.snap = some x → instant < x.time ∨ x.code = 2 ∨ x.taken ≠ none) : snapshotInstant instant atStep s = s := by
  unfold snapshotInstant
  split
  · rfl
  · next x pending =>
    rw [if_neg]
    rintro ⟨timed, waits, reached⟩
    rcases other x pending with early | two | taken
    · omega
    · omega
    · exact taken waits

/-- A snapshot of the chain is joined, or declined with its cause (R521). -/
theorem snapshotFrame_spec (number : U32) (time : Int) (sender : Nat) (s : State) :
    (s.counters.snap = none → 20000000 < time - s.now →
      (snapshotFrame number time sender s).counters = { s.counters with snap := some { number := number, code := 4, time := time } }) ∧
    (s.counters.snap ≠ none → (snapshotFrame number time sender s).counters.snap = s.counters.snap ∧
      (snapshotFrame number time sender s).reported 0x1702 0 0 0xFF (le 4 number.toNat ++ le 1 sender ++ le 1 0)) ∧
    (s.counters.snap = none → time - s.now ≤ 20000000 → (snapshotFrame number time sender s).counters.snap = none ∧
      (snapshotFrame number time sender s).reported 0x1702 0 0 0xFF (le 4 number.toNat ++ le 1 sender ++ le 1 1)) := by
  unfold snapshotFrame
  dsimp only
  refine ⟨fun free far => ?_, fun held => ?_, fun free near => ?_⟩
  · rw [if_neg (by simp [free]), if_neg (by omega)]
  · rw [if_pos (Option.isSome_iff_ne_none.mpr held), raise_snap]
    exact ⟨rfl, State.raise_reported ..⟩
  · rw [if_neg (by simp [free]), if_pos near, raise_snap]
    exact ⟨free, State.raise_reported ..⟩

end Sys2Proof.Machine

namespace Sys2Proof.Proofs

open Sys2Proof Sys2Proof.Machine

/-- Settles O53: each snapshot command by `snapshotCommand_free` or `snapshotCommand_held`, the instant and the frame by their specs. -/
theorem snapshotsTaken : Obligations.SnapshotsTaken := by
  intro s running
  refine ⟨fun r granted free => ?now, fun r granted free => ?boundary, fun r granted free far near => ?time,
    fun r granted free late => ?refused, fun r held => ?held, fun instant atStep x pending timed waits reached => ?instant,
    fun instant atStep other => ?other, fun number time sender => ?frame⟩
  case now =>
    refine exec_serveWrite (c := .snapshotNow r) (body := State.snapshotCommand 1) rfl granted fun u hu => ?_
    refine ⟨_, (snapshotCommand_free (by decide) (hu.counters ▸ free)).trans (if_pos rfl), fun z hz => ?_⟩
    refine ⟨u.snapTaken u.shown u.now false (u.newSnap 1), ?_, ?_⟩
    · rw [hz .counters rfl, ← hu.counters]
      rfl
    · rw [← hu.counters, ← hu.now, ← hu.time, ← hu.shown, show s.clock.tick = u.clock.tick by rw [hu.clock]]
      exact ⟨rfl, rfl, rfl, rfl, rfl⟩
  case boundary =>
    refine exec_serveWrite (c := .snapshotAtNextBoundary r) (body := State.snapshotCommand 2) rfl granted fun u hu => ?_
    refine ⟨_, snapshotCommand_free (by decide) (hu.counters ▸ free), fun z hz => ?_⟩
    rw [hz .counters rfl, ← hu.counters, ← hu.now]
    rfl
  case time =>
    obtain ⟨u, hu, next⟩ := exec_serveWrite_answer (c := .snapshotAtTime r) (body := State.snapshotCommand 3) rfl granted
    have inTime : ¬(u.cfgAccepted 0x2900 2 - u.now < 100000000 ∨ 3600000000000 < u.cfgAccepted 0x2900 2 - u.now) := by
      rw [hu.cfgAccepted, hu.now]
      omega
    refine ⟨_, next, ?_⟩
    rw [snapshotCommand_free (by decide) (hu.counters ▸ free), if_neg (by decide), if_neg (by decide), if_neg inTime, State.answer_counters,
      ← hu.cfgAccepted, ← hu.counters, ← show u.chain.address = s.chain.address from congrArg Chain.address (hu.within .chain rfl), answer_out]
    exact ⟨State.answer_says .., rfl, List.mem_append_left _ (List.mem_append_right _ (List.mem_singleton.mpr rfl))⟩
  case refused =>
    refine exec_serveWrite (c := .snapshotAtTime r) (body := State.snapshotCommand 3) rfl granted fun u hu => ?_
    have outOfTime : u.cfgAccepted 0x2900 2 - u.now < 100000000 ∨ 3600000000000 < u.cfgAccepted 0x2900 2 - u.now := by
      rw [hu.cfgAccepted, hu.now]
      exact late
    refine ⟨u, ?_, fun z hz => (hz .counters rfl).trans hu.counters⟩
    rw [snapshotCommand_free (by decide) (hu.counters ▸ free), if_neg (by decide), if_neg (by decide), if_pos outOfTime]
    rfl
  case held =>
    exact ⟨fun granted => exec_snapshot_refused rfl (by decide) granted held, fun granted => exec_snapshot_refused rfl (by decide) granted held,
      fun granted => exec_snapshot_refused rfl (by decide) granted held⟩
  case instant =>
    obtain ⟨taken, reported⟩ := snapshotInstant_taken (s := s.begin) (atStep := atStep) pending timed waits reached
    exact ⟨_, running_next _ running, ⟨_, taken, rfl, rfl, rfl, rfl⟩, reported⟩
  case other =>
    exact (running_next _ running).trans (congrArg _ (snapshotInstant_other (s := s.begin) other))
  case frame =>
    obtain ⟨joins, held, near⟩ := snapshotFrame_spec number time sender s.begin
    exact ⟨fun free far => ⟨_, running_next _ running, joins free far⟩, fun some => ⟨_, running_next _ running, held some⟩,
      fun free late => ⟨_, running_next _ running, near free late⟩⟩

end Sys2Proof.Proofs

/-! PROOF. Waking, dropping and yielding of tasks (R31, R32, R508 to R511). -/

namespace Sys2Proof.Machine

theorem whileRunning_next {s : State} (f : State → State) (phase : s.power.phase = .running) :
    (.next (s.begin.whileRunning f) : Host.Outcome State Fault Refusal) = .next (f s.begin) :=
  congrArg _ (if_pos phase)

/-- The masks of a task meet its flags with `f` set (R508). -/
def Task.meets (t : Task) (f : U32) : Prop := (t.flags ||| f) &&& t.any ≠ 0 ∨ (t.all ≠ 0 ∧ (t.flags ||| f) &&& t.all = t.all)

/-- A task that waits in vain, or does not wait, takes the flags and no more (R508). -/
theorem wakeOnFlags_kept {s : State} {k : Nat} {f : U32} (asleep : (s.task k).status = .waiting → ¬(s.task k).meets f) :
    (wakeOnFlags k f s).task k = { s.task k with flags := (s.task k).flags ||| f } ∧ (wakeOnFlags k f s).disp.running = s.disp.running := by
  obtain ⟨u, next, task, run, -⟩ := wake1 s k f
  rw [next, if_neg]
  · exact ⟨task, run⟩
  · rintro ⟨waits, met⟩
    rw [task] at waits met
    exact asleep waits ((met_iff _).mp met)

/-- A task that becomes ready on an idle engine runs; on a busy one it pre-empts a lower priority alone (R510). -/
theorem tryRun_spec {s : State} {k : Nat} :
    ((s.tryRun k).task k).delay = (s.task k).delay ∧
    (s.runningOn (engineOf k) = none → (s.tryRun k).runningOn (engineOf k) = some k ∧ ((s.tryRun k).task k).status = .running ∧
      ((s.tryRun k).task k).flags = (s.task k).flags &&& ~~~ ((s.task k).any ||| (s.task k).all)) ∧
    (∀ cur, s.runningOn (engineOf k) = some cur → (s.task cur).priority < (s.task k).priority →
      (s.tryRun k).runningOn (engineOf k) = some k ∧ ((s.tryRun k).task k).status = .running ∧ ((s.tryRun k).task cur).status = .ready ∧
      ((s.tryRun k).task k).flags = (s.task k).flags &&& ~~~ ((s.task k).any ||| (s.task k).all)) ∧
    (∀ cur, s.runningOn (engineOf k) = some cur → ¬(s.task cur).priority < (s.task k).priority → s.tryRun k = s) := by
  cases engine : s.runningOn (engineOf k) with
  | none =>
    obtain ⟨u, tasks, -, next⟩ := tryRun_idle engine
    obtain ⟨runs, task, -⟩ := dispatch_spec k u
    rw [next, runs, task, task_eq tasks]
    exact ⟨rfl, fun _ => ⟨rfl, rfl, rfl⟩, nofun, nofun⟩
  | some cur =>
    have busy := tryRun_busy engine
    by_cases lower : (s.task cur).priority < (s.task k).priority
    · rw [if_pos lower] at busy
      obtain ⟨u, tasks, -, next⟩ := busy
      obtain ⟨runs, task, others⟩ := dispatch_spec k u
      have apart : cur ≠ k := by
        rintro rfl
        exact lt_irrefl _ lower
      have unchanged : u.task k = s.task k := by
        rw [task_eq tasks, onTask_other apart.symm (by simp [freshTask])]
      have displaced : (u.task cur).status = .ready := by rw [task_eq tasks, onTask_same]
      rw [next, runs, task, unchanged]
      refine ⟨rfl, nofun, fun c same _ => ?_, fun c same notLower => ?_⟩
      · cases same
        exact ⟨rfl, rfl, by rw [others cur apart, displaced], rfl⟩
      · cases same
        exact absurd lower notLower
    · rw [if_neg lower] at busy
      rw [busy]
      refine ⟨rfl, nofun, fun c same isLower => ?_, fun _ _ _ => rfl⟩
      cases same
      exact absurd isLower lower

/-! ### Dropping -/

theorem haltWork_same (k : Nat) (s : State) : (s.haltWork k).2.disp = s.disp ∧ (s.haltWork k).2.halt = s.halt :=
  ⟨State.haltWork_within .disp rfl, State.haltWork_within .halt rfl⟩

/-- A task with halt work in hand runs on, counted and reported (R32). -/
theorem deadlineDrop_halt {s : State} {k late work : Nat} (live : (s.task k).status ≠ .ended) (inHand : (s.haltWork k).1 = some work) :
    (deadlineDrop k late s).task k = { s.task k with late := saturateNat (s.task k).late } ∧
      (deadlineDrop k late s).disp.running = s.disp.running ∧ (deadlineDrop k late s).halt.lateWork = saturate s.halt.lateWork ∧
      (deadlineDrop k late s).reported 0x0701 1 7 0xFF (le 1 work ++ le 4 late) := by
  obtain ⟨disp, halt⟩ := haltWork_same k s
  unfold deadlineDrop
  dsimp only
  rw [if_neg live, inHand]
  generalize (s.haltWork k).2 = u at disp halt
  obtain ⟨same, counted, reported⟩ := lateHalt_spec work late (u.onTask k (fun x => { x with late := saturateNat x.late }))
  refine ⟨?_, ?_, counted.trans (congrArg (fun h : Halt => saturate h.lateWork) halt), reported⟩
  · rw [task_congr same, onTask_same, task_congr disp]
  · rw [same, ← disp]
    rfl

/-- The task removed at its deadline, before its engine goes on (R511). -/
def State.dropped (k : Nat) (s : State) : State :=
  let s := s.onTask k (fun x => { x with late := saturateNat x.late, flags := 0, delay := none, woken := none, status := .waiting })
  let s := s.count (0x300 + engineOf k) 1
  let s := if fixedTask k then s.trigger 18 s.now 0xFF else s
  if 0xE0 ≤ k ∧ k ≤ 0xE3 then s.assemblyLate (k - 0xE0) else s

theorem dropped_spec (k : Nat) (s : State) :
    (s.dropped k).task k = { s.task k with late := saturateNat (s.task k).late, flags := 0, delay := none, woken := none, status := .waiting } ∧
      (s.dropped k).halt = s.halt := by
  have kept : Within [.counters, .trip, .air]
      (s.onTask k (fun x => { x with late := saturateNat x.late, flags := 0, delay := none, woken := none, status := .waiting })) (s.dropped k) := by
    unfold State.dropped
    refine Within.ite (Within.after ?_ State.assemblyLate_within rfl) ?_
    all_goals
      refine Within.ite (Within.after ?_ State.trigger_within rfl) ?_
      · exact State.count_within.mono rfl
      · exact State.count_within.mono rfl
  exact ⟨by rw [task_congr (kept .disp rfl), onTask_same], kept .halt rfl⟩

theorem deadlineDrop_dropped {s : State} {k late : Nat} (live : (s.task k).status ≠ .ended) (idle : (s.haltWork k).1 = none) :
    ((deadlineDrop k late s).task k).late = saturateNat (s.task k).late ∧ ((deadlineDrop k late s).task k).flags = 0 ∧
      ((deadlineDrop k late s).task k).status = .waiting ∧ (deadlineDrop k late s).halt = s.halt := by
  obtain ⟨disp, halt⟩ := haltWork_same k s
  have next : deadlineDrop k late s = if (s.task k).status = .running then ((s.haltWork k).2.dropped k).follow (engineOf k) 3 k 4
      else (s.haltWork k).2.dropped k := by
    unfold deadlineDrop
    dsimp only
    rw [if_neg live, idle]
    rfl
  rw [next]
  obtain ⟨task, same⟩ := dropped_spec k (s.haltWork k).2
  rw [task_congr disp] at task
  have waits : (((s.haltWork k).2.dropped k).task k).status ≠ .ready := by
    rw [task]
    exact nofun
  have kept : (if (s.task k).status = .running then ((s.haltWork k).2.dropped k).follow (engineOf k) 3 k 4
      else (s.haltWork k).2.dropped k).task k = ((s.haltWork k).2.dropped k).task k :=
    State.ite_same (fun u => u.task k) (follow_task _ _ _ _ _ _ waits) rfl
  rw [kept, task]
  exact ⟨rfl, rfl, rfl, State.ite_same (fun u => u.halt) ((State.follow_within .halt rfl).trans (same.trans halt)) (same.trans halt)⟩

theorem haltWork_other {s : State} {k : Nat} (other : k ≠ 0x60) (elsewhere : engineOf k ≠ 4) : (s.haltWork k).1 = none := by
  rw [State.haltWork, if_neg (show ¬k = haltTask from other), if_neg elsewhere]

theorem haltWork_safety {s : State} {k : Nat} (other : k ≠ 0x60) (safety : engineOf k = 4) :
    (s.haltWork k).1 = none ∨ ∃ work, (work = 1 ∨ work = 2) ∧ (s.haltWork k).1 = some work := by
  rw [State.haltWork, if_neg (show ¬k = haltTask from other), if_pos safety]
  dsimp only
  split
  · exact .inl rfl
  · exact .inr ⟨_, by omega, rfl⟩

/-! ### Yielding -/

/-- What a task leaves in its context as it yields (R509, R510). -/
def Task.yielded (t : Task) (kind : YieldKind) (any all : U32) : Task :=
  match kind with
  | .waitFlags => { t with status := .waiting, any := any, all := all, delay := none }
  | .delayed n => { t with status := .waiting, any := any, all := all, delay := some (max 1 (min n 65535)) }
  | .periodOver => { t with status := .ended, any := any, all := all, delay := none }

theorem yielded_met (t : Task) (kind : YieldKind) (any all : U32) :
    (t.yielded kind any all).met = true ↔ (t.flags &&& any ≠ 0 ∨ (all ≠ 0 ∧ t.flags &&& all = all)) := by
  cases kind with
  | waitFlags => exact met_iff _
  | delayed n => exact met_iff _
  | periodOver => exact met_iff _

/-- The running task after a yield: as it yielded, or ready again at once (R508). -/
theorem yieldTask_spec {s : State} {e k : Nat} {kind : YieldKind} {any all : U32} (runs : s.runningOn e = some k) :
    (¬(((s.task k).yielded kind any all).status = .waiting ∧ ((s.task k).yielded kind any all).met = true) →
      (yieldTask e kind any all s).task k = (s.task k).yielded kind any all) ∧
    ((((s.task k).yielded kind any all).status = .waiting ∧ ((s.task k).yielded kind any all).met = true) →
      up (yieldTask e kind any all s) k ∧ ((yieldTask e kind any all s).task k).delay = none) := by
  have task : (s.onTask k (fun x => x.yielded kind any all)).task k = (s.task k).yielded kind any all := onTask_same ..
  have next : ∃ out, yieldTask e kind any all s = State.follow e 5 k out
      (if ((s.onTask k (fun x => x.yielded kind any all)).task k).status = .waiting ∧ ((s.onTask k (fun x => x.yielded kind any all)).task k).met
        then (s.onTask k (fun x => x.yielded kind any all)).makeReady k (some ((s.onTask k (fun x => x.yielded kind any all)).task k).wakingFlag)
        else s.onTask k (fun x => x.yielded kind any all)) := by
    unfold yieldTask
    rw [runs]
    exact ⟨_, rfl⟩
  obtain ⟨out, next⟩ := next
  rw [next, task]
  refine ⟨fun rests => ?_, fun woken => ?_⟩
  · rw [if_neg rests]
    refine (follow_task _ _ _ _ _ _ ?_).trans task
    rw [task]
    cases kind with
    | waitFlags => exact nofun
    | delayed n => exact nofun
    | periodOver => exact nofun
  · rw [if_pos woken]
    obtain ⟨ready, -, -⟩ := makeReady_spec k (some ((s.task k).yielded kind any all).wakingFlag) (s.onTask k (fun x => x.yielded kind any all))
    obtain ⟨isUp, delay⟩ := follow_up _ e 5 k out k (congrArg Task.status ready)
    exact ⟨isUp, by rw [delay, ready]⟩

end Sys2Proof.Machine

namespace Sys2Proof.Proofs

open Sys2Proof Sys2Proof.Machine

/-- Settles O54: waking by `wakeOnFlags_kept` and `tryRun_spec`, the delays by `fold1`. -/
theorem tasksWake : Obligations.TasksWake := by
  intro s running
  refine ⟨fun k f => ⟨_, whileRunning_next _ running, fun active => ?_, fun waits unmet => ?_, fun waits met => ?_⟩,
    fun e => ⟨_, whileRunning_next _ running, fun k engine waits expired => ?_⟩⟩
  · exact wakeOnFlags_kept (s := s.begin) fun waits => absurd waits active
  · exact wakeOnFlags_kept (s := s.begin) fun _ => unmet
  · obtain ⟨u, next, task, run, others⟩ := wake1 s.begin k f
    obtain ⟨ready, rest, run'⟩ := makeReady_spec k (some (u.task k).wakingFlag) u
    have woken : (u.task k).status = .waiting ∧ (u.task k).met = true := by
      rw [task, met_iff]
      exact ⟨waits, met⟩
    rw [next, if_pos woken]
    generalize u.makeReady k (some (u.task k).wakingFlag) = v at *
    obtain ⟨delay, idle, lower, higher⟩ := tryRun_spec (s := v) (k := k)
    have engine : v.runningOn (engineOf k) = s.runningOn (engineOf k) := by
      rw [run_eq run', run_eq run]
      rfl
    have same : ∀ cur, cur ≠ k → v.task cur = s.task cur := fun cur apart => (rest cur apart).trans (others cur apart waits)
    rw [engine] at idle lower higher
    have priority : ∀ c, (v.task c).priority = (s.task c).priority := fun c => by
      by_cases apart : c = k
      · rw [apart, ready, task]
        rfl
      · rw [same c apart]
    have flags : (v.task k).flags = (s.task k).flags ||| f := by
      rw [ready, task]
      rfl
    have masks : (v.task k).any = (s.task k).any ∧ (v.task k).all = (s.task k).all := by
      rw [ready, task]
      exact ⟨rfl, rfl⟩
    rw [flags, masks.1, masks.2] at idle lower
    refine ⟨by rw [delay, ready], ?_⟩
    split
    · next none => exact idle none
    · next cur some =>
      split
      · next less => exact lower cur some (by rwa [priority, priority])
      · next notLess =>
        rw [higher cur some (by rwa [priority, priority]), engine, flags]
        exact ⟨some, by rw [ready], rfl⟩
  · refine (fold1 e k _ s.begin).2 ?_ engine waits expired
    refine mem_of_tget (d := freshTask) fun plain => ?_
    have fresh : (s.task k).delay = none := congrArg Task.delay plain
    simp [fresh] at expired

/-- Settles O55: the drop by the halt work in hand, the yield by `yieldTask_spec`. -/
theorem tasksDropAndYield : Obligations.TasksDropAndYield := by
  intro s running
  refine ⟨fun k late live => ⟨_, whileRunning_next _ running, fun other elsewhere => ?_, fun decision => ?_, fun other safety => ?_⟩,
    fun e k kind any all runs => ⟨_, whileRunning_next _ running, fun done => ?_, fun unmet => ?_, fun waits met => ?_⟩⟩
  · exact deadlineDrop_dropped (s := s.begin) live (haltWork_other other elsewhere)
  · exact deadlineDrop_halt (s := s.begin) live (by rw [State.haltWork, if_pos (show k = haltTask from decision)])
  · rcases haltWork_safety (s := s.begin) other safety with idle | ⟨work, kind, inHand⟩
    · exact .inl (deadlineDrop_dropped (s := s.begin) live idle)
    · exact .inr ⟨work, by omega, deadlineDrop_halt (s := s.begin) live inHand⟩
  · subst done
    exact (yieldTask_spec (s := s.begin) runs).1 (by rintro ⟨waits, -⟩; cases waits)
  · have rests := (yieldTask_spec (s := s.begin) (kind := kind) (any := any) (all := all) runs).1
      fun h => unmet ((yielded_met _ kind any all).mp h.2)
    exact ⟨fun wait => by rw [rests, wait]; rfl, fun n delayed => by rw [rests, delayed]; rfl⟩
  · refine (yieldTask_spec (s := s.begin) runs).2 ⟨?_, (yielded_met _ kind any all).mpr met⟩
    rcases waits with rfl | ⟨n, rfl⟩
    · rfl
    · rfl

end Sys2Proof.Proofs

/-! PROOF. Trip captures (R533 to R544). -/

namespace Sys2Proof.Machine

/-! ### Capture units -/

theorem tripUnit_onTrip (s : State) (u : Nat) (f : TripUnit → TripUnit) : (s.onTrip u f).tripUnit u = f (s.tripUnit u) := by
  simp [State.onTrip, State.tripUnit]

theorem tripUnit_onTrip_other {s : State} {u v : Nat} {f : TripUnit → TripUnit} (other : v ≠ u) (lives : (f (s.tripUnit u)).state ≠ 0) :
    (s.onTrip u f).tripUnit v = s.tripUnit v :=
  tget_tput_other _ other fun plain => lives (congrArg TripUnit.state plain)

theorem note_armed {t : TripUnit} (armed : t.state = 2) (b : Nat) (time : Int) : t.note b time = { t with fired := t.fired ++ [(b, time)] } :=
  if_pos armed

theorem note_other {t : TripUnit} (other : t.state ≠ 2) (b : Nat) (time : Int) : t.note b time = t := if_neg other

/-- Unit by unit, a forced trigger (R533). -/
def State.forced (s : State) (u : Nat) : State := s.onTrip u (TripUnit.note 31 s.now)

theorem forced_all {l : List Nat} (once : l.Nodup) {s : State} (armed : ∀ u ∈ l, (s.tripUnit u).state = 2) (u : Nat) :
    (l.foldl State.forced s).tripUnit u =
      if u ∈ l then { s.tripUnit u with fired := (s.tripUnit u).fired ++ [(31, s.now)] } else s.tripUnit u := by
  induction l generalizing s with
  | nil => rfl
  | cons v l ih =>
    obtain ⟨notIn, once⟩ := List.nodup_cons.mp once
    have first : (s.tripUnit v).state = 2 := armed v List.mem_cons_self
    have rest : ∀ w, w ≠ v → (s.forced v).tripUnit w = s.tripUnit w := fun w other =>
      tripUnit_onTrip_other other (by rw [note_armed first]; simp [first])
    have hit : (s.forced v).tripUnit v = { s.tripUnit v with fired := (s.tripUnit v).fired ++ [(31, s.now)] } := by
      rw [State.forced, tripUnit_onTrip, note_armed first]
    rw [List.foldl_cons, ih once fun w mem => by
      rw [rest w (by rintro rfl; exact notIn mem)]
      exact armed w (List.mem_cons_of_mem _ mem)]
    by_cases same : u = v
    · subst same
      rw [if_neg notIn, if_pos List.mem_cons_self, hit]
    · rw [rest u same]
      simp [same]
      rfl

theorem forceTrigger_eq {s : State} {mask : Nat} (known : mask ≤ 15) :
    s.forceTrigger mask = confirm (((List.range 4).filter (bit mask)).foldl State.forced s) :=
  if_neg (by omega)

/-- The mask of one unit forces that unit alone (R533). -/
theorem mask_single {u : Nat} (below : u < 4) : (List.range 4).filter (bit (2 ^ u)) = [u] := by
  obtain rfl | rfl | rfl | rfl : u = 0 ∨ u = 1 ∨ u = 2 ∨ u = 3 := by omega
  all_goals decide

/-! ### Completion -/

theorem recordItems_length (number source : Nat) (pre : Bool) (i : Nat) (l : List TripRec) :
    (recordItems number source pre i l).length = l.length := by
  induction l generalizing i with
  | nil => rfl
  | cons r l ih => exact congrArg (· + 1) (ih (i + 1))

theorem captureItems_spec (s : State) (u number : Nat) : ∃ (body : List (Nat × Bytes)) (mac : Bytes),
    s.captureItems u number = body ++ [(4, le 4 number ++ le 1 s.sealGeneration ++ le 3 0 ++ le 4 body.length ++ mac)] ∧
      (s.sealGeneration = 0 → mac = List.replicate 16 0) ∧ body.length = 1 + (s.tripUnit u).pre.length + (s.tripUnit u).post.length := by
  refine ⟨_, _, rfl, fun none => if_pos none, ?_⟩
  cases post : (s.tripUnit u).post with
  | nil => simp [recordItems_length]; omega
  | cons r l => simp [recordItems_length]; omega

/-- An event of class 0 without a fault's register, its queue sound, leaves the trip recorder alone (R397). -/
theorem raise_trip {code lane key : Nat} {params : Bytes} {s : State} (write : (s.stream 1).write.ok = true)
    (read : (s.stream 1).readPtr.ok = true) : (s.raise code 0 0 lane key params).trip = s.trip := by
  unfold State.raise State.checkQueue
  rw [if_pos (by rw [write, read]; rfl)]
  unfold State.raiseCore
  dsimp only
  rw [State.sound_within .trip rfl, if_neg (show ¬0 = 4 by decide), if_neg (show ¬(0 = 1 ∨ 0 = 2) by decide),
    if_neg (show ¬(0 = 1 ∨ 0 = 2) by decide), State.placeItem_within .trip rfl]
  exact State.ite_same (fun u => u.trip) (State.sendEmcy_within .trip rfl) rfl

/-- The capture frozen and sealed, before it is announced (R540, R542). -/
def State.sealed (u : Nat) (s : State) : State :=
  let t := s.onTrip u (fun x => { x with state := 4, items := s.captureItems u (s.captureNumber u), sealed := s.captureItems u (s.captureNumber u) })
  { t with keys := { t.keys with sealPort := t.keys.sealPort || decide (t.sealGeneration ≠ 0) } }

theorem captureComplete_full {s : State} {u : Nat} (filling : (s.tripUnit u).state = 3)
    (full : (s.tripUnit u).need ≤ partSize (s.tripUnit u).post) : captureComplete u s =
      (s.sealed u).raise 0x1801 0 0 0xFF 0 (le 1 u ++ le 3 0 ++ le 4 (s.captureNumber u) ++ le 4 (s.tripUnit u).cause) :=
  if_neg (by simp [filling]; omega)

theorem captureComplete_other {s : State} {u : Nat} (other : (s.tripUnit u).state ≠ 3 ∨ partSize (s.tripUnit u).post < (s.tripUnit u).need) :
    captureComplete u s = s := if_pos other

theorem captureComplete_unit {s : State} {u : Nat} (filling : (s.tripUnit u).state = 3)
    (full : (s.tripUnit u).need ≤ partSize (s.tripUnit u).post) (write : (s.stream 1).write.ok = true) (read : (s.stream 1).readPtr.ok = true) :
    (captureComplete u s).tripUnit u =
      { s.tripUnit u with state := 4, items := s.captureItems u (s.captureNumber u), sealed := s.captureItems u (s.captureNumber u) } := by
  have trip : (captureComplete u s).trip = (s.sealed u).trip := by
    rw [captureComplete_full filling full]
    exact raise_trip write read
  have unit := tripUnit_onTrip s u
    (fun x => { x with state := 4, items := s.captureItems u (s.captureNumber u), sealed := s.captureItems u (s.captureNumber u) })
  rw [State.tripUnit, trip]
  exact unit

theorem captureComplete_sealPort {s : State} {u : Nat} (filling : (s.tripUnit u).state = 3)
    (full : (s.tripUnit u).need ≤ partSize (s.tripUnit u).post) (keyed : s.sealGeneration ≠ 0) : (captureComplete u s).keys.sealPort = true := by
  rw [captureComplete_full filling full, State.raise_keys]
  show (_ || decide (s.sealGeneration ≠ 0)) = true
  simp [keyed]

/-! ### Draining -/

theorem dropOldest_fits {cap room : Nat} {l : List Item} (fits : (l.map Item.size).sum + room ≤ cap) : dropOldest cap room l = l := by
  cases l with
  | nil => rfl
  | cons i l => exact if_pos (by simpa using fits)

theorem Pointer.advance_ok (p : Pointer) (n : Nat) : (p.advance n).ok = true := by simp [Pointer.advance, Pointer.ok]

/-- Stream `q` takes items, and no pointer of its is at odds (R523). -/
def State.streamSound (s : State) (q : Nat) : Prop := (s.stream q).write.ok = true ∧ (s.stream q).readPtr.ok = true

theorem occupy_access (sel v : Nat) (s : State) : (s.occupy sel v).access = s.access := rfl

theorem placeItem_streams (q typ : Nat) (body : Bytes) (s : State) :
    (s.placeItem q typ body).stream q = (s.stream q).put (streamCapacity q) typ body := by
  unfold State.placeItem
  rw [Units.stream, occupy_access, State.count_within .access rfl, State.count_within .access rfl]
  simp [State.onStream, Units.stream]

/-- An item that fits joins a sound stream at its end, and the stream stays sound (R395, R523). -/
theorem push_fits {q typ : Nat} {body : Bytes} {s : State} (sound : s.streamSound q)
    (fits : (s.stream q).fill + (8 + body.length) ≤ streamCapacity q) :
    s.push q typ body = s.placeItem q typ body ∧ (s.push q typ body).streamSound q ∧
      ((s.push q typ body).stream q).items.map (fun i => (i.typ, i.body)) = (s.stream q).items.map (fun i => (i.typ, i.body)) ++ [(typ, body)] ∧
      ((s.push q typ body).stream q).fill = (s.stream q).fill + (8 + body.length) := by
  obtain ⟨write, read⟩ := sound
  have next : s.push q typ body = s.placeItem q typ body := by
    unfold State.push State.checkQueue
    rw [if_pos (by rw [write, read]; rfl)]
  have kept : dropOldest (streamCapacity q) (8 + body.length) (s.stream q).items = (s.stream q).items := dropOldest_fits fits
  rw [next]
  unfold State.streamSound
  rw [placeItem_streams]
  unfold Stream.put Stream.fill
  dsimp only
  rw [kept]
  simp [Pointer.advance_ok, read, Item.size]

theorem push_units {q typ : Nat} {body : Bytes} {s : State} (placed : s.push q typ body = s.placeItem q typ body) :
    (s.push q typ body).trip = s.trip := by
  rw [placed]
  exact State.placeItem_within .trip rfl

/-- An item written to the archive, which starts over where it would not fit (R544). -/
def State.archived (item : Bytes) (s : State) : State :=
  let a := if Config.archiveCapacity < s.trip.archive + item.length then 0 else s.trip.archive
  ({ s with trip := { s.trip with archive := a + item.length } } : State).emit (.archive a item)

/-- One item written to the export stream, and to the archive where it is kept (R539, R544). -/
def State.exported (archive : Bool) (i : Nat × Bytes) (s : State) : State :=
  if archive then (s.push 3 i.1 i.2).archived (le 4 (s.stream 3).next.toNat ++ le 2 i.2.length ++ le 1 i.1 ++ le 1 0 ++ i.2)
  else s.push 3 i.1 i.2

theorem archived_same (item : Bytes) (s : State) : (s.archived item).access = s.access ∧ (s.archived item).trip.units = s.trip.units :=
  ⟨rfl, rfl⟩

theorem exported_same (archive : Bool) (i : Nat × Bytes) (s : State) :
    (s.exported archive i).access = (s.push 3 i.1 i.2).access ∧ (s.exported archive i).trip.units = (s.push 3 i.1 i.2).trip.units := by
  unfold State.exported
  split
  · exact archived_same ..
  · exact ⟨rfl, rfl⟩

theorem exportItems_cons {archive : Bool} {i : Nat × Bytes} {l : List (Nat × Bytes)} {s : State} (room : s.exportRoom i.2 = true) :
    State.exportItems archive (i :: l) s = State.exportItems archive l (s.exported archive i) := by
  rw [State.exportItems, if_neg (by simp [room])]
  rfl

/-- Bytes that items take in a stream, with their headers (R395). -/
def exportBytes (l : List (Nat × Bytes)) : Nat := (l.map (fun i => 8 + i.2.length)).sum

/-- Items that all fit go out whole and in order (R539). -/
theorem exportItems_fits (archive : Bool) (l : List (Nat × Bytes)) {s : State} (sound : s.streamSound 3)
    (fits : (s.stream 3).fill + exportBytes l ≤ 524288) :
    (State.exportItems archive l s).1 = [] ∧ (State.exportItems archive l s).2.trip.units = s.trip.units ∧
      ((State.exportItems archive l s).2.stream 3).items.map (fun i => (i.typ, i.body)) =
        (s.stream 3).items.map (fun i => (i.typ, i.body)) ++ l := by
  induction l generalizing s with
  | nil => exact ⟨rfl, rfl, (List.append_nil _).symm⟩
  | cons i l ih =>
    have total : exportBytes (i :: l) = 8 + i.2.length + exportBytes l := rfl
    have one : (s.stream 3).fill + (8 + i.2.length) ≤ streamCapacity 3 := by
      show _ ≤ 524288
      omega
    obtain ⟨placed, stillSound, items, fill⟩ := push_fits (typ := i.1) sound one
    obtain ⟨access, units⟩ := exported_same archive i s
    have stream : (s.exported archive i).stream 3 = (s.push 3 i.1 i.2).stream 3 := by rw [Units.stream, access, Units.stream]
    obtain ⟨empty, kept, out⟩ := ih (s := s.exported archive i) (by rw [State.streamSound, stream]; exact stillSound)
      (by rw [stream, fill]; omega)
    rw [exportItems_cons (decide_eq_true (by omega))]
    refine ⟨empty, kept.trans (units.trans (congrArg Trip.units (push_units placed))), ?_⟩
    rw [out, stream, items, List.append_assoc, List.singleton_append]

theorem reexportStep_none {s : State} (none : s.trip.reexport = []) : s.reexportStep = s := by
  unfold State.reexportStep
  split
  · rfl
  · rw [none]
    exact congrArg (fun x => ({ s with trip := { s.trip with reexport := x } } : State)) none.symm

theorem reexportStep_free {s : State} (free : (s.stream 3).reader = 0) : s.reexportStep = s := if_pos free

/-- The state that a capture passed on whole leaves, before its unit starts again (R539, R543). -/
def State.passedOn (u : Nat) (s : State) : State :=
  let p := State.exportItems (s.cfgOn 0x2A00 3) (s.tripUnit u).items s
  if s.cfgOn (0x2A10 + u) 7 then p.2.retain u (s.captureNumber u) (s.tripUnit u).sealed else p.2

theorem drainUnit_whole {s : State} {u : Nat} (frozen : (s.tripUnit u).state = 4) (reader : (s.stream 3).reader ≠ 0) (none : s.trip.reexport = [])
    (whole : (State.exportItems (s.cfgOn 0x2A00 3) (s.tripUnit u).items s).1 = []) : s.drainUnit u =
      (s.passedOn u).onTrip u (fun x => { (x.start ((s.passedOn u).cfgNat (0x2A10 + u) 4)) with captures := x.captures + 1 }) := by
  unfold State.drainUnit
  rw [reexportStep_none none]
  dsimp only
  rw [if_neg, if_neg (by simp [whole])]
  · rfl
  · simp only [frozen, none]
    simpa using reader

theorem drainUnit_free {s : State} {u : Nat} (free : (s.stream 3).reader = 0) : s.drainUnit u = s := by
  unfold State.drainUnit
  rw [reexportStep_free free]
  exact if_pos (.inr (.inl free))

theorem retain_small {s : State} {u number : Nat} {items : List (Nat × Bytes)} (small : retainedBytes items ≤ 2097152) :
    s.retain u number items = { s with trip := { s.trip with retained := displace (retainedBytes items) s.trip.retained ++ [items] } } :=
  if_neg (Nat.not_lt.mpr small)

theorem passedOn_spec {s : State} {u : Nat} (sound : s.streamSound 3) (fits : (s.stream 3).fill + exportBytes (s.tripUnit u).items ≤ 524288)
    (small : s.cfgOn (0x2A10 + u) 7 = true → retainedBytes (s.tripUnit u).sealed ≤ 2097152) :
    ((s.passedOn u).stream 3).items.map (fun i => (i.typ, i.body)) =
        (s.stream 3).items.map (fun i => (i.typ, i.body)) ++ (s.tripUnit u).items ∧
      (s.passedOn u).tripUnit u = s.tripUnit u ∧ (s.passedOn u).settings = s.settings ∧
      (s.cfgOn (0x2A10 + u) 7 = true → ∃ l, (s.passedOn u).trip.retained = l ++ [(s.tripUnit u).sealed]) := by
  obtain ⟨-, units, items⟩ := exportItems_fits (s.cfgOn 0x2A00 3) (s.tripUnit u).items sound fits
  have settings : (State.exportItems (s.cfgOn 0x2A00 3) (s.tripUnit u).items s).2.settings = s.settings :=
    State.exportItems_within .settings rfl
  unfold State.passedOn
  dsimp only
  by_cases keep : s.cfgOn (0x2A10 + u) 7 = true
  · rw [if_pos keep, retain_small (small keep)]
    exact ⟨items, by rw [State.tripUnit, units, State.tripUnit], settings, fun _ => ⟨_, rfl⟩⟩
  · rw [if_neg keep]
    exact ⟨items, by rw [State.tripUnit, units, State.tripUnit], settings, fun h => absurd h keep⟩

end Sys2Proof.Machine

namespace Sys2Proof.Proofs

open Sys2Proof Sys2Proof.Machine

/-- Settles O56: triggers by `forced_all` and the note of one unit, completion by `captureItems_spec`, draining by `passedOn_spec`. -/
theorem capturesRun : Obligations.CapturesRun := by
  intro s running
  refine ⟨fun r mask known granted => ⟨fun armed => ?forced, fun u below single idle => ?idle⟩, fun u armed some' due quiet => ?auto,
    fun u other => ?notYet, fun u filling full write read => ?complete, fun u other => ?incomplete,
    fun u below frozen reader none write read fits small => ?drained, fun u free => ?unread⟩
  case forced =>
    refine exec_serveWrite (c := .forceTrigger r mask) (body := State.forceTrigger mask) rfl granted fun v hv => ?_
    refine ⟨_, forceTrigger_eq known, fun z hz u below => ?_⟩
    have found : ∀ w, v.tripUnit w = s.tripUnit w := fun w => by rw [State.tripUnit, hv.within .trip rfl]; rfl
    have all := forced_all (s := v) (l := (List.range 4).filter (bit mask)) (List.nodup_range.filter _) (fun w mem => by
      obtain ⟨inside, set⟩ := List.mem_filter.mp mem
      rw [found]
      exact armed w (List.mem_range.mp inside) set) u
    rw [State.tripUnit, hz .trip rfl]
    refine all.trans ?_
    simp [List.mem_filter, below, found, hv.now]
  case idle =>
    refine exec_serveWrite (c := .forceTrigger r mask) (body := State.forceTrigger mask) rfl granted fun v hv => ?_
    refine ⟨_, forceTrigger_eq known, fun z hz => ?_⟩
    have found : v.tripUnit u = s.tripUnit u := by rw [State.tripUnit, hv.within .trip rfl]; rfl
    rw [State.tripUnit, hz .trip rfl]
    show (((List.range 4).filter (bit mask)).foldl State.forced v).tripUnit u = _
    rw [single, mask_single below]
    show (v.onTrip u _).tripUnit u = _
    rw [tripUnit_onTrip, found, note_other idle]
  case auto =>
    refine ⟨_, running_next _ running, ?_⟩
    rw [autoTrigger]
    dsimp only
    rw [if_pos ⟨armed, some', due, List.isEmpty_iff.mpr quiet⟩, tripUnit_onTrip, note_armed (show (s.begin.tripUnit u).state = 2 from armed),
      show (s.begin.tripUnit u).fired = [] from quiet]
    rfl
  case notYet =>
    refine (running_next _ running).trans (congrArg _ (if_neg ?_))
    rintro ⟨armed, some', due, -⟩
    rcases other with h | h | h
    · exact h armed
    · exact some' h
    · exact absurd due (Nat.not_le.mpr h)
  case complete =>
    obtain ⟨body, mac, items, unkeyed, count⟩ := captureItems_spec s.begin u (s.begin.captureNumber u)
    refine ⟨_, running_next _ running, body, mac, ?_, unkeyed, captureComplete_sealPort (s := s.begin) filling full, count, ?_⟩
    · rw [captureComplete_unit (s := s.begin) filling full write read, items]
      rfl
    · rw [captureComplete_full (s := s.begin) filling full]
      exact State.raise_reported ..
  case incomplete => exact (running_next _ running).trans (congrArg _ (captureComplete_other (s := s.begin) other))
  case drained =>
    have sound : s.begin.streamSound 3 := ⟨write, read⟩
    obtain ⟨items, unit, settings, retained⟩ := passedOn_spec (s := s.begin) (u := u) sound fits small
    have whole := (exportItems_fits (s.begin.cfgOn 0x2A00 3) (s.begin.tripUnit u).items sound fits).1
    have next : captureDrained u s.begin = _ := (if_pos below).trans (drainUnit_whole (s := s.begin) frozen reader none whole)
    refine ⟨_, running_next _ running, ?_⟩
    rw [next, tripUnit_onTrip, unit]
    have cfg : (s.begin.passedOn u).cfgNat (0x2A10 + u) 4 = s.cfgNat (0x2A10 + u) 4 := by
      rw [Units.cfgNat, Units.cfg, settings]
      rfl
    rw [cfg]
    exact ⟨items, rfl, rfl, rfl, rfl, rfl, rfl, rfl, retained⟩
  case unread =>
    refine (running_next _ running).trans (congrArg _ ?_)
    exact (State.ite_same id (drainUnit_free (s := s.begin) free) rfl)

end Sys2Proof.Proofs

/-! PROOF. Lane commands, routes, limits and areas as they are accepted (R19, R155, R158, R182, R183, R196, R200 to R203, R409). -/

namespace Sys2Proof.Machine

/-- A lane command as a command: what `exec` makes of it. -/
theorem exec_laneOrder {s : State} {r : Req} {lane code : Nat} {c : Instr} (running : s.power.phase = .running)
    (meaning : exec c s = Machine.running (laneOrder r lane code) s) (known : code = 1 ∨ code = 2 ∨ code = 3 ∨ code = 4 ∨ code = 5)
    (granted : s.grants r (0x4000 + lane) 0x10 (le 1 code)) (role : permitted (s.roles r.origin) (laneCommandRoles code) = true)
    (sound : s.frozen lane = false ∨ code = 5) (moves : code = 1 → s.laneIs lane .halted = false) :
    ∃ t, exec c s = .next t ∧ t.says r .pending ∧ t.due = s.due ++ [{ lane := lane, what := .command code r }] ∧
      (s.frozen lane = false → t.lanes = s.lanes) :=
  ⟨_, meaning.trans (running_next _ running), State.laneOrder_completes known granted role sound moves⟩

section
variable {s : State} {r : Req} {lane : Nat}

/-- A route command on a lane whose stored state is sound (R19, R200). -/
theorem routeCommand_sound {code : Nat} (known : 1 ≤ code ∧ code ≤ 3) (role : code ≠ 1 → permitted (s.roles r.origin) roleL = true)
    (sound : s.frozen lane = false) : s.routeCommand r lane code =
      match code with
      | 1 => if s.laneIs lane .moving then (s.acceptPlan lane (.hold false) (some r), .pending) else refuse 0x08000022 s
      | 2 => if s.laneIs lane .holding ∧ !(s.ck lane).refuses then (s.acceptPlan lane .resume (some r), .pending)
        else refuse 0x08000022 s
      | _ => if s.laneIs lane .holding ∧ (s.lane lane).standstill ≠ 0 then
          ({ s with due := s.due ++ [{ lane := lane, what := .cancel (some r) }] }, .pending)
        else refuse 0x08000022 s := by
  have passes : ¬(code ≠ 1 ∧ (!permitted (s.roles r.origin) roleL) = true) := by
    rintro ⟨other, barred⟩
    simp [role other] at barred
  have inRange : ¬(code = 0 ∨ 3 < code) := by omega
  unfold State.routeCommand
  rw [State.checkLane_sound sound, if_neg inRange, if_neg passes, if_neg (by rw [sound]; decide)]
  obtain rfl | rfl | rfl : code = 1 ∨ code = 2 ∨ code = 3 := by omega
  · rfl
  · rfl
  · rfl

theorem submitRoute_sound {route : Bytes} (sound : s.frozen lane = false) (ready : s.laneIs lane .parked = true ∨ s.laneIs lane .moving = true)
    (willing : (s.ck lane).refuses = false) : s.submitRoute lane route = (s.acceptPlan lane (.route route) none, .done []) := by
  have passes : ¬(s.frozen lane = true ∨ (!(s.laneIs lane .parked || s.laneIs lane .moving)) = true ∨ (s.ck lane).refuses = true) := by
    rcases ready with h | h <;> simp [sound, h, willing]
  unfold State.submitRoute
  rw [State.checkLane_sound sound]
  exact if_neg passes

/-- A limit that its own rules allow is stored as `storeLimits` says (R182). -/
theorem changeLimit_allowed {sub : Nat} {v : Int} (sound : s.frozen lane = false) (allowed : s.limitRefused lane sub v = none) :
    s.changeLimit r lane sub v = s.storeLimits (some r) lane [(sub, v)] := by
  unfold State.changeLimit
  rw [State.checkLane_sound sound]
  dsimp only
  rw [if_neg (by rw [sound]; decide), allowed]

end

/-- Writes to an area as the journal takes them (R158). -/
def areaWrites (a : Nat) (items : List (Nat × Int)) : List WriteItem := items.map (fun x => numberItem (key (0x3000 + a) x.1) x.2)

/-- An area's writes in the order of a closure plan (R158). -/
def State.checkedItems (s : State) (a : Nat) (items : List (Nat × Int)) : List (Nat × Int) :=
  (2, s.areaAfter a items 2) :: (1, s.areaAfter a items 1) :: (3, s.areaAfter a items 3) ::
    items.filter (fun x => x.1 ≠ 1 && x.1 ≠ 2 && x.1 ≠ 3)

theorem changeArea_plain {s : State} {req : Option Req} {a : Nat} {items : List (Nat × Int)} (fits : s.storeFull (areaWrites a items) = false)
    (plain : s.areaChange a items = .plain) : s.changeArea req a items =
      (((s.storeArea a items).mirror 0 (.settings (areaWrites a items))).journal (areaWrites a items), .done []) := by
  rw [State.changeArea, if_neg (show ¬s.storeFull (items.map _) = true from Bool.eq_false_iff.mp fits), plain]
  rfl

theorem changeArea_checked {s : State} {req : Option Req} {a : Nat} {items : List (Nat × Int)} (fits : s.storeFull (areaWrites a items) = false)
    (checked : s.areaChange a items = .checked) : s.changeArea req a items =
      ((s.storeArea a items).acceptPlan 0xFF (.closure a (s.checkedItems a items)) req, .pending) := by
  rw [State.changeArea, if_neg (show ¬s.storeFull (items.map _) = true from Bool.eq_false_iff.mp fits), checked]
  rfl

/-! ### The body meets the settings, lanes and ledger that stood -/

theorem Arrived.ledger {s u : State} {r : Req} (h : Arrived s u r) : u.ledger = s.ledger := h.within .ledger rfl

theorem Arrived.settings {s u : State} {r : Req} (h : Arrived s u r) : u.settings = s.settings := h.within .settings rfl

theorem Arrived.limitRefused {s u : State} {r : Req} (h : Arrived s u r) (lane sub : Nat) (v : Int) :
    u.limitRefused lane sub v = s.limitRefused lane sub v := by
  have limits : u.limitsAccepted lane = s.limitsAccepted lane := by
    unfold Units.limitsAccepted Units.cfgAccepted
    rw [h.settings]
  unfold State.limitRefused
  rw [limits, h.cfgAccepted, State.lane, h.lanes]
  rfl

theorem Arrived.storeFull {s u : State} {r : Req} (h : Arrived s u r) (l : List WriteItem) : u.storeFull l = s.storeFull l := by
  rw [Units.storeFull, h.update]
  rfl

theorem Arrived.otherPlan {s u : State} {r : Req} (h : Arrived s u r) (lane : Nat) : u.otherPlan lane = (s.stamped r.stamp).otherPlan lane := by
  unfold State.otherPlan
  rw [h.ledger, h.window]
  rfl

theorem Arrived.queuedPlans {s u : State} {r : Req} (h : Arrived s u r) : u.queuedPlans = s.queuedPlans := by
  unfold State.queuedPlans
  rw [h.ledger]

theorem Arrived.areaAfter {s u : State} {r : Req} (h : Arrived s u r) (a : Nat) (items : List (Nat × Int)) (sub : Nat) :
    u.areaAfter a items sub = s.areaAfter a items sub := by
  unfold State.areaAfter
  rw [h.cfgAccepted]

theorem Arrived.areaChange {s u : State} {r : Req} (h : Arrived s u r) (a : Nat) (items : List (Nat × Int)) :
    u.areaChange a items = s.areaChange a items := by
  unfold State.areaChange
  simp only [h.areaAfter, h.cfgAccepted]

end Sys2Proof.Machine

namespace Sys2Proof.Proofs

open Sys2Proof Sys2Proof.Machine

/-- Settles O13: lane commands by `State.laneOrder_completes`, the cancellation by `routeCommand_sound`. -/
theorem laneCommandsWait : Obligations.LaneCommandsWait := by
  intro s r lane running
  refine ⟨fun code c listed granted role sound moves => ?_, fun granted role sound holds still => ?_⟩
  · have meaning : exec c s = Machine.running (laneOrder r lane code) s ∧ (code = 1 ∨ code = 2 ∨ code = 3 ∨ code = 4 ∨ code = 5) := by
      simp only [List.mem_cons, Prod.mk.injEq, List.not_mem_nil, or_false] at listed
      rcases listed with ⟨rfl, rfl⟩ | ⟨rfl, rfl⟩ | ⟨rfl, rfl⟩ | ⟨rfl, rfl⟩ | ⟨rfl, rfl⟩
      all_goals exact ⟨rfl, by decide⟩
    exact exec_laneOrder running meaning.1 meaning.2 granted role sound moves
  · refine exec_serveWrite (c := .cancelRoute r lane) (body := State.routeCommand r lane 3) rfl granted fun u hu => ?_
    have still' : (u.lane lane).standstill ≠ 0 := by
      rw [State.lane, hu.lanes]
      exact still
    refine ⟨_, (routeCommand_sound (by decide) (fun _ => by rw [hu.roles]; exact role) (hu.frozen.trans sound)).trans
      (if_pos ⟨hu.laneIs.trans holds, still'⟩), fun z hz => ?_⟩
    exact ⟨(hz .due rfl).trans (congrArg (· ++ _) (hu.within .due rfl)), (hz .lanes rfl).trans hu.lanes⟩

/-- Settles O15: each body comes to `State.acceptPlan`, whose plan `State.serveWrite_accepts` reads off. -/
theorem routePlansAccepted : Obligations.RoutePlansAccepted := by
  intro s r lane running sound room
  refine ⟨fun route granted ready willing => ?_, fun granted moves => ?_, fun granted role holds willing => ?_⟩
  · refine ⟨_, running_next _ running, State.serveWrite_accepts granted rfl room fun u hu => ?_⟩
    exact submitRoute_sound (hu.frozen.trans sound) (ready.imp hu.laneIs.trans hu.laneIs.trans) (by rw [hu.ck, willing])
  · refine ⟨_, running_next _ running, State.serveWrite_accepts granted rfl room fun u hu => ?_⟩
    exact (routeCommand_sound (by decide) nofun (hu.frozen.trans sound)).trans (if_pos (hu.laneIs.trans moves))
  · refine ⟨_, running_next _ running, State.serveWrite_accepts granted rfl room fun u hu => ?_⟩
    refine (routeCommand_sound (by decide) (fun _ => by rw [hu.roles]; exact role) (hu.frozen.trans sound)).trans (if_pos ⟨hu.laneIs.trans holds, ?_⟩)
    rw [hu.ck, willing]
    rfl

/-- Settles O16: a limit by `State.storeLimits_plain` and `State.storeLimits_plan`, an area by `State.changeArea` and
`State.acceptPlan_closure`. -/
theorem limitsAndAreasChange : Obligations.LimitsAndAreasChange := by
  intro s r running
  refine ⟨fun lane sub value e entry granted sound room => ?limit, fun area writes taken passes => ?area⟩
  case limit =>
    intro v allowed fits
    have body : ∀ u, Arrived s u r → (match lookup (0x4100 + lane) sub with
        | .entry e => u.changeLimit r lane sub (valueOf e.ty value)
        | _ => refuse 0x06090011 u) = u.storeLimits (some r) lane [(sub, v)] := fun u hu => by
      rw [entry]
      exact changeLimit_allowed (hu.frozen.trans sound) ((hu.limitRefused ..).trans allowed)
    refine ⟨fun plain => ?_, fun speed moves alone => ?_⟩
    · refine exec_serveWrite (c := .limitChange r lane sub value) rfl granted fun u hu => ?_
      obtain ⟨y, stored, settings, ledger⟩ := State.storeLimits_plain (s := u) (req := some r) (lane := lane) (sub := sub) (v := v)
        ((hu.storeFull _).trans fits) (by rw [hu.laneIs, hu.otherPlan]; exact plain)
      refine ⟨y, (body u hu).trans stored, fun z hz => ?_⟩
      exact ⟨(hz .settings rfl).trans (settings.trans (by rw [hu.settings])), (hz .ledger rfl).trans (ledger.trans hu.ledger)⟩
    · refine exec_serveWrite (c := .limitChange r lane sub value) rfl granted fun u hu => ?_
      obtain ⟨y, stored, settings, accepted⟩ := State.storeLimits_plan (s := u) (req := some r) (lane := lane) (sub := sub) (v := v)
        ((hu.storeFull _).trans fits) (by rw [hu.queuedPlans]; exact room) speed (hu.laneIs.trans moves) ((hu.otherPlan _).trans alone)
      refine ⟨y, (body u hu).trans stored, fun z hz => ?_⟩
      refine ⟨(hz .settings rfl).trans (settings.trans (by rw [hu.settings])), ?_⟩
      rw [hu.cfgAccepted, hu.window] at accepted
      exact State.acceptedPlan_congr accepted hu.ledger hu.lanes (hz .ledger rfl) (hz .routes rfl)
  case area =>
    intro items fits
    have served : ∀ u, Arrived s u r → (match u.areaCheck r area writes with
        | some c => refuse c u
        | none => u.changeArea (some r) area (areaItems area writes)) = u.changeArea (some r) area items := fun u hu => by
      rw [State.areaCheck_arrived hu, passes]
    have room : ∀ u, Arrived s u r → u.storeFull (areaWrites area items) = false := fun u hu => (hu.storeFull _).trans fits
    refine ⟨fun plain => ?_, fun checked => ?_⟩
    · refine exec_serve (c := .closureChange r area writes) rfl taken fun u hu => ?_
      refine ⟨_, (served u hu).trans (changeArea_plain (room u hu) ((hu.areaChange ..).trans plain)), fun z hz => ?_⟩
      rw [hz .settings rfl, hz .ledger rfl, State.journal_within .settings rfl, State.journal_within .ledger rfl,
        State.mirror_within .settings rfl, State.mirror_within .ledger rfl, ← hu.settings, ← hu.ledger]
      exact ⟨rfl, rfl⟩
    · refine exec_serve (c := .closureChange r area writes) rfl taken fun u hu => ?_
      obtain ⟨x, accepted, kept, next, p, plans, id, req, submit, first, what⟩ :=
        State.acceptPlan_closure (s := u.storeArea area items) (lane := 0xFF) (area := area) (items := u.checkedItems area items) (req := some r)
      refine ⟨x, (served u hu).trans ((changeArea_checked (room u hu) ((hu.areaChange ..).trans checked)).trans
        (congrArg (·, Answer.pending) accepted)), fun z hz => ?_⟩
      have items' : u.checkedItems area items = s.checkedItems area items := by
        unfold State.checkedItems
        rw [hu.areaAfter, hu.areaAfter, hu.areaAfter]
      rw [hz .settings rfl, hz .ledger rfl, kept .settings rfl, plans, next, ← hu.settings, ← hu.ledger]
      exact ⟨rfl, rfl, p, rfl, id, req, submit.trans hu.window, first, what.trans (congrArg _ items')⟩

end Sys2Proof.Proofs

/-! PROOF. Lane commands at the boundary, and the timers of lanes, plans and guests (R20, R23, R173, R175, R178, R409, R447). -/

namespace Sys2Proof.Machine

/-! ### Closing -/

/-- A lane closed stays closed under what leaves lanes, routes and checkpoint requests alone. -/
theorem closes_congr {s t u : State} {n : Nat} (h : s.closes t n) (lanes : u.lanes = t.lanes) (routes : u.routes = t.routes)
    (checkpoint : u.checkpoint = t.checkpoint) : s.closes u n := by
  unfold State.closes State.laneIs State.lane State.route at h ⊢
  rw [lanes, routes, checkpoint]
  exact h

section
variable {s : State} {n : Nat}

/-- The mark of a failed check taken off a lane whose stored state is closed changes no other record (R19). -/
theorem closes_unmarked (wf : s.tablesWf) : s.closes ((s.onLane n (fun l => { l with integrityFault := false })).closeLane n) n := by
  have lane := lane_onLane wf n
  obtain ⟨vacant, epoch, last, route, queue, others⟩ :=
    (closeLane_spec (onLane_wf wf n (fun l => { l with integrityFault := false })) n).1
  refine ⟨vacant, ?_, last, route, queue, fun m other => ?_⟩
  · rw [epoch, lane n, if_pos rfl]
  · obtain ⟨same, sameRoute⟩ := others m other
    rw [lane m, if_neg other] at same
    exact ⟨same, sameRoute⟩

/-! ### Lane commands by the lane's state -/

theorem laneIs_iff (k : LaneState) : s.laneIs n k = true ↔ laneStateOf (s.lane n).state = some k := decide_eq_true_iff

theorem laneIs_not_iff (k : LaneState) : s.laneIs n k = false ↔ laneStateOf (s.lane n).state ≠ some k := decide_eq_false_iff_not

theorem laneCommand_approve (h : s.laneIs n .admitting = true) :
    s.laneCommand n 1 = (s.onLane n (fun l => { l with progress := l.progress ||| 1 }), .done []) := if_pos (code_other h)

theorem laneCommand_refuse (h : s.laneIs n .admitting = true) : s.laneCommand n 2 = (s.closeLane n, .done []) := if_pos (code_other h)

theorem laneCommand_resume (h : s.laneIs n .stopped = true) : s.laneCommand n 3 = (s.resumeStopped n, .done []) := if_pos (code_other h)

theorem laneCommand_release (h : s.laneIs n .parked = true) :
    s.laneCommand n 4 = ((s.transition n .releasing).tell n 0x1C [], .done []) := if_pos (code_other h)

/-- A lane that takes no command is left as it is (R409). -/
theorem laneCommand_refused {code : Nat} (barred : (code = 1 ∨ code = 2) ∧ s.laneIs n .admitting = false ∨ code = 3 ∧ s.laneIs n .stopped = false ∨
    code = 4 ∧ s.laneIs n .parked = false) : s.laneCommand n code = (s, .refused 0x08000022 0) := by
  simp only [laneIs_not_iff] at barred
  rcases barred with ⟨rfl | rfl, other⟩ | ⟨rfl, other⟩ | ⟨rfl, other⟩
  all_goals exact if_neg other

theorem evict_refused (sound : (s.lane n).integrityFault = false) (busy : s.laneIs n .vacant = true ∨ s.laneIs n .moving = true ∨
    s.laneIs n .holding = true ∨ s.laneIs n .halted = true ∨ s.laneIs n .handingOver = true) :
    s.laneCommand n 5 = (s, .refused 0x08000022 0) := by
  simp only [laneIs_iff] at busy
  have known : ¬((s.lane n).integrityFault || (laneStateOf (s.lane n).state).isNone) = true := by
    rcases busy with h | h | h | h | h <;> simp [sound, h]
  refine (if_neg known).trans (if_neg ?_)
  rcases busy with h | h | h | h | h <;> simp [h]

theorem evict_closes (sound : (s.lane n).integrityFault = false) (open' : s.laneIs n .parked = true ∨ s.laneIs n .stopped = true ∨
    s.laneIs n .releasing = true ∨ s.laneIs n .admitting = true) : s.laneCommand n 5 = (s.closeLane n, .done []) := by
  simp only [laneIs_iff] at open'
  have known : ¬((s.lane n).integrityFault || (laneStateOf (s.lane n).state).isNone) = true := by
    rcases open' with h | h | h | h <;> simp [sound, h]
  exact (if_neg known).trans (if_pos open')

/-- The eviction of a lane whose stored state is no state ends the fault (R19, R409). -/
theorem evict_unsound (none : laneStateOf (s.lane n).state = none) : s.laneCommand n 5 =
    (((s.onLane n (fun l => { l with integrityFault := false })).closeLane n).raise 0x0102 3 7 n n (le 1 0), .done []) :=
  if_pos (by simp [none])

/-- What standing at a pose leaves of lanes and routes (R149). -/
theorem standAt_spec (p : Pose) (m : Nat) : (s.standAt n p).lane m = s.lane m ∧
    ((s.standAt n p).route n).planId = (s.route n).planId ∧ ((s.standAt n p).route n).stretches = (s.route n).stretches := by
  have record : (s.standAt n p).route n = { s.route n with
      envelopes := (s.route n).envelopes.replaceFrom s.clock.tick [s.stationary n p], east := p.east, north := p.north, heading := p.heading } := by
    unfold State.standAt State.route
    rw [State.entryOverlap_within .routes rfl]
    simp [State.onRoute]
  refine ⟨?_, by rw [record], by rw [record]⟩
  unfold State.standAt
  dsimp only
  rw [entryOverlap_lane, onRoute_lane]

/-- A STOPPED lane that resumes is PARKED without a route (transition 10). -/
theorem resumeStopped_spec (wf : s.tablesWf) : (s.resumeStopped n).laneIs n .parked = true ∧ ((s.resumeStopped n).route n).planId = 0 ∧
    ((s.resumeStopped n).route n).stretches = [] ∧ ∀ m, m ≠ n → (s.resumeStopped n).lane m = s.lane m := by
  generalize hx : (s.transition n .parked).onRoute n (fun r => { r with planId := 0, stretches := [], legs := [], crossing := none }) = x
  have lane : ∀ m, x.lane m = (s.transition n .parked).lane m := fun m => by
    rw [← hx, onRoute_lane]
  have route : x.route n = { (s.transition n .parked).route n with planId := 0, stretches := [], legs := [], crossing := none } := by
    rw [← hx]
    simp [State.onRoute, State.route]
  have parked : x.laneIs n .parked = true := by
    rw [laneIs_iff, lane]
    exact code_other (transition_is wf n .parked)
  have others : ∀ m, m ≠ n → x.lane m = s.lane m := fun m other => by rw [lane, transition_lane wf, if_neg other]
  unfold State.resumeStopped
  dsimp only
  rw [hx]
  split
  · exact ⟨parked, by rw [route], by rw [route], others⟩
  · next p pose =>
    obtain ⟨-, plan, stretches⟩ := standAt_spec (s := x) (n := n) p n
    have same := fun m => (standAt_spec (s := x) (n := n) p m).1
    refine ⟨?_, by rw [plan, route], by rw [stretches, route], fun m other => by rw [same, others m other]⟩
    rw [laneIs_iff, same]
    exact code_other parked

theorem release_spec (wf : s.tablesWf) : ((s.transition n .releasing).tell n 0x1C []).laneIs n .releasing = true ∧
    (((s.transition n .releasing).tell n 0x1C []).airLane n).waiting = (s.airLane n).waiting ++ [(0x1C, [])] := by
  refine ⟨?_, ?_⟩
  · rw [laneIs_iff, tell_lane]
    exact code_other (transition_is wf n .releasing)
  · have same : (s.transition n .releasing).airLane n = s.airLane n := by
      rw [State.airLane, State.transition_within .airLanes rfl]
      rfl
    rw [← same]
    simp [State.tell, State.onAirLane, State.airLane]

/-! ### Timers -/

/-- A timeout that a lane's timer reaches falls due once, or is left to the active (R23). -/
theorem timeoutDue_spec (what : DueWhat) : (s.timeoutDue n what).lanes = s.lanes ∧
    (s.isStandby = false → ∃ d ∈ (s.timeoutDue n what).due, d.lane = n ∧ d.what = what) ∧
    (s.isStandby = true → (s.timeoutDue n what).due = s.due) := by
  unfold State.timeoutDue
  refine ⟨State.ite_same (fun u => u.lanes) rfl rfl, fun active => ?_, fun standby => ?_⟩
  · by_cases waiting : s.due.any (fun d => d.lane = n && decide (d.what = what)) = true
    · rw [if_pos (.inr waiting)]
      obtain ⟨d, mem, same⟩ := List.any_eq_true.mp waiting
      exact ⟨d, mem, by simpa using same⟩
    · rw [if_neg (by simp only [active, waiting]; decide)]
      exact ⟨_, List.mem_append_right _ (List.mem_singleton.mpr rfl), rfl, rfl⟩
  · rw [if_pos (.inl standby)]

/-- The command of a timer: due where the lane's state and time ask for it, and else nothing (R23). -/
theorem timer_spec {c : Instr} {k : LaneState} {limit : Nat} {what : DueWhat} (running : s.power.phase = .running)
    (meaning : exec c s = Machine.running (fun t => if t.laneIs n k ∧ limit ≤ (t.lane n).timer + 1 then t.timeoutDue n what else t) s) :
    (s.laneIs n k = true → limit ≤ (s.lane n).timer + 1 → ∃ t, exec c s = .next t ∧ t.lanes = s.lanes ∧
      (s.isStandby = false → ∃ d ∈ t.due, d.lane = n ∧ d.what = what) ∧ (s.isStandby = true → t.due = s.due)) ∧
    (s.laneIs n k = false ∨ (s.lane n).timer + 1 < limit → exec c s = .next { s with out := [] }) := by
  refine ⟨fun is reached => ⟨_, meaning.trans ((running_next _ running).trans (congrArg _ (if_pos ⟨is, reached⟩))), timeoutDue_spec (s := s.begin) what⟩,
    fun other => meaning.trans ((running_next _ running).trans (congrArg _ (if_neg ?_)))⟩
  rintro ⟨is, reached⟩
  rcases other with not | early
  · exact absurd is (Bool.eq_false_iff.mp not)
  · exact absurd reached (Nat.not_le.mpr early)

/-- A lane whose admission or release has run out of time closes (transitions 3 and 18). -/
theorem timeOut_closes {k : Nat} (wf : s.tablesWf) (limit : s.timeLimit n = some k) (reached : k ≤ (s.lane n).timer) :
    s.closes (s.timeOut n) n := by
  unfold State.timeOut
  rw [limit]
  dsimp only
  rw [if_pos reached]
  exact (closeLane_spec wf n).1

theorem timeLimit_admitting (h : s.laneIs n .admitting = true) : s.timeLimit n = some (s.cfgNat 0x2003 1 * 50) := if_pos h

theorem timeLimit_releasing (h : s.laneIs n .releasing = true) : s.timeLimit n = some (s.cfgNat 0x2003 2 * 50) := by
  rw [State.timeLimit, if_neg (Bool.eq_false_iff.mp (is_only (j := .admitting) h (by decide))), if_pos h]

theorem timeOut_other (admitting : s.laneIs n .admitting = false) (releasing : s.laneIs n .releasing = false) : s.timeOut n = s := by
  rw [State.timeOut, State.timeLimit, if_neg (Bool.eq_false_iff.mp admitting), if_neg (Bool.eq_false_iff.mp releasing)]

/-! ### A handover that fails -/

theorem withdraw_spec (pair : Nat) (plan : U32) : (s.withdraw pair plan).cells.failed = s.cells.failed ∧
    ∃ w ∈ (s.withdraw pair plan).cells.withdrawals, w.1 = pair ∧ w.2.1 = plan := by
  unfold State.withdraw
  refine ⟨State.ite_same (fun u => u.cells.failed) rfl rfl, ?_⟩
  split
  · next waiting =>
    obtain ⟨w, mem, same⟩ := List.any_eq_true.mp waiting
    exact ⟨w, mem, by simpa using same⟩
  · exact ⟨_, List.mem_append_right _ (List.mem_singleton.mpr rfl), rfl, rfl⟩

/-- The lane back in its state before the handover, and the event (transition 15). -/
def State.takenBack (n : Nat) (s : State) : State :=
  (s.transition n ((laneStateOf (s.lane n).beforeHandover).getD .holding)).raise 0x140B 1 7 n 0 (le 4 (s.route n).planId.toNat)

/-- The failure counted, before the plan is withdrawn. -/
def State.countedFailure (n : Nat) (s : State) : State :=
  { s.takenBack n with cells := { (s.takenBack n).cells with
      failed := (s.takenBack n).cells.failed + 1, failedPlans := (s.takenBack n).cells.failedPlans ++ [(s.route n).planId] } }

theorem handoverFails_eq : s.handoverFails n = match (s.route n).crossing with
    | some c => (s.countedFailure n).withdraw c.pair (s.route n).planId
    | none => s.countedFailure n := rfl

theorem handoverFails_spec (wf : s.tablesWf) : (s.handoverFails n).cells.failed = s.cells.failed + 1 ∧
    ((s.handoverFails n).lane n).state = ((laneStateOf (s.lane n).beforeHandover).getD .holding).stored ∧
    (s.handoverFails n).reported 0x140B 1 7 n (le 4 (s.route n).planId.toNat) ∧
    ∀ m, m ≠ n → (s.handoverFails n).lane m = s.lane m := by
  have cells : (s.takenBack n).cells = s.cells := State.raise_cells.trans (State.transition_within .cells rfl)
  have lane : ∀ m, (s.countedFailure n).lane m = (s.transition n ((laneStateOf (s.lane n).beforeHandover).getD .holding)).lane m :=
    fun m => raise_lane ..
  have kept : Within [.cells] (s.countedFailure n) (s.handoverFails n) ∧ (s.handoverFails n).cells.failed = (s.countedFailure n).cells.failed := by
    rw [handoverFails_eq]
    split
    · exact ⟨State.withdraw_within, (withdraw_spec ..).1⟩
    · exact ⟨.refl _ _, rfl⟩
  obtain ⟨within, failed⟩ := kept
  have lane' : ∀ m, (s.handoverFails n).lane m = (s.countedFailure n).lane m := fun m => by
    rw [State.lane, within .lanes rfl]
    rfl
  refine ⟨?_, ?_, ?_, fun m other => ?_⟩
  · rw [failed, ← cells]
    rfl
  · rw [lane', lane, transition_lane wf, if_pos rfl]
  · have raised : (s.takenBack n).reported 0x140B 1 7 n (le 4 (s.route n).planId.toNat) := State.raise_reported ..
    exact State.reported_congr raised (congrArg Access.streams (within .access rfl)) (within .clock rfl) (within .chain rfl)
  · rw [lane', lane, transition_lane wf, if_neg other]

/-! ### Permits and guests -/

theorem permitWaitExpire_spec {plan : U32} {p : Plan} {c : Crossing} (planned : s.planOf plan = some p) (crosses : p.crossing = some c)
    (awaiting : p.awaiting = true) (waits : c.granted = false) (fresh : p.expired = false)
    (cutoff : s.clock.tick = p.submit + 1 + BitVec.ofNat 32 s.permitWait) :
    permitWaitExpire plan s = ((s.stamped 17000000).onPlan plan (fun q => { q with expired := true })).withdraw c.pair plan := by
  unfold permitWaitExpire
  rw [planned]
  dsimp only
  rw [crosses]
  dsimp only
  rw [if_pos ⟨awaiting, by simp [waits], by simp [fresh], cutoff⟩]

theorem guestPlanExpire_waits {lane : Nat} {g : Guest} (guest : tfind s.guests lane = some g) (final : g.final = false)
    (passed : later g.commit s.clock.tick = false) : (guestPlanExpire lane s).guests = tset s.guests lane { g with withdrawn := true } ∧
      (guestPlanExpire lane s).lanes = s.lanes := by
  unfold guestPlanExpire
  rw [guest]
  dsimp only
  rw [if_neg (by simp [final, passed]), State.withdrawGuest, show tfind (s.stamped 17000000).guests lane = some g from guest]
  exact ⟨rfl, rfl⟩

theorem guestPlanExpire_stays {lane : Nat} {g : Guest} (guest : tfind s.guests lane = some g)
    (stays : g.final = true ∨ later g.commit s.clock.tick = true) : guestPlanExpire lane s = s := by
  unfold guestPlanExpire
  rw [guest]
  exact if_pos stays

theorem endGuest_spec (wf : s.tablesWf) : tfind (s.endGuest n).guests n = none ∧ ((s.endGuest n).lane n).reserved = false ∧
    ((s.endGuest n).route n).envelopes = {} ∧ (s.endGuest n).ledger.expired = s.ledger.expired + 1 ∧
    ∀ m, m ≠ n → (s.endGuest n).lane m = s.lane m := by
  obtain ⟨guest, reserved, -, -, -, ledger⟩ := dropGuest_spec (s := s) n
  refine ⟨guest, reserved, ?_, congrArg (fun l => l.expired + 1) ledger, fun m other => ?_⟩
  · show ((s.dropGuest n).route n).envelopes = {}
    simp [State.dropGuest, State.onRoute, State.route]
  · show (s.onLane n (fun l => { l with reserved := false })).lane m = s.lane m
    rw [lane_onLane wf, if_neg other]

end

end Sys2Proof.Machine

namespace Sys2Proof.Proofs

open Sys2Proof Sys2Proof.Machine

/-- Settles O14: each command by the lemma of its code, on the lane's stored state. -/
theorem laneCommandsTakeEffect : Obligations.LaneCommandsTakeEffect := by
  intro s n wf sound
  refine ⟨fun admitting => ⟨laneCommand_approve admitting, ?refuse⟩, fun stopped => ?resume, fun parked => ?release, fun open' => ?evict,
    fun code barred => ?barred, fun none => ?unsound⟩
  case refuse =>
    rw [laneCommand_refuse admitting]
    exact ⟨rfl, (closeLane_spec wf n).1⟩
  case resume =>
    rw [laneCommand_resume stopped]
    dsimp only
    exact ⟨rfl, resumeStopped_spec wf⟩
  case release =>
    rw [laneCommand_release parked]
    dsimp only
    exact ⟨rfl, release_spec wf⟩
  case evict =>
    rw [evict_closes sound open']
    exact ⟨rfl, (closeLane_spec wf n).1⟩
  case barred =>
    rcases barred with h | h | h | ⟨rfl, busy⟩
    · exact laneCommand_refused (.inl h)
    · exact laneCommand_refused (.inr (.inl h))
    · exact laneCommand_refused (.inr (.inr h))
    · exact evict_refused sound busy
  case unsound =>
    rw [evict_unsound none]
    dsimp only
    exact ⟨rfl, closes_congr (closes_unmarked wf) State.raise_lanes State.raise_routes State.raise_checkpoint, State.raise_reported ..⟩

/-- Settles O12: the lanes' timers by `timer_spec`, what they end by `timeOut_closes` and `handoverFails_spec`, permits and guests by
their own lemmas. -/
theorem laneTimers : Obligations.LaneTimers := by
  intro s running wf
  refine ⟨fun lane => ?timers, fun lane => ?ends, fun plan p c planned crosses awaiting waits fresh cutoff => ?permit,
    fun lane g guest => ?guest, fun lane => endGuest_spec wf⟩
  case timers =>
    obtain ⟨admission, admitted⟩ := timer_spec (c := .admissionTimeout lane) (n := lane) (k := .admitting) (limit := s.cfgNat 0x2003 1 * 50)
      (what := .timeout) running rfl
    obtain ⟨release, released⟩ := timer_spec (c := .releaseTimeout lane) (n := lane) (k := .releasing) (limit := s.cfgNat 0x2003 2 * 50)
      (what := .timeout) running rfl
    obtain ⟨handover, handedOver⟩ := timer_spec (c := .handoverConfirmationTimeout lane) (n := lane) (k := .handingOver)
      (limit := s.cfgNat 0x2602 1) (what := .handoverRefused) running rfl
    exact ⟨admission, admitted, release, released, handover, handedOver⟩
  case ends =>
    exact ⟨fun is reached => timeOut_closes wf (timeLimit_admitting is) reached, fun is reached => timeOut_closes wf (timeLimit_releasing is) reached,
      timeOut_other, handoverFails_spec wf⟩
  case permit =>
    refine ⟨_, running_next _ running, ?_⟩
    rw [permitWaitExpire_spec (s := s.begin) planned crosses awaiting waits fresh cutoff]
    exact ⟨congrArg Ledger.plans (State.withdraw_within .ledger rfl), (withdraw_spec ..).2⟩
  case guest =>
    refine ⟨fun final passed => ⟨_, running_next _ running, ?_⟩, fun stays => (running_next _ running).trans (congrArg _ (guestPlanExpire_stays (s := s.begin) guest stays))⟩
    obtain ⟨guests, lanes⟩ := guestPlanExpire_waits (s := s.begin) guest final passed
    exact ⟨by rw [guests, tfind_tset], lanes⟩

end Sys2Proof.Proofs


/-! PROOF. Cell links: regions and permits, guests and handovers (R171 to R178, R442 to R449, R516). -/

namespace Sys2Proof.Machine

/-- A datagram of a cell link runs its meaning on the state it finds, one message counted (R516). -/
theorem fromCell_next {c : Instr} {s : State} {f : State → State} (meaning : exec c s = running (fromCell f) s)
    (phase : s.power.phase = .running) : ∃ n, exec c s = .next (f { s with out := [], counters := n }) := by
  obtain ⟨n, counted⟩ := count_eq 0x40C 1 s.begin
  exact ⟨n, meaning.trans ((running_next _ phase).trans (congrArg (fun t => Host.Outcome.next (f t)) counted))⟩

/-- A unit that takes part does not pass the guard of one that does not. -/
theorem not_off {s : State} (on : s.onCells = true) : ¬(!s.onCells) = true := by simp [on]

theorem Units.neighbourPairs_congr {u v : Units} (h : u.settings = v.settings) : u.neighbourPairs = v.neighbourPairs := by
  unfold Units.neighbourPairs Units.cfgNat Units.cfg
  rw [h]

section
variable {s : State} {pair : Nat} {plan : U32}

/-! ### Regions -/

/-- The neighbour record that a region leaves, with the numbers it agrees with or not (R171). -/
def State.notedRegion (s : State) (pair : Nat) (v : List (Int × Int)) (bad : Bool) : State :=
  { s with ledger := { s.ledger with
    neighbours := tput (fun _ => {}) s.ledger.neighbours pair { vertices := v, known := true, mismatch := bad } } }

theorem notedRegion_neighbour (v : List (Int × Int)) (bad : Bool) :
    (s.notedRegion pair v bad).neighbour pair = { vertices := v, known := true, mismatch := bad } := tget_tput_same _ _ _ _

theorem neighbour_congr {t : State} (h : t.ledger = s.ledger) : t.neighbour pair = s.neighbour pair := by
  rw [State.neighbour, h]
  rfl

theorem noteRegion_agrees {v : List (Int × Int)} {horizon numbering : Nat} (listed : pair ∈ s.neighbourPairs)
    (agrees : horizon = s.horizon ∧ numbering = s.cfgNat 0x2101 1) :
    ((s.noteRegion pair v horizon numbering).neighbour pair = { vertices := v, known := true, mismatch := false }) ∧
      ((s.neighbour pair).mismatch = true → (s.noteRegion pair v horizon numbering).reported 0x0508 3 4 0xFF (le 1 pair)) := by
  have noted : s.noteRegion pair v horizon numbering =
      if (s.neighbour pair).mismatch then (s.notedRegion pair v false).raise 0x0508 3 4 0xFF pair (le 1 pair)
      else s.notedRegion pair v false := by
    unfold State.noteRegion
    rw [if_neg (not_not_intro listed), show decide (horizon ≠ s.horizon ∨ numbering ≠ s.cfgNat 0x2101 1) = false by simp [agrees]]
    exact if_neg Bool.false_ne_true
  rw [noted]
  split
  · exact ⟨(neighbour_congr State.raise_ledger).trans (notedRegion_neighbour v false), fun _ => State.raise_reported ..⟩
  · next sound => exact ⟨notedRegion_neighbour v false, fun h => absurd h sound⟩

theorem noteRegion_differs {v : List (Int × Int)} {horizon numbering : Nat} (listed : pair ∈ s.neighbourPairs)
    (differs : ¬(horizon = s.horizon ∧ numbering = s.cfgNat 0x2101 1)) :
    (s.noteRegion pair v horizon numbering).neighbour pair = { vertices := v, known := true, mismatch := true } ∧
      (s.noteRegion pair v horizon numbering).reported 0x0507 2 4 0xFF (le 1 pair ++ le 2 horizon ++ le 1 numbering) := by
  have noted : s.noteRegion pair v horizon numbering =
      (s.notedRegion pair v true).raise 0x0507 2 4 0xFF pair (le 1 pair ++ le 2 horizon ++ le 1 numbering) := by
    unfold State.noteRegion
    rw [if_neg (not_not_intro listed), show decide (horizon ≠ s.horizon ∨ numbering ≠ s.cfgNat 0x2101 1) = true by simp; tauto]
    exact if_pos rfl
  rw [noted]
  exact ⟨(neighbour_congr State.raise_ledger).trans (notedRegion_neighbour v true), State.raise_reported ..⟩

/-- A region of a listed neighbour that takes part is noted, on the state that has told the partner. -/
theorem regionReceive_noted {v : List (Int × Int)} {horizon numbering : Nat} (on : s.onCells = true) :
    ∃ m : State, regionReceive pair v horizon numbering s = m.noteRegion pair v horizon numbering ∧ m.neighbourPairs = s.neighbourPairs ∧
      m.neighbour pair = s.neighbour pair ∧ m.horizon = s.horizon ∧ m.cfgNat 0x2101 1 = s.cfgNat 0x2101 1 := by
  have settings := State.mirror_within (source := 2) (item := .cell pair (.region v horizon numbering) 0) (s := s) .settings rfl
  refine ⟨_, if_neg (by simp [on]), Units.neighbourPairs_congr settings, neighbour_congr (State.mirror_within .ledger rfl), ?_, ?_⟩
  · unfold Units.horizon Units.cfgNat Units.cfg
    rw [settings]
  · unfold Units.cfgNat Units.cfg
    rw [settings]

/-! ### Permits -/

theorem permitRequest_accepted {lane stamp : Nat} {epoch : U16} {border handover commit : U32} {run : EnvelopeRun} (on : s.onCells = true)
    (listed : pair ∈ s.neighbourPairs) (agrees : (s.neighbour pair).mismatch = false) (noZeroise : s.keys.pendingState ≠ 3)
    (inService : s.power.deviceState = 2) : (permitRequest pair plan lane epoch border handover commit run stamp s).ledger.nextPlan =
        s.ledger.nextPlan + 1 ∧ ∃ p, (permitRequest pair plan lane epoch border handover commit run stamp s).ledger.plans = s.ledger.plans ++ [p] ∧
          p.id = s.ledger.nextPlan ∧ p.what = .permit pair plan lane border handover commit ∧ p.submit = (s.stamped stamp).window ∧
          p.first = run.first ∧ p.envelopes = run.list ∧ p.profiled = true ∧ p.result = none := by
  have accepted : permitRequest pair plan lane epoch border handover commit run stamp s =
      ((s.stamped stamp).mirror 2 (.cell pair (.permitRequest plan border handover commit lane epoch run) s.ledger.nextPlan)).acceptPermit
        pair plan lane border handover commit run := by
    refine (if_neg (not_off (s := s.stamped stamp) on)).trans (if_neg ?_)
    rintro (h | h | h | h)
    exacts [h listed, Bool.false_ne_true (agrees.symm.trans h), noZeroise h, h inService]
  generalize hm : (s.stamped stamp).mirror 2 (.cell pair (.permitRequest plan border handover commit lane epoch run) s.ledger.nextPlan) = m
    at accepted
  have ledger : m.ledger = s.ledger := by rw [← hm]; exact State.mirror_within .ledger rfl
  have clock : m.clock = (s.stamped stamp).clock := by rw [← hm]; exact State.mirror_within .clock rfl
  rw [accepted]
  unfold State.acceptPermit State.window
  rw [ledger, clock]
  exact ⟨rfl, _, rfl, rfl, rfl, rfl, rfl, rfl, rfl, rfl⟩

/-- A cell message goes out where the unit takes part and is no standby (R442). -/
theorem sendCell_onCells {m : CellMsg} (on : s.onCells = true) (role : s.pair.role = 0 ∨ s.pair.role = 1 ∨ s.pair.role = 4) :
    Output.cell pair m ∈ (s.sendCell pair m).out := by
  obtain ⟨-, provisioned, sounds⟩ := onCells_parts on
  exact sendCell_out pair m provisioned role sounds

theorem permitRequest_refused {lane stamp : Nat} {epoch : U16} {border handover commit : U32} {run : EnvelopeRun} (on : s.onCells = true)
    (barred : pair ∉ s.neighbourPairs ∨ (s.neighbour pair).mismatch = true ∨ s.keys.pendingState = 3 ∨ s.power.deviceState ≠ 2) :
    (permitRequest pair plan lane epoch border handover commit run stamp s).ledger = s.ledger ∧
      (s.pair.role = 0 ∨ s.pair.role = 1 ∨ s.pair.role = 4 →
        Output.cell pair (.refusal plan (s.permitRefused plan)) ∈ (permitRequest pair plan lane epoch border handover commit run stamp s).out) := by
  have refused : permitRequest pair plan lane epoch border handover commit run stamp s =
      (s.stamped stamp).sendCell pair (.refusal plan (s.permitRefused plan)) := (if_neg (not_off (s := s.stamped stamp) on)).trans (if_pos barred)
  rw [refused]
  exact ⟨State.sendCell_within .ledger rfl, fun role => sendCell_onCells (s := s.stamped stamp) on role⟩

theorem grantReceive_intime {lane stamp : Nat} {set : Bytes} {p : Plan} (on : s.onCells = true) (asked : s.askedBy pair plan = some p)
    (fresh : p.expired = false) (intime : s.byCutoff (p.submit + 1 + BitVec.ofNat 32 s.permitWait) stamp = true) :
    (grantReceive pair plan lane set stamp s).ledger.granted = s.ledger.granted + 1 ∧
      (grantReceive pair plan lane set stamp s).ledger.plans = s.ledger.plans.map (fun q => if q.what.ofLane && q.id = plan then
        { q with crossing := q.crossing.map (fun c => { c with granted := true, guestLane := lane, keySet := set }) } else q) := by
  have counted : grantReceive pair plan lane set stamp s =
      ((s.stamped stamp).mirror 2 (.cell pair (.grant plan lane set) plan)).grantPlan plan lane set := by
    unfold grantReceive
    dsimp only
    rw [show (s.stamped stamp).askedBy pair plan = some p from asked]
    refine if_neg ?_
    rintro (h | h | h)
    exacts [not_off (s := s.stamped stamp) on h, Bool.false_ne_true (fresh.symm.trans h), Bool.false_ne_true ((congrArg not intime).symm.trans h)]
  have ledger := State.mirror_within (source := 2) (item := .cell pair (.grant plan lane set) plan) (s := s.stamped stamp) .ledger rfl
  rw [counted]
  unfold State.grantPlan State.onPlan State.onPlans
  dsimp only
  rw [ledger]
  exact ⟨rfl, rfl⟩

theorem grantReceive_late {lane stamp : Nat} {set : Bytes} {p : Plan} (asked : s.askedBy pair plan = some p)
    (late : s.byCutoff (p.submit + 1 + BitVec.ofNat 32 s.permitWait) stamp = false) :
    (grantReceive pair plan lane set stamp s).ledger = s.ledger := by
  unfold grantReceive
  dsimp only
  rw [show (s.stamped stamp).askedBy pair plan = some p from asked]
  dsimp only
  rw [if_pos (.inr (.inr (congrArg not late)))]
  rfl

theorem refusalReceive_permit {record : ResultRecord} {stamp : Nat} {p : Plan} (on : s.onCells = true) (handing : s.handingLane pair plan = none)
    (asked : s.askedBy pair plan = some p) (fresh : p.expired = false) :
    (refusalReceive pair plan record stamp s).ledger.refused = s.ledger.refused + 1 ∧
      (refusalReceive pair plan record stamp s).ledger.plans = s.ledger.plans.map (fun q => if q.what.ofLane && q.id = plan then
        { q with crossing := q.crossing.map (fun c => { c with granted := false }), expired := q.awaiting } else q) := by
  have counted : refusalReceive pair plan record stamp s =
      ((s.stamped stamp).mirror 2 (.cell pair (.refusal plan record) plan)).refusePlan plan := by
    unfold refusalReceive
    dsimp only
    rw [show (s.stamped stamp).onCells = true from on, show (s.stamped stamp).handingLane pair plan = none from handing,
      show (s.stamped stamp).askedBy pair plan = some p from asked]
    exact if_neg (Bool.eq_false_iff.mp fresh)
  have ledger := State.mirror_within (source := 2) (item := .cell pair (.refusal plan record) plan) (s := s.stamped stamp) .ledger rfl
  rw [counted]
  unfold State.refusePlan State.onPlan State.onPlans
  dsimp only
  rw [ledger]
  exact ⟨rfl, rfl⟩

theorem refusalReceive_handover {record : ResultRecord} {stamp n : Nat} (on : s.onCells = true) (handing : s.handingLane pair plan = some n) :
    (refusalReceive pair plan record stamp s).due = s.due ++ [{ lane := n, what := .handoverRefused }] := by
  unfold refusalReceive
  dsimp only
  rw [show (s.stamped stamp).onCells = true from on, show (s.stamped stamp).handingLane pair plan = some n from handing]
  rfl

/-! ### Guests -/

theorem commitNotice_final {start : Pose} {legs : List Leg} {stretches : List Stretch} {stamp n : Nat} {g : Guest} (on : s.onCells = true)
    (guest : s.guestOf pair plan = some (n, g)) (intime : s.byCutoff g.commit stamp = true) (stays : g.withdrawn = false) :
    tfind (commitNotice pair plan start legs stretches stamp s).guests n =
      some { g with final := true, start := start, legs := legs, stretches := stretches } := by
  have counted : commitNotice pair plan start legs stretches stamp s =
      ((s.stamped stamp).mirror 2 (.cell pair (.commitNotice plan start legs stretches) plan)).finalGuest n g start legs stretches := by
    unfold commitNotice
    dsimp only
    rw [show (s.stamped stamp).guestOf pair plan = some (n, g) from guest]
    refine if_neg ?_
    rintro (h | h | h)
    exacts [not_off (s := s.stamped stamp) on h, Bool.false_ne_true (stays.symm.trans h), Bool.false_ne_true ((congrArg not intime).symm.trans h)]
  rw [counted]
  exact tfind_tset _ _ _

theorem commitNotice_late {start : Pose} {legs : List Leg} {stretches : List Stretch} {stamp n : Nat} {g : Guest}
    (guest : s.guestOf pair plan = some (n, g)) (late : s.byCutoff g.commit stamp = false) :
    (commitNotice pair plan start legs stretches stamp s).guests = s.guests := by
  unfold commitNotice
  dsimp only
  rw [show (s.stamped stamp).guestOf pair plan = some (n, g) from guest]
  dsimp only
  rw [if_pos (.inr (.inr (congrArg not late)))]
  rfl

theorem withdrawal_guest {stamp n : Nat} {g h : Guest} (on : s.onCells = true) (guest : s.guestOf pair plan = some (n, g))
    (stands : tfind s.guests n = some h) : tfind (withdrawal pair plan stamp s).guests n = some { h with withdrawn := true } := by
  have withdrawn : withdrawal pair plan stamp s = ((s.stamped stamp).mirror 2 (.cell pair (.withdrawal plan) plan)).withdrawGuest n := by
    unfold withdrawal
    dsimp only
    rw [show (s.stamped stamp).onCells = true from on, show (s.stamped stamp).guestOf pair plan = some (n, g) from guest]
    rfl
  have guests := State.mirror_within (source := 2) (item := .cell pair (.withdrawal plan) plan) (s := s.stamped stamp) .guests rfl
  rw [withdrawn, State.withdrawGuest, show tfind ((s.stamped stamp).mirror 2 (.cell pair (.withdrawal plan) plan)).guests n = some h from
    (congrArg (tfind · n) guests).trans stands]
  exact tfind_tset _ _ _

theorem withdrawal_held {stamp n : Nat} (on : s.onCells = true) (guest : s.guestOf pair plan = none) (held : s.heldLane pair plan = some n) :
    (withdrawal pair plan stamp s).reported 0x140C 1 7 n (le 4 plan.toNat ++ le 1 pair) := by
  unfold withdrawal
  dsimp only
  rw [show (s.stamped stamp).onCells = true from on, show (s.stamped stamp).guestOf pair plan = none from guest,
    show (s.stamped stamp).heldLane pair plan = some n from held]
  exact State.raise_reported ..

/-! ### Handover -/

theorem handoverReceive_guest {msg : HandoverMsg} {stamp n : Nat} {g : Guest} (on : s.onCells = true)
    (guest : s.guestOf pair msg.planId = some (n, g)) (first : tfind s.cells.arriving n = none) (state : handedState msg ≠ none) :
    handoverReceive pair msg stamp s =
      if g.final ∧ !g.withdrawn ∧ s.clock.tick = g.handover ∧ stamp ≤ 17000000 ∧ msg.setAcked then
        ((s.stamped stamp).mirror 2 (.cell pair (.handover msg) msg.planId)).arrive n msg
      else ((s.stamped stamp).dropGuest n).sendCell pair (.refusal msg.planId (s.permitRefused msg.planId)) := by
  have known : ¬((!(s.stamped stamp).onCells) = true ∨ (handedState msg).isNone = true) := by
    rintro (h | h)
    exacts [not_off (s := s.stamped stamp) on h, state (Option.isNone_iff_eq_none.mp h)]
  unfold handoverReceive
  dsimp only
  rw [if_neg known, show (s.stamped stamp).guestOf pair msg.planId = some (n, g) from guest]
  exact if_neg (by simp [State.stamped, first])

theorem handoverReceive_taken {msg : HandoverMsg} {stamp n : Nat} {g : Guest} (on : s.onCells = true)
    (guest : s.guestOf pair msg.planId = some (n, g)) (first : tfind s.cells.arriving n = none) (state : handedState msg ≠ none)
    (taken : g.final = true ∧ g.withdrawn = false ∧ s.clock.tick = g.handover ∧ stamp ≤ 17000000 ∧ msg.setAcked = true) :
    tfind (handoverReceive pair msg stamp s).cells.arriving n = some msg ∧ (handoverReceive pair msg stamp s).guests = s.guests := by
  obtain ⟨final, stays, tick, intime, acked⟩ := taken
  rw [handoverReceive_guest on guest first state, if_pos ⟨final, congrArg not stays, tick, intime, acked⟩]
  exact ⟨tfind_tset _ _ _, State.mirror_within (s := s.stamped stamp) .guests rfl⟩

theorem handoverReceive_refused {msg : HandoverMsg} {stamp n : Nat} {g : Guest} (on : s.onCells = true)
    (guest : s.guestOf pair msg.planId = some (n, g)) (first : tfind s.cells.arriving n = none) (state : handedState msg ≠ none)
    (barred : ¬(g.final = true ∧ g.withdrawn = false ∧ s.clock.tick = g.handover ∧ stamp ≤ 17000000 ∧ msg.setAcked = true)) :
    tfind (handoverReceive pair msg stamp s).guests n = none ∧ ((handoverReceive pair msg stamp s).lane n).reserved = false ∧
      (s.pair.role = 0 ∨ s.pair.role = 1 ∨ s.pair.role = 4 →
        Output.cell pair (.refusal msg.planId (s.permitRefused msg.planId)) ∈ (handoverReceive pair msg stamp s).out) := by
  obtain ⟨gone, free, keys, role, halt, -⟩ := dropGuest_spec (s := s.stamped stamp) n
  obtain ⟨-, provisioned, sounds⟩ := onCells_parts on
  have open' : ¬(g.final = true ∧ (!g.withdrawn) = true ∧ s.clock.tick = g.handover ∧ stamp ≤ 17000000 ∧ msg.setAcked = true) := by
    simpa using barred
  rw [handoverReceive_guest on guest first state, if_neg open']
  have lanes : ∀ m, (((s.stamped stamp).dropGuest n).sendCell pair m).lanes = ((s.stamped stamp).dropGuest n).lanes :=
    fun m => State.sendCell_within .lanes rfl
  refine ⟨?_, ?_, fun sends => sendCell_out _ _ ?_ ?_ ?_⟩
  · rw [State.sendCell_within .guests rfl]
    exact gone
  · rw [State.lane, lanes]
    exact free
  · rw [keys]
    exact provisioned
  · rw [role]
    exact sends
  · rw [halt]
    exact sounds

theorem confirmReceive_handing {lane stamp n : Nat} (on : s.onCells = true) (handing : s.handingLane pair plan = some n) :
    ∃ d ∈ (confirmReceive pair plan lane stamp s).due, d.lane = n ∧ d.what = .handoverConfirmed := by
  have waits : confirmReceive pair plan lane stamp s =
      if s.due.any (fun d => d.lane = n && d.what = .handoverConfirmed) then s.stamped stamp
      else { s.stamped stamp with due := s.due ++ [{ lane := n, what := .handoverConfirmed }] } := by
    unfold confirmReceive
    dsimp only
    rw [show (s.stamped stamp).onCells = true from on, show (s.stamped stamp).handingLane pair plan = some n from handing]
    rfl
  rw [waits]
  split
  · next already =>
    obtain ⟨d, mem, same⟩ := List.any_eq_true.mp already
    exact ⟨d, mem, by simpa using same⟩
  · exact ⟨_, List.mem_append_right _ (List.mem_singleton.mpr rfl), rfl, rfl⟩

theorem confirmReceive_other {lane stamp : Nat} (on : s.onCells = true) (handing : s.handingLane pair plan = none) :
    confirmReceive pair plan lane stamp s =
      if (pair, plan) ∈ s.cells.releasedPlans then (s.stamped stamp).sendCell pair (.released plan)
      else if plan ∈ s.cells.failedPlans then (s.stamped stamp).raise 0x140C 1 7 0xFF 0 (le 4 plan.toNat ++ le 1 pair)
      else s.stamped stamp := by
  unfold confirmReceive
  dsimp only
  rw [show (s.stamped stamp).onCells = true from on, show (s.stamped stamp).handingLane pair plan = none from handing]
  rfl

theorem releasedReceive_ends (on : s.onCells = true) : ∀ c ∈ (releasedReceive pair plan s).cells.confirms, ¬(c.1 = pair ∧ c.2.1 = plan) := by
  unfold releasedReceive
  rw [if_neg (by simp [on])]
  intro c mem
  simpa [imp_iff_not_or] using (List.mem_filter.mp mem).2

end

end Sys2Proof.Machine

namespace Sys2Proof.Proofs

open Sys2Proof Sys2Proof.Machine

/-- Settles O38: each message by the lemma of its case, on the state that the datagram finds. -/
theorem permitsAskedAndGiven : Obligations.PermitsAskedAndGiven := by
  intro s pair running on
  refine ⟨fun v horizon numbering listed => ?region, fun plan lane epoch border handover commit run stamp => ?request,
    fun plan lane set stamp p asked fresh => ?grant, fun plan record stamp handing p asked fresh => ?refusal,
    fun plan record stamp n handing => ?handover⟩
  case region =>
    obtain ⟨n, next⟩ := fromCell_next (c := .region pair v horizon numbering) rfl running
    obtain ⟨m, noted, pairs, same, hor, base⟩ := regionReceive_noted (s := { s with out := [], counters := n }) (pair := pair) (v := v)
      (horizon := horizon) (numbering := numbering) on
    have here : pair ∈ m.neighbourPairs := pairs.symm ▸ listed
    refine ⟨_, next.trans (congrArg _ noted), ?_⟩
    by_cases agrees : horizon = s.horizon ∧ (numbering : Int) = s.cfgNat 0x2101 1
    · obtain ⟨record, ends⟩ := noteRegion_agrees (v := v) here ⟨agrees.1.trans hor.symm, (Int.ofNat_inj.mp agrees.2).trans base.symm⟩
      rw [same] at ends
      exact ⟨congrArg Neighbour.vertices record, congrArg Neighbour.known record, fun _ _ => ⟨congrArg Neighbour.mismatch record, ends⟩,
        fun h => absurd agrees h⟩
    · obtain ⟨record, raised⟩ := noteRegion_differs (v := v) (horizon := horizon) (numbering := numbering) here
        (fun h => agrees ⟨h.1.trans hor, Int.ofNat_inj.mpr (h.2.trans base)⟩)
      exact ⟨congrArg Neighbour.vertices record, congrArg Neighbour.known record, fun h n => absurd ⟨h, n⟩ agrees,
        fun _ => ⟨congrArg Neighbour.mismatch record, raised⟩⟩
  case request =>
    obtain ⟨n, next⟩ := fromCell_next (c := .permitRequest { pair := pair, plan := plan } { lane := lane, epoch := epoch } border handover commit run
      stamp) rfl running
    exact ⟨_, next, permitRequest_accepted (s := { s with out := [], counters := n }) on,
      permitRequest_refused (s := { s with out := [], counters := n }) on⟩
  case grant =>
    obtain ⟨n, next⟩ := fromCell_next (c := .grant pair plan lane set stamp) rfl running
    exact ⟨_, next, grantReceive_intime (s := { s with out := [], counters := n }) on asked fresh,
      grantReceive_late (s := { s with out := [], counters := n }) asked⟩
  case refusal =>
    obtain ⟨n, next⟩ := fromCell_next (c := .refusal { pair := pair, plan := plan } record stamp) rfl running
    exact ⟨_, next, refusalReceive_permit (s := { s with out := [], counters := n }) on handing asked fresh⟩
  case handover =>
    obtain ⟨m, next⟩ := fromCell_next (c := .refusal { pair := pair, plan := plan } record stamp) rfl running
    exact ⟨_, next, refusalReceive_handover (s := { s with out := [], counters := m }) on handing⟩

/-- Settles O39: each message by the lemma of its case, on the state that the datagram finds. -/
theorem guestsAndHandover : Obligations.GuestsAndHandover := by
  intro s pair running on
  refine ⟨fun plan start legs stretches stamp n g guest => ?notice, fun plan stamp n g guest => ?withdraw, fun plan stamp guest n held => ?held,
    fun msg stamp n g guest first state => ?handover, fun msg stamp unknown => ?unknown, fun plan lane stamp n handing => ?confirm,
    fun plan lane stamp handing => ?again, fun plan => ?released⟩
  case notice =>
    obtain ⟨c, next⟩ := fromCell_next (c := .commitNotice pair plan start legs stretches stamp) rfl running
    exact ⟨_, next, commitNotice_final (s := { s with out := [], counters := c }) on guest,
      commitNotice_late (s := { s with out := [], counters := c }) guest⟩
  case withdraw =>
    obtain ⟨c, next⟩ := fromCell_next (c := .withdrawal { pair := pair, plan := plan } stamp) rfl running
    exact ⟨_, next, fun h => withdrawal_guest (s := { s with out := [], counters := c }) on guest⟩
  case held =>
    obtain ⟨c, next⟩ := fromCell_next (c := .withdrawal { pair := pair, plan := plan } stamp) rfl running
    exact ⟨_, next, withdrawal_held (s := { s with out := [], counters := c }) on guest held⟩
  case handover =>
    obtain ⟨c, next⟩ := fromCell_next (c := .handover pair msg stamp) rfl running
    exact ⟨_, next, fun final stays tick intime acked =>
        handoverReceive_taken (s := { s with out := [], counters := c }) on guest first state ⟨final, stays, tick, intime, acked⟩,
      handoverReceive_refused (s := { s with out := [], counters := c }) on guest first state⟩
  case unknown =>
    obtain ⟨c, next⟩ := fromCell_next (c := .handover pair msg stamp) rfl running
    have discarded : handoverReceive pair msg stamp { s with out := [], counters := c } = ({ s with out := [], counters := c } : State).stamped stamp :=
      if_pos (.inr (by rw [unknown]; rfl))
    exact ⟨_, next.trans (congrArg _ discarded), rfl, rfl, rfl⟩
  case confirm =>
    obtain ⟨c, next⟩ := fromCell_next (c := .confirm { pair := pair, plan := plan } lane stamp) rfl running
    exact ⟨_, next, confirmReceive_handing (s := { s with out := [], counters := c }) on handing⟩
  case again =>
    obtain ⟨c, next⟩ := fromCell_next (c := .confirm { pair := pair, plan := plan } lane stamp) rfl running
    rw [confirmReceive_other (s := { s with out := [], counters := c }) on handing] at next
    refine ⟨_, next, fun known role => ?_, fun fresh failed => ?_⟩
    · rw [if_pos known]
      exact sendCell_onCells (s := ({ s with out := [], counters := c } : State).stamped stamp) on role
    · rw [if_neg fresh, if_pos failed]
      exact State.raise_reported ..
  case released =>
    obtain ⟨c, next⟩ := fromCell_next (c := .released pair plan) rfl running
    exact ⟨_, next, releasedReceive_ends (s := { s with out := [], counters := c }) on⟩

end Sys2Proof.Proofs


/-! PROOF. The claim of a chain address, and the CAN node (R377, R392, R399, R410, R438 to R441). -/

namespace Sys2Proof.Machine

section
variable {s : State}

/-! ### The claim -/

theorem query_answers {serial : U64} (addressed : s.chain.address ≠ 0) :
    (∃ announced, query serial s = (if s.chain.phase = 5 ∧ serial = s.chain.rival then
        (({ announced with chain := { announced.chain with phase := 4 } } : State).raise 0x140E 3 4 0xFF s.chain.address
          (le 1 s.chain.address)).bootUp else announced) ∧ announced.chain = s.chain ∧
      Output.can 0x7C0 (le 1 s.chain.address ++ le 1 ((if s.chain.stored ≠ 0 then 1 else 0) + 0) ++ le 1 s.pair.role ++ le 1 0 ++
        le 8 Config.serial.toNat ++ le 4 (s.cfg 0x2500 1)) ∈ announced.out) := by
  refine ⟨_, if_neg addressed, rfl, List.mem_append_right _ (List.mem_singleton.mpr ?_)⟩
  simp only [decide_eq_true_eq, Bool.false_eq_true, if_false]

/-- The boot-up of a unit that has an address: its message, and the state after it (R439). -/
theorem bootUp_out : Output.can (0x700 + s.chain.address) [0] ∈ s.bootUp.out := List.mem_append_right _ (List.mem_singleton.mpr rfl)

theorem bootUp_keeps {o : Output} (sent : o ∈ s.out) : o ∈ s.bootUp.out := List.mem_append_left _ sent

/-- What an ANNOUNCE of another unit leaves of the chain record, before two stored addresses are compared (R439). -/
def State.namedChain (s : State) (address : Nat) (serial : U64) : Chain :=
  { s.chain with
    seen := s.chain.seen ||| BitVec.ofNat 32 (2 ^ (address - 1))
    named := if s.chain.phase = 1 ∨ s.chain.phase = 2 then address :: s.chain.named else s.chain.named
    phase := if s.chain.phase = 2 ∧ address = s.chain.claiming ∧ serial < Config.serial then 3 else s.chain.phase }

theorem namedChain_seen {address : Nat} (serial : U64) (low : 1 ≤ address) (high : address ≤ 32) :
    (s.namedChain address serial).seen.getLsbD (address - 1) = true := by
  unfold State.namedChain
  rw [BitVec.getLsbD_or, BitVec.getLsbD_ofNat, Nat.testBit_two_pow_self, decide_eq_true (show address - 1 < 32 by omega)]
  exact Bool.or_true _

theorem announce_eq {address role : Nat} {stored claiming : Bool} {serial : U64} {site : U32} (low : 1 ≤ address) (high : address ≤ 32) :
    announce address stored claiming role serial site s =
      if stored = true ∧ address = s.chain.stored ∧ (s.chain.phase = 4 ∨ s.chain.phase = 7) ∧ serial ≠ Config.serial then
        ({ s with chain := { s.namedChain address serial with phase := 5, rival := serial }, access := { s.access with nmt := .initialising } } :
          State).raise 0x140D 2 4 0xFF address (le 1 address)
      else { s with chain := s.namedChain address serial } := if_neg (by omega)

theorem announce_chain {address role : Nat} {stored claiming : Bool} {serial : U64} {site : U32} (low : 1 ≤ address) (high : address ≤ 32) :
    (announce address stored claiming role serial site s).chain.seen.getLsbD (address - 1) = true ∧
      (announce address stored claiming role serial site s).chain.named = (s.namedChain address serial).named := by
  rw [announce_eq low high]
  split
  · rw [State.raise_chain]
    exact ⟨namedChain_seen serial low high, rfl⟩
  · exact ⟨namedChain_seen serial low high, rfl⟩

/-- A lower serial number takes the claimed address away (R439). -/
theorem announce_loses {address role : Nat} {stored claiming : Bool} {serial : U64} {site : U32} (low : 1 ≤ address) (high : address ≤ 32)
    (waits : s.chain.phase = 2) (same : address = s.chain.claiming) (lower : serial < Config.serial) :
    (announce address stored claiming role serial site s).chain.phase = 3 := by
  rw [announce_eq low high, if_neg (by simp [waits])]
  exact if_pos ⟨waits, same, lower⟩

theorem announce_rival {address role : Nat} {claiming : Bool} {serial : U64} {site : U32} (low : 1 ≤ address) (high : address ≤ 32)
    (up : s.chain.phase = 4) (same : address = s.chain.stored) (other : serial ≠ Config.serial) :
    (announce address true claiming role serial site s).chain.phase = 5 ∧
      (announce address true claiming role serial site s).chain.rival = serial ∧
      (announce address true claiming role serial site s).access.nmt = .initialising ∧
      (announce address true claiming role serial site s).reported 0x140D 2 4 0xFF (le 1 address) := by
  rw [announce_eq low high, if_pos ⟨rfl, same, .inl up, other⟩, State.raise_chain, State.raise_nmt]
  exact ⟨rfl, rfl, rfl, State.raise_reported ..⟩

theorem addressClaimTimeout_claims {a : Nat} (queried : s.chain.phase = 1) (free : lowestFree s.chain.named = some a) :
    (addressClaimTimeout s).chain = { s.chain with phase := 2, claiming := a } ∧
      Output.can 0x7C0 (le 1 a ++ le 1 2 ++ le 1 s.pair.role ++ le 1 0 ++ le 8 Config.serial.toNat ++ le 4 (s.cfg 0x2500 1)) ∈
        (addressClaimTimeout s).out := by
  unfold addressClaimTimeout
  rw [if_neg (not_not_intro queried), free]
  exact ⟨rfl, List.mem_append_right _ (List.mem_singleton.mpr rfl)⟩

theorem addressClaimTimeout_none (queried : s.chain.phase = 1) (full : lowestFree s.chain.named = none) :
    (addressClaimTimeout s).chain = { s.chain with phase := 6 } ∧ (addressClaimTimeout s).reported 0x140F 1 4 0xFF [] := by
  unfold addressClaimTimeout
  rw [if_neg (not_not_intro queried), full]
  exact ⟨State.raise_chain, State.raise_reported ..⟩

/-- An unopposed address is the unit's own, is stored, and passes SEL_OUT on (R439). -/
theorem addressClaimConfirm_spec (unopposed : s.chain.phase = 2) :
    (addressClaimConfirm s).chain.phase = 4 ∧ (addressClaimConfirm s).chain.address = s.chain.claiming ∧
      (addressClaimConfirm s).chain.stored = s.chain.claiming ∧ (s.power.svcAlt = false → (addressClaimConfirm s).chain.selOut = true) ∧
      (addressClaimConfirm s).access.nmt = .preOperational ∧ Output.can (0x700 + s.chain.claiming) [0] ∈ (addressClaimConfirm s).out := by
  obtain ⟨chain, -, -⟩ := selectOut_chain true
    { s with chain := { s.chain with phase := 4, address := s.chain.claiming, stored := s.chain.claiming, claiming := 0 } }
  generalize hy : State.selectOut true
    { s with chain := { s.chain with phase := 4, address := s.chain.claiming, stored := s.chain.claiming, claiming := 0 } } = y at chain
  have confirmed : addressClaimConfirm s = y.bootUp := hy ▸ if_neg (not_not_intro unopposed)
  rw [confirmed]
  refine ⟨congrArg Chain.phase chain, congrArg Chain.address chain, congrArg Chain.stored chain, fun plain => ?_, rfl, ?_⟩
  · exact (congrArg Chain.selOut chain).trans (if_neg (by simp [plain]))
  · have sent := bootUp_out (s := y)
    rw [chain] at sent
    exact sent

/-! ### The CAN node -/

/-- The address given up on command (R410, R440). -/
theorem forgetAddress_spec (vacant : s.allVacant = true) (off : s.cfgAccepted 0x2601 1 ≠ 1) :
    ∃ y, State.forgetAddress 1 s = (y, .done []) ∧ y.chain.address = 0 ∧ y.chain.stored = 0 ∧ y.chain.phase = 0 ∧
      (s.power.svcAlt = false → y.chain.selOut = false) := by
  obtain ⟨chain, -, -⟩ := selectOut_chain false s
  generalize hy : s.selectOut false = y at chain
  have forgotten : State.forgetAddress 1 s = (if s.chain.phase = 5 then
      ({ y with
        chain := { y.chain with address := 0, stored := 0, phase := 0, selIn := false, named := [], claiming := 0 }
        access := { y.access with nmt := .initialising } } : State).raise 0x140E 3 4 0xFF s.chain.address (le 1 s.chain.address)
      else { y with
        chain := { y.chain with address := 0, stored := 0, phase := 0, selIn := false, named := [], claiming := 0 }
        access := { y.access with nmt := .initialising } }, .done []) := by
    subst hy
    exact (if_neg (not_not_intro rfl)).trans (if_neg (by simp [vacant, off]))
  have released : s.power.svcAlt = false → y.chain.selOut = false := fun plain =>
    (congrArg Chain.selOut chain).trans (if_neg (by simp [plain]))
  refine ⟨_, forgotten, ?_⟩
  split
  · rw [State.raise_chain]
    exact ⟨rfl, rfl, rfl, released⟩
  · exact ⟨rfl, rfl, rfl, released⟩

theorem nmtCommand_state {code : Nat} {n : Nmt} (up : s.chain.phase = 4)
    (named : (code, n) ∈ [(1, Nmt.operational), (2, .stopped), (128, .preOperational)]) :
    nmtCommand code s = { s with access := { s.access with nmt := n } } := by
  simp only [List.mem_cons, Prod.mk.injEq, List.not_mem_nil, or_false] at named
  rcases named with ⟨rfl, rfl⟩ | ⟨rfl, rfl⟩ | ⟨rfl, rfl⟩
  all_goals exact if_neg (not_not_intro up)

theorem nmtCommand_reset {code : Nat} (up : s.chain.phase = 4) (reset : code = 129 ∨ code = 130) : nmtCommand code s = s.bootUp := by
  rcases reset with rfl | rfl
  all_goals exact if_neg (not_not_intro up)

theorem canReaderTimeout_releases {q : Nat} (known : q < 6) (can : canReader (s.stream q).reader = true) (silent : 500 ≤ (s.stream q).idle) :
    (canReaderTimeout q s).stream q = { s.stream q with reader := 0, idle := 0 } ∧
      ((s.stream q).items ≠ [] → ∀ j, j ≠ q → (canReaderTimeout q s).stream j = s.stream j) := by
  have released : canReaderTimeout q s = s.onStream q (fun x => { x with reader := 0, idle := 0 }) := if_pos ⟨known, can, silent⟩
  rw [released]
  exact ⟨stream_onStream .., fun held j other => stream_onStream_other other (fun empty => held (congrArg Stream.items empty))⟩

end

end Sys2Proof.Machine

namespace Sys2Proof.Proofs

open Sys2Proof Sys2Proof.Machine

/-- Settles O40: each event of the claim by its own lemma. -/
theorem chainAddressClaim : Obligations.ChainAddressClaim := by
  intro s running
  refine ⟨fun plain unaddressed idle => ?start, fun serial addressed => ?query, fun address role stored claiming serial site low high => ?announce,
    fun queried => ?timeout, fun unopposed => ?confirm, fun lost => ?retry⟩
  case start =>
    exact (running_next _ running).trans (congrArg _ ((if_neg (by simp [State.begin, plain])).trans (if_pos ⟨unaddressed, idle⟩)))
  case query =>
    obtain ⟨announced, answers, chain, sent⟩ := query_answers (s := s.begin) (serial := serial) addressed
    refine ⟨_, running_next _ running, ?_⟩
    rw [answers]
    refine ⟨?_, fun withheld rival => ?_⟩
    · split
      · exact bootUp_keeps (State.out_raise sent)
      · exact sent
    · rw [if_pos ⟨withheld, rival⟩]
      have record : (({ announced with chain := { announced.chain with phase := 4 } } : State).raise 0x140E 3 4 0xFF s.begin.chain.address
        (le 1 s.begin.chain.address)).chain = { s.chain with phase := 4 } := State.raise_chain.trans (by rw [chain]; rfl)
      generalize State.raise _ _ _ _ _ _ { announced with chain := { announced.chain with phase := 4 } } = z at record
      have boot := bootUp_out (s := z)
      rw [record] at boot
      exact ⟨congrArg Chain.phase record, rfl, boot⟩
  case announce =>
    obtain ⟨seen, named⟩ := announce_chain (s := s.begin) (role := role) (stored := stored) (claiming := claiming) (serial := serial) (site := site) low high
    refine ⟨_, running_next _ running, seen, fun claims => named.trans (if_pos claims), announce_loses (s := s.begin) low high, ?_⟩
    rintro up rfl
    exact announce_rival (s := s.begin) low high up
  case timeout =>
    exact ⟨_, running_next _ running, fun a => addressClaimTimeout_claims (s := s.begin) queried, addressClaimTimeout_none (s := s.begin) queried⟩
  case confirm =>
    exact ⟨_, running_next _ running, addressClaimConfirm_spec (s := s.begin) unopposed⟩
  case retry =>
    exact (running_next _ running).trans (congrArg _ (if_pos lost))

/-- Settles O41: the address command by `forgetAddress_spec`, the rest by the lemma of its command. -/
theorem canNode : Obligations.CanNode := by
  intro s running
  refine ⟨fun r granted vacant off => ?forget, fun up => ⟨fun code n named => ?state, fun code reset => ?reset⟩, fun booted period => ?heartbeat,
    fun q known can silent => ⟨_, running_next _ running, canReaderTimeout_releases (s := s.begin) known can silent⟩⟩
  case forget =>
    refine exec_serveWrite rfl granted (fun u hu => ?_)
    obtain ⟨y, body, address, stored, phase, released⟩ := forgetAddress_spec (s := u)
      (by rw [Units.allVacant, hu.lanes]; exact vacant) (by rw [hu.cfgAccepted]; exact off)
    refine ⟨y, body, fun z hz => ?_⟩
    have chain : z.chain = y.chain := hz .chain rfl
    rw [chain]
    exact ⟨address, stored, phase, fun plain => released (by rw [hu.power]; exact plain)⟩
  case state =>
    exact (running_next _ running).trans (congrArg _ (nmtCommand_state (s := s.begin) up named))
  case reset =>
    exact (running_next _ running).trans (congrArg _ (nmtCommand_reset (s := s.begin) up reset))
  case heartbeat =>
    exact (running_next _ running).trans (congrArg _ (if_neg (not_or.mpr ⟨booted, period⟩)))

end Sys2Proof.Proofs


/-! PROOF. What an answer leaves of the access record; streams claimed, read and released (R392 to R396, R400, R456). -/

namespace Sys2Proof.Machine

/-! ### Answers -/

/-- An answer is kept with its session; nothing else of the access record changes. -/
theorem answer_access (s : State) (r : Req) (a : Answer) : ∃ x, (s.answer r a).access = { s.access with sessions := x } := by
  unfold State.answer
  dsimp only
  split
  · split
    · exact ⟨_, rfl⟩
    · exact ⟨_, rfl⟩
  · split
    · exact ⟨_, rfl⟩
    · exact ⟨_, rfl⟩
  · exact ⟨_, rfl⟩

theorem answer_streams (s : State) (r : Req) (a : Answer) : (s.answer r a).access.streams = s.access.streams := by
  obtain ⟨x, same⟩ := answer_access s r a
  rw [same]

theorem answer_transfers (s : State) (r : Req) (a : Answer) : (s.answer r a).access.transfers = s.access.transfers := by
  obtain ⟨x, same⟩ := answer_access s r a
  rw [same]

theorem answer_stream (s : State) (r : Req) (a : Answer) (q : Nat) : (s.answer r a).stream q = s.stream q :=
  congrArg (fun t => tget (fun _ => ({} : Stream)) t q) (answer_streams s r a)

theorem answer_says (s : State) (r : Req) (a : Answer) : (s.answer r a).says r a := by
  rw [State.says, answer_out]
  exact List.mem_append_right _ (List.mem_singleton.mpr rfl)

/-- A request that is taken is answered as its body says, and leaves what the body and its answer leave. -/
theorem exec_serve_leaves {c : Instr} {s : State} {r : Req} {body : State → State × Answer} {a : Answer} {P : State → Prop}
    (meaning : exec c s = running (State.serve r body) s) (taken : s.takes r)
    (h : ∀ u, Arrived s u r → ∃ y, body u = (y, a) ∧ P (y.answer r a)) : ∃ t, exec c s = .next t ∧ t.says r a ∧ P t := by
  obtain ⟨u, found, served⟩ := exec_serve_answer meaning taken
  obtain ⟨y, answers, holds⟩ := h u found
  rw [answers] at served
  exact ⟨_, served, answer_says .., holds⟩

section
variable {s : State} {r : Req} {q : Nat}

theorem Arrived.stream {u : State} (h : Arrived s u r) (q : Nat) : u.stream q = s.stream q :=
  congrArg (fun t => tget (fun _ => ({} : Stream)) t q) h.streams

theorem Arrived.streamRefused {u : State} (h : Arrived s u r) (q : Nat) :
    u.streamRefused (u.roles r.origin) q = s.streamRefused (s.roles r.origin) q := by
  unfold Units.streamRefused Units.cfgOn
  simp only [h.roles, h.cfg]

theorem Arrived.streamKeyOf {u : State} (h : Arrived s u r) (q : Nat) : u.streamKeyOf q = s.streamKeyOf q := by
  unfold State.streamKeyOf State.storageKey
  rw [h.keys, h.power]

/-! ### Claims -/

/-- A stream that is free, or its reader's own, is its reader's after the claim, its items as they were (R393). -/
theorem claimReader_free {reader : U32} (free : (s.stream q).reader = 0 ∨ (s.stream q).reader = reader) :
    ∃ y, s.claimReader q reader = (y, none) ∧ (y.stream q).reader = reader ∧ ∃ idle, y.stream q = { s.stream q with reader := reader, idle := idle } := by
  by_cases own : (s.stream q).reader = reader
  · exact ⟨s, if_pos own, own, (s.stream q).idle, by rw [← own]⟩
  · have zero : (s.stream q).reader = 0 := free.resolve_right own
    refine ⟨_, (if_neg own).trans (if_neg (not_not_intro zero)), ?_, 0, stream_onStream ..⟩
    rw [stream_onStream]

theorem claimReader_held {reader : U32} (held : (s.stream q).reader ≠ 0) (other : (s.stream q).reader ≠ reader) :
    ∃ y, s.claimReader q reader = (y, some 0x0F000002) := ⟨_, (if_neg other).trans (if_pos held)⟩

theorem claimStream_free (known : q < 6) (reads : s.streamRefused (s.roles r.origin) q = none)
    (free : (s.stream q).reader = 0 ∨ (s.stream q).reader = BitVec.ofNat 32 (readerOf r.origin)) :
    ∃ y, State.claimStream r q s = (y, .done []) ∧ (y.stream q).reader = BitVec.ofNat 32 (readerOf r.origin) ∧
      (y.stream q).items = (s.stream q).items := by
  obtain ⟨y, claims, reader, idle, stream⟩ := claimReader_free free
  refine ⟨y, ?_, reader, by rw [stream]⟩
  unfold State.claimStream
  rw [if_neg (Nat.not_le.mpr known), reads]
  dsimp only
  rw [claims]
  rfl

theorem claimStream_held (known : q < 6) (reads : s.streamRefused (s.roles r.origin) q = none) (held : (s.stream q).reader ≠ 0)
    (other : (s.stream q).reader ≠ BitVec.ofNat 32 (readerOf r.origin)) : ∃ y, State.claimStream r q s = (y, .refused 0x0F000002 0) := by
  obtain ⟨y, claims⟩ := claimReader_held held other
  refine ⟨y, ?_⟩
  unfold State.claimStream
  rw [if_neg (Nat.not_le.mpr known), reads]
  dsimp only
  rw [claims]
  rfl

theorem claimStream_refused {c : Nat} (known : q < 6) (refused : s.streamRefused (s.roles r.origin) q = some c) :
    State.claimStream r q s = (s, .refused c 0) := by
  unfold State.claimStream
  rw [if_neg (Nat.not_le.mpr known), refused]
  rfl

/-! ### Pulls -/

/-- What a pull reads does not depend on the reader, and it leaves the reader (R394). -/
theorem pull_reader (t : Stream) (reader : U32) (idle room : Nat) :
    (({ t with reader := reader, idle := idle } : Stream).pull room).1 = (t.pull room).1 ∧
      (({ t with reader := reader, idle := idle } : Stream).pull room).2.items = (t.pull room).2.items ∧
      (({ t with reader := reader, idle := idle } : Stream).pull room).2.reader = reader := by
  obtain ⟨items⟩ := t
  cases items with
  | nil => exact ⟨rfl, rfl, rfl⟩
  | cons i rest =>
    unfold Stream.pull
    dsimp only
    split
    · exact ⟨rfl, rfl, rfl⟩
    · unfold Stream.took
      dsimp only
      split
      · exact ⟨rfl, rfl, rfl⟩
      · exact ⟨rfl, rfl, rfl⟩

theorem checkQueue_ok (write : (s.stream q).write.ok = true) (read : (s.stream q).readPtr.ok = true) : s.checkQueue q = s :=
  if_pos (by rw [write, read]; rfl)

/-- A pull by the reader, or of a free stream, gives the oldest whole items that fit and removes them (R394). -/
theorem pullStream_reads {room : Nat} (known : q < 6) (reads : s.streamRefused (s.roles r.origin) q = none)
    (write : (s.stream q).write.ok = true) (read : (s.stream q).readPtr.ok = true)
    (free : (s.stream q).reader = 0 ∨ (s.stream q).reader = BitVec.ofNat 32 (readerOf r.origin)) :
    ∃ y, State.pullStream r q room s = (y, .done ((s.stream q).pull room).1) ∧
      (q ≠ 3 → (y.stream q).items = ((s.stream q).pull room).2.items ∧ (y.stream q).reader = BitVec.ofNat 32 (readerOf r.origin)) := by
  obtain ⟨x, claims, -, idle, stream⟩ := claimReader_free free
  obtain ⟨data, items, reader⟩ := pull_reader (s.stream q) (BitVec.ofNat 32 (readerOf r.origin)) idle room
  rw [← stream] at data items reader
  have checked : x.readQueue q = (x, true) :=
    Prod.ext (checkQueue_ok (by rw [stream]; exact write) (by rw [stream]; exact read)) (by
      show (_ && _) = true
      rw [stream, write, read]
      rfl)
  have pulls : State.pullStream r q room s = (if q = 3 then (x.onStream q (fun _ => ((x.stream q).pull room).2)).drainAll
      else x.onStream q (fun _ => ((x.stream q).pull room).2), .done ((x.stream q).pull room).1) := by
    unfold State.pullStream
    rw [if_neg (Nat.not_le.mpr known), reads]
    dsimp only
    rw [claims]
    dsimp only
    rw [checked]
    exact if_neg Bool.false_ne_true
  refine ⟨_, pulls.trans (by rw [data]), fun other => ?_⟩
  rw [if_neg other, stream_onStream]
  exact ⟨items, reader⟩

/-! ### Release and key -/

theorem releaseStream_own (known : q < 6) (own : (s.stream q).reader = BitVec.ofNat 32 (readerOf r.origin)) :
    State.releaseStream r q s = (s.onStream q (fun x => { x with reader := 0, idle := 0 }), .done []) :=
  (if_neg (Nat.not_le.mpr known)).trans (if_pos own)

theorem releaseStream_other (known : q < 6) (other : (s.stream q).reader ≠ BitVec.ofNat 32 (readerOf r.origin)) :
    State.releaseStream r q s = (s, .done []) := (if_neg (Nat.not_le.mpr known)).trans (if_neg other)

theorem giveStreamKey_reads (known : q < 6) (reads : s.streamRefused (s.roles r.origin) q = none) :
    State.giveStreamKey r q s = (s, .done (s.streamKeyOf q)) := by
  unfold State.giveStreamKey
  rw [if_neg (Nat.not_le.mpr known), reads]

theorem giveStreamKey_refused {c : Nat} (known : q < 6) (refused : s.streamRefused (s.roles r.origin) q = some c) :
    State.giveStreamKey r q s = (s, .refused c 0) := by
  unfold State.giveStreamKey
  rw [if_neg (Nat.not_le.mpr known), refused]
  rfl

end

end Sys2Proof.Machine

namespace Sys2Proof.Proofs

open Sys2Proof Sys2Proof.Machine

/-- Settles O52: claim, pull, key and release by the lemma of each body, on the streams that stood. -/
theorem streamsRead : Obligations.StreamsRead := by
  intro s r q running taken known
  refine ⟨fun reads => ⟨?claim, fun room write read free => ?pull, ?key⟩, fun c refused => ⟨?claimRefused, ?keyRefused⟩, ?release⟩
  case claim =>
    obtain ⟨u, found, served⟩ := exec_serve_answer (c := .streamClaim r q) rfl taken
    have reads' := (found.streamRefused q).trans reads
    refine ⟨_, served, fun free => ?_, fun held other => ?_⟩
    · obtain ⟨y, claims, reader, items⟩ := claimStream_free known reads' (found.stream q ▸ free)
      rw [claims, answer_stream, ← found.stream]
      exact ⟨answer_says .., reader, items⟩
    · obtain ⟨y, claims⟩ := claimStream_held known reads' (found.stream q ▸ held) (found.stream q ▸ other)
      rw [claims]
      exact answer_says ..
  case pull =>
    refine exec_serve_leaves rfl taken (fun u found => ?_)
    have stream := found.stream q
    obtain ⟨y, pulls, takes⟩ := pullStream_reads (s := u) (r := r) (room := room) known ((found.streamRefused q).trans reads) (stream ▸ write)
      (stream ▸ read) (stream ▸ free)
    rw [stream] at pulls takes
    exact ⟨y, pulls, by rw [answer_stream]; exact takes⟩
  case key =>
    obtain ⟨t, next, told, -⟩ := exec_serve_leaves (c := .streamKey r q) (P := fun _ => True) rfl taken (fun u found =>
      ⟨u, (giveStreamKey_reads known ((found.streamRefused q).trans reads)).trans (by rw [found.streamKeyOf]), trivial⟩)
    exact ⟨t, next, told⟩
  case claimRefused =>
    refine exec_serve_leaves rfl taken (fun u found =>
      ⟨u, claimStream_refused known ((found.streamRefused q).trans refused), (answer_streams ..).trans found.streams⟩)
  case keyRefused =>
    obtain ⟨t, next, told, -⟩ := exec_serve_leaves (c := .streamKey r q) (P := fun _ => True) rfl taken (fun u found =>
      ⟨u, giveStreamKey_refused known ((found.streamRefused q).trans refused), trivial⟩)
    exact ⟨t, next, told⟩
  case release =>
    refine exec_serve_leaves rfl taken (fun u found => ?_)
    have stream := found.stream q
    by_cases own : (s.stream q).reader = BitVec.ofNat 32 (readerOf r.origin)
    · refine ⟨_, releaseStream_own known (stream ▸ own), fun _ => ?_, fun other => absurd own other⟩
      rw [answer_stream, stream_onStream, stream]
      exact ⟨rfl, rfl⟩
    · exact ⟨_, releaseStream_other known (stream ▸ own), fun is => absurd is own, fun _ => (answer_streams ..).trans found.streams⟩

end Sys2Proof.Proofs


/-! PROOF. Sessions established and closed (R379, R381 to R383, R390, R393, R456). -/

namespace Sys2Proof.Machine

section
variable {s : State}

/-! ### Hello -/

theorem hello_off {port version slot roles : Nat} {key nonce : Bytes} (off : s.cfgOn 0x2022 (2 + port) = false) :
    hello port version slot roles key nonce s = s := if_pos (.inr (by rw [off]; rfl))

theorem hello_rejected {port version slot roles k : Nat} {key nonce : Bytes} (known : port ≤ 1) (on : s.cfgOn 0x2022 (2 + port) = true)
    (refused : s.helloRefused version slot = some k) : hello port version slot roles key nonce s = s.reject port k := by
  unfold hello
  rw [if_neg (by simp [known, on]), refused]

theorem hello_greets {port version slot roles : Nat} {key nonce : Bytes} (known : port ≤ 1) (on : s.cfgOn 0x2022 (2 + port) = true)
    (served : s.helloRefused version slot = none) : hello port version slot roles key nonce s = s.greet port slot roles key nonce := by
  unfold hello
  rw [if_neg (by simp [known, on]), served]

/-- The controller's hello and the handshake it opens (R381). -/
theorem greet_spec (port slot roles : Nat) (key nonce : Bytes) :
    (s.greet port slot roles key nonce).access.nextSession = nextId s.access.nextSession ∧ ∃ (own ownNonce : Bytes) (scalar : Nat),
      (s.greet port slot roles key nonce).out = s.out ++ [.vap port 2 (vapDatagram 2 s.access.nextSession 0 none own)] ∧
      tfind (s.greet port slot roles key nonce).access.handshakes s.access.nextSession =
        some { id := s.access.nextSession, port := port, slot := slot, roles := roles, key := key, nonce := nonce, scalar := scalar,
               ownNonce := ownNonce, digest := Crypto.sha256 (key ++ nonce ++ le 1 slot ++ le 1 roles ++ own), age := 0 } :=
  ⟨rfl, _, _, _, rfl, tfind_tset _ _ _⟩

/-! ### Proof -/

theorem clientProof_accepts {k carried : Nat} {signature secret : Bytes} {h : Handshake} (found : tfind s.access.handshakes k = some h)
    (proves : s.proves h signature = true) (shared : Crypto.p256.shared h.scalar h.key = some secret)
    (carries : s.credentialRoles h.slot = some carried) : clientProof k signature s = s.accept h secret (s.grantedRoles h carried) := by
  unfold clientProof
  rw [found]
  dsimp only
  rw [if_pos proves, carries, shared]

/-- A handshake that ends without a session is counted (R382). -/
def State.failHandshake (k : Nat) (s : State) : State :=
  { s with access := { s.access with handshakes := tdel s.access.handshakes k, failed := s.access.failed + 1 } }

theorem clientProof_fails {k : Nat} {signature : Bytes} {h : Handshake} (found : tfind s.access.handshakes k = some h)
    (fails : s.proves h signature = false ∨ Crypto.p256.shared h.scalar h.key = none ∨ s.credentialRoles h.slot = none) :
    clientProof k signature s = s.failHandshake k := by
  unfold clientProof
  rw [found]
  dsimp only
  rcases fails with bad | none | empty
  · rw [if_neg (Bool.eq_false_iff.mp bad)]
    split
    · contradiction
    · rfl
  · rw [none, ite_self]
    split
    · contradiction
    · rfl
  · rw [empty]
    rfl

/-- The session that a handshake opens (R381, R456). -/
theorem accept_spec (h : Handshake) (secret : Bytes) (roles : Nat) : tfind (s.accept h secret roles).access.handshakes h.id = none ∧
    ∃ e, tfind (s.accept h secret roles).access.sessions h.id = some e ∧ e.port = h.port ∧ e.roles = roles ∧
      e.up = h.derive secret "VL vap up" 16 ∧ e.down = h.derive secret "VL vap down" 16 ∧
      (s.accept h secret roles).out = s.out ++
        [.vap h.port 4 (vapDatagram 4 h.id 1 (some e.down) (le 1 e.roles ++ le 2 (s.cfg 0x2022 1) ++ le 2 1408))] :=
  ⟨tfind_tdel _ _, _, tfind_tset _ _ _, rfl, rfl, rfl, rfl, rfl⟩

/-- A proof ends its handshake, one way or the other. -/
theorem clientProof_ends {k : Nat} {signature : Bytes} {h : Handshake} (found : tfind s.access.handshakes k = some h) (named : h.id = k) :
    tfind (clientProof k signature s).access.handshakes k = none := by
  cases proves : s.proves h signature with
  | false =>
    rw [clientProof_fails found (.inl proves)]
    exact tfind_tdel _ _
  | true =>
    cases shared : Crypto.p256.shared h.scalar h.key with
    | none =>
      rw [clientProof_fails found (.inr (.inl shared))]
      exact tfind_tdel _ _
    | some secret =>
      cases carries : s.credentialRoles h.slot with
      | none =>
        rw [clientProof_fails found (.inr (.inr carries))]
        exact tfind_tdel _ _
      | some carried =>
        rw [clientProof_accepts found proves shared carries, ← named]
        exact (accept_spec h secret _).1

/-! ### Timeouts and closing -/

theorem releaseReader_out (reader : U32) : (s.releaseReader reader).out = s.out := by
  unfold State.releaseReader
  refine State.foldl_keeps (fun t => t.out) (fun t q => ?_) _ _
  exact State.ite_same (fun u => u.out) rfl rfl

/-- A closed session is gone, and so are its transfers (R390, R393). -/
theorem closeSession_spec (k : Nat) : tfind (s.closeSession k).access.sessions k = none ∧
    (∀ x ∈ (s.closeSession k).access.transfers, x.origin ≠ .vap k) ∧ (s.closeSession k).out = s.out := by
  unfold State.closeSession
  dsimp only
  refine ⟨tfind_tdel _ _, fun x mem => of_decide_eq_true (List.mem_filter.mp mem).2, ?_⟩
  exact releaseReader_out _

end

end Sys2Proof.Machine

namespace Sys2Proof.Proofs

open Sys2Proof Sys2Proof.Machine

/-- Settles O51: each step of a session's life by the lemma of its case. -/
theorem sessionsOpenAndClose : Obligations.SessionsOpenAndClose := by
  intro s running
  refine ⟨fun port version slot roles key nonce known => ?hello, fun k signature h found named => ?proof, fun k h found old => ?unfinished,
    fun k e found idle => ?idle, fun r taken => ?keepalive, fun r k taken vap => ?close⟩
  case hello =>
    refine ⟨_, running_next _ running, fun off => ?_, fun on => ⟨fun k refused => ?_, fun served => ?_⟩⟩
    · rw [hello_off (s := s.begin) off]
      exact ⟨rfl, rfl⟩
    · rw [hello_rejected (s := s.begin) known on refused]
      exact ⟨rfl, rfl⟩
    · rw [hello_greets (s := s.begin) known on served]
      exact greet_spec (s := s.begin) ..
  case proof =>
    refine ⟨_, running_next _ running, clientProof_ends (s := s.begin) found named, fun carried secret proves shared carries => ?_, fun fails => ?_⟩
    · obtain ⟨-, e, opened, port, roles, up, down, out⟩ := accept_spec (s := s.begin) h secret (s.grantedRoles h carried)
      rw [clientProof_accepts (s := s.begin) found proves shared carries]
      rw [named] at opened out
      refine ⟨e, opened, port, fun later => ?_, up, down, out⟩
      exact roles.trans (if_neg (Bool.eq_false_iff.mp later))
    · rw [clientProof_fails (s := s.begin) found fails]
      exact ⟨rfl, rfl, rfl⟩
  case unfinished =>
    have ends : establishTimeout k s.begin = { s.begin with access := { s.access with handshakes := tdel s.access.handshakes k } } := by
      unfold establishTimeout
      rw [show tfind s.begin.access.handshakes k = some h from found]
      exact if_pos old
    exact ⟨_, (running_next _ running).trans (congrArg _ ends), tfind_tdel _ _, rfl⟩
  case idle =>
    have closes : idleTimeout k s.begin = s.begin.closeSession k := by
      unfold idleTimeout
      rw [show tfind s.begin.access.sessions k = some e from found]
      exact if_pos idle
    obtain ⟨gone, transfers, -⟩ := closeSession_spec (s := s.begin) k
    exact ⟨_, (running_next _ running).trans (congrArg _ closes), gone, transfers⟩
  case keepalive =>
    obtain ⟨t, next, told, -⟩ := exec_serve_leaves (c := .keepalive r) (P := fun _ => True) rfl taken (fun u _ => ⟨u, rfl, trivial⟩)
    exact ⟨t, next, told⟩
  case close =>
    obtain ⟨u, admitted, -⟩ := State.admitted_takes taken
    have closes : close r s.begin = (u.answer r (.done [])).closeSession k := by
      unfold close
      rw [admitted, vap]
      rfl
    obtain ⟨gone, transfers, out⟩ := closeSession_spec (s := u.answer r (.done [])) k
    refine ⟨_, (running_next _ running).trans (congrArg _ closes), ?_, gone, transfers⟩
    rw [State.says, out]
    exact answer_says ..

end Sys2Proof.Proofs


/-! PROOF. Segmented transfers (R366, R378, R389 to R391, R410). -/

namespace Sys2Proof.Machine

section
variable {s : State} {r : Req} {i sub : Nat}

/-! ### The transfers under way -/

theorem transfer_congr {u : State} (same : u.access.transfers = s.access.transfers) (i sub : Nat) : u.transfer i sub = s.transfer i sub := by
  unfold Units.transfer
  rw [same]

theorem answer_transfer (a : Answer) : (s.answer r a).transfer i sub = s.transfer i sub := transfer_congr (answer_transfers s r a) i sub

theorem Arrived.transfer {u : State} (h : Arrived s u r) (i sub : Nat) : u.transfer i sub = s.transfer i sub := transfer_congr h.transfers i sub

theorem Arrived.transferRefused {u : State} (h : Arrived s u r) (i sub : Nat) : u.transferRefused r i sub = s.transferRefused r i sub := by
  unfold State.transferRefused Units.canClients
  rw [h.transfer, h.transfers]

theorem Arrived.domainBytes {u : State} (h : Arrived s u r) (i sub : Nat) : u.domainBytes i sub = s.domainBytes i sub := by
  unfold State.domainBytes
  rw [h.settings, h.keys, h.shown]

theorem transfer_endTransfer : (s.endTransfer i sub).transfer i sub = none := by
  refine List.find?_eq_none.mpr (fun t mem => ?_)
  simpa [imp_iff_not_or] using (List.mem_filter.mp mem).2

theorem transfer_holdTransfer (t : Transfer) : (s.holdTransfer t).transfer t.index t.sub = some t := by
  have gone : (s.endTransfer t.index t.sub).access.transfers.find? (fun x => x.index = t.index && x.sub = t.sub) = none := transfer_endTransfer
  show ((s.endTransfer t.index t.sub).access.transfers ++ [t]).find? _ = some t
  rw [List.find?_append, gone]
  simp

/-- The transfer found on an entry is of that entry. -/
theorem transfer_names {x : Transfer} (found : s.transfer i sub = some x) : x.index = i ∧ x.sub = sub := by
  simpa using List.find?_some found

/-! ### Downloads -/

theorem downloadSegment_joins {e : Entry} {t : Transfer} {first last : Bool} {offset total : Nat} {data : Bytes}
    (known : lookup i sub = .entry e) (domain : e.ty.isDomain = true) (found : s.downloadOf r i sub first total = .ok t) :
    State.downloadSegment r i sub first last offset total data s = s.joinSegment r t last offset data := by
  unfold State.downloadSegment
  rw [known]
  dsimp only
  rw [if_neg (by simp [domain]), found]

theorem downloadOf_first {total : Nat} (fits : total ≤ domainMax i sub) (free : s.transferRefused r i sub = none)
    (granted : s.commandCheck r i sub (List.replicate total 0) = none) : s.downloadOf r i sub true total =
      .ok { index := i, sub := sub, origin := r.origin, upload := false, total := total, data := [], idle := 0 } := by
  unfold State.downloadOf
  rw [if_pos rfl, free, Nat.min_eq_left (Nat.le_succ_of_le fits)]
  dsimp only
  rw [granted]

theorem downloadOf_next {total : Nat} {x : Transfer} (found : s.transfer i sub = some x) (own : x.origin = r.origin) (down : x.upload = false) :
    s.downloadOf r i sub false total = .ok x := by
  unfold State.downloadOf
  rw [if_neg Bool.false_ne_true, found]
  exact if_neg (by simp [own, down])

theorem joinSegment_joins {t : Transfer} {offset : Nat} {data : Bytes} (next : offset = t.data.length) (short : data.length ≤ 1024)
    (within : t.data.length + data.length ≤ t.total) :
    s.joinSegment r t false offset data = (s.holdTransfer { t with data := t.data ++ data, idle := 0 }, .done []) := by
  refine (if_neg (not_not_intro next)).trans ((if_neg ?_).trans (if_neg Bool.false_ne_true))
  simp only [List.length_append, Bool.false_eq_true, false_and, or_false]
  omega

theorem joinSegment_gap {t : Transfer} {last : Bool} {offset : Nat} {data : Bytes} (gap : offset ≠ t.data.length) :
    s.joinSegment r t last offset data = (s.endTransfer t.index t.sub, .refused 0x08000020 0) := if_pos gap

theorem joinSegment_wrong {t : Transfer} {offset : Nat} {data : Bytes} (next : offset = t.data.length)
    (wrong : t.data.length + data.length ≠ t.total) :
    s.joinSegment r t true offset data = (s.endTransfer t.index t.sub, .refused 0x06070010 0) := by
  refine (if_neg (not_not_intro next)).trans (if_pos (.inr (.inr ⟨rfl, ?_⟩)))
  rwa [List.length_append]

theorem joinSegment_last {t : Transfer} {offset : Nat} {data : Bytes} (next : offset = t.data.length) (short : data.length ≤ 1024)
    (whole : t.data.length + data.length = t.total) :
    s.joinSegment r t true offset data = (s.endTransfer t.index t.sub).applyDomain r t.index t.sub (t.data ++ data) := by
  refine (if_neg (not_not_intro next)).trans ((if_neg ?_).trans (if_pos rfl))
  simp only [List.length_append]
  omega

theorem compact_transfers : s.compact.access.transfers = s.access.transfers :=
  State.ite_same (fun u => u.access.transfers) (State.raise_transfers ..) rfl

theorem journal_transfers (items : List WriteItem) : (s.journal items).access.transfers = s.access.transfers := by
  refine State.ite_same (fun u => u.access.transfers) rfl ?_
  unfold State.journalAs
  exact State.ite_same (fun u => u.access.transfers) compact_transfers rfl

theorem endTransfer_roles (o : Origin) : (s.endTransfer i sub).roles o = s.roles o := by cases o <;> rfl

/-- A whole credential is checked and stored (R410). -/
theorem applyDomain_credential {b : Bytes} (granted : s.commandCheck r 0x2701 sub b = none) (whole : b.length = 68)
    (roles : byteAt b 65 ≤ 15) (reserved : field b 66 2 = 0) (fits : s.storeFull [{ index := 0x2701, sub := sub, data := b }] = false) :
    ∃ y, s.applyDomain r 0x2701 sub b = (y, .done []) ∧ y.settings = s.settings.put { index := 0x2701, sub := sub, data := b } ∧
      y.access.transfers = s.access.transfers := by
  have stored : s.applyDomain r 0x2701 sub b = (((s.put { index := 0x2701, sub := sub, data := b }).mirror 0
      (.settings [{ index := 0x2701, sub := sub, data := b }])).journal [{ index := 0x2701, sub := sub, data := b }], .done []) := by
    unfold State.applyDomain
    rw [granted]
    refine (if_neg (by decide)).trans ((if_neg (fun h => absurd h.1 (by decide))).trans ((if_neg (by decide)).trans ((if_pos rfl).trans ?_)))
    exact (if_neg (by omega)).trans ((if_neg (by omega)).trans (if_neg (Bool.eq_false_iff.mp fits)))
  refine ⟨_, stored, ?_, ?_⟩
  · rw [State.journal_within .settings rfl, State.mirror_within .settings rfl, State.put]
    rw [State.settingEffect_within .settings rfl]
  · rw [journal_transfers, State.mirror_within .access rfl]
    rfl

/-! ### Uploads -/

theorem openUpload_opens {e : Entry} (known : lookup i sub = .entry e) (domain : e.ty.isDomain = true) (reads : e.acc ≠ .wo) (low : i < 0x5000)
    (permits : permitted (s.roles r.origin) 0x1F = true) (free : s.transferRefused r i sub = none) :
    s.openUpload r i sub = (s, .ok (s.domainBytes i sub, none)) := by
  unfold State.openUpload
  rw [known]
  dsimp only
  rw [if_neg reads, if_neg (by rw [show permitted (s.roles r.origin) (roleO + roleP + roleL + roleW + roleS) = true from permits]; exact Bool.false_ne_true),
    if_neg (by simp [domain]), free]
  exact if_neg (Nat.not_le.mpr low)

theorem openUpload_barred {e : Entry} (known : lookup i sub = .entry e) (reads : e.acc ≠ .wo)
    (barred : permitted (s.roles r.origin) 0x1F = false) : s.openUpload r i sub = (s, .error (.refused 0x0F000001 0)) := by
  unfold State.openUpload
  rw [known]
  dsimp only
  rw [if_neg reads]
  exact if_pos (by rw [show permitted (s.roles r.origin) (roleO + roleP + roleL + roleW + roleS) = false from barred]; rfl)

/-- A segment of an upload that is no stream's: 1,024 bytes, and the rest kept until none is left (R391). -/
theorem sendSegment_spec (t : Transfer) (low : t.index < 0x5000) : ∃ y, s.sendSegment t = (y, .done (t.data.take 1024)) ∧
    (t.data.length ≤ 1024 → t.upTo = none → y.transfer t.index t.sub = none) ∧
    (1024 < t.data.length → y.transfer t.index t.sub = some { t with data := t.data.drop 1024, idle := 0 }) := by
  have sends : s.sendSegment t = if (t.data.drop 1024).isEmpty then ((s.endTransfer t.index t.sub).takeUploaded t.index t.upTo, .done (t.data.take 1024))
      else (s.holdTransfer { t with data := t.data.drop 1024, idle := 0 }, .done (t.data.take 1024)) := by
    unfold State.sendSegment
    rw [if_neg (Nat.not_le.mpr low)]
  by_cases short : t.data.length ≤ 1024
  · have empty : (t.data.drop 1024).isEmpty = true := by simpa using short
    rw [sends, if_pos empty]
    refine ⟨_, rfl, fun _ none => ?_, fun long => absurd short (Nat.not_le.mpr long)⟩
    rw [none]
    exact transfer_endTransfer
  · have rest : ¬(t.data.drop 1024).isEmpty = true := by simpa using short
    rw [sends, if_neg rest]
    exact ⟨_, rfl, fun h => absurd h short, fun _ => transfer_holdTransfer _⟩

theorem uploadSegment_next {x : Transfer} (found : s.transfer i sub = some x) (own : x.origin = r.origin) (up : x.upload = true) :
    State.uploadSegment r i sub false s = s.sendSegment x := by
  unfold State.uploadSegment
  rw [if_neg Bool.false_ne_true, found]
  exact if_neg (by simp [own, up])

/-! ### Timeout -/

theorem transferTimeout_found {x : Transfer} (found : s.transfer i sub = some x) :
    transferTimeout i sub s = if 50 ≤ x.idle then s.abortTransfer x else s := by
  unfold transferTimeout
  rw [found]

theorem transferTimeout_none (none : s.transfer i sub = none) : transferTimeout i sub s = s := by
  unfold transferTimeout
  rw [none]

end

end Sys2Proof.Machine

namespace Sys2Proof.Proofs

open Sys2Proof Sys2Proof.Machine

/-- Settles O50: download and upload segments by what they join or send, the timeout by the transfer it finds. -/
theorem transfersBySegments : Obligations.TransfersBySegments := by
  intro s running
  refine ⟨fun r i sub total e data known domain granted fits free short within => ?first,
    fun r i sub total offset e data x known domain taken found own down => ?next,
    fun r i sub e known domain reads low taken permits free => ?upload, fun r i sub e known reads taken barred => ?barred,
    fun r i sub x taken found own up low => ?again, fun i sub x found => ?timeout, fun i sub none => ?idle⟩
  case first =>
    refine exec_serve_leaves rfl granted.1 (fun u hu => ?_)
    have opened := downloadOf_first (s := u) fits ((hu.transferRefused i sub).trans free) ((State.commandCheck_arrived hu).trans granted.2)
    refine ⟨_, (downloadSegment_joins known domain opened).trans (joinSegment_joins rfl short (by simpa using within)), ?_⟩
    rw [answer_transfer]
    exact transfer_holdTransfer _
  case next =>
    obtain ⟨rfl, rfl⟩ := transfer_names found
    have joins : ∀ u, Arrived s u r → ∀ last, State.downloadSegment r x.index x.sub false last offset total data u =
        u.joinSegment r x last offset data := fun u hu last =>
      downloadSegment_joins known domain (downloadOf_next ((hu.transfer _ _).trans found) own down)
    refine ⟨fun next short within => ?_, fun last gap => ?_, fun next wrong => ?_, fun index next short whole granted size roles reserved fits => ?_⟩
    · refine exec_serve_leaves rfl taken (fun u hu => ⟨_, (joins u hu false).trans (joinSegment_joins next short within), ?_⟩)
      rw [answer_transfer]
      exact transfer_holdTransfer _
    · refine exec_serve_leaves rfl taken (fun u hu => ⟨_, (joins u hu last).trans (joinSegment_gap gap), ?_⟩)
      rw [answer_transfer]
      exact transfer_endTransfer
    · refine exec_serve_leaves rfl taken (fun u hu => ⟨_, (joins u hu true).trans (joinSegment_wrong next wrong), ?_⟩)
      rw [answer_transfer]
      exact transfer_endTransfer
    · refine exec_serve_leaves rfl taken (fun u hu => ?_)
      have full : (u.endTransfer x.index x.sub).storeFull [{ index := 0x2701, sub := x.sub, data := x.data ++ data }] = false :=
        (hu.storeFull _).trans fits
      have checked : (u.endTransfer x.index x.sub).commandCheck r 0x2701 x.sub (x.data ++ data) = none :=
        (State.commandCheck_congr (State.endTransfer_within.mono rfl) (endTransfer_roles _)).trans
          ((State.commandCheck_arrived hu).trans (index ▸ granted.2))
      obtain ⟨y, stored, settings, transfers⟩ := applyDomain_credential checked (by rw [List.length_append]; omega) roles reserved full
      refine ⟨y, (joins u hu true).trans ((joinSegment_last next short whole).trans (index ▸ stored)), ?_, ?_⟩
      · rw [State.answer_settings, settings, ← hu.settings]
        rfl
      · rw [answer_transfer, transfer_congr transfers]
        exact transfer_endTransfer
  case upload =>
    refine exec_serve_leaves rfl taken (fun u hu => ?_)
    have opened := openUpload_opens (s := u) known domain reads low (by rw [hu.roles]; exact permits) ((hu.transferRefused i sub).trans free)
    rw [hu.domainBytes] at opened
    obtain ⟨y, sends, ends, stays⟩ := sendSegment_spec (s := u)
      { index := i, sub := sub, origin := r.origin, upload := true, total := (s.domainBytes i sub).length, data := s.domainBytes i sub, idle := 0 } low
    refine ⟨y, ?_, ?_⟩
    · unfold State.uploadSegment
      rw [if_pos rfl, opened]
      exact sends
    · rw [answer_transfer]
      exact ⟨fun short => ends short rfl, stays⟩
  case barred =>
    obtain ⟨t, next, told, -⟩ := exec_serve_leaves (c := .domainUploadSegment r i sub true) (P := fun _ => True) rfl taken (fun u hu => by
      refine ⟨u, ?_, trivial⟩
      unfold State.uploadSegment
      rw [if_pos rfl, openUpload_barred known reads (by rw [hu.roles]; exact barred)])
    exact ⟨t, next, told⟩
  case again =>
    obtain ⟨rfl, rfl⟩ := transfer_names found
    refine exec_serve_leaves rfl taken (fun u hu => ?_)
    obtain ⟨y, sends, ends, stays⟩ := sendSegment_spec (s := u) x low
    refine ⟨y, (uploadSegment_next ((hu.transfer _ _).trans found) own up).trans sends, ?_⟩
    rw [answer_transfer]
    exact ⟨ends, stays⟩
  case timeout =>
    obtain ⟨rfl, rfl⟩ := transfer_names found
    have times := transferTimeout_found (s := s.begin) found
    refine ⟨fun old => ⟨_, (running_next _ running).trans (congrArg _ (times.trans (if_pos old))), ?_, ?_⟩,
      fun young => (running_next _ running).trans (congrArg _ (times.trans (if_neg (Nat.not_le.mpr young))))⟩
    · exact transfer_endTransfer (s := s.begin)
    · exact List.mem_append_right _ (List.mem_singleton.mpr rfl)
  case idle =>
    exact (running_next _ running).trans (congrArg _ (transferTimeout_none (s := s.begin) none))

end Sys2Proof.Proofs


/-! PROOF. Requests of the service port, and the transfer of an image in recovery (R383, R498, R502 to R504). -/

namespace Sys2Proof.Machine

section
variable {s : State}

/-! ### Dictionary requests -/

/-- A request of the service port reaches its body while the image runs and the plug is in (R498). -/
theorem serve_service {r : Req} {body : State → State × Answer} (phase : s.power.phase = .running) (plug : s.panel.plug = true)
    (port : r.origin = .service) : s.serve r body = (body (s.stamped r.stamp)).1.answer r (body (s.stamped r.stamp)).2 := by
  have admitted : s.admitted r = .go (s.stamped r.stamp) := by
    unfold State.admitted
    dsimp only
    rw [if_neg (by simp [State.serving, phase]), port]
    exact if_pos plug
  unfold State.serve
  rw [admitted]

/-- The request of a frame: its ID names it, and it stands at the present instant (R383). -/
def State.requestOf (s : State) (id : Nat) : Req := { origin := .service, id := id, stamp := s.clock.offset, sequence := 0, tagOk := true }

theorem exec_dictionaryRequest {f : ServiceHead} {id op flags index sub : Nat} {data : Bytes} (phase : s.power.phase = .running)
    (plug : s.panel.plug = true) (new : s.update.lastSeq ≠ some f.seq) (holds : frameHolds f 0x40 (requestBytes id op flags index sub data)) :
    exec (.dictionaryRequest f id op flags { index := index, sub := sub } data) s = .next
      (((s.asked f.seq (some id)).stamped s.clock.offset).operation (s.requestOf id) op flags index sub data |>.1.answer (s.requestOf id)
        ((s.asked f.seq (some id)).stamped s.clock.offset |>.operation (s.requestOf id) op flags index sub data).2) := by
  have port : s.servicePort = true := by simp [State.servicePort, plug, phase]
  have served : dictionaryRequest f id op flags index sub data s.begin =
      (s.asked f.seq (some id)).serve (s.requestOf id) (State.operation (s.requestOf id) op flags index sub data) := by
    unfold dictionaryRequest
    exact service_new port holds new _
  exact (running_serving _ phase).trans (congrArg _ (served.trans
    (serve_service (s := s.asked f.seq (some id)) (r := s.requestOf id) phase plug rfl)))

/-- The answer to the request that the port holds is kept for its repetition (R499). -/
theorem answer_lastAnswer {r : Req} (a : Answer) (port : r.origin = .service) (named : s.update.lastId = some r.id) :
    (s.answer r a).update.lastAnswer = some a := by
  unfold State.answer
  rw [port]
  dsimp only
  rw [if_pos (show (s.emit _).update.lastId = some r.id from named)]

/-! ### Verification in recovery -/

/-- The image recovered is set running on trial, and the part resets (R504). -/
theorem recovered_spec : s.recovered.power.phase = .inReset ∧ s.recovered.power.cause = 4 ∧ s.recovered.update.trial = 1 ∧
    s.recovered.update.failedBoots = 0 ∧ s.recovered.update.running = 1 - s.update.running :=
  ⟨rfl, rfl, rfl, rfl, congrArg (1 - ·) (setAreas_running _ _ _)⟩

/-- A verification that fails leaves no download (R481). -/
def State.unverified (s : State) : State := { s with update := { s.update.dropSlot with verifying := false, download := 4, bits := 0 } }

theorem verified_intact (phase : s.power.phase = .recovery) (manifest : s.update.manifest.isSome = true) (intact : s.update.target.intact = true) :
    s.verified = { s with update := { s.update with verifying := false, download := 2 } } := by
  obtain ⟨m, some⟩ := Option.isSome_iff_exists.mp manifest
  unfold State.verified
  rw [some]
  exact (if_pos intact).trans (if_pos phase)

theorem verified_broken (phase : s.power.phase = .recovery) (manifest : s.update.manifest.isSome = true) (broken : s.update.target.intact = false) :
    s.verified = s.unverified := by
  obtain ⟨m, some⟩ := Option.isSome_iff_exists.mp manifest
  unfold State.verified
  rw [some]
  exact (if_neg (Bool.eq_false_iff.mp broken)).trans (if_neg (fun h => absurd (phase.symm.trans h) (by decide)))

/-- The end of a verification in recovery: a verified image is set running on trial (R504). -/
def State.concluded (s : State) : State := if s.verified.update.download = 2 then s.verified.recovered else s.verified

theorem concluded_spec (phase : s.power.phase = .recovery) (manifest : s.update.manifest.isSome = true) :
    if s.update.target.intact = true then
      s.concluded.power.phase = .inReset ∧ s.concluded.power.cause = 4 ∧ s.concluded.update.trial = 1 ∧ s.concluded.update.failedBoots = 0 ∧
        s.concluded.update.running = 1 - s.update.running
    else s.concluded.power.phase = .recovery ∧ s.concluded.update.download = 4 ∧ s.concluded.update.bits = 0 := by
  unfold State.concluded
  split
  · next intact =>
    rw [verified_intact phase manifest intact, if_pos rfl]
    exact recovered_spec
  · next broken =>
    rw [verified_broken phase manifest (Bool.eq_false_iff.mpr broken),
      if_neg (show ¬s.unverified.update.download = 2 from fun h : (4 : Nat) = 2 => absurd h (by decide))]
    exact ⟨phase, rfl, rfl⟩

/-! ### The recovery transfer -/

theorem tftpWrite_busy {peer : TftpPeer} {file : TftpFile} (phase : s.power.phase = .recovery) (busy : s.update.tftp = true) :
    tftpWrite peer file s = s.tftpSay 5 2 [] := (if_neg (not_not_intro phase)).trans (if_pos busy)

theorem tftpWrite_taken {peer : TftpPeer} {file : TftpFile} (phase : s.power.phase = .recovery) (free : s.update.tftp = false)
    (taken : tftpTaken file = true) : tftpWrite peer file s =
      ({ s with update := { s.update with tftp := true, tftpPeer := peer, block := 1, tftpPart := [] } } : State).tftpSay 4 0 [] :=
  (if_neg (not_not_intro phase)).trans ((if_neg (Bool.eq_false_iff.mp free)).trans (if_neg (by simp [taken])))

theorem tftpWrite_other {peer : TftpPeer} {file : TftpFile} (phase : s.power.phase = .recovery) (free : s.update.tftp = false)
    (other : tftpTaken file = false) : tftpWrite peer file s = s.tftpSay 5 0 [] :=
  (if_neg (not_not_intro phase)).trans ((if_neg (Bool.eq_false_iff.mp free)).trans (if_pos (by simp [other])))

/-- The state in which the records of a block are taken, its transfer told that they are (R502). -/
def State.blockTaken (s : State) (rest : Bytes) (number size : Nat) : State :=
  ({ s with update := { s.update with block := s.update.block + 1, tftp := decide (512 ≤ size), tftpPart := rest } } : State).tftpSay 4
    (number % 65536) []

theorem blockTaken_spec (rest : Bytes) (n size : Nat) : (s.blockTaken rest n size).update.tftp = decide (512 ≤ size) ∧
    (s.blockTaken rest n size).update.tftpPart = rest ∧ (s.blockTaken rest n size).update.block = s.update.block + 1 ∧
    Output.tftp s.romAddress 4 (n % 65536) [] ∈ (s.blockTaken rest n size).out :=
  ⟨rfl, rfl, rfl, List.mem_append_right _ (List.mem_singleton.mpr rfl)⟩

theorem blockTaken_concluded (rest : Bytes) (n size : Nat) (phase : s.power.phase = .recovery) (manifest : s.update.manifest.isSome = true) :
    if s.update.target.intact = true then
      (s.blockTaken rest n size).concluded.power.phase = .inReset ∧ (s.blockTaken rest n size).concluded.power.cause = 4 ∧
        (s.blockTaken rest n size).concluded.update.trial = 1 ∧ (s.blockTaken rest n size).concluded.update.failedBoots = 0 ∧
        (s.blockTaken rest n size).concluded.update.running = 1 - s.update.running
    else (s.blockTaken rest n size).concluded.power.phase = .recovery ∧ (s.blockTaken rest n size).concluded.update.download = 4 ∧
      (s.blockTaken rest n size).concluded.update.bits = 0 := concluded_spec (s := s.blockTaken rest n size) phase manifest

theorem tftpData_expected {peer : TftpPeer} {n : Nat} {data : Bytes} (phase : s.power.phase = .recovery) (under : s.update.tftp = true)
    (own : peer = s.update.tftpPeer) (expected : n % 65536 = s.update.block % 65536) :
    ((∀ c, (s.takeRecords (recordsIn s.update.tftpPart data).1).2 = some c → tftpData peer n data s =
        ({ (s.takeRecords (recordsIn s.update.tftpPart data).1).1 with
          update := { (s.takeRecords (recordsIn s.update.tftpPart data).1).1.update with tftp := false } } : State).tftpSay 5 0 (hexText c)) ∧
      ((s.takeRecords (recordsIn s.update.tftpPart data).1).2 = none → ∀ v, v = (s.takeRecords (recordsIn s.update.tftpPart data).1).1.blockTaken
        (recordsIn s.update.tftpPart data).2 n data.length → tftpData peer n data s =
          if v.update.verifying then v.concluded else v)) := by
  have arrives : ¬(s.power.phase ≠ .recovery ∨ (!s.update.tftp) = true) := by simp [phase, under]
  have fresh : ¬n % 65536 = (s.update.block + 65535) % 65536 := by omega
  unfold tftpData
  rw [if_neg arrives, if_neg (not_not_intro own), if_neg fresh, if_neg (not_not_intro expected)]
  dsimp only
  refine ⟨fun c refused => ?_, fun taken v block => ?_⟩
  · rw [refused]
  · rw [taken, block]
    rfl

end

end Sys2Proof.Machine

namespace Sys2Proof.Proofs

open Sys2Proof Sys2Proof.Machine

/-- Settles O48: a dictionary request by its operation, the recovery transfer by the block it expects. -/
theorem serviceRequestsAndRecoveryTransfer : Obligations.ServiceRequestsAndRecoveryTransfer := by
  refine ⟨fun s f id flags index sub data phase plug new => ⟨fun holds => ?read, fun holds => ?keepalive, fun holds => ?unknown⟩,
    fun s peer file phase => ?write, fun s address port n data phase under => ?data⟩
  case read =>
    exact ⟨_, exec_dictionaryRequest phase plug new holds, answer_says _ (s.requestOf id) _⟩
  case keepalive =>
    refine ⟨_, exec_dictionaryRequest phase plug new holds, ?_, answer_says _ (s.requestOf id) _⟩
    exact answer_lastAnswer (s := (s.asked f.seq (some id)).stamped s.clock.offset) (r := s.requestOf id) _ rfl rfl
  case unknown =>
    exact ⟨_, exec_dictionaryRequest phase plug new holds, answer_says _ (s.requestOf id) _⟩
  case write =>
    have serves : exec (.tftpWriteRequest peer file) s = .next (tftpWrite peer file s.begin) := congrArg Host.Outcome.next (if_pos (.inr phase))
    refine ⟨_, serves, fun busy => ?_, fun free taken => ?_, fun free other => ?_⟩
    · rw [tftpWrite_busy (s := s.begin) phase busy]
      exact ⟨rfl, rfl⟩
    · rw [tftpWrite_taken (s := s.begin) phase free taken]
      exact ⟨rfl, rfl⟩
    · rw [tftpWrite_other (s := s.begin) phase free other]
      exact ⟨rfl, rfl⟩
  case data =>
    have serves : exec (.tftpDataBlock address port n data) s = .next (tftpData { address := address, port := port } n data s.begin) :=
      congrArg Host.Outcome.next (if_pos (.inr phase))
    have arrives : ¬(s.begin.power.phase ≠ .recovery ∨ (!s.begin.update.tftp) = true) := by simp [phase, under]
    refine ⟨_, serves, fun foreign => (if_neg arrives).trans (if_pos foreign), fun own => ⟨fun again => ?_, fun fresh other => ?_, fun expected => ?_⟩⟩
    · exact (if_neg arrives).trans ((if_neg (not_not_intro own)).trans (if_pos again))
    · exact (if_neg arrives).trans ((if_neg (not_not_intro own)).trans ((if_neg fresh).trans (if_pos other)))
    · obtain ⟨refuses, takes⟩ := tftpData_expected (s := s.begin) (data := data) phase under own expected
      refine ⟨fun c refused => ?_, fun taken plain => ?_, fun taken verifying manifest still => ?_⟩
      · rw [refuses c refused]
        exact ⟨rfl, List.mem_append_right _ (List.mem_singleton.mpr rfl)⟩
      · rw [(takes taken _ rfl).trans (if_neg (Bool.eq_false_iff.mp plain))]
        exact blockTaken_spec ..
      · rw [(takes taken _ rfl).trans (if_pos verifying)]
        exact blockTaken_concluded _ n data.length still manifest

end Sys2Proof.Proofs


/-! PROOF. PTP ports, PPS edges and the return to TB1 (R347, R349 to R351, R360 to R363). -/

namespace Sys2Proof.Machine

section
variable {s : State}

/-! ### PPS -/

/-- A write that its store takes is stored and confirmed (R372). -/
theorem writeItems_stores {x : WriteItem} (fits : s.storeFull [x] = false) :
    ∃ y, s.writeItems [x] = (y, .done []) ∧ y.settings = s.settings.put x := by
  refine ⟨_, if_neg (Bool.eq_false_iff.mp fits), ?_⟩
  rw [State.journal_within .settings rfl, State.mirror_within .settings rfl]
  exact State.settingEffect_within .settings rfl

theorem orderTb1_orders : State.orderTb1 1 s = ({ s with time := { s.time with goTb1 := s.time.discipline = 2 } }, .done []) :=
  if_neg (not_not_intro rfl)

/-- A choice by what bars is the choice by what allows, its branches exchanged. -/
theorem ite_cond_swap {α : Type} {p q : Prop} [Decidable p] [Decidable q] {x y : α} (h : p ↔ ¬q) : (if p then x else y) = if q then y else x := by
  by_cases hq : q
  · rw [if_pos hq, if_neg (fun hp => h.mp hp hq)]
  · rw [if_neg hq, if_pos (h.mpr hq)]

/-- A PPS edge goes out at a whole second of the chosen base, ready and 500 ms or more after the last (R360, R361). -/
theorem ppsOutEdge_eq (instant : Int) : ppsOutEdge instant s =
    if s.cfgOn 0x2105 1 = true ∧
      (s.cfgNat 0x2105 2 = 3 ∨ (s.cfgNat 0x2105 2 = 255 ∧ s.clock.provisional = false) ∨ (s.cfgNat 0x2105 2 < 3 ∧ (s.base (s.cfgNat 0x2105 2)).ever = true)) ∧
      (∀ x, s.time.ppsLast = some x → 500000000 ≤ instant - x) ∧ s.secondPart (s.cfgNat 0x2105 2) (instant + s.cfg 0x2105 4) = 0 then
      ({ s with time := { s.time with ppsLast := some instant } } : State).emit (.pulse .ppsOut (s.cfgNat 0x2105 3 * 1000000))
    else s := by
  unfold ppsOutEdge
  cases s.time.ppsLast with
  | none =>
    refine ite_cond_swap ?_
    simp only [Bool.not_eq_true']
    grind
  | some x =>
    refine ite_cond_swap ?_
    simp only [Bool.not_eq_true']
    grind

theorem ppsInEdge_eq {second offset : Int} (on : s.cfgOn 0x2105 5 = true) (low : -500000000 ≤ offset) (high : offset < 500000000) :
    (ppsInEdge (second * 1000000000 + offset) s).time = (if 1000000 < offset.natAbs then
      { s.time with ppsRejected := s.time.ppsRejected + 1, ppsIn := false } else { s.time with ppsOffset := offset, ppsIn := true }) := by
  have nearest : (if (second * 1000000000 + offset) % 1000000000 < 500000000 then (second * 1000000000 + offset) % 1000000000
      else (second * 1000000000 + offset) % 1000000000 - 1000000000) = offset := by
    split <;> omega
  unfold ppsInEdge
  dsimp only
  rw [nearest, if_neg (by simp [on])]
  split
  · rfl
  · rfl

theorem enablePps_shared (taken : s.cfgAccepted 0x2A00 4 = 1) :
    State.enablePps 1 s = (s.inUse "33-30" "trigger output", .refused 0x0F000002 0) := if_pos ⟨rfl, taken⟩

theorem enablePps_free {v : Int} (free : v = 0 ∨ s.cfgAccepted 0x2A00 4 ≠ 1) : State.enablePps v s = s.writeItems [numberItem (key 0x2105 1) v] :=
  if_neg (by rintro ⟨rfl, taken⟩; exact free.elim (by decide) (absurd taken))

/-! ### Ports -/

theorem ptpPort_onPtp (k : Nat) (f : PtpPort → PtpPort) : (s.onPtp k f).ptpPort k = f (s.ptpPort k) := tget_tmod_same _ _ _ _

/-- A complete Sync gives the port its offset, and its base the same from the other side (R351). -/
theorem syncDone_spec (k : Nat) (t1 t2 : Int) :
    (s.syncDone k t1 t2).ptpPort k = { s.ptpPort k with
        t1 := t1, t2 := t2, sync := none, syncAge := 0, state := 9, offset := t2 - t1 - (s.ptpPort k).delay - s.cfg (ptpIndex k) 0x0B } ∧
      ((s.syncDone k t1 t2).base (s.ptpRole k)).offset =
        s.converted (s.ptpRole k) (-(t2 - t1 - (s.ptpPort k).delay - s.cfg (ptpIndex k) 0x0B)) := by
  have port : (s.syncDone k t1 t2).ptpPort k = (s.onPtp k (fun x => { x with
      t1 := t1, t2 := t2, sync := none, syncAge := 0, state := 9
      offset := t2 - t1 - (s.ptpPort k).delay - s.cfg (ptpIndex k) 0x0B })).ptpPort k := rfl
  refine ⟨port.trans (ptpPort_onPtp ..), ?_⟩
  unfold State.syncDone State.measure State.onBase State.base
  dsimp only
  rw [show (State.onPtp k _ s).ptpRole k = s.ptpRole k from rfl, tget_tmod_same]
  rfl

variable {k : Nat} {m : PtpMsg}

theorem client_follows (client : s.ptpRole k = 1 ∨ s.ptpRole k = 2) : decide (s.ptpRole k ≠ 3) = true := decide_eq_true (by omega)

/-- A port takes nothing while it is off, nor of another domain or transport (R349). -/
theorem ptpReceive_ignored (other : s.ptpRole k = 0 ∨ m.domain ≠ s.cfgNat (0x2103 + k) 2 ∨ m.transport ≠ s.cfgNat (0x2103 + k) 3) :
    ptpReceive k m s = s := if_pos (.inr other)

section
variable (port : k < 2) (domain : m.domain = s.cfgNat (0x2103 + k) 2) (transport : m.transport = s.cfgNat (0x2103 + k) 3)
include port domain transport

theorem ptp_taken (on : s.ptpRole k ≠ 0) :
    ¬(2 ≤ k ∨ s.ptpRole k = 0 ∨ m.domain ≠ s.cfgNat (ptpIndex k) 2 ∨ m.transport ≠ s.cfgNat (ptpIndex k) 3) := by
  rintro (h | h | h | h)
  exacts [Nat.not_le.mpr port h, on h, h domain, h transport]

section
variable (client : s.ptpRole k = 1 ∨ s.ptpRole k = 2)
include client

theorem ptpReceive_firstMaster (announce : m.kind = 4) (alone : (s.ptpPort k).master = none) :
    ((ptpReceive k m s).ptpPort k).master = some (m.source, m.priority1, m.clockClass, m.accuracy, m.priority2, m.steps) ∧
      ((ptpReceive k m s).ptpPort k).state = 8 ∧ ((ptpReceive k m s).ptpPort k).announceAge = 0 := by
  have followed : ptpReceive k m s = s.onPtp k (fun y => { y with
      master := some (m.source, m.priority1, m.clockClass, m.accuracy, m.priority2, m.steps), announceAge := 0, ptpScale := m.ptpScale
      utcValid := m.utcValid, state := if false ∧ y.state = 9 then 9 else 8, sync := if false then y.sync else none }) := by
    unfold ptpReceive
    dsimp only
    rw [if_neg (ptp_taken port domain transport (by omega)), announce, alone]
    exact (if_pos (client_follows client)).trans (if_pos rfl)
  rw [followed, ptpPort_onPtp]
  exact ⟨rfl, by simp, rfl⟩

/-- A Sync of the master followed: kept for its Follow_Up, or complete (R349). -/
theorem ptpReceive_sync (sync : m.kind = 0) (own : (s.ptpPort k).master.map (fun x => x.1) = some m.source) : ptpReceive k m s =
    if m.twoStep then s.onPtp k (fun y => { y with sync := some (m.source, m.sequence, m.stamp - s.cfg (ptpIndex k) 9) })
    else s.syncDone k m.origin (m.stamp - s.cfg (ptpIndex k) 9) := by
  obtain ⟨x, followed, same⟩ := Option.map_eq_some_iff.mp own
  have passes : ¬((!decide (s.ptpRole k ≠ 3)) = true ∨ (!decide (x.1 = m.source)) = true) := by
    rw [client_follows client, decide_eq_true same]
    decide
  unfold ptpReceive
  dsimp only
  rw [if_neg (ptp_taken port domain transport (by omega)), sync, followed]
  exact if_neg passes

theorem ptpReceive_followUp {t2 : Int} (followUp : m.kind = 1) (kept : (s.ptpPort k).sync = some (m.source, m.sequence, t2)) :
    ptpReceive k m s = s.syncDone k m.origin t2 := by
  unfold ptpReceive
  dsimp only
  rw [if_neg (ptp_taken port domain transport (by omega)), followUp, kept]
  exact if_pos ⟨client_follows client, rfl, rfl⟩

theorem ptpReceive_delayResp {t3 : Int} (response : m.kind = 3) (own : (s.ptpPort k).master.map (fun x => x.1) = some m.source)
    (asked : (s.ptpPort k).t3 = some (m.sequence, t3)) (requester : m.requester = s.address) : ptpReceive k m s =
      s.onPtp k (fun y => { y with delay := roundDiv ((y.t2 - t3) + (m.origin - y.t1)) 2, t3 := none }) := by
  obtain ⟨x, followed, same⟩ := Option.map_eq_some_iff.mp own
  unfold ptpReceive
  dsimp only
  rw [if_neg (ptp_taken port domain transport (by omega)), response, followed, asked]
  exact if_pos ⟨client_follows client, decide_eq_true same, rfl, requester⟩

end

section
variable (master : s.ptpRole k = 3)
include master

theorem ptpReceive_delayReq (serves : (s.ptpPort k).state = 6) (request : m.kind = 2) : ptpReceive k m s =
    s.emit (.ptp k { s.ptpSent k 3 m.sequence (m.stamp - s.cfg (ptpIndex k) 9 + ptpLead) with requester := m.source }) := by
  unfold ptpReceive
  dsimp only
  rw [if_neg (ptp_taken port domain transport (by omega)), request]
  exact if_pos ⟨by simp [master], serves⟩

theorem ptpReceive_yields (announce : m.kind = 4) (better : betterMaster (m.source, m.priority1, m.clockClass, m.accuracy, m.priority2, m.steps)
    (s.address, s.cfgNat (0x2103 + k) 0x0C, s.grandmaster.1, s.grandmaster.2.1, s.cfgNat (0x2103 + k) 0x0D, 0) = true) :
    ((ptpReceive k m s).ptpPort k).state = 7 := by
  have yields : ptpReceive k m s = s.onPtp k (fun y => { y with
      master := some (m.source, m.priority1, m.clockClass, m.accuracy, m.priority2, m.steps), announceAge := 0, state := 7 }) := by
    unfold ptpReceive
    dsimp only
    rw [if_neg (ptp_taken port domain transport (by omega)), announce]
    exact (if_neg (by simp [master])).trans (if_pos better)
  rw [yields, ptpPort_onPtp]

end

end

/-! ### Messages at intervals -/

/-- A message of a port goes out with the port's sequence number, which rises (R349). -/
def State.ptpSends (s : State) (k kind : Nat) : State :=
  (s.emit (.ptp k (s.ptpSent k kind (s.ptpPort k).sequence (s.ptpEgress k)))).onPtp k
    (fun y => { y with sequence := ((s.ptpPort k).sequence + 1) % 65536 })

theorem ptpSends_port (kind : Nat) :
    (s.ptpSends k kind).ptpPort k = { s.ptpPort k with sequence := ((s.ptpPort k).sequence + 1) % 65536 } := ptpPort_onPtp ..

theorem ptpInterval_announce (port : k < 2) (master : s.ptpRole k = 3) (serves : (s.ptpPort k).state = 6) :
    ptpInterval k 4 s = s.ptpSends k 4 := by
  refine (if_neg ?_).trans ((if_pos ⟨master, serves⟩).trans (if_pos rfl))
  rintro (h | h) <;> omega

theorem ptpInterval_sync (port : k < 2) (master : s.ptpRole k = 3) (serves : (s.ptpPort k).state = 6) :
    ptpInterval k 0 s = if s.cfgNat (ptpIndex k) 4 = 0 then
      (s.ptpSends k 0).emit (.ptp k (s.ptpSent k 1 (s.ptpPort k).sequence (s.ptpEgress k))) else s.ptpSends k 0 := by
  refine (if_neg ?_).trans ((if_pos ⟨master, serves⟩).trans ((if_neg (by decide)).trans (if_pos rfl)))
  rintro (h | h) <;> omega

theorem ptpInterval_request (port : k < 2) (client : s.ptpRole k = 1 ∨ s.ptpRole k = 2) (follows : (s.ptpPort k).state = 9) :
    ptpInterval k 2 s = (s.ptpSends k 2).onPtp k (fun y => { y with t3 := some ((s.ptpPort k).sequence, s.now + s.cfg (ptpIndex k) 0x0A) }) := by
  have other : s.ptpRole k ≠ 3 := by omega
  refine (if_neg ?_).trans ((if_neg (fun h => other h.1)).trans (if_pos ⟨other, follows, rfl⟩))
  rintro (h | h) <;> omega

end

end Sys2Proof.Machine

namespace Sys2Proof.Proofs

open Sys2Proof Sys2Proof.Machine

/-- Settles O34: the order, the edges and the enabling by the lemma of each. -/
theorem ppsAndReturn : Obligations.PpsAndReturn := by
  intro s running
  refine ⟨fun r granted => ?order, fun instant => ⟨fun on ready clear whole => ?edge, fun barred => ?quiet⟩,
    fun second offset on low high => ⟨_, running_next _ running, ppsInEdge_eq (s := s.begin) on low high⟩,
    fun instant off => ?off, fun r v granted => ⟨fun one taken => ?shared, fun free fits => ?free⟩⟩
  case order =>
    refine exec_serveWrite rfl granted (fun u hu => ⟨_, orderTb1_orders, fun z hz => ?_⟩)
    rw [show z.time = _ from hz .time rfl, hu.time]
  case edge =>
    exact ⟨_, (running_next _ running).trans (congrArg _ ((ppsOutEdge_eq (s := s.begin) instant).trans (if_pos ⟨on, ready, clear, whole⟩))), rfl, rfl⟩
  case quiet =>
    refine (running_next _ running).trans (congrArg _ ((ppsOutEdge_eq (s := s.begin) instant).trans (if_neg ?_)))
    rintro ⟨on, ready, clear, whole⟩
    rcases barred with h | h | h | h
    exacts [Bool.false_ne_true (h.symm.trans on), h ready, h clear, h whole]
  case off =>
    exact (running_next _ running).trans (congrArg _ (if_pos (by rw [show s.begin.cfgOn 0x2105 5 = false from off]; rfl)))
  case shared =>
    subst one
    refine exec_serveWrite rfl granted (fun u hu => ⟨_, enablePps_shared (by rw [hu.cfgAccepted]; exact taken), fun z hz => ?_⟩)
    rw [show z.settings = _ from hz .settings rfl, State.inUse, State.raise_settings, hu.settings]
  case free =>
    refine exec_serveWrite rfl granted (fun u hu => ?_)
    obtain ⟨y, writes, stored⟩ := writeItems_stores (s := u) (by rw [hu.storeFull]; exact fits)
    refine ⟨y, (enablePps_free (by rw [hu.cfgAccepted]; exact free.imp_left (by omega))).trans writes, fun z hz => ?_⟩
    rw [show z.settings = _ from hz .settings rfl, stored, hu.settings]

/-- Settles O33: each message by the lemma of its kind and the port's role. -/
theorem ptpPortsServe : Obligations.PtpPortsServe := by
  intro s k running port
  refine ⟨fun m other => ?ignored, fun m domain transport client => ?client, fun m domain transport master serves => ?master,
    fun master serves => ?interval, fun client follows => ?request, fun on => ⟨fun old => ?old, fun young => ?young⟩⟩
  case ignored =>
    exact (running_next _ running).trans (congrArg _ (ptpReceive_ignored (s := s.begin) other))
  case client =>
    refine ⟨fun announce alone => ?_, fun known two => ?_, fun known one => ?_, fun t2 followUp kept => ?_, fun t3 response own asked requester => ?_⟩
    · exact ⟨_, running_next _ running, ptpReceive_firstMaster (s := s.begin) port domain transport client announce alone⟩
    · refine ⟨_, (running_next _ running).trans (congrArg _ ((ptpReceive_sync (s := s.begin) port domain transport client known.1 known.2).trans
        (if_pos two))), ptpPort_onPtp ..⟩
    · refine ⟨_, (running_next _ running).trans (congrArg _ ((ptpReceive_sync (s := s.begin) port domain transport client known.1 known.2).trans
        (if_neg (Bool.eq_false_iff.mp one)))), syncDone_spec (s := s.begin) ..⟩
    · obtain ⟨record, -⟩ := syncDone_spec (s := s.begin) k m.origin t2
      refine ⟨_, (running_next _ running).trans (congrArg _ (ptpReceive_followUp (s := s.begin) port domain transport client followUp kept)), ?_⟩
      rw [record]
      exact ⟨rfl, rfl, rfl⟩
    · exact ⟨_, (running_next _ running).trans (congrArg _ (ptpReceive_delayResp (s := s.begin) port domain transport client response own asked
        requester)), ptpPort_onPtp ..⟩
  case master =>
    exact ⟨fun request => ⟨_, (running_next _ running).trans (congrArg _ (ptpReceive_delayReq (s := s.begin) port domain transport master serves
        request)), rfl⟩,
      fun announce better => ⟨_, running_next _ running, ptpReceive_yields (s := s.begin) port domain transport master announce better⟩⟩
  case interval =>
    refine ⟨⟨_, (running_next _ running).trans (congrArg _ (ptpInterval_announce (s := s.begin) port master serves)), ?_, rfl⟩,
      ⟨_, (running_next _ running).trans (congrArg _ (ptpInterval_sync (s := s.begin) port master serves)), ?_⟩⟩
    · rw [ptpSends_port]
      rfl
    · split
      · exact ⟨congrArg PtpPort.sequence (ptpSends_port (s := s.begin) 0), List.mem_cons_self, fun _ => List.mem_cons_of_mem _ List.mem_cons_self⟩
      · next one => exact ⟨congrArg PtpPort.sequence (ptpSends_port (s := s.begin) 0), List.mem_cons_self, fun two => absurd two one⟩
  case request =>
    refine ⟨_, (running_next _ running).trans (congrArg _ (ptpInterval_request (s := s.begin) port client follows)), ?_, List.mem_cons_self⟩
    rw [ptpPort_onPtp, ptpSends_port]
    rfl
  case old =>
    refine ⟨_, (running_next _ running).trans (congrArg _ (if_neg ?_)), ptpPort_onPtp ..⟩
    rintro (h | h | h)
    exacts [Nat.not_le.mpr port h, on h, Nat.not_lt.mpr old h]
  case young =>
    exact (running_next _ running).trans (congrArg _ (if_pos (.inr (.inr young))))

end Sys2Proof.Proofs


/-! PROOF. What a pair hears of its partner (R348, R419 to R425, R429). -/

namespace Sys2Proof.Machine

section
variable {s : State}

/-! ### The link -/

/-- A link opened anew (R420). -/
theorem linkStart_spec (paired : s.paired = true) (sounds : s.halt.silent = false) :
    (linkStart s).pair = { s.pair with linkUp := false, startSent := true, ownNonce := le 16 (Config.free s.free), partnerStarted := false,
                                       sendSeq := 0, receiveSeq := 0, exchange := none } ∧
      (linkStart s).out = s.out ++ [.link 0 (.start (le 16 (Config.free s.free)) s.chain.address Config.serial Config.mirrorLow Config.mirrorHigh)] := by
  have passes : ¬((!s.paired) = true ∨ s.halt.silent = true) := by simp [paired, sounds]
  unfold linkStart
  rw [if_neg passes]
  exact ⟨rfl, rfl⟩

/-- A START of the partner: its record, before the versions are compared (R420, R421). -/
def State.linked (s : State) (nonce : Bytes) (address : Nat) (serial : U64) (version : Option Nat) : State :=
  { s with
    pair := { s.pair with
      linkUp := true, partnerStarted := true, partnerNonce := nonce, partner := address, partnerSerial := serial, version := version
      sendSeq := 0, receiveSeq := 0 }
    keys := { s.keys with pairPort := true } }

theorem startReceive_links {nonce : Bytes} {serial : U64} {low high : Nat} (paired : s.paired = true) (sounds : s.halt.silent = false)
    (new : ¬(s.pair.linkUp = true ∧ nonce = s.pair.partnerNonce)) : ∃ x : State, x.pair.startSent = true ∧
      startReceive nonce s.partnerAddress serial low high s = if (sharedVersion low high).isNone then
        (x.linked nonce s.partnerAddress serial (sharedVersion low high)).raise 0x1405 1 4 0xFF 0
          (le 2 Config.mirrorLow ++ le 2 Config.mirrorHigh ++ le 2 low ++ le 2 high)
      else x.linked nonce s.partnerAddress serial (sharedVersion low high) := by
  refine ⟨if s.pair.startSent = true ∧ (!s.pair.linkUp) = true then s else linkStart s, ?_, if_neg ?_⟩
  · split
    · next sent => exact sent.1
    · rw [(linkStart_spec paired sounds).1]
  · rintro (h | h | h | h)
    exacts [absurd h (by simp [paired]), Bool.false_ne_true (sounds.symm.trans h), h rfl, new h]

/-! ### HEARTBEAT -/

/-- What a frame that is heard changes before its meaning (R421). -/
def State.heard (s : State) (h : LinkHead) : State :=
  { s.stamped h.stamp with pair := { s.pair with
    receiveSeq := h.seq + 1, partnerEpoch := if epochAbove h.epoch s.pair.partnerEpoch then h.epoch else s.pair.partnerEpoch } }

/-- A standby that takes its active's number changes of its pair record the last exchange alone (R348). -/
theorem followNumber_pair (tick : U32) : ∃ e, (s.followNumber tick).pair = { s.pair with exchange := e } ∧ (tick = s.clock.tick → s.followNumber tick = s) := by
  unfold State.followNumber
  dsimp only
  split
  · exact ⟨_, rfl, fun _ => rfl⟩
  · next moves => exact ⟨_, rfl, fun same => absurd (.inr (by simp [same])) moves⟩

theorem followNumber_firmware (tick : U32) : (s.followNumber tick).firmware = s.firmware := by
  rw [Units.firmware, Units.image, State.followNumber_within .update rfl]
  rfl

/-- The pair record after a HEARTBEAT, before it is answered (R423, R429). -/
def State.beaten (s : State) (role : Nat) (firmware : U32) (version : Nat) (active resync : Bool) : State :=
  { s with pair := { s.pair with
      partnerRole := role, partnerFirmware := firmware, linkHeard := s.pair.linkHeard || active, partnerVersion := version
      received := s.now, resyncAsked := if active then s.pair.resyncAsked else resync } }

/-- The standby's answer to a HEARTBEAT of its active (R423). -/
def State.answered (s : State) (sent echo : Int) : State := ({ s with pair := s.pair.aligned sent s.now echo } : State).sendHeartbeat

theorem heartbeat_ofStandby {h : LinkHead} {role version : Nat} {firmware : U32} {sent echo : Int} {resync : Bool} (hears : s.hears h)
    (other : role ≠ 1 ∧ role ≠ 4) :
    heartbeatReceive h role firmware version sent echo resync s = (s.heard h).beaten role firmware version false resync := by
  unfold heartbeatReceive
  rw [linkFrame_hears _ hears]
  have standby : ¬(role = 1 ∨ role = 4) := by tauto
  dsimp only
  rw [if_neg standby, decide_eq_false standby, if_neg standby, if_neg (fun h => standby h.2), if_neg (fun h => standby h.2)]
  rfl

theorem heartbeat_ofActive {h : LinkHead} {role version : Nat} {firmware : U32} {sent echo : Int} {resync : Bool} (hears : s.hears h)
    (active : role = 1 ∨ role = 4) : heartbeatReceive h role firmware version sent echo resync s =
      if s.isStandby then (((s.heard h).followNumber h.tick).beaten role firmware version true resync).answered sent echo
      else ((s.heard h).followNumber h.tick).beaten role firmware version true resync := by
  obtain ⟨e, pair, -⟩ := followNumber_pair (s := s.heard h) h.tick
  unfold heartbeatReceive
  rw [linkFrame_hears _ hears]
  dsimp only
  rw [if_pos active, decide_eq_true active, if_pos active]
  generalize hx : (s.heard h).followNumber h.tick = x at pair
  have same : (x.beaten role firmware version true resync).isStandby = s.isStandby := by
    show (x.pair.role = 2 || x.pair.role = 3 : Bool) = _
    rw [pair]
    rfl
  cases standby : s.isStandby with
  | true =>
    have answers : (x.beaten role firmware version true resync).isStandby = true ∧ (role = 1 ∨ role = 4) := ⟨same.trans standby, active⟩
    subst hx
    refine (congrArg (fun t : State => if t.isStandby = true ∧ (role = 1 ∨ role = 4) then t.sendHeartbeat else t) (if_pos answers)).trans ?_
    exact if_pos answers
  | false =>
    have rests : ¬((x.beaten role firmware version true resync).isStandby = true ∧ (role = 1 ∨ role = 4)) :=
      fun h => Bool.false_ne_true ((same.trans standby).symm.trans h.1)
    subst hx
    refine (congrArg (fun t : State => if t.isStandby = true ∧ (role = 1 ∨ role = 4) then t.sendHeartbeat else t) (if_neg rests)).trans ?_
    exact if_neg rests

theorem answered_spec (up : s.pair.linkUp = true) (sent echo : Int) :
    (s.answered sent echo).pair = { s.pair.aligned sent s.now echo with sendSeq := s.pair.sendSeq + 1 } ∧
      Output.link s.pair.sendSeq (.heartbeat s.pair.role (BitVec.ofInt 32 s.firmware) (s.pair.version.getD 0) s.now s.pair.received (s.pair.role = 3)) ∈
        (s.answered sent echo).out := by
  have sends : s.answered sent echo = _ := if_pos up
  rw [sends]
  exact ⟨rfl, List.mem_append_right _ (List.mem_singleton.mpr rfl)⟩

/-- A HEARTBEAT of an active at a standby: answered with its own stamps, and the boundary set by the exchange before it (R348, R423). -/
theorem heartbeat_answered {h : LinkHead} {role version : Nat} {firmware : U32} {sent echo : Int} {resync : Bool} (hears : s.hears h)
    (active : role = 1 ∨ role = 4) (standby : s.isStandby = true) : ∃ (arrived : Int) (e : Option (Int × Int × Int)),
      (heartbeatReceive h role firmware version sent echo resync s).pair =
        { ({ s.pair with exchange := e } : Pair).aligned sent arrived echo with
          receiveSeq := h.seq + 1, partnerEpoch := if epochAbove h.epoch s.pair.partnerEpoch then h.epoch else s.pair.partnerEpoch
          partnerRole := role, partnerFirmware := firmware, linkHeard := s.pair.linkHeard || true, partnerVersion := version
          received := arrived, sendSeq := s.pair.sendSeq + 1 } ∧
      Output.link s.pair.sendSeq (.heartbeat s.pair.role (BitVec.ofInt 32 s.firmware) (s.pair.version.getD 0) arrived arrived (s.pair.role = 3)) ∈
        (heartbeatReceive h role firmware version sent echo resync s).out ∧
      (h.tick = s.clock.tick → arrived = (s.stamped h.stamp).now ∧ e = s.pair.exchange) := by
  rw [(heartbeat_ofActive hears active).trans (if_pos standby)]
  obtain ⟨e, pair, still⟩ := followNumber_pair (s := s.heard h) h.tick
  have built : ((s.heard h).followNumber h.tick).firmware = s.firmware := followNumber_firmware h.tick
  generalize hx : (s.heard h).followNumber h.tick = x at pair still built
  obtain ⟨record, sends⟩ := answered_spec (s := x.beaten role firmware version true resync)
    (show x.pair.linkUp = true by rw [pair]; exact hears.1) sent echo
  refine ⟨x.now, e, ?_, ?_, fun same => ?_⟩
  · rw [record]
    show { ({ x.pair with
        partnerRole := role, partnerFirmware := firmware, linkHeard := x.pair.linkHeard || true, partnerVersion := version
        received := x.now, resyncAsked := x.pair.resyncAsked } : Pair).aligned sent x.now echo with sendSeq := x.pair.sendSeq + 1 } = _
    rw [pair]
    rfl
  · have head : (x.beaten role firmware version true resync).pair.sendSeq = s.pair.sendSeq ∧
        (x.beaten role firmware version true resync).pair.role = s.pair.role ∧
        (x.beaten role firmware version true resync).pair.version = s.pair.version := by
      show x.pair.sendSeq = _ ∧ x.pair.role = _ ∧ x.pair.version = _
      rw [pair]
      exact ⟨rfl, rfl, rfl⟩
    obtain ⟨seq, own, shared⟩ := head
    rw [seq, own, shared, show (x.beaten role firmware version true resync).firmware = s.firmware from built] at sends
    exact sends
  · have kept := still same
    rw [kept] at pair
    exact ⟨by rw [kept]; rfl, (congrArg Pair.exchange pair).symm⟩

/-! ### Beacons -/

theorem vergeHeard_holds {verge : Option Bytes} (holds : (s.vergeHeard verge).1 = true) : (s.vergeHeard verge).2 = s := by
  unfold State.vergeHeard at holds ⊢
  split
  · rfl
  · next b =>
    dsimp only at holds
    split at holds
    · exact absurd holds Bool.false_ne_true
    · next long =>
      rw [if_neg long]
      split at holds
      · next crc => rw [if_pos crc]
      · exact absurd holds Bool.false_ne_true

/-- A verge frame is judged by its bytes alone (R264). -/
theorem vergeHeard_judged (u : State) (verge : Option Bytes) : (u.vergeHeard verge).1 = (s.vergeHeard verge).1 := by
  unfold State.vergeHeard
  cases verge with
  | none => rfl
  | some b =>
    dsimp only
    split
    · rfl
    · split
      · rfl
      · rfl

theorem vergeHeard_pair (verge : Option Bytes) : (s.vergeHeard verge).2.pair = s.pair := State.vergeHeard_within .pair rfl

theorem setRole_out {o : Output} {role : Nat} (sent : o ∈ s.out) : o ∈ (s.setRole role).out := State.out_ite sent (State.out_trigger sent)

/-- The state in which the loss of the right of way is reported: off the air, nothing waiting for it (R425). -/
def State.offTheAir (s : State) : State :=
  { s.cutVerge.emit .cutOff with air := { s.cutVerge.air with
    vergeWaiting := [], pa := false, txrx := false, vgPa := false, vgTxrx := false } }

/-- An active that hears a higher epoch falls off the air and starts anew (R425). -/
theorem hearEpoch_yields {e : U16} (above : epochAbove e s.pair.epoch = true) (active : s.isActive = true) :
    (s.hearEpoch e).pair.role = 3 ∧ (s.hearEpoch e).pair.epoch = s.pair.epoch ∧ Output.cutOff ∈ (s.hearEpoch e).out ∧
      (s.hearEpoch e).reported 0x1404 1 7 0xFF (le 2 e.toNat) := by
  have yields : s.hearEpoch e = (s.offTheAir.raise 0x1404 1 7 0xFF 0 (le 2 e.toNat)).setRole 3 :=
    (if_neg (by simp [above])).trans (if_pos active)
  have cut : Output.cutOff ∈ s.offTheAir.out := List.mem_append_right _ (List.mem_singleton.mpr rfl)
  have pair : s.offTheAir.pair = s.pair := State.cutVerge_within .pair rfl
  rw [yields, setRole_pair, State.raise_pair, pair]
  refine ⟨rfl, rfl, setRole_out (State.out_raise cut), ?_⟩
  have within := State.setRole_within (role := 3) (s := s.offTheAir.raise 0x1404 1 7 0xFF 0 (le 2 e.toNat))
  exact State.reported_congr (State.raise_reported ..) (congrArg Access.streams (within .access rfl)) (within .clock rfl) (within .chain rfl)

theorem ownPairBeacon_own {stamp : Nat} (sounds : s.halt.silent = false) :
    ownPairBeacon none s.pair.epoch true stamp s = { s.stamped stamp with pair := { s.pair with airHeard := true } } := by
  have passes : ¬((!((s.stamped stamp).vergeHeard none).1) = true ∨ (!true) = true ∨ ((s.stamped stamp).vergeHeard none).2.halt.silent = true) := by
    simp [State.vergeHeard, State.stamped, sounds]
  have heard : ((s.stamped stamp).vergeHeard none).2.hearEpoch s.pair.epoch = s.stamped stamp :=
    hearEpoch_low (s := s.stamped stamp) (epochAbove_self _)
  unfold ownPairBeacon
  dsimp only
  rw [if_neg passes, heard]
  exact if_pos rfl

theorem ownPairBeacon_broken {verge : Option Bytes} {epoch : U16} {stamp : Nat} (broken : (s.vergeHeard verge).1 = false) :
    (ownPairBeacon verge epoch true stamp s).pair = s.pair := by
  have same : ((s.stamped stamp).vergeHeard verge).1 = false := (vergeHeard_judged _ verge).trans broken
  have discarded : ownPairBeacon verge epoch true stamp s = ((s.stamped stamp).vergeHeard verge).2 := if_pos (.inl (by rw [same]; rfl))
  rw [discarded, vergeHeard_pair]
  rfl

theorem ownPairBeacon_higher {verge : Option Bytes} {epoch : U16} {stamp : Nat} (sounds : s.halt.silent = false)
    (holds : (s.vergeHeard verge).1 = true) (above : epochAbove epoch s.pair.epoch = true) (active : s.isActive = true) :
    ownPairBeacon verge epoch true stamp s = (s.stamped stamp).hearEpoch epoch := by
  have same : ((s.stamped stamp).vergeHeard verge).1 = true := (vergeHeard_judged _ verge).trans holds
  have kept := vergeHeard_holds same
  have passes : ¬((!((s.stamped stamp).vergeHeard verge).1) = true ∨ (!true) = true ∨ ((s.stamped stamp).vergeHeard verge).2.halt.silent = true) := by
    rw [kept, same]
    simp [State.stamped, sounds]
  obtain ⟨-, epoch', -⟩ := hearEpoch_yields (s := s.stamped stamp) above active
  unfold ownPairBeacon
  dsimp only
  rw [if_neg passes, kept]
  refine if_neg (fun h => ?_)
  rw [epoch'] at h
  subst h
  exact Bool.false_ne_true ((epochAbove_self _).symm.trans above)

theorem pairPulseEdge_active {width stamp : Nat} {offset : Int} (sounds : s.halt.silent = false) (wide : pulseIs width 50 = true)
    (near : offset.natAbs ≤ 100) : pairPulseEdge width offset stamp s = { s.stamped stamp with
      pair := { s.pair with pulseHeard := true, adjust := if s.isStandby ∧ 0 < s.pair.linkSilent then offset * 1000 else s.pair.adjust } } := by
  have passes : ¬((!((pulseIs width 50 || pulseIs width 150 || pulseIs width 250) && decide (offset.natAbs ≤ 100))) = true ∨
      (s.stamped stamp).halt.silent = true) := by simp [wide, near, State.stamped, sounds]
  exact (if_neg passes).trans (if_pos wide)

end

end Sys2Proof.Machine

namespace Sys2Proof.Proofs

open Sys2Proof Sys2Proof.Machine

/-- Settles O35: each thing heard by the lemma of its kind. -/
theorem pairHearsPartner : Obligations.PairHearsPartner := by
  intro s running sounds
  refine ⟨fun paired => ⟨_, running_next _ running, linkStart_spec (s := s.begin) paired sounds⟩,
    fun nonce serial low high paired new => ?start, fun h role firmware version sent echo resync hears => ?heartbeat,
    fun width offset stamp wide near => (running_next _ running).trans (congrArg _ (pairPulseEdge_active (s := s.begin) sounds wide near)),
    fun stamp => (running_next _ running).trans (congrArg _ (ownPairBeacon_own (s := s.begin) sounds)),
    fun verge stamp broken => ⟨_, running_next _ running, ownPairBeacon_broken (s := s.begin) ((vergeHeard_judged _ verge).trans broken)⟩,
    fun verge epoch stamp holds above active => ?higher⟩
  case start =>
    obtain ⟨x, started, links⟩ := startReceive_links (s := s.begin) (nonce := nonce) (serial := serial) (low := low) (high := high) paired sounds new
    refine ⟨_, (running_next _ running).trans (congrArg _ links), ?_⟩
    split
    · next unshared =>
      rw [State.raise_pair, State.raise_keys]
      exact ⟨rfl, started, rfl, rfl, rfl, rfl, rfl, rfl, rfl, fun _ => State.raise_reported ..⟩
    · next shared =>
      exact ⟨rfl, started, rfl, rfl, rfl, rfl, rfl, rfl, rfl, fun none => absurd (Option.isNone_iff_eq_none.mpr none) shared⟩
  case heartbeat =>
    have hears' : s.begin.hears h := hears
    have next : exec (.heartbeat h role { firmware := firmware, version := version } { sent := sent, echo := echo } resync) s =
        .next (heartbeatReceive h role firmware version sent echo resync s.begin) := running_next _ running
    refine ⟨_, next, ?_⟩
    by_cases active : role = 1 ∨ role = 4
    · cases standby : s.isStandby with
      | true =>
        obtain ⟨arrived, e, record, sends, same⟩ := heartbeat_answered (firmware := firmware) (version := version) (sent := sent) (echo := echo)
          (resync := resync) hears' active standby
        rw [record]
        refine ⟨rfl, rfl, rfl, rfl, fun _ => ⟨Bool.or_true _, fun _ => ⟨arrived, sends, fun tick => ?_⟩⟩,
          fun one four => absurd active (not_or.mpr ⟨one, four⟩)⟩
        obtain ⟨now, exchange⟩ := same tick
        refine ⟨now, rfl, fun u1 u2 u3 last => ?_⟩
        show (match e with | some (u1, u2, t3) => arrived - sent - roundDiv ((u2 - u1) + (echo - t3)) 2 | none => s.pair.adjust) = _
        rw [exchange.trans last]
      | false =>
        rw [(heartbeat_ofActive hears' active).trans (if_neg (Bool.eq_false_iff.mp standby))]
        obtain ⟨e, pair, -⟩ := followNumber_pair (s := s.begin.heard h) h.tick
        refine ⟨rfl, rfl, rfl, congrArg Pair.receiveSeq pair, fun _ => ⟨Bool.or_true _, fun h => absurd h Bool.false_ne_true⟩,
          fun one four => absurd active (not_or.mpr ⟨one, four⟩)⟩
    · have other : role ≠ 1 ∧ role ≠ 4 := not_or.mp active
      rw [heartbeat_ofStandby hears' other]
      exact ⟨rfl, rfl, rfl, rfl, fun h => absurd h active, fun _ _ => ⟨Bool.or_false _, rfl⟩⟩
  case higher =>
    have yields := hearEpoch_yields (s := s.begin.stamped stamp) (e := epoch) above active
    exact ⟨_, (running_next _ running).trans (congrArg _ (ownPairBeacon_higher (s := s.begin) sounds ((vergeHeard_judged _ verge).trans holds) above active)), yields⟩

end Sys2Proof.Proofs


/-! PROOF. The mirror before the air (R35, R169, R211, R218, R426 to R428, R435). -/

namespace Sys2Proof.Machine

section
variable {s : State}

/-- A frame that is heard runs its meaning on the state it found, its sequence taken (R421). -/
theorem linkFrame_heard {h : LinkHead} (body : State → State) (hears : s.hears h) : s.linkFrame h body = body (s.heard h) :=
  linkFrame_hears body hears

theorem sendLink_up {m : LinkMsg} (up : s.pair.linkUp = true) :
    s.sendLink m = { s.emit (.link s.pair.sendSeq m) with pair := { s.pair with sendSeq := s.pair.sendSeq + 1 } } := if_pos up

/-! ### The active -/

/-- What the active keeps of the DELTA it has sent (R427). -/
def State.deltaKept (s : State) (planned : Option U32) : State :=
  { s with
    pair := { s.pair with deltaSent := some s.clock.tick, ackResult := none, plannedFor := planned }
    keys := { s.keys with verifySent := s.keys.verifySent || s.keys.verifyDue.isSome, owed := if s.keys.owed = 1 then 2 else s.keys.owed }
    due := s.due.map (fun d => { d with carried := true })
    checkpoint := { s.checkpoint with sent := s.checkpoint.sent ++ s.checkpoint.marked, marked := [] }
    lanes := tmap (fun _ => {}) (fun (l : Lane) => if l.standstill = 1 then { l with standstill := 2 } else l) s.lanes }

/-- The active sends its state facts, after PLANNED where a handover is asked (R427, R436). -/
theorem mirrorDeltaStart_sends (active : s.isActive = true) (up : s.pair.linkUp = true) (sounds : s.halt.silent = false)
    (version : s.pair.version ≠ none) : ∃ (x : State) (planned : Option U32) (facts : List Fact), mirrorDeltaStart s =
      (x.sendLink (.delta x.clock.tick 0 facts [] false)).deltaKept planned ∧ x.pair.linkUp = true ∧ x.clock.tick = s.clock.tick := by
  have passes : ¬((!s.isActive) = true ∨ (!s.pair.linkUp) = true ∨ s.halt.silent = true ∨ s.pair.version.isNone = true) := by
    simp [active, up, sounds, version]
  refine ⟨_, _, _, if_neg passes, ?_, ?_⟩
  · split
    · rw [sendLink_up (s := s.stamped 16000000) up]
      exact up
    · exact up
  · split
    · rw [sendLink_up (s := s.stamped 16000000) up]
      rfl
    · rfl

theorem sendLink_kept_out {m : LinkMsg} (up : s.pair.linkUp = true) (planned : Option U32) :
    Output.link s.pair.sendSeq m ∈ ((s.sendLink m).deltaKept planned).out := by
  rw [sendLink_up up]
  exact List.mem_append_right _ (List.mem_singleton.mpr rfl)

theorem sendLink_kept_pair {m : LinkMsg} (up : s.pair.linkUp = true) (planned : Option U32) :
    ((s.sendLink m).deltaKept planned).pair.deltaSent = some s.clock.tick ∧ ((s.sendLink m).deltaKept planned).pair.ackResult = none := by
  rw [sendLink_up up]
  exact ⟨rfl, rfl⟩

theorem deltaKept_carried (planned : Option U32) : ∀ d ∈ (s.deltaKept planned).due, d.carried = true := by
  intro d mem
  obtain ⟨e, -, rfl⟩ := List.mem_map.mp mem
  rfl

/-- An acknowledgement counts where it answers the DELTA of this tick in time (R35, R427). -/
theorem pairAck_counts {h : LinkHead} {result : Nat} (hears : s.hears h) (active : s.isActive = true)
    (sent : s.pair.deltaSent = some s.clock.tick) (first : s.pair.ackResult = none) :
    (pairAck h s.clock.tick result s).pair.ackResult = if h.stamp ≤ 20000000 then some result else none := by
  unfold pairAck
  rw [linkFrame_heard _ hears]
  by_cases intime : h.stamp ≤ 20000000
  · rw [if_pos intime, if_pos ⟨active, sent, rfl, intime, by rw [show (s.heard h).pair.ackResult = none from first]; rfl⟩]
  · rw [if_neg intime, if_neg (fun h => intime h.2.2.2.1)]
    exact first

/-! ### The standby -/

/-- The parts of a DELTA gathered so far (R427). -/
def State.gathered (s : State) (part : Nat) (facts : List Fact) (commits : List CommitRecord) (last : Bool) : State :=
  { s with pair := { s.pair with
    parts := part + 1, broken := s.pair.broken || decide (part ≠ s.pair.parts)
    facts := s.pair.facts ++ facts, commits := s.pair.commits ++ commits, complete := s.pair.complete || last } }

theorem deltaReceive_gathers {h : LinkHead} {part : Nat} {facts : List Fact} {commits : List CommitRecord} (hears : s.hears h)
    (standby : s.isStandby = true) : deltaReceive h part facts commits false s = (s.heard h).gathered part facts commits false := by
  unfold deltaReceive
  rw [linkFrame_heard _ hears]
  exact (if_neg (by rw [show (s.heard h).isStandby = true from standby]; decide)).trans (if_pos rfl)

/-- The judgement of a DELTA, kept and, where a plan is at fault, reported (R169). -/
def State.judged (s : State) : State :=
  if s.judgeDelta.1 = 1 ∨ s.judgeDelta.1 = 2 then
    ({ s with pair := { s.pair with answered := some s.judgeDelta.1, gap := false } } : State).raise 0x140A 1 4 0xFF 0
      (le 1 s.judgeDelta.1 ++ le 1 0 ++ le 4 s.judgeDelta.2.toNat)
  else { s with pair := { s.pair with answered := some s.judgeDelta.1, gap := false } }

theorem judged_pair : s.judged.pair = { s.pair with answered := some s.judgeDelta.1, gap := false } := by
  unfold State.judged
  split
  · exact State.raise_pair
  · rfl

/-- The last part of a DELTA is answered with its judgement (R169, R427). -/
theorem deltaReceive_answers {h : LinkHead} {part : Nat} {facts : List Fact} {commits : List CommitRecord} (hears : s.hears h)
    (standby : s.isStandby = true) : deltaReceive h part facts commits true s = ((s.heard h).gathered part facts commits true).judged.sendLink
      (.ack h.tick ((s.heard h).gathered part facts commits true).judgeDelta.1
        ((s.heard h).gathered part facts commits true).judged.pair.commits.length) := by
  unfold deltaReceive
  rw [linkFrame_heard _ hears]
  exact (if_neg (by rw [show (s.heard h).isStandby = true from standby]; decide)).trans (if_neg (by decide))

/-- What a standby keeps of a whole DELTA, and its one answer (R169, R427). -/
theorem deltaReceive_spec {h : LinkHead} {part : Nat} {facts : List Fact} {commits : List CommitRecord} (hears : s.hears h)
    (standby : s.isStandby = true) : (deltaReceive h part facts commits true s).pair.facts = s.pair.facts ++ facts ∧
      (deltaReceive h part facts commits true s).pair.commits = s.pair.commits ++ commits ∧
      (deltaReceive h part facts commits true s).pair.complete = true ∧
      (deltaReceive h part facts commits true s).pair.answered = some ((s.heard h).gathered part facts commits true).judgeDelta.1 ∧
      Output.link s.pair.sendSeq (.ack h.tick ((s.heard h).gathered part facts commits true).judgeDelta.1 (s.pair.commits ++ commits).length) ∈
        (deltaReceive h part facts commits true s).out := by
  have up : s.pair.linkUp = true := hears.1
  have pair := judged_pair (s := (s.heard h).gathered part facts commits true)
  have answers := deltaReceive_answers (part := part) (facts := facts) (commits := commits) hears standby
  generalize ((s.heard h).gathered part facts commits true).judgeDelta = j at pair answers ⊢
  generalize ((s.heard h).gathered part facts commits true).judged = z at pair answers
  rw [answers, sendLink_up (by rw [pair]; exact up)]
  refine ⟨?_, ?_, ?_, ?_, List.mem_append_right _ (List.mem_singleton.mpr ?_)⟩
  · exact congrArg Pair.facts pair
  · exact congrArg Pair.commits pair
  · exact (congrArg Pair.complete pair).trans (Bool.or_true _)
  · exact congrArg Pair.answered pair
  · rw [pair]
    rfl

theorem judgeDelta_gap (gap : s.pair.gap = true) : s.judgeDelta.1 = 3 := congrArg Prod.fst (if_pos gap)

theorem judgeDelta_complement (whole : s.pair.gap = false) (bad : ∃ c ∈ s.pair.commits, c.compOk = false) : s.judgeDelta.1 = 2 := by
  obtain ⟨c, mem, fails⟩ := bad
  unfold State.judgeDelta
  rw [if_neg (Bool.eq_false_iff.mp whole)]
  cases found : s.pair.commits.find? (fun c => !c.compOk) with
  | none => exact absurd (List.find?_eq_none.mp found c mem) (by simp [fails])
  | some x => rfl

theorem judgeDelta_empty (whole : s.pair.gap = false) (empty : s.pair.commits = []) : s.judgeDelta.1 = if s.pair.broken then 4 else 0 := by
  unfold State.judgeDelta
  rw [if_neg (Bool.eq_false_iff.mp whole), empty]
  show (if s.pair.broken = true then (4, (0 : U32)) else (0, 0)).1 = _
  split
  · rfl
  · rfl

/-- A mirrored hold enters the ledger under the plan ID of the active (R426). -/
theorem inputReceive_hold {h : LinkHead} {stamp lane : Nat} {plan : U32} (hears : s.hears h) (standby : s.isStandby = true)
    (room : s.queuedPlans.length < 256) : (inputReceive h stamp (.command lane 1 plan) s).ledger.nextPlan = plan + 1 ∧
      ∃ p, (inputReceive h stamp (.command lane 1 plan) s).ledger.plans.getLast? = some p ∧ p.id = plan ∧ p.lane = lane ∧ p.what = .hold false := by
  unfold inputReceive
  rw [linkFrame_heard _ hears]
  dsimp only
  rw [if_neg (by rw [show (s.heard h).isStandby = true from standby]; decide)]
  unfold State.asStamped
  dsimp only
  rw [if_pos rfl]
  obtain ⟨plans, next, -⟩ := State.acceptPlan_spec (s := { s.heard h with
      clock := { (s.heard h).clock with offset := if h.tick = (s.heard h).clock.tick then stamp else 0 }
      ledger := { (s.heard h).ledger with nextPlan := plan } }) (lane := lane) (what := .hold false) (req := none) rfl room
  rw [plans, next]
  exact ⟨rfl, _, List.getLast?_append_cons .., rfl, rfl, rfl⟩

/-- The halt records of the active that a standby holds from receipt (R218). -/
theorem holdRecords_halt (site cell haltId : U16) (lanes ids : List (Nat × U16)) (decisions : List RemoteDecision) :
    (s.holdRecords site cell lanes haltId ids decisions).halt.site = heldRecord s.halt.site site ∧
      (s.holdRecords site cell lanes haltId ids decisions).halt.cell = heldRecord s.halt.cell cell ∧
      (s.holdRecords site cell lanes haltId ids decisions).halt.haltId = haltId ∧
      (s.holdRecords site cell lanes haltId ids decisions).halt.partnerCell = s.halt.partnerCell ∧
      (s.holdRecords site cell lanes haltId ids decisions).halt.partnerSite = s.halt.partnerSite := by
  have decided : ∀ {β : Type} (g : Halt → β) (_ : ∀ h d b, g { h with decidedAt := d, bursts := b } = g h) (t : State),
      g (decisions.foldl (fun (t : State) d => t.holdDecision site cell lanes d) t).halt = g t.halt := fun g same t =>
    State.foldl_keeps (f := fun (t : State) d => t.holdDecision site cell lanes d) (fun t => g t.halt) (fun _ _ => same _ _ _) _ _
  have own : (lanes.foldl (fun (t : State) l => t.onLane l.1 (fun x => { x with haltRecord := heldRecord x.haltRecord l.2 })) s).halt = s.halt := by
    refine State.foldl_keeps (fun t => t.halt) (fun t l => ?_) _ _
    rfl
  unfold State.holdRecords
  dsimp only
  rw [own]
  exact ⟨decided Halt.site (fun _ _ _ => rfl) _, decided Halt.cell (fun _ _ _ => rfl) _, decided Halt.haltId (fun _ _ _ => rfl) _,
    decided Halt.partnerCell (fun _ _ _ => rfl) _, decided Halt.partnerSite (fun _ _ _ => rfl) _⟩

theorem haltReceive_holds {h : LinkHead} {site cell haltId sources : U16} {lanes ids : List (Nat × U16)} {decisions : List RemoteDecision}
    (hears : s.hears h) (standby : s.isStandby = true) : haltReceive h site cell lanes haltId ids sources decisions s =
      ((s.heard h).hearSources sources).holdRecords site cell lanes haltId ids decisions := by
  unfold haltReceive
  rw [linkFrame_heard _ hears]
  exact if_pos standby

theorem transferReceive_restores {h : LinkHead} {facts : List Fact} {generation : U32} (hears : s.hears h) (starting : s.pair.role = 3) :
    (transferReceive h facts generation true s).pair.restored = true := by
  unfold transferReceive
  rw [linkFrame_heard _ hears]
  dsimp only
  rw [if_neg (show ¬(s.heard h).pair.role ≠ 3 from not_not_intro starting)]
  exact Bool.or_true _

end

end Sys2Proof.Machine

namespace Sys2Proof.Proofs

open Sys2Proof Sys2Proof.Machine

/-- Settles O37: the DELTA and its acknowledgement at the active, and each frame heard at the standby, by the lemma of its kind. -/
theorem mirrorBeforeAir : Obligations.MirrorBeforeAir := by
  intro s running
  refine ⟨fun active up sounds version => ?delta, fun h result checked hears active sent first =>
      ⟨_, running_next _ running, pairAck_counts (s := s.begin) hears active sent first⟩,
    fun h part facts commits last hears standby => ?parts, fun h source stamp lane plan hears standby known room => ?input,
    fun h site cell haltId sources lanes ids decisions hears standby => ?halt,
    fun h facts generation hears starting => ⟨_, running_next _ running, transferReceive_restores (s := s.begin) hears starting⟩⟩
  case delta =>
    obtain ⟨x, planned, facts, sends, linked, tick⟩ := mirrorDeltaStart_sends (s := s.begin) active up sounds version
    obtain ⟨kept, open'⟩ := sendLink_kept_pair (m := .delta x.clock.tick 0 facts [] false) linked planned
    have sent := sendLink_kept_out (m := .delta x.clock.tick 0 facts [] false) linked planned
    rw [tick] at sends kept open' sent
    refine ⟨_, (running_next _ running).trans (congrArg _ sends), kept, open', deltaKept_carried planned, x.pair.sendSeq, facts, sent⟩
  case parts =>
    cases last with
    | false =>
      refine ⟨_, (running_next _ running).trans (congrArg _ (deltaReceive_gathers (s := s.begin) hears standby)), rfl, rfl,
        fun h => absurd h Bool.false_ne_true⟩
    | true =>
      obtain ⟨gathered, held, whole, answered, sent⟩ := deltaReceive_spec (s := s.begin) (part := part) (facts := facts) (commits := commits) hears standby
      exact ⟨_, running_next _ running, gathered, held, fun _ => ⟨whole, _, answered, sent,
        judgeDelta_gap (s := (s.begin.heard h).gathered part facts commits true),
        judgeDelta_complement (s := (s.begin.heard h).gathered part facts commits true),
        judgeDelta_empty (s := (s.begin.heard h).gathered part facts commits true)⟩⟩
  case input =>
    have next : exec (.input h source stamp (.command lane 1 plan)) s = .next (inputReceive h stamp (.command lane 1 plan) s.begin) :=
      (running_next (fun t => if source ≤ 3 then inputReceive h stamp (.command lane 1 plan) t else t) running).trans
        (congrArg Host.Outcome.next (if_pos known))
    obtain ⟨number, p, last, named⟩ := inputReceive_hold (s := s.begin) (stamp := stamp) (lane := lane) (plan := plan) hears standby room
    exact ⟨_, next, number, p, last, named⟩
  case halt =>
    obtain ⟨ownSite, ownCell, id, partnerCell, partnerSite⟩ := holdRecords_halt (s := (s.begin.heard h).hearSources sources) site cell haltId lanes ids decisions
    refine ⟨_, (running_next _ running).trans (congrArg _ (haltReceive_holds (s := s.begin) hears standby)), ownSite, ownCell, id,
      fun source => partnerCell.trans ?_, fun source => partnerSite.trans ?_⟩
    · show (sources.getLsbD 2 || _ || _) = true
      rw [source]
      rfl
    · show (sources.getLsbD 3 || _ || _) = true
      rw [source]
      rfl

end Sys2Proof.Proofs


/-! PROOF. Checkpoint solves and stale verdicts (R121, R124 to R126, R131). -/

namespace Sys2Proof.Machine

section
variable {s : State}

/-! ### Requests -/

theorem ck_onCk (n : Nat) (f : CkLane → CkLane) : (s.onCk n f).ck n = f (s.ck n) := tget_tmod_same _ _ _ _

theorem ck_congr {t : State} (same : t.checkpoint.lanes = s.checkpoint.lanes) (n : Nat) : t.ck n = s.ck n := by
  rw [State.ck, same]
  rfl

/-- A request dropped as late is counted, for the unit and for its lane (R124). -/
theorem solveDropped_spec (q : CkRequest) : (s.solveDropped q).checkpoint.dropped = s.checkpoint.dropped + 1 ∧
    ((s.solveDropped q).ck q.lane).dropped = (s.ck q.lane).dropped + 1 ∧ (s.solveDropped q).checkpoint.running = s.checkpoint.running ∧
    (s.solveDropped q).checkpoint.found = s.checkpoint.found ∧ (s.solveDropped q).checkpoint.completed = s.checkpoint.completed :=
  ⟨rfl, congrArg CkLane.dropped (ck_onCk ..), rfl, rfl, rfl⟩

theorem takeRequest_takes {q : CkRequest} {rest : List CkRequest} (time : 10000000 ≤ s.solveLeft q) :
    takeRequest s (q :: rest) = ({ s with checkpoint := { s.checkpoint with queue := rest } }, some q) := if_neg (Int.not_lt.mpr time)

theorem takeRequest_drops {q : CkRequest} (late : s.solveLeft q < 10000000) : takeRequest s [q] =
    ({ s.solveDropped q with checkpoint := { (s.solveDropped q).checkpoint with queue := [] } }, none) := if_pos late

/-! ### Solves -/

/-- A free DSP takes the oldest request with 10.0 ms left, under the limits in force (R121, R131). -/
theorem solveStart_takes {dsp stamp : Nat} {q : CkRequest} {rest : List CkRequest} (known : dsp < 4)
    (free : tfind s.checkpoint.running dsp = none) (queue : s.checkpoint.queue = q :: rest) (time : 10000000 ≤ (s.stamped stamp).solveLeft q) :
    (solveStart dsp stamp s).checkpoint.queue = rest ∧ tfind (solveStart dsp stamp s).checkpoint.running dsp =
      some { q with startValid := s.reference.positioning, limits := s.solveLimits q.lane } := by
  have passes : ¬(4 ≤ dsp ∨ (tfind (s.stamped stamp).checkpoint.running dsp).isSome = true) := by
    simp [State.stamped, free, known]
  unfold solveStart
  dsimp only
  rw [if_neg passes, show (s.stamped stamp).checkpoint.queue = q :: rest from queue, takeRequest_takes time]
  exact ⟨rfl, tfind_tset _ _ _⟩

theorem solveStart_drops {dsp stamp : Nat} {q : CkRequest} (known : dsp < 4) (free : tfind s.checkpoint.running dsp = none)
    (queue : s.checkpoint.queue = [q]) (late : (s.stamped stamp).solveLeft q < 10000000) : solveStart dsp stamp s =
      { (s.stamped stamp).solveDropped q with checkpoint := { ((s.stamped stamp).solveDropped q).checkpoint with queue := [] } } := by
  have passes : ¬(4 ≤ dsp ∨ (tfind (s.stamped stamp).checkpoint.running dsp).isSome = true) := by
    simp [State.stamped, free, known]
  unfold solveStart
  dsimp only
  rw [if_neg passes, show (s.stamped stamp).checkpoint.queue = [q] from queue, takeRequest_drops late]

/-- A verdict found without valid positioning at the start of its solve is STALE with reason 16 (R121, R126). -/
theorem solved_unpositioned {q : CkRequest} (out : SolveOut) (after16 : Bool) (unpositioned : q.startValid = false) :
    (s.solved q out after16).verdict = 3 ∧ (s.solved q out after16).reason = 16 := by
  unfold State.solved
  dsimp only
  rw [if_pos (.inr (by rw [unpositioned]; rfl))]
  exact ⟨rfl, rfl⟩

/-- Every verdict is one of its request, and is found when the solve ends (R121). -/
theorem solved_names (q : CkRequest) (out : SolveOut) (after16 : Bool) :
    (s.solved q out after16).request = q ∧ (s.solved q out after16).after16 = after16 := by
  unfold State.solved
  dsimp only
  repeat' split
  all_goals exact ⟨rfl, rfl⟩

/-- The state in which a solve has ended and its DSP is free. -/
def State.solveEnded (s : State) (dsp : Nat) : State :=
  { s with checkpoint := { s.checkpoint with running := tdel s.checkpoint.running dsp } }

/-- A verdict found in time waits for its boundary, unless the end of positioning made it void (R126). -/
def State.solveKept (s : State) (q : CkRequest) (v : CkVerdict) : State :=
  { s with checkpoint := { s.checkpoint with
    found := if q.void ∧ v.reason ≠ 16 then s.checkpoint.found else s.checkpoint.found ++ [v], completed := s.checkpoint.completed + 1 } }

theorem solveDone_intime {dsp stamp : Nat} {out : SolveOut} {q : CkRequest} (runs : tfind s.checkpoint.running dsp = some q)
    (intime : 0 ≤ (s.stamped stamp).solveLeft q) : ∃ v : CkVerdict,
      v = ((s.stamped stamp).solveEnded dsp).solved q out (decide (16000000 < (s.stamped stamp).clock.offset)) ∧
      (solveDone dsp out stamp s).checkpoint = { s.checkpoint with
        running := tdel s.checkpoint.running dsp, completed := s.checkpoint.completed + 1
        found := if q.void = true ∧ v.reason ≠ 16 then s.checkpoint.found else s.checkpoint.found ++ [v] } := by
  refine ⟨_, rfl, ?_⟩
  have done : solveDone dsp out stamp s = (((s.stamped stamp).solveEnded dsp).solveKept q
      (((s.stamped stamp).solveEnded dsp).solved q out (decide (16000000 < (s.stamped stamp).clock.offset)))).count 0x800 1 := by
    unfold solveDone
    dsimp only
    rw [show tfind (s.stamped stamp).checkpoint.running dsp = some q from runs]
    exact if_neg (show ¬((s.stamped stamp).solveEnded dsp).solveLeft q < 0 from Int.not_lt.mpr intime)
  rw [done, State.count_within .checkpoint rfl]
  rfl

theorem solveDone_late {dsp stamp : Nat} {out : SolveOut} {q : CkRequest} (runs : tfind s.checkpoint.running dsp = some q)
    (late : (s.stamped stamp).solveLeft q < 0) : solveDone dsp out stamp s = ((s.stamped stamp).solveEnded dsp).solveDropped q := by
  unfold solveDone
  dsimp only
  rw [show tfind (s.stamped stamp).checkpoint.running dsp = some q from runs]
  exact if_pos late

theorem solveLate_drops {dsp : Nat} {q : CkRequest} (runs : tfind s.checkpoint.running dsp = some q) (late : s.solveLeft q < 0) :
    solveLate dsp s = (s.solveEnded dsp).solveDropped q := by
  unfold solveLate
  rw [runs]
  exact if_neg (Int.not_le.mpr late)

/-- What is left of a solve that came too late (R124). -/
theorem solveEnded_dropped (dsp : Nat) (q : CkRequest) : tfind ((s.solveEnded dsp).solveDropped q).checkpoint.running dsp = none ∧
    ((s.solveEnded dsp).solveDropped q).checkpoint.found = s.checkpoint.found ∧
    ((s.solveEnded dsp).solveDropped q).checkpoint.completed = s.checkpoint.completed ∧
    ((s.solveEnded dsp).solveDropped q).checkpoint.dropped = s.checkpoint.dropped + 1 ∧
    (((s.solveEnded dsp).solveDropped q).ck q.lane).dropped = (s.ck q.lane).dropped + 1 := by
  obtain ⟨dropped, lane, running, found, completed⟩ := solveDropped_spec (s := s.solveEnded dsp) q
  exact ⟨(congrArg (tfind · dsp) running).trans (tfind_tdel _ _), found, completed, dropped, lane⟩

/-! ### Stale verdicts -/

/-- A verdict marked stale is noted for the mirror (R136). -/
def State.noteMark (s : State) (n : Nat) : State :=
  if (s.pair.role = 1 ∨ s.pair.role = 4) ∧ n ∉ s.checkpoint.marked then
    { s with checkpoint := { s.checkpoint with marked := s.checkpoint.marked ++ [n] } }
  else s

theorem noteMark_lanes (n : Nat) : (s.noteMark n).checkpoint.lanes = s.checkpoint.lanes ∧ (s.noteMark n).access = s.access ∧
    (s.noteMark n).clock = s.clock ∧ (s.noteMark n).chain = s.chain := by
  unfold State.noteMark
  split
  · exact ⟨rfl, rfl, rfl, rfl⟩
  · exact ⟨rfl, rfl, rfl, rfl⟩

/-- A change of verdict is reported with verdict and reason (R127). -/
theorem verdictChange_reported {n before : Nat} (changed : (s.ck n).verdict ≠ before) :
    (s.verdictChange n before).reported 0x0401 0 0 n (le 1 (s.ck n).verdict ++ le 1 (s.ck n).reason) := by
  unfold State.verdictChange
  dsimp only
  rw [if_neg changed]
  have raised := State.raise_reported 0x0401 0 0 n 0 (le 1 (s.ck n).verdict ++ le 1 (s.ck n).reason) (s.pushTelemetry 2 n (s.verdictItem n))
  split
  · exact State.reported_congr raised (congrArg Access.streams (State.trigger_within .access rfl)) (State.trigger_within .clock rfl)
      (State.trigger_within .chain rfl)
  · exact raised

theorem reportVerdict_quiet {n before : Nat} (plain : (s.ck n).verdict ≠ 1) : s.reportVerdict n before = s.verdictChange n before := if_neg plain

theorem stale_spec (n reason : Nat) : ((s.stale n reason).ck n).verdict = 3 ∧ ((s.stale n reason).ck n).reason = reason ∧
    ((s.stale n reason).ck n).disagree = (s.ck n).disagree ∧
    ((s.ck n).verdict ≠ 3 → (s.stale n reason).reported 0x0401 0 0 n (le 1 3 ++ le 1 reason)) := by
  have record : (s.onCk n (fun c => { c with verdict := 3, reason := reason })).ck n = { s.ck n with verdict := 3, reason := reason } := ck_onCk ..
  have marks : s.stale n reason = ((s.onCk n (fun c => { c with verdict := 3, reason := reason })).reportVerdict n (s.ck n).verdict).noteMark n := rfl
  generalize s.onCk n (fun c => { c with verdict := 3, reason := reason }) = x at record marks
  rw [reportVerdict_quiet (by rw [record]; exact show (3 : Nat) ≠ 1 by decide)] at marks
  obtain ⟨lanes, access, clock, chain⟩ := noteMark_lanes (s := x.verdictChange n (s.ck n).verdict) n
  have same : (s.stale n reason).ck n = x.ck n := by
    rw [marks]
    exact ck_congr (lanes.trans (congrArg Checkpoint.lanes (State.verdictChange_within .checkpoint rfl))) n
  rw [same, record]
  refine ⟨rfl, rfl, rfl, fun changed => ?_⟩
  have reported := verdictChange_reported (s := x) (n := n) (before := (s.ck n).verdict) (by rw [record]; exact changed.symm)
  rw [record] at reported
  rw [marks]
  exact State.reported_congr reported (congrArg Access.streams access) clock chain

theorem verdictStaleTimeout_marks {n : Nat} (active : s.isStandby = false) (occupied : (s.lane n).occupied = true)
    (over' : (s.ck n).arrival + s.cfg 0x230B 5 * 20000000 < s.clock.source)
    (awaits : ∀ q : CkRequest, q ∈ s.checkpoint.queue ∨ q ∈ s.checkpoint.running.map Prod.snd ∨ q ∈ s.checkpoint.found.map CkVerdict.request →
      q.lane = n → (s.ck n).arrival + s.cfg 0x230B 5 * 20000000 < q.arrival) : verdictStaleTimeout n s =
      if (s.ck n).verdict = 3 ∧ ((s.ck n).reason = 19 ∨ (s.ck n).reason = 16) then s else s.stale n 19 := by
  have near : ∀ q : CkRequest, q ∈ s.checkpoint.queue ∨ q ∈ s.checkpoint.running.map Prod.snd ∨ q ∈ s.checkpoint.found.map CkVerdict.request →
      ¬(q.lane = n && decide (q.arrival ≤ (s.ck n).arrival + s.cfg 0x230B 5 * 20000000)) = true := fun q mem =>
    by simpa using awaits q mem
  have queue := List.any_eq_false.mpr (fun q mem => near q (.inl mem))
  have running := List.any_eq_false.mpr (fun (e : Nat × CkRequest) mem => near e.2 (.inr (.inl (List.mem_map_of_mem mem))))
  have found := List.any_eq_false.mpr (fun (v : CkVerdict) mem => near v.request (.inr (.inr (List.mem_map_of_mem mem))))
  unfold verdictStaleTimeout
  dsimp only
  rw [queue, running, found]
  refine ite_cond_swap ?_
  simp [active, occupied, over', imp_iff_not_or]

end

end Sys2Proof.Machine

namespace Sys2Proof.Proofs

open Sys2Proof Sys2Proof.Machine

/-- Settles O30: the start, end and lateness of a solve by the lemmas of each, the stale verdict by `stale_spec`. -/
theorem checkpointSolves : Obligations.CheckpointSolves := by
  intro s running
  refine ⟨fun dsp stamp q rest known free queue time => ⟨_, running_next _ running, solveStart_takes (s := s.begin) known free queue time⟩,
    fun dsp stamp q known free queue late => ?drops, fun dsp out stamp q runs => ?done, fun dsp q runs late => ?late,
    fun n active occupied over' awaits => ?stale⟩
  case drops =>
    obtain ⟨dropped, lane, same, -, -⟩ := solveDropped_spec (s := s.begin.stamped stamp) q
    exact ⟨_, (running_next _ running).trans (congrArg _ (solveStart_drops (s := s.begin) known free queue late)), rfl, same, dropped, lane⟩
  case done =>
    refine ⟨_, running_next _ running, ?_⟩
    by_cases late : (s.stamped stamp).solveLeft q < 0
    · obtain ⟨gone, found, completed, dropped, lane⟩ := solveEnded_dropped (s := s.begin.stamped stamp) dsp q
      rw [solveDone_late (s := s.begin) runs late]
      exact ⟨gone, fun intime => absurd late (Int.not_lt.mpr intime), fun _ => ⟨found, completed, dropped, lane⟩⟩
    · obtain ⟨v, solved, record⟩ := solveDone_intime (s := s.begin) (out := out) runs (Int.not_lt.mp late)
      obtain ⟨names, ends⟩ := solved_names (s := (s.begin.stamped stamp).solveEnded dsp) q out (decide (16000000 < (s.begin.stamped stamp).clock.offset))
      rw [record]
      refine ⟨tfind_tdel _ _, fun _ => ⟨rfl, v, solved ▸ names, rfl, ?_, fun unpositioned => ?_⟩, fun h => absurd h late⟩
      · rw [solved, ends]
        exact decide_eq_true_iff
      · rw [solved]
        exact solved_unpositioned out _ unpositioned
  case late =>
    obtain ⟨gone, found, -, dropped, lane⟩ := solveEnded_dropped (s := s.begin) dsp q
    exact ⟨_, (running_next _ running).trans (congrArg _ (solveLate_drops (s := s.begin) runs late)), gone, found, dropped, lane⟩
  case stale =>
    refine ⟨_, (running_next _ running).trans (congrArg _ (verdictStaleTimeout_marks (s := s.begin) active occupied over' awaits)), ?_⟩
    split
    · next stands =>
      obtain ⟨verdict, reason⟩ := stands
      refine ⟨verdict, ?_, rfl, fun fresh => absurd verdict fresh⟩
      split
      · next kept => exact kept.2
      · next other => exact reason.resolve_right (fun h => other ⟨verdict, h⟩)
    · next fresh =>
      obtain ⟨verdict, reason, disagree, reported⟩ := stale_spec (s := s.begin) n 19
      refine ⟨verdict, reason.trans (if_neg (fun h => fresh ⟨h.1, .inr h.2⟩)).symm, disagree, reported⟩

end Sys2Proof.Proofs

/-! PROOF. Observables and the survey command (R74 to R81, R87 to R91, R100). -/

namespace Sys2Proof.Machine

variable {s : State}

/-! ### The observables of a tick -/

/-- The reference without what a tick's integrity, baseline and message change: what the clock and the positioning say of it. -/
def Reference.solution (r : Reference) : Reference := { r with sats := [], message := [], baseline := false, baselineDue := false }

theorem findBaseline_solution (ratio : Option Nat) : (s.findBaseline ratio).reference.solution = s.reference.solution :=
  State.ite_same (fun u => u.reference.solution) rfl rfl

theorem buildGnoez_solution (l : List Rec) : (s.buildGnoez l).reference.solution = s.reference.solution := rfl

/-- The first acquisition leaves the latch and the gap alone. -/
theorem firstAcquisition_latch (l : List Rec) :
    (s.firstAcquisition l).gnss.latched = s.gnss.latched ∧ (s.firstAcquisition l).gnss.gap = s.gnss.gap := by
  unfold State.firstAcquisition
  dsimp only
  split
  · split
    · exact ⟨rfl, rfl⟩
    · exact ⟨rfl, rfl⟩
  · exact ⟨rfl, rfl⟩

/-- The ticks in a row with all that positioning needs, and whether it then stands (R100). -/
def State.goodTicks (s : State) : Nat :=
  if s.reference.valid ∧ s.gnss.portA.state = 0 ∧ s.cfgNat 0x2308 6 ≤ s.reference.inState 0 ∧ s.reference.rms ≤ s.cfgNat 0x2308 7 then
    min 50 (s.reference.good + 1) else 0

def State.positioned (s : State) : Bool :=
  if s.reference.valid ∧ s.gnss.portA.state = 0 ∧ s.cfgNat 0x2308 6 ≤ s.reference.inState 0 ∧ s.reference.rms ≤ s.cfgNat 0x2308 7 then
    s.reference.positioning || decide (50 ≤ s.goodTicks) else false

theorem positioningTick_reference : s.positioningTick.reference =
    { s.reference with
      good := s.goodTicks, positioning := s.positioned
      correction := Reference.correctionState { s.reference with good := s.goodTicks, positioning := s.positioned } } := by
  unfold State.positioningTick
  dsimp only
  exact State.ite_same (fun u => u.reference) State.raise_reference (State.ite_same (fun u => u.reference) State.raise_reference rfl)

/-- Without a valid position nothing is positioned, and no correction goes out (R100, R102). -/
theorem positioningTick_invalid (unknown : s.reference.valid = false) :
    s.positioningTick.reference.positioning = false ∧ s.positioningTick.reference.correction = 0 := by
  rw [positioningTick_reference]
  refine ⟨if_neg (fun holds => by simp [unknown] at holds), if_pos ?_⟩
  show (!s.reference.valid) = true
  rw [unknown]
  rfl

/-- The tick's latch is used up: its records go to recorder and counters, and the trackers keep what the records found. -/
def State.latchUsed (k : Latch) (o : ObsOut) (s : State) : State :=
  let l := s.obsRecords k o
  let s : State := { s with free := s.free + 160 }
  let s := (s.tripSample 4 0xFF s.clock.source (s.obsBlock k.tick l)).count 0x420 1
  let s : State := l.foldl (fun (t : State) r => t.onChannel r.channel (fun x => x.on r.l5 (fun t => t.keep r.tracker))) s
  { s with gnss := { s.gnss with latched := none, gap := false } }

/-- The clock is solved and the satellites' integrity is evaluated. -/
def State.obsSolved (k : Latch) (o : ObsOut) (s : State) : State :=
  ((((s.latchUsed k o).clockSolved o).firstAcquisition (s.obsRecords k o)).findBaseline o.ratio).integrity (s.obsRecords k o) k.time

theorem latchUsed_within (k : Latch) (o : ObsOut) : Within [Part.trip, .counters, .gnss, .access, .panel] s (s.latchUsed k o) := by
  refine Within.trans ?_ (within_gnss rfl)
  refine Within.foldl (fun _ _ => State.onChannel_within.mono rfl) ?_
  refine Within.after ?_ State.count_within rfl
  exact Within.after within_free State.tripSample_within rfl

theorem obsSolved_within (k : Latch) (o : ObsOut) :
    Within [Part.trip, .counters, .gnss, .access, .panel, .reference] s (s.obsSolved k o) := by
  refine Within.after ?_ State.integrity_within rfl
  refine Within.after ?_ State.findBaseline_within rfl
  refine Within.after ?_ State.firstAcquisition_within rfl
  refine Within.after ?_ State.clockSolved_within rfl
  exact (latchUsed_within k o).mono rfl

theorem obsSolved_latch (k : Latch) (o : ObsOut) : (s.obsSolved k o).gnss.latched = none ∧ (s.obsSolved k o).gnss.gap = false := by
  have baseline (u : State) : (u.findBaseline o.ratio).gnss = u.gnss := State.findBaseline_within .gnss rfl
  have same : (s.obsSolved k o).gnss = (((s.latchUsed k o).clockSolved o).firstAcquisition (s.obsRecords k o)).gnss := baseline _
  rw [same]
  exact firstAcquisition_latch (s := (s.latchUsed k o).clockSolved o) (s.obsRecords k o)

theorem obsSolved_reference (k : Latch) (o : ObsOut) :
    (s.obsSolved k o).reference.solution = (s.clockSolved o).reference.solution := by
  have used : (s.latchUsed k o).reference = s.reference := latchUsed_within k o .reference rfl
  have solved : ((s.latchUsed k o).clockSolved o).reference = (s.clockSolved o).reference := by
    unfold State.clockSolved
    rw [used]
  have first : (((s.latchUsed k o).clockSolved o).firstAcquisition (s.obsRecords k o)).reference =
      ((s.latchUsed k o).clockSolved o).reference := State.firstAcquisition_within .reference rfl
  exact (findBaseline_solution o.ratio).trans (congrArg Reference.solution (first.trans solved))

/-- Positioning is judged, TB0 is measured and the tick's blocks are held. -/
def State.obsPlaced (k : Latch) (o : ObsOut) (l : List Rec) (s : State) : State :=
  let s := s.positioningTick.measure 0 (o.tb0 - s.cfg 0x2101 8)
  s.holdBlock k.tick (s.heldSats l)

/-- The messages whose epoch it is. -/
def State.obsSent (k : Latch) (l : List Rec) (s : State) : State :=
  let s := if s.reference.epoch = some k.tick ∧ s.reference.positioning then s.buildGnoez l else s
  if s.stagePos = 0 ∧ s.reference.positioning ∧ s.epochAt (if s.power.state = 1 then 1 else s.cfgNat 0x2402 6) then
    s.msm s.gpsTime (s.msmCells l) else s

/-- A tick's observables are taken in three steps: solved, placed, sent. -/
theorem observablesReady_latched {k : Latch} (o : ObsOut) (latched : s.gnss.latched = some k) :
    observablesReady o s = ((s.obsSolved k o).obsPlaced k o (s.obsRecords k o)).obsSent k (s.obsRecords k o) := by
  unfold observablesReady
  rw [latched]
  rfl

/-- The messages change neither the latch, the bases nor the solution. -/
theorem obsSent_leaves (k : Latch) (l : List Rec) : (s.obsSent k l).gnss = s.gnss ∧ (s.obsSent k l).time = s.time ∧
    (s.obsSent k l).reference.solution = s.reference.solution := by
  unfold State.obsSent
  refine ⟨?_, ?_, ?_⟩
  · exact (State.ite_same (fun u => u.gnss) (State.msm_within .gnss rfl) rfl).trans (State.ite_same (fun u => u.gnss) rfl rfl)
  · exact (State.ite_same (fun u => u.time) (State.msm_within .time rfl) rfl).trans (State.ite_same (fun u => u.time) rfl rfl)
  · exact (State.ite_same (fun u => u.reference.solution) (congrArg Reference.solution (State.msm_within .reference rfl)) rfl).trans
      (State.ite_same (fun u => u.reference.solution) (buildGnoez_solution l) rfl)

/-- TB0's offset is what the block measured, less the antenna's delay. -/
theorem obsPlaced_base (k : Latch) (o : ObsOut) (l : List Rec) :
    ((s.obsPlaced k o l).base 0).offset = s.converted 0 (o.tb0 - s.cfg 0x2101 8) := by
  have time : s.positioningTick.time = s.time := State.positioningTick_within .time rfl
  have measured : (s.obsPlaced k o l).base 0 =
      (s.positioningTick.measure 0 (o.tb0 - s.cfg 0x2101 8)).base 0 := rfl
  rw [measured]
  unfold State.measure State.onBase State.base
  rw [tget_tmod_same]
  unfold State.converted
  rw [time]

/-- What the tick's observables leave in the reference: the clock solved, then positioning judged (R95, R100). -/
theorem observablesReady_solution {k : Latch} (o : ObsOut) (latched : s.gnss.latched = some k) :
    (observablesReady o s).reference.solution = (s.obsSolved k o).positioningTick.reference.solution :=
  (congrArg (fun u : State => u.reference.solution) (observablesReady_latched o latched)).trans (obsSent_leaves ..).2.2

section
variable {k : Latch} (o : ObsOut) (latched : s.gnss.latched = some k)
include latched

theorem observablesReady_latch : (observablesReady o s).gnss.latched = none ∧ (observablesReady o s).gnss.gap = false := by
  have gnss : (observablesReady o s).gnss = (s.obsSolved k o).gnss := by
    rw [observablesReady_latched o latched]
    exact (obsSent_leaves ..).1.trans (State.positioningTick_within .gnss rfl)
  rw [gnss]
  exact obsSolved_latch k o

theorem observablesReady_tb0 : ((observablesReady o s).base 0).offset = s.converted 0 (o.tb0 - s.cfg 0x2101 8) := by
  have time : (s.obsSolved k o).time = s.time := obsSolved_within k o .time rfl
  have settings : (s.obsSolved k o).settings = s.settings := obsSolved_within k o .settings rfl
  have base : (observablesReady o s).base 0 = ((s.obsSolved k o).obsPlaced k o (s.obsRecords k o)).base 0 := by
    rw [observablesReady_latched o latched]
    unfold State.base
    rw [(obsSent_leaves ..).2.1]
  rw [base, obsPlaced_base]
  unfold State.converted Units.cfg
  rw [time, settings]

/-- Clock, TB0, RMS and validity as the clock solution leaves them. -/
theorem observablesReady_clock : (observablesReady o s).reference.clocks = o.clocks ∧
    (observablesReady o s).reference.clock = (o.clocks.find? (fun e => e.1 = 0)).map (fun e => roundDiv (e.2 * 100000) lightSpeed) ∧
    (observablesReady o s).reference.tb0 = o.tb0 ∧ (s.reference.valid = true → (observablesReady o s).reference.rms = o.rms) := by
  have solution := observablesReady_solution o latched
  have before := obsSolved_reference (s := s) k o
  rw [positioningTick_reference] at solution
  have clocks := congrArg Reference.clocks before
  have clock := congrArg Reference.clock before
  have tb0 := congrArg Reference.tb0 before
  have rms := congrArg Reference.rms before
  exact ⟨(congrArg Reference.clocks solution).trans clocks, (congrArg Reference.clock solution).trans clock,
    (congrArg Reference.tb0 solution).trans tb0, fun valid => ((congrArg Reference.rms solution).trans rms).trans (if_pos valid)⟩

theorem observablesReady_invalid (unknown : s.reference.valid = false) :
    (observablesReady o s).reference.positioning = false ∧ (observablesReady o s).reference.correction = 0 := by
  have solution := observablesReady_solution o latched
  have invalid : (s.obsSolved k o).reference.valid = false :=
    (congrArg Reference.valid (obsSolved_reference (s := s) k o)).trans unknown
  obtain ⟨positioning, correction⟩ := positioningTick_invalid invalid
  exact ⟨(congrArg Reference.positioning solution).trans positioning, (congrArg Reference.correction solution).trans correction⟩

end

theorem observablesReady_unlatched (o : ObsOut) (idle : s.gnss.latched = none) : observablesReady o s = s := by
  unfold observablesReady
  rw [idle]

/-! ### The survey command -/

section
variable {u : State} {r : Req} (arrived : Arrived s u r)
include arrived

theorem Arrived.notMoving : u.notMoving = s.notMoving := by rw [Units.notMoving, arrived.lanes, Units.notMoving]

theorem Arrived.reference : u.reference = s.reference := arrived.within .reference rfl

end

theorem surveyCommand_moving {v : Nat} (known : v ≤ 1) (moving : s.notMoving = false) : s.surveyCommand v = refuse 0x08000022 s := by
  unfold State.surveyCommand
  rw [if_neg (Nat.not_lt.mpr known)]
  exact if_pos (by simp [moving])

theorem surveyCommand_start (still : s.notMoving = true) : s.surveyCommand 1 = confirm s.startSurvey := by
  unfold State.surveyCommand
  rw [if_neg (Nat.lt_irrefl 1), if_neg (by simp [still])]
  exact if_pos rfl

/-- A running survey aborted (R89). -/
def State.abortSurvey (s : State) : State :=
  if s.reference.running then
    { s with reference := { s.reference with running := false, state := if s.reference.valid then s.reference.state else 0 } }
  else s

theorem surveyCommand_abort (still : s.notMoving = true) : s.surveyCommand 0 = confirm s.abortSurvey := by
  unfold State.surveyCommand State.abortSurvey
  rw [if_neg (Nat.not_lt_zero 1), if_neg (by simp [still]), if_neg (Nat.zero_ne_one)]
  cases s.reference.running <;> rfl

end Sys2Proof.Machine

namespace Sys2Proof.Proofs

open Sys2Proof Sys2Proof.Machine

/-- Settles O32: a latched tick by its clock solution and what positioning makes of it, the survey by its command's cases. -/
theorem observablesAndSurvey : Obligations.ObservablesAndSurvey := by
  intro s running
  refine ⟨fun o k latched => ?ready, fun o idle => ?early, fun k latched => ?late, fun idle => ?unlatched, fun r granted => ?start,
    fun r granted => ?abort⟩
  case ready =>
    obtain ⟨used, gap⟩ := observablesReady_latch (s := s.begin) o latched
    obtain ⟨clocks, clock, tb0, rms⟩ := observablesReady_clock (s := s.begin) o latched
    exact ⟨_, running_next _ running, used, gap, clocks, clock, tb0, observablesReady_tb0 (s := s.begin) o latched, rms,
      observablesReady_invalid (s := s.begin) o latched⟩
  case early => exact (running_next _ running).trans (congrArg _ (observablesReady_unlatched (s := s.begin) o idle))
  case late =>
    exact ⟨_, (running_next _ running).trans (congrArg _ (if_pos (Option.isSome_iff_exists.mpr ⟨k, latched⟩))), rfl, rfl⟩
  case unlatched =>
    refine (running_next _ running).trans (congrArg _ (if_neg (?_ : ¬s.gnss.latched.isSome = true)))
    simp [idle]
  case start =>
    refine ⟨fun still => exec_serveWrite rfl granted fun u hu => ⟨_, surveyCommand_start (hu.notMoving.trans still), fun z within => ?_⟩,
      fun moving => exec_serveWrite rfl granted fun u hu =>
        ⟨_, surveyCommand_moving (Nat.le_refl 1) (hu.notMoving.trans moving), fun z within => ?_⟩⟩
    · rw [show z.reference = _ from within .reference rfl, State.startSurvey, hu.reference, Units.cfg, hu.settings]
      rfl
    · rw [show z.reference = _ from within .reference rfl, hu.reference]
  case abort =>
    refine ⟨fun still => exec_serveWrite rfl granted fun u hu => ⟨_, surveyCommand_abort (hu.notMoving.trans still), fun z within => ?_⟩,
      fun moving => exec_serveWrite rfl granted fun u hu =>
        ⟨_, surveyCommand_moving (Nat.zero_le 1) (hu.notMoving.trans moving), fun z within => ?_⟩⟩
    · rw [show z.reference = _ from within .reference rfl, State.abortSurvey, apply_ite (fun u : State => u.reference), hu.reference]
    · rw [show z.reference = _ from within .reference rfl, hu.reference]

end Sys2Proof.Proofs

/-! PROOF. Trackers, loops and searches (R53 to R62, R65, R67 to R73). -/

namespace Sys2Proof.Machine

variable {s : State}

/-! ### Channels and their trackers -/

theorem channel_onChannel (c : Nat) (f : TrackChannel → TrackChannel) : (s.onChannel c f).channel c = f (s.channel c) :=
  tget_tmod_same _ _ _ _

theorem tracker_on (x : TrackChannel) (l5 : Bool) (f : Tracker → Tracker) : (x.on l5 f).tracker l5 = f (x.tracker l5) := by
  cases l5 <;> rfl

/-- The satellite waits for a search or is being searched, and no channel changes. -/
theorem queueSearch_spec (r : SearchReq) : (s.queueSearch r).gnss.channels = s.gnss.channels ∧
    (s.queueSearch r).gnss.units = s.gnss.units ∧
    ((s.queueSearch r).gnss.searches.any r.same = true ∨ (s.queueSearch r).gnss.units.any (fun e => r.same e.2.req) = true) := by
  unfold State.queueSearch
  split
  · next known => exact ⟨rfl, rfl, known⟩
  · refine ⟨rfl, rfl, .inl ?_⟩
    simp [SearchReq.same, sameSat]

/-! ### Integration boundaries -/

/-- A boundary: the NCOs have run, the taps stand, and the rates are those written, or in a reacquisition the extrapolated ones (R61,
R67, R68). -/
theorem boundary_spec (x : Tracker) (signal : Nat) (l5 : Bool) (rate : Int) (sums : TapSums) (sides : SideSums) (loop : LoopSet)
    (roving sweep : Int) : ∃ rates : BitVec 48 × BitVec 48,
    (x.phase ≠ 4 → rates = x.written.getD (x.codeRate, x.carrierRate)) ∧
      (x.phase = 4 → ∀ y, x.lost = some y → rates = extrapolated rate l5 y (x.sample + x.samplesLeft signal)) ∧
      x.boundary signal l5 rate sums sides loop roving sweep =
        { x with
          code := x.code.advance (codeLength signal) (x.codeRate.toNat * x.samplesLeft signal)
          carrier := x.carrier.advance (x.carrierRate.toInt * x.samplesLeft signal), sample := x.sample + x.samplesLeft signal
          integration := x.integration + 1, taps := x.placed signal sums sides, written := none, codeRate := rates.1
          carrierRate := rates.2, loop := loop, roving := roving, sweep := sweep } := by
  refine ⟨((x.boundary signal l5 rate sums sides loop roving sweep).codeRate,
    (x.boundary signal l5 rate sums sides loop roving sweep).carrierRate), fun followed => ?_, fun searching y lost => ?_, rfl⟩
  · unfold Tracker.boundary
    dsimp only
    split
    · next phase _ => exact absurd phase followed
    · rfl
  · unfold Tracker.boundary
    simp only [searching, lost]

/-- The tracker after its boundary, with a roving offset of at most two chips and a sweep in a reacquisition alone (R65, R67). -/
theorem integrationBoundary_tracker {c : Nat} (l5 : Bool) (sums : TapSums) (sides : SideSums) (known : c < 80) {v : SatView}
    (holds : (s.channel c).sat = some v) (active : ((s.channel c).tracker l5).phase ≠ 0) :
    ∃ roving sweep : Int, -256 ≤ roving ∧ roving ≤ 256 ∧ (((s.channel c).tracker l5).phase ≠ 4 → sweep = 0) ∧
      ((integrationBoundary c l5 sums sides s).channel c).tracker l5 =
        ((s.channel c).tracker l5).boundary (s.signalCode v.system l5) l5 v.rate sums sides s.loopSet roving sweep := by
  refine ⟨(s.draw.1 % 513 : Nat) - 256, if ((s.channel c).tracker l5).phase = 4 then s.draw.2.draw.1 else 0, by omega, by omega,
    fun followed => if_neg followed, ?_⟩
  unfold integrationBoundary
  dsimp only
  rw [holds]
  dsimp only
  rw [if_neg (by omega), channel_onChannel, tracker_on]
  rfl

theorem integrationBoundary_idle {c : Nat} (l5 : Bool) (sums : TapSums) (sides : SideSums)
    (idle : ((s.channel c).tracker l5).phase = 0 ∨ (s.channel c).sat = none) : integrationBoundary c l5 sums sides s = s := by
  unfold integrationBoundary
  dsimp only
  split
  · rfl
  · next v holds => exact if_pos (.inr (idle.resolve_right (by simp [holds])))

/-! ### Loop updates -/

section
variable (x : Tracker) (o : LoopOut)

theorem update_written : (x.update o).written = some (BitVec.ofInt 48 o.codeRate, BitVec.ofInt 48 o.carrierRate) := rfl

theorem update_codeLock : (x.update o).codeLock =
    if 2200 ≤ o.cn0 then true else if 100 ≤ (if o.cn0 < 2200 then x.weak + o.elapsed else 0) then false else x.codeLock := rfl

theorem update_phaseLock : (x.update o).phaseLock = ((x.update o).codeLock && (if o.indicator < 600 then false
    else if 200 ≤ (if 800 ≤ o.indicator then x.high + o.elapsed else 0) then true else x.phaseLock)) := rfl

variable {x o}

/-- 2,200 cdB-Hz hold the code lock; below them it lasts 100 ms (R71). -/
theorem update_strong (strong : 2200 ≤ o.cn0) : (x.update o).codeLock = true := by rw [update_codeLock, if_pos strong]

theorem update_weak (weak : o.cn0 < 2200) (short : x.weak + o.elapsed < 100) : (x.update o).codeLock = x.codeLock := by
  rw [update_codeLock, if_neg (by omega), if_pos weak, if_neg (by omega)]

theorem update_tooWeak (weak : o.cn0 < 2200) (long : 100 ≤ x.weak + o.elapsed) :
    (x.update o).codeLock = false ∧ (x.update o).phaseLock = false := by
  have lost : (x.update o).codeLock = false := by rw [update_codeLock, if_neg (by omega), if_pos weak, if_pos long]
  exact ⟨lost, by rw [update_phaseLock, lost, Bool.false_and]⟩

/-- A lost code lock begins a reacquisition (R61). -/
theorem update_lost (held : x.codeLock = true) (lost : (x.update o).codeLock = false) :
    (x.update o).phase = 4 ∧ (x.update o).age = 0 ∧ (x.update o).lost = some (x.codeRate, x.carrierRate, x.sample) := by
  have gone : (x.codeLock && !(x.update o).codeLock) = true := by rw [held, lost]; rfl
  exact ⟨if_pos gone, if_pos gone, if_pos gone⟩

theorem update_incoherent (incoherent : o.indicator < 600) : (x.update o).phaseLock = false := by
  rw [update_phaseLock, if_pos incoherent, Bool.and_false]

/-- 200 ms at 0.8 and more give phase lock, new where there was none (R72, R78). -/
theorem update_locks (coherent : 800 ≤ o.indicator) (long : 200 ≤ x.high + o.elapsed) (strong : 2200 ≤ o.cn0) :
    (x.update o).phaseLock = true ∧ (x.phaseLock = false → (x.update o).restarted = true) := by
  have locked : (x.update o).phaseLock = true := by
    rw [update_phaseLock, update_strong strong, if_neg (by omega), if_pos coherent, if_pos long, Bool.true_and]
  refine ⟨locked, fun fresh => ?_⟩
  show (x.restarted || ((x.update o).phaseLock && !x.phaseLock)) = true
  rw [locked, fresh]
  exact Bool.or_true _

/-- Pull-in ends below 100 Hz of error (R72). -/
theorem update_pullIn (same : (x.update o).codeLock = x.codeLock) (pulling : x.phase = 1) :
    (x.update o).phase = if o.freqError < 100 then 2 else 1 := by
  have kept : ¬(x.codeLock && !(x.update o).codeLock) = true := by rw [same]; cases x.codeLock <;> nofun
  refine (if_neg kept).trans ((if_neg ?_).trans (if_pos pulling))
  rw [pulling]
  decide

end

/-- An update in time written: tracker, message contents and UTC offset. -/
def State.loopWritten (c : Nat) (l5 : Bool) (o : LoopOut) (s : State) : State :=
  let t := s.onChannel c (fun y => y.on l5 (fun _ => ((s.channel c).tracker l5).update o))
  { t with
    gnss := t.gnss.learn o, time := { t.time with utcOffset := if o.leap.isSome then o.leap.map (· + 19) else t.time.utcOffset } }

theorem loopWritten_channel (c : Nat) (l5 : Bool) (o : LoopOut) :
    (s.loopWritten c l5 o).channel c = (s.channel c).on l5 (fun _ => ((s.channel c).tracker l5).update o) :=
  channel_onChannel (s := s) c (fun y => y.on l5 (fun _ => ((s.channel c).tracker l5).update o))

section
variable {c : Nat} {l5 : Bool} {o : LoopOut}

theorem loopUpdate_idle (idle : ((s.channel c).tracker l5).phase = 0) : loopUpdate c l5 o s = s := if_pos (.inr idle)

section
variable (known : c < 80) (active : ((s.channel c).tracker l5).phase ≠ 0)
include known active

/-- Rates for an integration past are only counted (R69). -/
theorem loopUpdate_late (past : o.integration < ((s.channel c).tracker l5).integration) :
    ((loopUpdate c l5 o s).channel c).late = saturate (s.channel c).late ∧
      ((loopUpdate c l5 o s).channel c).tracker l5 = { (s.channel c).tracker l5 with late := true } := by
  have counted : (loopUpdate c l5 o s).channel c = ({ s.channel c with late := saturate (s.channel c).late } : TrackChannel).on l5
      (fun t => { t with late := true }) := by
    unfold loopUpdate
    dsimp only
    rw [if_neg (by omega), if_pos past, channel_onChannel]
  rw [counted]
  exact ⟨by cases l5 <;> rfl, by rw [tracker_on]; cases l5 <;> rfl⟩

variable (inTime : ((s.channel c).tracker l5).integration ≤ o.integration)
include inTime

/-- The tracker after an update in time (R71, R72). -/
theorem loopUpdate_tracker : ((loopUpdate c l5 o s).channel c).tracker l5 = ((s.channel c).tracker l5).update o := by
  have written : ((s.loopWritten c l5 o).channel c).tracker l5 = ((s.channel c).tracker l5).update o := by
    rw [loopWritten_channel, tracker_on]
  unfold loopUpdate
  dsimp only
  rw [if_neg (by omega), if_neg (Nat.not_lt.mpr inTime)]
  split
  · split
    · next start =>
      obtain rfl : l5 = false := by simpa using start.1
      rw [channel_onChannel]
      exact written
    · exact written
  · exact written

end

/-- Phase lock in the L1 band starts the L5 band, its carrier at 115/154 of the rate (R73). -/
theorem loopUpdate_startsL5 (known : c < 80) (active : (s.channel c).l1.phase ≠ 0)
    (inTime : (s.channel c).l1.integration ≤ o.integration) (locks : ((s.channel c).l1.update o).phaseLock = true)
    (fresh : (s.channel c).l1.phaseLock = false) {v : SatView} (holds : (s.channel c).sat = some v) (dual : v.l5 = true)
    (idle : (s.channel c).l5.phase = 0) (untried : (s.channel c).l5.tries = 0) :
    ((loopUpdate c false o s).channel c).l5.phase = 1 ∧ ((loopUpdate c false o s).channel c).l5.tries = 1 ∧
      ((loopUpdate c false o s).channel c).l5.carrierRate =
        BitVec.ofInt 48 (roundDiv ((s.channel c).l1.carrierRate.toInt * 115) 154) := by
  have started : (loopUpdate c false o s).channel c =
      ((s.channel c).on false (fun _ => (s.channel c).l1.update o)).startL5 ((s.loopWritten c false o).signalCode v.system false) 1
        (s.loopWritten c false o).loopSet := by
    unfold loopUpdate
    dsimp only
    rw [if_neg (by rintro (h | h); exacts [absurd known (Nat.not_lt.mpr h), active h]),
      if_neg (show ¬o.integration < ((s.channel c).tracker false).integration from Nat.not_lt.mpr inTime), holds]
    refine (congrArg (fun t : State => t.channel c)
      (if_pos ⟨rfl, locks, Bool.not_eq_true' _ ▸ fresh, dual, idle, untried⟩)).trans ?_
    rw [channel_onChannel]
    exact congrArg (fun x : TrackChannel => x.startL5 _ 1 _) (loopWritten_channel c false o)
  rw [started]
  exact ⟨rfl, rfl, rfl⟩

end

/-! ### Giving up -/

section
variable {c : Nat}

/-- 10 s after the loss the channel is given up, and its satellite is searched again (R62). -/
theorem reacquisitionGiveUp_spec {l5 : Bool} (known : c < 80) (searching : ((s.channel c).tracker l5).phase = 4) {v : SatView}
    (holds : (s.channel c).sat = some v) (long : 10000 ≤ ((s.channel c).tracker l5).age) :
    (reacquisitionGiveUp c l5 s).channel c = { late := (s.channel c).late } ∧
      ((reacquisitionGiveUp c l5 s).gnss.searches.any (SearchReq.same { sat := v, portB := (s.channel c).portB }) = true ∨
        (reacquisitionGiveUp c l5 s).gnss.units.any (fun e => SearchReq.same { sat := v, portB := (s.channel c).portB } e.2.req) = true) := by
  have given : reacquisitionGiveUp c l5 s =
      (s.onChannel c TrackChannel.cleared).queueSearch { sat := v, portB := (s.channel c).portB } := by
    unfold reacquisitionGiveUp
    dsimp only
    rw [if_neg (by omega), holds]
  rw [given]
  obtain ⟨channels, _, queued⟩ := queueSearch_spec (s := s.onChannel c TrackChannel.cleared) { sat := v, portB := (s.channel c).portB }
  exact ⟨(congrArg (fun l : Table TrackChannel => tget (fun _ => ({} : TrackChannel)) l c) channels).trans (channel_onChannel c TrackChannel.cleared), queued⟩

/-- 200 ms without code lock end an attempt of the L5 band; the third is reported (R73). -/
theorem l5Timeout_spec (known : c < 80) (unlocked : (s.channel c).l5.codeLock = false)
    (pulling : (s.channel c).l5.phase = 1 ∨ (s.channel c).l5.phase = 2) (long : 200 ≤ (s.channel c).l5.age) :
    (l5Timeout c s).channel c = { s.channel c with l5 := { tries := (s.channel c).l5.tries, age := (s.channel c).l5.age } } ∧
      (3 ≤ (s.channel c).l5.tries → ∀ v : SatView, (s.channel c).sat = some v →
        (l5Timeout c s).reported 0x0206 1 7 0xFF (le 1 c ++ le 1 v.system ++ le 1 v.prn)) := by
  have due : ¬(80 ≤ c ∨ (s.channel c).l5.codeLock = true ∨
      (!(decide ((s.channel c).l5.phase = 1) || decide ((s.channel c).l5.phase = 2))) = true ∨ (s.channel c).l5.age < 200) := by
    rcases pulling with pulling | pulling <;> simp [unlocked, pulling] <;> omega
  have ended : ∀ u : State, u = s.onChannel c (fun y => { y with l5 := { tries := y.l5.tries, age := y.l5.age } }) →
      u.channel c = { s.channel c with l5 := { tries := (s.channel c).l5.tries, age := (s.channel c).l5.age } } := by
    rintro u rfl
    exact channel_onChannel c _
  unfold l5Timeout
  dsimp only
  rw [if_neg due]
  refine ⟨?_, fun failed v holds => ?_⟩
  · split
    · exact ended _ rfl
    · split
      · unfold State.channel
        rw [State.raise_gnss]
        exact ended _ rfl
      · exact ended _ rfl
  · rw [if_neg (Nat.not_lt.mpr failed), holds]
    exact State.raise_reported ..

end

/-! ### Searches -/

/-- The search first in the order of R57. -/
def firstOf (h : SearchReq) (l : List SearchReq) : SearchReq := l.foldl (fun a b => if b.key < a.key then b else a) h

theorem firstOf_least (h : SearchReq) (l : List SearchReq) : firstOf h l ∈ h :: l ∧ ∀ q ∈ h :: l, (firstOf h l).key ≤ q.key := by
  induction l generalizing h with
  | nil => simp [firstOf]
  | cons b l ih =>
    have next : firstOf h (b :: l) = firstOf (if b.key < h.key then b else h) l := rfl
    obtain ⟨mem, least⟩ := ih (if b.key < h.key then b else h)
    rw [next]
    have first : (if b.key < h.key then b else h).key ≤ h.key ∧ (if b.key < h.key then b else h).key ≤ b.key := by split <;> omega
    have bound := least _ List.mem_cons_self
    refine ⟨?_, fun q hq => ?_⟩
    · rcases List.mem_cons.mp mem with same | tail
      · rw [same]
        split <;> simp
      · exact List.mem_cons_of_mem _ (List.mem_cons_of_mem _ tail)
    · rcases List.mem_cons.mp hq with rfl | hq
      · exact bound.trans first.1
      · rcases List.mem_cons.mp hq with rfl | hq
        · exact bound.trans first.2
        · exact least q (List.mem_cons_of_mem _ hq)

/-- A free unit takes the search first in order (R57). -/
theorem searchStart_takes {u : Nat} (unit : u < 4) (free : tfind s.gnss.units u = none) (lowest : ∀ k < u, tfind s.gnss.units k ≠ none)
    {h : SearchReq} {l : List SearchReq} (waiting : s.gnss.searches = h :: l) : searchStart s = s.beginSearch u (firstOf h l) := by
  have found : (List.range 4).find? (fun k => (tfind s.gnss.units k).isNone) = some u := by
    rw [List.find?_range_eq_some]
    exact ⟨by rw [free]; rfl, List.mem_range.mpr unit, fun k hk => by
      simpa [Option.isSome_iff_ne_none] using lowest k hk⟩
  unfold searchStart
  rw [waiting, found]
  rfl

theorem searchStart_waits (busy : (∀ u < 4, tfind s.gnss.units u ≠ none) ∨ s.gnss.searches = []) : searchStart s = s := by
  unfold searchStart
  split
  · next h l u waiting found =>
    have free := List.find?_some found
    have unit := List.mem_range.mp (List.mem_of_find?_eq_some found)
    rcases busy with busy | busy
    · exact absurd (Option.isNone_iff_eq_none.mp free) (busy u unit)
    · rw [busy] at waiting
      exact absurd waiting (by nofun)
  · rfl

/-- A search that begins is out of the queue and on its unit (R53 to R55). -/
theorem beginSearch_spec (u : Nat) (r : SearchReq) {b : Nat} {fresh : Bool}
    (buffer : s.gnss.buffer r (s.signalCode r.sat.system r.l5) (s.searchMode r.sat) = some (b, fresh)) :
    (s.beginSearch u r).gnss.searches = s.gnss.searches.filter (fun q => !r.same q) ∧ (s.beginSearch u r).gnss.mode = s.searchMode r.sat ∧
      tfind (s.beginSearch u r).gnss.units u = some
        { req := r, mode := s.searchMode r.sat, bins := dopplerBins (s.searchMode r.sat) (s.signalCode r.sat.system r.l5)
          blocks := dwellBlocks (s.searchMode r.sat) (s.signalCode r.sat.system r.l5)
          cells := codeBins (s.searchMode r.sat) (s.signalCode r.sat.system r.l5), buffer := b } := by
  unfold State.beginSearch
  dsimp only
  rw [buffer]
  dsimp only
  rw [State.count_gnss]
  exact ⟨rfl, rfl, tfind_tset _ _ _⟩

/-- The unit of a search that is over is free. -/
def State.unitFreed (u : Nat) (s : State) : State := { s with gnss := { s.gnss with units := tdel s.gnss.units u } }

section
variable {u c : Nat} {q : Search} (searched : tfind s.gnss.units u = some q) (onChannel : s.channelOf q.req.sat q.req.portB = some c)
include searched onChannel

/-- A detection starts its tracker (R60, R72). -/
theorem searchDone_found (d : Detection) : tfind (searchDone u (some d) s).gnss.units u = none ∧
    (searchDone u (some d) s).channel c =
      if q.req.l5 then { s.channel c with
        l5 := detectionTracker d (s.signalCode q.req.sat.system q.req.l5) q.mode (sampleAt (s.clock.tb3 + s.clock.offset)) s.loopSet }
      else { s.channel c with
        l1 := detectionTracker d (s.signalCode q.req.sat.system q.req.l5) q.mode (sampleAt (s.clock.tb3 + s.clock.offset)) s.loopSet
        l5 := if 3 ≤ (s.channel c).l5.tries then (s.channel c).l5 else {} } := by
  have handed : searchDone u (some d) s = (s.unitFreed u).onChannel c (fun x => if q.req.l5 then { x with
        l5 := detectionTracker d (s.signalCode q.req.sat.system q.req.l5) q.mode (sampleAt (s.clock.tb3 + s.clock.offset)) s.loopSet }
      else { x with
        l1 := detectionTracker d (s.signalCode q.req.sat.system q.req.l5) q.mode (sampleAt (s.clock.tb3 + s.clock.offset)) s.loopSet
        l5 := if 3 ≤ x.l5.tries then x.l5 else {} }) := by
    unfold searchDone
    rw [searched]
    show (s.unitFreed u).handDetection q d = _
    unfold State.handDetection
    dsimp only
    rw [show (s.unitFreed u).channelOf q.req.sat q.req.portB = some c from onChannel]
    rfl
  rw [handed]
  exact ⟨tfind_tdel _ _, channel_onChannel c _⟩

/-- A vain search waits again, on the band that R56 asks for. -/
theorem searchDone_vain : tfind (searchDone u none s).gnss.units u = none ∧
    ((searchDone u none s).gnss.searches.any q.req.same = true ∨
      (searchDone u none s).gnss.units.any (fun e => q.req.same e.2.req) = true) := by
  have again : ∃ direct, searchDone u none s = (s.unitFreed u).queueSearch { q.req with l5 := direct } := by
    unfold searchDone
    rw [searched]
    show ∃ direct, (s.unitFreed u).searchAgain q.req = _
    unfold State.searchAgain
    rw [show (s.unitFreed u).channelOf q.req.sat q.req.portB = some c from onChannel]
    exact ⟨_, rfl⟩
  obtain ⟨direct, again⟩ := again
  obtain ⟨_, units, queued⟩ := queueSearch_spec (s := s.unitFreed u) { q.req with l5 := direct }
  rw [again]
  exact ⟨by rw [units]; exact tfind_tdel _ _, queued⟩

end

end Sys2Proof.Machine

namespace Sys2Proof.Proofs

open Sys2Proof Sys2Proof.Machine

/-- Settles O31: each event by what it does to its channel or unit. -/
theorem trackersFollow : Obligations.TrackersFollow := by
  intro s running
  refine ⟨fun c l5 sums sides known => ⟨fun v holds active => ?boundary, fun idle => ?idle⟩,
    fun c l5 o known => ⟨fun idle => ?off, fun active past => ?late, fun active inTime => ?update⟩,
    fun c l5 v known searching holds => ⟨fun long => ?giveUp, fun short => ?keep⟩,
    fun c known unlocked pulling => ⟨fun long => ?timeout, fun short => ?wait⟩,
    fun u unit free lowest waiting => ?search, fun busy => ?busy, fun u c q searched channel => ⟨fun d => ?found, ?vain⟩⟩
  case boundary =>
    obtain ⟨roving, sweep, low, high, still, tracker⟩ :=
      integrationBoundary_tracker (s := s.begin) l5 sums sides known holds active
    obtain ⟨rates, written, extra, boundary⟩ := boundary_spec ((s.channel c).tracker l5) (s.signalCode v.system l5) l5 v.rate sums sides
      s.loopSet roving sweep
    exact ⟨_, rates, roving, sweep, running_next _ running, low, high, still, written, extra, tracker.trans boundary⟩
  case idle => exact (running_next _ running).trans (congrArg _ (integrationBoundary_idle (s := s.begin) l5 sums sides idle))
  case off => exact (running_next _ running).trans (congrArg _ (loopUpdate_idle (s := s.begin) idle))
  case late => exact ⟨_, running_next _ running, loopUpdate_late (s := s.begin) known active past⟩
  case update =>
    refine ⟨_, running_next _ running, ?_, fun first fresh coherent long strong v holds dual unused untried => ?_⟩
    · dsimp only
      rw [loopUpdate_tracker (s := s.begin) known active inTime]
      exact ⟨update_written _ o, rfl, update_strong, update_weak, update_tooWeak, update_lost, update_incoherent, update_locks,
        update_pullIn⟩
    · subst first
      exact loopUpdate_startsL5 (s := s.begin) known active inTime (update_locks coherent long strong).1 fresh holds dual unused untried
  case giveUp => exact ⟨_, running_next _ running, reacquisitionGiveUp_spec (s := s.begin) known searching holds long⟩
  case keep => exact (running_next _ running).trans (congrArg _ (if_pos (.inr (.inr short))))
  case timeout => exact ⟨_, running_next _ running, l5Timeout_spec (s := s.begin) known unlocked pulling long⟩
  case wait => exact (running_next _ running).trans (congrArg _ (if_pos (.inr (.inr (.inr short)))))
  case search =>
    obtain ⟨h, l, queue⟩ := List.exists_cons_of_ne_nil waiting
    obtain ⟨mem, least⟩ := firstOf_least h l
    rw [← queue] at mem least
    exact ⟨_, (running_next _ running).trans (congrArg _ (searchStart_takes (s := s.begin) unit free lowest queue)), firstOf h l, mem, least,
      fun b fresh buffer => beginSearch_spec (s := s.begin) u (firstOf h l) buffer⟩
  case busy => exact (running_next _ running).trans (congrArg _ (searchStart_waits (s := s.begin) busy))
  case found =>
    obtain ⟨free, tracker⟩ := searchDone_found (s := s.begin) searched channel d
    exact ⟨_, running_next _ running, free, fun first => tracker.trans (if_neg (by rw [first]; nofun)),
      fun second => tracker.trans (if_pos second)⟩
  case vain => exact ⟨_, running_next _ running, searchDone_vain (s := s.begin) searched channel⟩

end Sys2Proof.Proofs

/-! PROOF. Downlinks and the clear channel assessment (R249, R259, R281 to R284). -/

namespace Sys2Proof.Machine

variable {s : State} {c : Nat}

/-! ### A carriageway -/

theorem cw_onCw (c : Nat) (f : Carriageway → Carriageway) : (s.onCw c f).cw c = f (s.cw c) := tget_tmod_same _ _ _ _

theorem cw_congr {t : State} (air : t.air = s.air) (c : Nat) : t.cw c = s.cw c := by rw [Units.cw, air, Units.cw]

/-- A carriageway but for the notices that wait for it: items sent change no other part of it. -/
def Carriageway.butNotices (w : Carriageway) : Carriageway := { w with notices := [] }

theorem sentItem_cw (x : DownItem) : ((s.sentItem c x).cw c).butNotices = (s.cw c).butNotices := by
  unfold State.sentItem
  split
  · exact State.ite_same (fun u => (u.cw c).butNotices) rfl rfl
  · rw [cw_onCw]
    rfl
  · rfl
  · rfl
  · refine State.foldl_keeps (fun u : State => (u.cw c).butNotices) (fun t m => ?_) _ _
    rfl
  · rfl

/-! ### A downlink sent -/

/-- Messages have taken their numbers (R329). -/
def State.downNumbered (c : Nat) (s : State) : State :=
  (lanesOf c).foldl (fun (t : State) n => t.onAirLane n (fun a => a.number a.waiting.length)) s

/-- The items of a downlink that starts `delta` µs after the boundary (R283). -/
def State.downChosen (c delta : Nat) (s : State) : List DownItem :=
  if (s.cw c).beaconOnly then [] else fitting' (s.cfgNat 0x2501 5) delta (28 + (s.fixedElements c delta).length) [] (s.downItems c)

/-- Its items are sent: the counters of their frames are drawn, and what waited for them is over. -/
def State.itemsSent (c : Nat) (items : List DownItem) (s : State) : State :=
  items.foldl (State.sentItem c) (s.unicasts items).2.drawBroadcast

/-- Its PSDU: the broadcast frame, then a frame for each lane (R310). -/
def State.downPsdu (c delta : Nat) (items : List DownItem) (s : State) : Bytes :=
  s.broadcastFrame (s.fixedElements c delta ++ (items.filter (fun x => x.lane = 0xFF)).flatMap (·.elements)) ++ (s.unicasts items).1

/-- The downlink is accounted for on its carriageway, and its front end opened. -/
def State.downOpened (c mcs delta carried : Nat) (copy : Bool) (psdu : Bytes) (s : State) : State :=
  let retried := (s.cw c).tries ≠ 0
  let s := s.onCw c (fun w => { w with
    closed := true, sent := w.sent + 1, deferred := if retried then w.deferred + 1 else w.deferred
    carried := w.carried + BitVec.ofNat 32 carried, skipRun := 0, covered := [], haltOwed := false })
  let t0 := s.clock.source + 1000 * delta
  let te := t0 + 1000 * ppduMicros mcs psdu.length
  let s := if s.air.txrx then s else s.linesOpen .cwLna0En .cwTxRxSel .cwPaEn t0
  { s with air := { s.air with
    delivered := s.air.delivered || copy, txrx := true, pa := true, lna0 := false, lna1 := true
    downEnd := if s.air.txrx then max s.air.downEnd te else te } }

/-- The PPDU goes out from a scrambler state drawn, and counts. -/
def State.downEmitted (c mcs delta : Nat) (psdu : Bytes) (s : State) : State :=
  let s := s.draw.2.emit (.downlink c mcs delta psdu (ppdu mcs (s.draw.1 % 127 + 1) psdu))
  ((s.count (0x700 + c) 1).count (0x414 + c) 1).occupy (0x700 + c) (min 1000 (ppduMicros mcs psdu.length))

/-- The downlink's items sent, its account kept and its PPDU out. -/
def State.downOut (c delta : Nat) (s : State) : State :=
  let items := s.downChosen c delta
  let psdu := s.downPsdu c delta items
  (((s.itemsSent c items).downOpened c (s.cfgNat 0x2501 5) delta (s.carriedItems c ((s.downItems c).drop items.length))
    (decide (s.stagePos = 0) && !(s.cw c).beaconOnly) psdu).downEmitted c (s.cfgNat 0x2501 5) delta psdu)

theorem downNumbered_air : (s.downNumbered c).air = s.air := by
  unfold State.downNumbered
  refine State.foldl_keeps (fun u : State => u.air) (fun t n => ?_) _ _
  rfl

theorem downNumbered_settings : (s.downNumbered c).settings = s.settings := by
  unfold State.downNumbered
  refine State.foldl_keeps (fun u : State => u.settings) (fun t n => ?_) _ _
  rfl

theorem itemsSent_cw (items : List DownItem) : ((s.itemsSent c items).cw c).butNotices = (s.cw c).butNotices := by
  have drawn : (s.unicasts items).2.drawBroadcast.cw c = s.cw c :=
    cw_congr (s := s) (t := (s.unicasts items).2) (State.unicasts_within .air rfl) c
  exact (State.foldl_keeps (fun u : State => (u.cw c).butNotices) (fun _ x => sentItem_cw x) _ _).trans (congrArg _ drawn)

theorem downOpened_cw (mcs delta carried : Nat) (copy : Bool) (psdu : Bytes) : (s.downOpened c mcs delta carried copy psdu).cw c = { s.cw c with
    closed := true, sent := (s.cw c).sent + 1, deferred := if (s.cw c).tries ≠ 0 then (s.cw c).deferred + 1 else (s.cw c).deferred
    carried := (s.cw c).carried + BitVec.ofNat 32 carried, skipRun := 0, covered := [], haltOwed := false } := by
  unfold State.downOpened
  refine Eq.trans ?_ (cw_onCw (s := s) c (fun w => { w with
    closed := true, sent := w.sent + 1, deferred := if (s.cw c).tries ≠ 0 then w.deferred + 1 else w.deferred
    carried := w.carried + BitVec.ofNat 32 carried, skipRun := 0, covered := [], haltOwed := false }))
  exact State.ite_same (fun u : State => u.cw c) rfl rfl

theorem downEmitted_air (mcs delta : Nat) (psdu : Bytes) : (s.downEmitted c mcs delta psdu).air = s.air := by
  unfold State.downEmitted
  dsimp only
  rw [State.occupy_air, State.count_air, State.count_air]
  rfl

theorem downEmitted_out (mcs delta : Nat) (psdu : Bytes) : ∃ state, 1 ≤ state ∧ state ≤ 127 ∧
    Output.downlink c mcs delta psdu (ppdu mcs state psdu) ∈ (s.downEmitted c mcs delta psdu).out := by
  refine ⟨s.draw.1 % 127 + 1, by omega, by omega, ?_⟩
  generalize frame : Output.downlink c mcs delta psdu (ppdu mcs (s.draw.1 % 127 + 1) psdu) = o
  have emitted : o ∈ (s.draw.2.emit o).out := List.mem_append_right _ (List.mem_singleton.mpr rfl)
  have counted := State.out_count (a := 0x414 + c) (n := 1) (State.out_count (a := 0x700 + c) (n := 1) emitted)
  unfold State.downEmitted
  dsimp only
  rw [frame]
  exact counted

/-- A downlink is its numbers given, its frames out, and the skipped ones before it reported (R282 to R284). -/
theorem transmit_eq (delta : Nat) : s.transmit c delta =
    if (((s.downNumbered c).itemsSent c ((s.downNumbered c).downChosen c delta)).cw c).skipRun = 0 then (s.downNumbered c).downOut c delta
    else ((s.downNumbered c).downOut c delta).raise 0x0904 3 4 0xFF c (le 1 c ++ le 3 0 ++
      le 4 (((s.downNumbered c).itemsSent c ((s.downNumbered c).downChosen c delta)).cw c).skipRun.toNat) := rfl

section
variable (delta : Nat)

/-- The carriageway as the items sent leave it. -/
def State.cwSent (c delta : Nat) (s : State) : Carriageway :=
  ((s.downNumbered c).itemsSent c ((s.downNumbered c).downChosen c delta)).cw c

theorem cwSent_butNotices : (s.cwSent c delta).butNotices = (s.cw c).butNotices :=
  (itemsSent_cw _).trans (congrArg Carriageway.butNotices (cw_congr downNumbered_air c))

theorem cwSent_skipRun : (s.cwSent c delta).skipRun = (s.cw c).skipRun :=
  (congrArg Carriageway.skipRun (cwSent_butNotices (s := s) (c := c) delta) :)

theorem downNumbered_mcs : (s.downNumbered c).cfgNat 0x2501 5 = s.cfgNat 0x2501 5 := by
  unfold Units.cfgNat Units.cfg
  rw [downNumbered_settings]

theorem downOut_cw : ∃ carried, ((s.downNumbered c).downOut c delta).cw c = { s.cwSent c delta with
    closed := true, sent := (s.cwSent c delta).sent + 1
    deferred := if (s.cwSent c delta).tries ≠ 0 then (s.cwSent c delta).deferred + 1 else (s.cwSent c delta).deferred
    carried := carried, skipRun := 0, covered := [], haltOwed := false } :=
  ⟨_, (cw_congr (downEmitted_air ..) c).trans (downOpened_cw ..)⟩

theorem transmit_cw : (s.transmit c delta).cw c = ((s.downNumbered c).downOut c delta).cw c := by
  rw [transmit_eq]
  exact State.ite_same (fun u : State => u.cw c) rfl (cw_congr State.raise_air c)

/-- What a downlink leaves of its carriageway's account (R282 to R284). -/
theorem transmit_account : ((s.transmit c delta).cw c).closed = true ∧ ((s.transmit c delta).cw c).sent = (s.cw c).sent + 1 ∧
    ((s.transmit c delta).cw c).skipRun = 0 ∧ ((s.transmit c delta).cw c).covered = [] ∧
    ((s.transmit c delta).cw c).haltOwed = false ∧
    ((s.transmit c delta).cw c).deferred = (if (s.cw c).tries ≠ 0 then (s.cw c).deferred + 1 else (s.cw c).deferred) := by
  have same := cwSent_butNotices (s := s) (c := c) delta
  have sent : (s.cwSent c delta).sent = (s.cw c).sent := (congrArg Carriageway.sent same :)
  have tries : (s.cwSent c delta).tries = (s.cw c).tries := (congrArg Carriageway.tries same :)
  have deferred : (s.cwSent c delta).deferred = (s.cw c).deferred := (congrArg Carriageway.deferred same :)
  obtain ⟨carried, account⟩ := downOut_cw (s := s) (c := c) delta
  rw [transmit_cw, account, sent, tries, deferred]
  exact ⟨rfl, rfl, rfl, rfl, rfl, rfl⟩

theorem transmit_out : ∃ (psdu : Bytes) (state : Nat), 1 ≤ state ∧ state ≤ 127 ∧
    Output.downlink c (s.cfgNat 0x2501 5) delta psdu (ppdu (s.cfgNat 0x2501 5) state psdu) ∈ (s.transmit c delta).out := by
  rw [transmit_eq, ← downNumbered_mcs (s := s) (c := c)]
  obtain ⟨state, least, most, out⟩ := downEmitted_out (c := c)
    (s := ((s.downNumbered c).itemsSent c ((s.downNumbered c).downChosen c delta)).downOpened c ((s.downNumbered c).cfgNat 0x2501 5) delta
      ((s.downNumbered c).carriedItems c (((s.downNumbered c).downItems c).drop ((s.downNumbered c).downChosen c delta).length))
      (decide ((s.downNumbered c).stagePos = 0) && !((s.downNumbered c).cw c).beaconOnly)
      ((s.downNumbered c).downPsdu c delta ((s.downNumbered c).downChosen c delta)))
    ((s.downNumbered c).cfgNat 0x2501 5) delta ((s.downNumbered c).downPsdu c delta ((s.downNumbered c).downChosen c delta))
  exact ⟨_, state, least, most, State.out_ite out (State.out_raise out)⟩

/-- The first downlink sent after skipped ones reports their number (R284). -/
theorem transmit_reports (skipped : (s.cw c).skipRun ≠ 0) :
    (s.transmit c delta).reported 0x0904 3 4 0xFF (le 1 c ++ le 3 0 ++ le 4 (s.cw c).skipRun.toNat) := by
  have run : (((s.downNumbered c).itemsSent c ((s.downNumbered c).downChosen c delta)).cw c).skipRun = (s.cw c).skipRun :=
    cwSent_skipRun (s := s) delta
  rw [transmit_eq, run, if_neg skipped]
  exact State.raise_reported ..

end

/-! ### A downlink skipped -/

/-- A skipped downlink bars the owned slots of its tick, and its first one in a row is reported (R281, R284). -/
theorem skip_spec : (s.skip c).cw c = { s.cw c with
      closed := true, skippedNow := true, skipped := (s.cw c).skipped + 1, skipRun := (s.cw c).skipRun + 1 } ∧
    ((s.cw c).skipRun = 0 → (s.skip c).reported 0x0903 2 4 0xFF (le 1 c)) := by
  have barred (l : List Nat) (u : State) : (l.foldl (fun (t : State) n =>
      if (t.lane n).occupied then t.onAirLane n (fun a => { a with slotBarred := true }) else t) u).air = u.air := by
    refine State.foldl_keeps (fun t : State => t.air) (fun t n => ?_) _ _
    exact State.ite_same (fun t : State => t.air) rfl rfl
  unfold State.skip
  dsimp only
  refine ⟨?_, fun first => ?_⟩
  · refine (cw_congr State.trigger_air c).trans (Eq.trans ?_ (cw_onCw (s := s) c (fun w => { w with
      closed := true, skippedNow := true, skipped := w.skipped + 1, skipRun := w.skipRun + 1 })))
    exact State.ite_same (fun u : State => u.cw c) (cw_congr (State.raise_air.trans (barred _ _)) c) (cw_congr (barred _ _) c)
  · rw [if_pos first]
    exact State.reported_congr (State.raise_reported ..) (by rw [State.trigger_access]) State.trigger_clock State.trigger_chain

/-! ### The assessment -/

section
variable {energy : Int}

theorem ccaDone_idle (idle : s.onAir = false ∨ (s.cw c).closed = true) : ccaDone c energy s = s := by
  refine if_pos (.inr ?_)
  rcases idle with idle | idle
  · exact .inl (by simp [idle])
  · exact .inr (.inl idle)

variable (known : c < 4) (enabled : s.cfg 0x2501 (c + 1) ≠ 255) (onAir : s.onAir = true) (waiting : (s.cw c).closed = false)
include known enabled onAir waiting

theorem ccaDone_due : ccaDone c energy s =
    if !s.busy energy then (s.stamped ((s.cw c).wait * 1000)).transmit c (s.cw c).wait
    else if (s.cw c).tries < 3 then
      (s.stamped ((s.cw c).wait * 1000)).draw.2.onCw c (fun w => { w with
        tries := w.tries + 1, wait := w.wait + (s.stamped ((s.cw c).wait * 1000)).draw.1 % 16 * 20 + 20 })
    else (s.stamped ((s.cw c).wait * 1000)).skip c := by
  refine if_neg ?_
  rintro (h | h | h | h)
  · omega
  · simp [onAir] at h
  · simp [waiting] at h
  · exact enabled h

theorem ccaDone_clear (clear : energy ≤ 100 * (-43 - s.cfg 0x2501 8 + s.cfg 0x2501 9)) :
    ccaDone c energy s = (s.stamped ((s.cw c).wait * 1000)).transmit c (s.cw c).wait := by
  rw [ccaDone_due known enabled onAir waiting]
  exact if_pos (by simp [State.busy, clear])

theorem ccaDone_again (busy : 100 * (-43 - s.cfg 0x2501 8 + s.cfg 0x2501 9) < energy) (few : (s.cw c).tries < 3) :
    ∃ k : Nat, k < 16 ∧ (ccaDone c energy s).cw c = { s.cw c with tries := (s.cw c).tries + 1, wait := (s.cw c).wait + k * 20 + 20 } := by
  rw [ccaDone_due known enabled onAir waiting, if_neg (by simp [State.busy, busy]), if_pos few]
  exact ⟨_, Nat.mod_lt _ (by decide), cw_onCw c _⟩

theorem ccaDone_skips (busy : 100 * (-43 - s.cfg 0x2501 8 + s.cfg 0x2501 9) < energy) (all : 3 ≤ (s.cw c).tries) :
    ccaDone c energy s = (s.stamped ((s.cw c).wait * 1000)).skip c := by
  rw [ccaDone_due known enabled onAir waiting, if_neg (by simp [State.busy, busy]), if_neg (Nat.not_lt.mpr all)]

end

end Sys2Proof.Machine

namespace Sys2Proof.Proofs

open Sys2Proof Sys2Proof.Machine

/-- Settles O26: a clear channel by the downlink sent, a busy one by another assessment or the downlink skipped. -/
theorem downlinksAssessed : Obligations.DownlinksAssessed := by
  intro s c energy running known enabled
  refine ⟨fun onAir waiting => ⟨fun clear => ?clear, fun busy few => ?again, fun busy all => ?skip⟩, fun idle => ?idle⟩
  case clear =>
    obtain ⟨closed, sent, run, covered, owed, deferred⟩ :=
      transmit_account (s := s.begin.stamped ((s.cw c).wait * 1000)) (c := c) (s.cw c).wait
    exact ⟨_, (running_next _ running).trans (congrArg _ (ccaDone_clear (s := s.begin) known enabled onAir waiting clear)), closed, sent, run,
      covered, owed, deferred, transmit_out (s := s.begin.stamped ((s.cw c).wait * 1000)) (s.cw c).wait,
      transmit_reports (s := s.begin.stamped ((s.cw c).wait * 1000)) (s.cw c).wait⟩
  case again => exact ⟨_, running_next _ running, ccaDone_again (s := s.begin) known enabled onAir waiting busy few⟩
  case skip =>
    exact ⟨_, (running_next _ running).trans (congrArg _ (ccaDone_skips (s := s.begin) known enabled onAir waiting busy all)),
      skip_spec (s := s.begin.stamped ((s.cw c).wait * 1000))⟩
  case idle => exact (running_next _ running).trans (congrArg _ (ccaDone_idle (s := s.begin) idle))

end Sys2Proof.Proofs

/-! PROOF. The verge channel and retransmissions (R268, R273, R294, R295, R331). -/

namespace Sys2Proof.Machine

variable {s : State}

/-! ### Acknowledgements that do not come -/

theorem airLane_onAirLane_same (n : Nat) (f : AirLane → AirLane) : (s.onAirLane n f).airLane n = f (s.airLane n) := tget_tmod_same _ _ _ _

section
variable {n msn : Nat}

theorem downlinkRetransmit_unknown (unknown : (s.airLane n).unacked.find? (fun x => x.msn = msn) = none) :
    downlinkRetransmit n msn s = s := by
  unfold downlinkRetransmit
  rw [unknown]

variable {m : DownMsg} (found : (s.airLane n).unacked.find? (fun x => x.msn = msn) = some m)
include found

theorem downlinkRetransmit_found : downlinkRetransmit n msn s =
    if m.queued ∨ m.slots < s.cfgNat 0x2507 2 then s
    else if m.sent < s.cfgNat 0x2507 1 then
      s.onAirLane n (fun a => { a with unacked := a.unacked.map (fun x => if x.msn = msn then { x with queued := true } else x) })
    else
      (s.onAirLane n (fun a => { a with
        unacked := a.unacked.filter (fun x => x.msn ≠ msn), undelivered := a.undelivered + 1 })).raise 0x1001 1 4 n 0
        (le 1 msn ++ le 1 m.typ) := by
  unfold downlinkRetransmit
  rw [found]

variable (idle : m.queued = false) (due : s.cfgNat 0x2507 2 ≤ m.slots)
include idle due

/-- A message whose slots passed is sent again. -/
theorem downlinkRetransmit_again (few : m.sent < s.cfgNat 0x2507 1) : (downlinkRetransmit n msn s).airLane n = { s.airLane n with
    unacked := (s.airLane n).unacked.map (fun x => if x.msn = msn then { x with queued := true } else x) } := by
  rw [downlinkRetransmit_found found, if_neg (by simp [idle, due]), if_pos few]
  exact airLane_onAirLane_same n _

/-- After its last transmission it is given up, and reported. -/
theorem downlinkRetransmit_givesUp (all : s.cfgNat 0x2507 1 ≤ m.sent) :
    (downlinkRetransmit n msn s).airLane n = { s.airLane n with
      unacked := (s.airLane n).unacked.filter (fun x => x.msn ≠ msn), undelivered := (s.airLane n).undelivered + 1 } ∧
    (downlinkRetransmit n msn s).reported 0x1001 1 4 n (le 1 msn ++ le 1 m.typ) := by
  rw [downlinkRetransmit_found found, if_neg (by simp [idle, due]), if_neg (Nat.not_lt.mpr all)]
  refine ⟨?_, State.raise_reported ..⟩
  unfold State.airLane
  rw [State.raise_airLanes]
  exact airLane_onAirLane_same n _

end

/-! ### Frames of the verge transmitter -/

/-- A frame that begins: its counter is drawn, the front end is set to send, and the frame is on air (R273, R295). -/
theorem beginVerge_air (code : Nat) (payload : Bytes) : (s.beginVerge code payload).air = { s.air with
    broadcast := s.air.broadcast + 1, vgTxrx := true, vgPa := true, vgLna := false
    verge := some { code := code, payload := payload, began := s.vergeStart }, delivered := s.air.delivered || code = 8 } := by
  unfold State.beginVerge
  dsimp only
  rw [State.occupy_air, State.count_air]
  rfl

theorem beginVerge_out (code : Nat) (payload : Bytes) :
    ∃ bytes, Output.verge s.vergeChannel bytes (vergeFrame bytes) ∈ (s.beginVerge code payload).out :=
  ⟨_, State.out_count (List.mem_append_right _ (List.mem_singleton.mpr rfl))⟩

theorem onAir_congr {t : State} (power : t.power = s.power) (halt : t.halt = s.halt) (pair : t.pair = s.pair) (keys : t.keys = s.keys) :
    t.onAir = s.onAir := by
  unfold State.onAir State.sendGeneration
  rw [power, halt, pair, keys]

theorem onAir_count (sel n : Nat) : (s.count sel n).onAir = s.onAir :=
  onAir_congr State.count_power State.count_halt State.count_pair State.count_keys

theorem vergeChannel_congr {t : State} (air : t.air = { s.air with beaconDone := t.air.beaconDone }) (settings : t.settings = s.settings) :
    t.vergeChannel = s.vergeChannel := by
  unfold State.vergeChannel Units.cfg
  rw [air, settings]

theorem vergeChannel_count (sel n : Nat) : (s.count sel n).vergeChannel = s.vergeChannel :=
  vergeChannel_congr (State.count_air.trans (by rw [State.count_air])) State.count_settings

/-- A frame other than a halt frame counts before it is sent. -/
theorem sendVerge_counted {code : Nat} (onAir : s.onAir = true) (other : code ≠ 9) :
    (if s.onAir = true ∧ code ≠ 9 then s.count 0x418 1 else s) = s.count 0x418 1 := if_pos ⟨onAir, other⟩

/-- A frame for a free transmitter begins at once; behind another it waits (R295). -/
theorem sendVerge_begins {code : Nat} {payload : Bytes} (onAir : s.onAir = true) (other : code ≠ 9) (free : s.air.verge = none) :
    s.sendVerge code payload = (s.count 0x418 1).beginVerge code payload := by
  unfold State.sendVerge
  rw [sendVerge_counted onAir other]
  dsimp only
  rw [if_neg (by simp [onAir_count, onAir]), State.count_air, free]

theorem sendVerge_waits {code : Nat} {payload : Bytes} {f : VergeFrame} (onAir : s.onAir = true) (other : code ≠ 9)
    (busy : s.air.verge = some f) : (s.sendVerge code payload).air = { s.air with
      vergeWaiting := s.air.vergeWaiting ++ [{ code := code, payload := payload, began := s.now }] } := by
  unfold State.sendVerge
  rw [sendVerge_counted onAir other]
  dsimp only
  rw [if_neg (by simp [onAir_count, onAir]), State.count_air, busy]
  dsimp only
  rw [show (s.count 0x418 1).now = s.now by rw [State.now, State.count_clock, State.now]]

/-! ### The stage beacon -/

/-- The instant at which the stage's beacon is sent. -/
def State.beaconSent (s : State) : State :=
  ({ s with air := { s.air with beaconDone := true } } : State).stamped (s.beaconStart % 20000 * 1000)

theorem vergeBeacon_idle (idle : s.onAir = false ∨ s.air.beaconDone = true ∨ s.stagePos ≠ (300 + 6000 * s.cfgNat 0x2504 1) / 20000 ∨
    s.air.stageBody = []) : vergeBeacon s = s := by
  refine if_pos ?_
  rcases idle with idle | idle | idle | idle
  · exact .inl (by simp [idle])
  · exact .inr (.inl idle)
  · exact .inr (.inr (.inl idle))
  · exact .inr (.inr (.inr (by simp [idle])))

section
variable (onAir : s.onAir = true) (fresh : s.air.beaconDone = false)
  (place : s.stagePos = (300 + 6000 * s.cfgNat 0x2504 1) / 20000) (body : s.air.stageBody ≠ [])
include onAir fresh place body

theorem vergeBeacon_due : vergeBeacon s = s.beaconSent.sendVerge 8 (le 1 s.hopIndex ++ s.air.stageBody) := by
  refine if_neg ?_
  rintro (h | h | h | h)
  · simp [onAir] at h
  · simp [fresh] at h
  · exact h place
  · exact body (List.isEmpty_iff.mp h)

/-- The beacon on a free transmitter (R294). -/
theorem vergeBeacon_free (free : s.air.verge = none) : (vergeBeacon s).air.beaconDone = true ∧ (vergeBeacon s).air.delivered = true ∧
    (∃ f, (vergeBeacon s).air.verge = some f ∧ f.code = 8) ∧ (vergeBeacon s).air.broadcast = s.air.broadcast + 1 ∧
    (vergeBeacon s).air.vgTxrx = true ∧ (vergeBeacon s).air.vgPa = true ∧ (vergeBeacon s).air.vgLna = false ∧
    ∃ bytes, Output.verge s.vergeChannel bytes (vergeFrame bytes) ∈ (vergeBeacon s).out := by
  have begins : vergeBeacon s = (s.beaconSent.count 0x418 1).beginVerge 8 (le 1 s.hopIndex ++ s.air.stageBody) :=
    (vergeBeacon_due onAir fresh place body).trans (sendVerge_begins (s := s.beaconSent) onAir (by decide) free)
  have channel : (s.beaconSent.count 0x418 1).vergeChannel = s.vergeChannel :=
    (vergeChannel_count 0x418 1).trans (vergeChannel_congr rfl rfl)
  rw [begins, beginVerge_air, State.count_air, ← channel]
  exact ⟨rfl, Bool.or_true _, ⟨_, rfl, rfl⟩, rfl, rfl, rfl, rfl, beginVerge_out 8 _⟩

/-- The beacon behind a frame in progress. -/
theorem vergeBeacon_busy {f : VergeFrame} (busy : s.air.verge = some f) : (vergeBeacon s).air.beaconDone = true ∧
    (vergeBeacon s).air.verge = some f ∧ ∃ g, (vergeBeacon s).air.vergeWaiting = s.air.vergeWaiting ++ [g] ∧ g.code = 8 := by
  rw [vergeBeacon_due onAir fresh place body, sendVerge_waits (s := s.beaconSent) onAir (by decide) busy]
  exact ⟨rfl, busy, _, rfl, rfl⟩

end

/-! ### The end of a frame -/

/-- The duty account changes nothing but itself and what it reports. -/
theorem addDuty_air (us : Nat) : ∃ duty raised exceeded, (s.addDuty us).air =
    { s.air with duty := duty, dutyRaised := raised, exceeded := exceeded } := by
  unfold State.addDuty
  dsimp only
  split
  · exact ⟨_, _, _, State.raise_air⟩
  · exact ⟨_, _, _, rfl⟩

/-- A frame off the air: its front end closed, its time accounted for. -/
def State.vergeFreed (us : Nat) (f : VergeFrame) (s : State) : State :=
  let s := s.stamped (f.began + 1000 * us - s.clock.source).toNat
  let s := s.linesClose .vgLnaEn .vgTxRxSel .vgPaEn (f.began + 1000 * us)
  (({ s with air := { s.air with verge := none } } : State).vergeLines false).addDuty us

theorem vergeFreed_air (us : Nat) (f : VergeFrame) : ∃ duty raised exceeded, (s.vergeFreed us f).air =
    { s.air with
      verge := none, vgTxrx := false, vgPa := false, vgLna := true, duty := duty, dutyRaised := raised, exceeded := exceeded } :=
  addDuty_air us

theorem vergeFreed_onAir (us : Nat) (f : VergeFrame) : (s.vergeFreed us f).onAir = s.onAir :=
  onAir_congr (State.addDuty_within .power rfl) (State.addDuty_within .halt rfl) (State.addDuty_within .pair rfl)
    (State.addDuty_within .keys rfl)

theorem vergeEnd_idle {us : Nat} (free : s.air.verge = none) : vergeEnd us s = s := by
  unfold vergeEnd
  rw [free]

theorem vergeEnd_eq {us : Nat} {f : VergeFrame} (sending : s.air.verge = some f) :
    vergeEnd us s = if (s.vergeFreed us f).onAir then (s.vergeFreed us f).nextVerge else s.vergeFreed us f := by
  unfold vergeEnd
  rw [sending]
  rfl

/-- Off the air, or with nothing waiting, the transmitter is free (R268, R273). -/
theorem vergeEnd_free {us : Nat} {f : VergeFrame} (sending : s.air.verge = some f) (last : s.onAir = false ∨ s.air.vergeWaiting = []) :
    (vergeEnd us s).air.verge = none ∧ (vergeEnd us s).air.vgTxrx = false ∧ (vergeEnd us s).air.vgPa = false ∧
      (vergeEnd us s).air.vgLna = true := by
  obtain ⟨duty, raised, exceeded, freed⟩ := vergeFreed_air (s := s) us f
  rw [vergeEnd_eq sending]
  split
  · next onAir =>
    have none : (s.vergeFreed us f).air.vergeWaiting = [] := by
      rw [freed]
      exact last.resolve_left (by rw [← vergeFreed_onAir us f, onAir]; nofun)
    unfold State.nextVerge
    rw [none]
    show (s.vergeFreed us f).air.verge = Option.none ∧ (s.vergeFreed us f).air.vgTxrx = false ∧ (s.vergeFreed us f).air.vgPa = false ∧
      (s.vergeFreed us f).air.vgLna = true
    rw [freed]
    exact ⟨rfl, rfl, rfl, rfl⟩
  · rw [freed]
    exact ⟨rfl, rfl, rfl, rfl⟩

/-- Else the next frame that waits begins (R295). -/
theorem nextVerge_spec {g : VergeFrame} {rest : List VergeFrame} (waiting : s.air.vergeWaiting = g :: rest) :
    s.nextVerge.air.vergeWaiting = rest ∧ (∃ h, s.nextVerge.air.verge = some h ∧ h.code = g.code ∧ h.payload = g.payload) ∧
      s.nextVerge.air.vgPa = true := by
  unfold State.nextVerge
  rw [waiting]
  dsimp only
  split
  · rw [beginVerge_air]
    exact ⟨rfl, ⟨_, rfl, rfl, rfl⟩, rfl⟩
  · rw [beginVerge_air]
    exact ⟨rfl, ⟨_, rfl, rfl, rfl⟩, rfl⟩

theorem vergeEnd_next {us : Nat} {f g : VergeFrame} {rest : List VergeFrame} (sending : s.air.verge = some f) (onAir : s.onAir = true)
    (waiting : s.air.vergeWaiting = g :: rest) : vergeEnd us s = (s.vergeFreed us f).nextVerge ∧
      (s.vergeFreed us f).air.vergeWaiting = g :: rest := by
  obtain ⟨duty, raised, exceeded, freed⟩ := vergeFreed_air (s := s) us f
  exact ⟨(vergeEnd_eq sending).trans (if_pos ((vergeFreed_onAir us f).trans onAir)), by rw [freed]; exact waiting⟩

end Sys2Proof.Machine

namespace Sys2Proof.Proofs

open Sys2Proof Sys2Proof.Machine

/-- Settles O27: a retransmission by the message's count, the stage beacon and the end of a frame by the transmitter's frame. -/
theorem vergeAndRetransmissions : Obligations.VergeAndRetransmissions := by
  intro s running
  refine ⟨fun n msn m found => ⟨fun idle => ?idle, fun idle due few => ?again, fun idle due all => ?giveUp⟩, fun n msn unknown => ?unknown,
    fun onAir fresh place body => ⟨fun free => ?beacon, fun f busy => ?behind⟩, fun none => ?none, fun us free => ?free,
    fun us f sending => ⟨fun last => ?last, fun g rest onAir waiting => ?next⟩⟩
  case idle => exact (running_next _ running).trans (congrArg _ ((downlinkRetransmit_found (s := s.begin) found).trans (if_pos idle)))
  case again => exact ⟨_, running_next _ running, downlinkRetransmit_again (s := s.begin) found idle due few⟩
  case giveUp => exact ⟨_, running_next _ running, downlinkRetransmit_givesUp (s := s.begin) found idle due all⟩
  case unknown => exact (running_next _ running).trans (congrArg _ (downlinkRetransmit_unknown (s := s.begin) unknown))
  case beacon => exact ⟨_, running_next _ running, vergeBeacon_free (s := s.begin) onAir fresh place body free⟩
  case behind => exact ⟨_, running_next _ running, vergeBeacon_busy (s := s.begin) onAir fresh place body busy⟩
  case none => exact (running_next _ running).trans (congrArg _ (vergeBeacon_idle (s := s.begin) none))
  case free => exact (running_next _ running).trans (congrArg _ (vergeEnd_idle (s := s.begin) free))
  case last => exact ⟨_, running_next _ running, vergeEnd_free (s := s.begin) sending last⟩
  case next =>
    obtain ⟨ended, still⟩ := vergeEnd_next (s := s.begin) (us := us) sending onAir waiting
    exact ⟨_, (running_next _ running).trans (congrArg _ ended), nextVerge_spec still⟩

end Sys2Proof.Proofs

/-! PROOF. Uplink frames and the steps of their receiver (R248, R289 to R291, R307 to R313, R317, R325 to R327, R330). -/

namespace Sys2Proof.Machine

variable {s : State}

/-! ### Reading a frame -/

/-- The state at the instant of a PPDU, counters moved on: what a receiver judges a frame against stands as it was. -/
def State.tuned (offset : Nat) (counters : Counters) (s : State) : State :=
  { s with clock := { s.clock with offset := offset }, counters := counters }

theorem tuned_decoded {c : Nat} {p : Ppdu} : ∃ offset counters,
    ((s.stamped p.stamp).count (0x700 + c) 1).occupy (0x700 + c) (min 1000 (ppduMicros p.mcs p.length)) = s.tuned offset counters := by
  obtain ⟨k, counted⟩ := count_eq (0x700 + c) 1 (s.stamped p.stamp)
  refine ⟨max s.clock.offset p.stamp,
    (((s.stamped p.stamp).count (0x700 + c) 1).occupy (0x700 + c) (min 1000 (ppduMicros p.mcs p.length))).counters, ?_⟩
  rw [counted]
  rfl

section
variable {c slot : Nat} {p : Ppdu} {psdu : Bytes}

/-- A unit off the air, a carriageway without a channel, or a PPDU outside the uplink slots: nothing is received (R277). -/
theorem uplinkReceive_idle (idle : s.onAir = false ∨ s.cfg 0x2501 (c + 1) = 255 ∨ slotAt p.start = none) :
    uplinkReceive c p psdu s = s := by
  unfold uplinkReceive
  rcases idle with idle | idle | idle
  · exact if_pos (.inr (.inl (by simp [idle])))
  · exact if_pos (.inr (.inr idle))
  · rw [idle]
    exact ite_self _

variable (known : c < 4) (onAir : s.onAir = true) (enabled : s.cfg 0x2501 (c + 1) ≠ 255) (inSlot : slotAt p.start = some slot)
include known onAir enabled inSlot

/-- A PPDU in a slot whose header fails its checks is only counted (R248). -/
theorem uplinkReceive_headerBad (bad : headerBad p slot = true) : (uplinkReceive c p psdu s).cw c =
      { s.cw c with headerErrors := (s.cw c).headerErrors + 1 } ∧ (uplinkReceive c p psdu s).airLanes = s.airLanes := by
  have counted : uplinkReceive c p psdu s =
      (s.stamped p.stamp).onCw c (fun w => { w with headerErrors := w.headerErrors + 1 }) := by
    unfold uplinkReceive
    rw [if_neg (by simp [onAir, enabled, known]), inSlot]
    exact if_pos bad
  rw [counted]
  exact ⟨cw_onCw c _, rfl⟩

variable (good : headerBad p slot = false)
include good

theorem uplinkReceive_decoded : ∃ offset counters,
    (s.readFrame psdu = none → uplinkReceive c p psdu s = s.tuned offset counters) ∧
      ∀ f, s.readFrame psdu = some f → uplinkReceive c p psdu s = (s.tuned offset counters).uplinkFrame c slot p f := by
  obtain ⟨o, k, decoded⟩ := tuned_decoded (s := s) (c := c) (p := p)
  refine ⟨o, k, fun unread => ?_, fun f read => ?_⟩
  · unfold uplinkReceive
    rw [if_neg (by simp [onAir, enabled, known]), inSlot]
    dsimp only
    rw [if_neg (by simp [good]), decoded, show (s.tuned o k).readFrame psdu = none from unread]
  · unfold uplinkReceive
    rw [if_neg (by simp [onAir, enabled, known]), inSlot]
    dsimp only
    rw [if_neg (by simp [good]), decoded, show (s.tuned o k).readFrame psdu = some f from read]

end

/-! ### Steps 1 to 3: header, complements, sender -/

section
variable {c slot : Nat} {p : Ppdu} {f : AirFrame} (uplink : f.frameType = 3) (whole : p.length = 28 + f.bodyLength)
  (dest : f.dest = s.address)
include uplink whole dest

theorem uplinkFrame_judged : s.uplinkFrame c slot p f =
    if f.pairComp ≠ ~~~ f.pairEpoch ∨ f.laneComp ≠ ~~~ f.laneEpoch then
      (if decide (f.sender / 256 = s.pairNumber) && decide (f.sender % 256 < 192) then
        s.onAirLane (f.sender % 256) (fun a => { a with complement := a.complement + 1 }) else s)
    else if !(decide (f.sender / 256 = s.pairNumber) && decide (f.sender % 256 < 192) &&
        ((s.lane (f.sender % 256)).occupied || requestOnly f)) then { s with air := { s.air with unknown := s.air.unknown + 1 } }
    else if !s.acceptsGeneration (f.sender % 256) f then
      s.onAirLane (f.sender % 256) (fun a => { a with micFailures := a.micFailures + 1 })
    else s.judgeFrame (f.sender % 256) f (s.ownerOf c slot) (s.ownerOf c slot).isNone c :=
  if_neg (by simp [uplink, whole, dest])

omit uplink whole dest in
theorem known_iff : (decide (f.sender / 256 = s.pairNumber) && decide (f.sender % 256 < 192) &&
      ((s.lane (f.sender % 256)).occupied || requestOnly f)) = true ↔
    (f.sender / 256 = s.pairNumber ∧ f.sender % 256 < 192) ∧ ((s.lane (f.sender % 256)).occupied = true ∨ requestOnly f = true) := by
  simp only [Bool.and_eq_true, Bool.or_eq_true, decide_eq_true_eq]

/-- A frame that fails its complements counts for the lane it names (R308). -/
theorem uplinkFrame_complement (broken : ¬(f.pairComp = ~~~ f.pairEpoch ∧ f.laneComp = ~~~ f.laneEpoch))
    (ours : f.sender / 256 = s.pairNumber ∧ f.sender % 256 < 192) : (s.uplinkFrame c slot p f).airLane (f.sender % 256) =
      { s.airLane (f.sender % 256) with complement := (s.airLane (f.sender % 256)).complement + 1 } := by
  rw [uplinkFrame_judged uplink whole dest, if_pos (not_and_or.mp broken), if_pos (by simp [ours])]
  exact airLane_onAirLane_same _ _

section
variable (intact : f.pairComp = ~~~ f.pairEpoch ∧ f.laneComp = ~~~ f.laneEpoch)
include intact

theorem uplinkFrame_unknown (unknown : ¬((f.sender / 256 = s.pairNumber ∧ f.sender % 256 < 192) ∧
    ((s.lane (f.sender % 256)).occupied = true ∨ requestOnly f = true))) :
    s.uplinkFrame c slot p f = { s with air := { s.air with unknown := s.air.unknown + 1 } } := by
  rw [uplinkFrame_judged uplink whole dest, if_neg (by simp [intact])]
  exact if_pos (by rw [Bool.not_eq_true', ← Bool.not_eq_true, known_iff]; exact unknown)

variable (known : (f.sender / 256 = s.pairNumber ∧ f.sender % 256 < 192) ∧
    ((s.lane (f.sender % 256)).occupied = true ∨ requestOnly f = true))
include known

theorem uplinkFrame_known : s.uplinkFrame c slot p f =
    if !s.acceptsGeneration (f.sender % 256) f then
      s.onAirLane (f.sender % 256) (fun a => { a with micFailures := a.micFailures + 1 })
    else s.judgeFrame (f.sender % 256) f (s.ownerOf c slot) (s.ownerOf c slot).isNone c := by
  rw [uplinkFrame_judged uplink whole dest, if_neg (by simp [intact])]
  exact if_neg (by rw [Bool.not_eq_true', ← Bool.not_eq_true, known_iff, not_not]; exact known)

/-- A generation that is not accepted opens no frame (R311, R333). -/
theorem uplinkFrame_generation (other : s.acceptsGeneration (f.sender % 256) f = false) :
    (s.uplinkFrame c slot p f).airLane (f.sender % 256) =
      { s.airLane (f.sender % 256) with micFailures := (s.airLane (f.sender % 256)).micFailures + 1 } := by
  rw [uplinkFrame_known uplink whole dest intact known, if_pos (by simp [other])]
  exact airLane_onAirLane_same _ _

theorem uplinkFrame_accepted (accepted : s.acceptsGeneration (f.sender % 256) f = true) : s.uplinkFrame c slot p f =
    s.judgeFrame (f.sender % 256) f (s.ownerOf c slot) (s.ownerOf c slot).isNone c := by
  rw [uplinkFrame_known uplink whole dest intact known, if_neg (by simp [accepted])]

end
end

/-- A frame with its complements right, of a known sender, under a generation that is accepted (R307, R308, R311). -/
def State.RightFrame (s : State) (f : AirFrame) : Prop :=
  (f.pairComp = ~~~ f.pairEpoch ∧ f.laneComp = ~~~ f.laneEpoch) ∧
    ((f.sender / 256 = s.pairNumber ∧ f.sender % 256 < 192) ∧
      ((s.lane (f.sender % 256)).occupied = true ∨ requestOnly f = true)) ∧ s.acceptsGeneration (f.sender % 256) f = true

/-- A right frame of the epochs in force whose counter is new (R309, R325, R326). -/
def State.FreshFrame (s : State) (f : AirFrame) : Prop :=
  let w := s.windowOf (f.sender % 256) f.generation
  (s.RightFrame f ∧ f.pairEpoch = s.pair.epoch ∧ (requestOnly f = true ∨ f.laneEpoch = (s.lane (f.sender % 256)).epoch)) ∧
    w.judge (w.extend f.counter) = .accept ∧ (requestOnly f = true → w.high < w.extend f.counter)

/-! ### Steps 4 to 7: epochs and the replay window -/

section
variable {n c : Nat} {f : AirFrame} {owned : Option Nat} {contention : Bool}

theorem judgeFrame_earlierPair (above : epochAbove s.pair.epoch f.pairEpoch = true) : (s.judgeFrame n f owned contention c).airLane n =
    { s.airLane n with earlierPair := (s.airLane n).earlierPair + 1 } :=
  (congrArg (fun t : State => t.airLane n) (if_pos above)).trans (airLane_onAirLane_same _ _)

section
variable (pair : f.pairEpoch = s.pair.epoch)
include pair

theorem judgeFrame_samePair : s.judgeFrame n f owned contention c =
    if !requestOnly f ∧ f.laneEpoch ≠ (s.lane n).epoch then s.onAirLane n (fun a => { a with otherEpoch := a.otherEpoch + 1 })
    else if (s.windowOf n f.generation).judge ((s.windowOf n f.generation).extend f.counter) = .tooOld ∨
        (requestOnly f ∧ (s.windowOf n f.generation).judge ((s.windowOf n f.generation).extend f.counter) = .accept ∧
          (s.windowOf n f.generation).extend f.counter ≤ (s.windowOf n f.generation).high) then
      s.onAirLane n (fun a => { a with tooOld := a.tooOld + 1 })
    else if (s.windowOf n f.generation).judge ((s.windowOf n f.generation).extend f.counter) = .repeated then
      s.onAirLane n (fun a => { a with repeated := a.repeated + 1 })
    else if !f.authentic then s.onAirLane n (fun a => { a with micFailures := a.micFailures + 1 })
    else s.takeFrame n f ((s.windowOf n f.generation).extend f.counter) owned contention c :=
  (if_neg (by simp [epochAbove, pair])).trans (if_neg (by simp [pair]))

theorem judgeFrame_otherEpoch (frame : requestOnly f = false) (other : f.laneEpoch ≠ (s.lane n).epoch) :
    (s.judgeFrame n f owned contention c).airLane n = { s.airLane n with otherEpoch := (s.airLane n).otherEpoch + 1 } := by
  rw [judgeFrame_samePair pair, if_pos ⟨by simp [frame], other⟩]
  exact airLane_onAirLane_same _ _

variable (lane : requestOnly f = true ∨ f.laneEpoch = (s.lane n).epoch)
include lane

omit pair in
theorem sameLane : ¬((!requestOnly f) = true ∧ f.laneEpoch ≠ (s.lane n).epoch) := by
  rintro ⟨frame, other⟩
  exact lane.elim (by simpa using frame) other

theorem judgeFrame_tooOld (old : (s.windowOf n f.generation).judge ((s.windowOf n f.generation).extend f.counter) = .tooOld) :
    (s.judgeFrame n f owned contention c).airLane n = { s.airLane n with tooOld := (s.airLane n).tooOld + 1 } := by
  rw [judgeFrame_samePair pair, if_neg (sameLane lane), if_pos (.inl old)]
  exact airLane_onAirLane_same _ _

theorem judgeFrame_repeated (again : (s.windowOf n f.generation).judge ((s.windowOf n f.generation).extend f.counter) = .repeated) :
    (s.judgeFrame n f owned contention c).airLane n = { s.airLane n with repeated := (s.airLane n).repeated + 1 } := by
  rw [judgeFrame_samePair pair, if_neg (sameLane lane), if_neg (by simp [again]), if_pos again]
  exact airLane_onAirLane_same _ _

variable (accept : (s.windowOf n f.generation).judge ((s.windowOf n f.generation).extend f.counter) = .accept)
  (above : requestOnly f = true → (s.windowOf n f.generation).high < (s.windowOf n f.generation).extend f.counter)
include accept above

theorem judgeFrame_fresh : s.judgeFrame n f owned contention c =
    if !f.authentic then s.onAirLane n (fun a => { a with micFailures := a.micFailures + 1 })
    else s.takeFrame n f ((s.windowOf n f.generation).extend f.counter) owned contention c := by
  have young : ¬(Verdict.accept = Verdict.tooOld ∨ (requestOnly f = true ∧ Verdict.accept = Verdict.accept ∧
      (s.windowOf n f.generation).extend f.counter ≤ (s.windowOf n f.generation).high)) := by
    rintro (old | ⟨request, -, low⟩)
    · exact absurd old (by decide)
    · exact absurd (above request) (not_lt.mpr low)
  rw [judgeFrame_samePair pair, if_neg (sameLane lane), accept, if_neg young, if_neg (by decide)]

theorem judgeFrame_forged (forged : f.authentic = false) : (s.judgeFrame n f owned contention c).airLane n =
    { s.airLane n with micFailures := (s.airLane n).micFailures + 1 } := by
  rw [judgeFrame_fresh pair lane accept above, if_pos (by simp [forged])]
  exact airLane_onAirLane_same _ _

theorem judgeFrame_taken (authentic : f.authentic = true) : s.judgeFrame n f owned contention c =
    s.takeFrame n f ((s.windowOf n f.generation).extend f.counter) owned contention c := by
  rw [judgeFrame_fresh pair lane accept above, if_neg (by simp [authentic])]

end
end

/-! ### Step 8: an authentic frame -/

/-- Its window marked and counted, mirrored to the standby (R325, R426). -/
def State.frameMarked (n : Nat) (f : AirFrame) (x : Int) (contention : Bool) (c : Nat) (s : State) : State :=
  let s := (s.markWindow n f.generation x).onAirLane n (fun a => { a with
    authenticated := a.authenticated + 1, lastCounter := if f.generation = 0 then a.lastCounter else f.counter
    contention := if contention then a.contention + 1 else a.contention })
  let s := if contention then s.onCw c (fun w => { w with contention := w.contention + 1 }) else s
  (s.count (0x410 + c) 1).mirror 1 (.other (f.elements.flatMap (fun e =>
    elementBytes e.typ (if e.ack then some e.msn else none) e.value)))

section
variable {n c : Nat} {f : AirFrame} {x : Int} {contention : Bool}

theorem takeFrame_eq (owned : Option Nat) : s.takeFrame n f x owned contention c =
    if owned = some n then
      (f.elements.foldl (State.element n f.generation (decide (owned = some n))) (s.frameMarked n f x contention c)).heardSlot n
    else f.elements.foldl (State.element n f.generation (decide (owned = some n))) (s.frameMarked n f x contention c) := by
  unfold State.takeFrame
  rfl

theorem frameMarked_within : Within [Part.airLanes, .air, .counters, .pair] s (s.frameMarked n f x contention c) := by
  unfold State.frameMarked
  refine Within.after ?_ State.mirror_within rfl
  refine Within.after ?_ State.count_within rfl
  refine Within.ite ?_ ?_
  · refine Within.after ?_ State.onCw_within rfl
    refine Within.after ?_ State.onAirLane_within rfl
    exact State.onAirLane_within.mono rfl
  · refine Within.after ?_ State.onAirLane_within rfl
    exact State.onAirLane_within.mono rfl

/-- The lane's air record with a count marked in the window of its generation. -/
def AirLane.marked (generation sending : Nat) (x : Int) (a : AirLane) : AirLane :=
  if generation = 0 then { a with admissionWindow := a.admissionWindow.mark x }
  else if generation = sending then { a with window := a.window.mark x }
  else { a with otherWindow := a.otherWindow.mark x }

theorem markWindow_airLane : (s.markWindow n f.generation x).airLane n = (s.airLane n).marked f.generation s.sendGeneration x := by
  unfold State.markWindow AirLane.marked
  dsimp only
  rw [airLane_onAirLane_same]

theorem frameMarked_airLane : ∃ contended, (s.frameMarked n f x contention c).airLane n =
    { (s.airLane n).marked f.generation s.sendGeneration x with
      authenticated := ((s.airLane n).marked f.generation s.sendGeneration x).authenticated + 1
      lastCounter := if f.generation = 0 then ((s.airLane n).marked f.generation s.sendGeneration x).lastCounter else f.counter
      contention := contended } := by
  have mirrored (t : State) (item : InputItem) : ((t.count (0x410 + c) 1).mirror 1 item).airLane n = t.airLane n := by
    unfold State.airLane
    rw [show ((t.count (0x410 + c) 1).mirror 1 item).airLanes = t.airLanes from
      (State.mirror_within .airLanes rfl).trans State.count_airLanes]
  have counted (t : State) :
      (if contention then t.onCw c (fun w => { w with contention := w.contention + 1 }) else t).airLane n = t.airLane n :=
    State.ite_same (fun u : State => u.airLane n) rfl rfl
  rw [← markWindow_airLane]
  exact ⟨_, (mirrored ..).trans ((counted ..).trans (airLane_onAirLane_same ..))⟩

/-- What a lane's message sequence and reports are, beside its windows and their counts. -/
def AirLane.butMarks (a : AirLane) : AirLane :=
  { a with admissionWindow := {}, window := {}, otherWindow := {}, authenticated := 0, lastCounter := 0, contention := 0 }

theorem marked_butMarks (generation sending : Nat) (x : Int) (a : AirLane) : (a.marked generation sending x).butMarks = a.butMarks := by
  unfold AirLane.marked
  split
  · rfl
  · split
    · rfl
    · rfl

theorem frameMarked_butMarks : ((s.frameMarked n f x contention c).airLane n).butMarks = (s.airLane n).butMarks := by
  obtain ⟨contended, marked⟩ := frameMarked_airLane (s := s) (n := n) (f := f) (x := x) (contention := contention) (c := c)
  rw [marked]
  exact marked_butMarks f.generation s.sendGeneration x (s.airLane n)

end

/-- A slot heard: the lane's messages count it, and nothing else changes (R281, R331). -/
theorem heardSlot_airLane (n : Nat) : ∃ unacked, (s.heardSlot n).airLane n = { s.airLane n with heard := true, unacked := unacked } := by
  have heard : (s.heardSlot n).airLane n = _ := airLane_onAirLane_same n _
  rw [heard]
  cases known : (s.airLane n).heard with
  | true => exact ⟨(s.airLane n).unacked, by rw [if_pos rfl, ← known]⟩
  | false => exact ⟨_, if_neg (by nofun)⟩

/-! ### Elements -/

section
variable {generation n : Nat} {own : Bool} {e : Element}

theorem elementKind_telemetry (telemetry : e.typ = 1) (plain : e.ack = false) (size : e.value.length = 64) :
    elementKind generation e = (1, false) := by
  unfold elementKind
  rw [telemetry]
  simp [plain, size]

theorem elementKind_selfStop (report : e.typ = 5) (asks : e.ack = true) (size : e.value.length = 4) :
    elementKind generation e = (5, false) := by
  unfold elementKind
  rw [report]
  simp [asks, size]

theorem elementKind_admission (request : e.typ = 4) (asks : e.ack = true) (size : e.value.length = 12) :
    elementKind 0 e = (4, false) := by
  unfold elementKind
  rw [request]
  simp [asks, size]

/-- Telemetry of the tick gives the pose (R154, R317). -/
theorem telemetry_spec {v : Bytes} (sampled : field v 0 2 = s.clock.tick.toNat % 65536) :
    ((s.telemetry n v).lane n).pose = some (telemetryPose v).1 ∧ ((s.telemetry n v).lane n).telemetry = v := by
  unfold State.telemetry
  rw [if_neg (not_not.mpr sampled)]
  dsimp only
  unfold State.lane
  rw [show (State.excursion ..).lanes = _ from State.excursion_within .lanes rfl,
    show (State.pushTelemetry ..).lanes = _ from State.pushTelemetry_within .lanes rfl]
  have stored (f : Lane → Lane) (g : AirLane → AirLane) :
      tget (fun _ => ({} : Lane)) ((s.onLane n f).onAirLane n g).lanes n = f (s.lane n) := tget_tput_same _ _ _ _
  rw [stored]
  exact ⟨rfl, rfl⟩

theorem element_telemetry (telemetry : e.typ = 1) (plain : e.ack = false) (size : e.value.length = 64) :
    s.element n generation true e = s.telemetry n e.value := by
  unfold State.element
  rw [elementKind_telemetry telemetry plain size]
  rfl

/-! ### Self-stop reports -/

/-- A self-stop report is counted, and applied at the boundary (R21, R298). -/
theorem selfStopReport_spec (v : Bytes) :
    (s.selfStopReport n v).airLane n = { s.airLane n with selfStops := (s.airLane n).selfStops + 1 } ∧
      (s.selfStopReport n v).due = s.due ++ [{ lane := n, what := .selfStop (s.fullTick (field v 0 2)) (byteAt v 2) }] := by
  unfold State.selfStopReport
  dsimp only
  refine ⟨?_, ?_⟩
  · unfold State.airLane
    rw [State.raise_airLanes]
    exact airLane_onAirLane_same n _
  · rw [State.raise_due]
    unfold State.fullTick
    rw [State.raise_clock]
    rfl

/-- The message expected next, executed with a result: acknowledged, and its answer stored (R330). -/
def AirLane.answered (msn result : Nat) (a : AirLane) : AirLane :=
  let stored := a.stored ++ [(msn, result)]
  { a with expected := (a.expected + 1) % 256, executed := a.executed + 1, acks := a.acks ++ [(msn, result)]
           stored := stored.drop (stored.length - 8) }

section
variable (report : e.typ = 5) (asks : e.ack = true) (size : e.value.length = 4)
include report asks size

theorem nextMessage_selfStop : (s.nextMessage n generation e).airLane n =
      AirLane.answered e.msn 0 { s.airLane n with selfStops := (s.airLane n).selfStops + 1 } ∧
    (s.nextMessage n generation e).due =
      s.due ++ [{ lane := n, what := .selfStop (s.fullTick (field e.value 0 2)) (byteAt e.value 2) }] := by
  obtain ⟨counted, due⟩ := selfStopReport_spec (s := s) (n := n) e.value
  have executed : s.executeMessage n generation e = (s.selfStopReport n e.value, 0) := by
    unfold State.executeMessage
    rw [elementKind_selfStop report asks size]
    rfl
  have next : s.nextMessage n generation e = (s.selfStopReport n e.value).onAirLane n (AirLane.answered e.msn 0) := by
    unfold State.nextMessage
    rw [executed]
    rfl
  rw [next]
  exact ⟨(airLane_onAirLane_same n _).trans (congrArg _ counted), due⟩

/-- A self-stop report expected next is executed and acknowledged (R330). -/
theorem element_selfStop (occupied : (s.lane n).occupied = true) (next : e.msn = (s.airLane n).expected)
    (held : (s.airLane n).held = []) : s.element n generation own e = s.nextMessage n generation e := by
  have message : s.element n generation own e = s.message n generation e := by
    unfold State.element
    rw [elementKind_selfStop report asks size]
    exact if_pos ⟨asks, occupied⟩
  have first : (e.msn + 256 - (s.airLane n).expected) % 256 = 0 := by omega
  have none : ((s.nextMessage n generation e).airLane n).held = [] := by
    rw [(nextMessage_selfStop report asks size).1]
    exact held
  rw [message]
  unfold State.message
  dsimp only
  rw [if_pos first]
  unfold State.heldMessages
  rw [none]
  rfl

end

/-! ### Admission requests -/

/-- A request for a vacant, enabled lane is answered and applied at the boundary (R290, R291). -/
theorem element_admission (request : e.typ = 4) (asks : e.ack = true) (size : e.value.length = 12) (ready : s.power.deviceState = 2)
    (unreserved : (s.lane n).reserved = false) (vacant : s.laneIs n .vacant = true) (on : s.admissionOn n = true)
    (first : ∀ d ∈ s.due, d.lane ≠ n) :
    (s.element n 0 own e).due = s.due ++ [{ lane := n, what := .admission (BitVec.ofNat 64 (field e.value 0 8)) }] ∧
      (s.element n 0 own e).airLane n = { s.airLane n with responses := (s.airLane n).responses ++ [(0, s.stageNumber + 1)] } := by
  have asked : s.element n 0 own e = s.admissionRequest n e.value := by
    unfold State.element
    rw [elementKind_admission request asks size]
    rfl
  have notAdmitting : s.laneIs n .admitting ≠ true := by
    unfold State.laneIs at vacant ⊢
    rw [of_decide_eq_true vacant]
    decide
  have code : s.admissionCode n = 0 := by
    unfold State.admissionCode
    rw [if_neg (by simp [ready]), if_neg (by simp [unreserved]), if_neg, if_pos on]
    rintro (taken | due)
    · simp [vacant] at taken
    · obtain ⟨d, mem, match'⟩ := List.any_eq_true.mp due
      exact first d mem (by simpa using (Bool.and_eq_true_iff.mp match').1)
  have given : s.admissionRequest n e.value =
      ({ s with due := s.due ++ [{ lane := n, what := .admission (BitVec.ofNat 64 (field e.value 0 8)) }] } : State).onAirLane n
        (fun a => { a with responses := a.responses ++ [(0, s.stageNumber + 1)] }) := by
    unfold State.admissionRequest
    dsimp only
    rw [if_neg (fun h => notAdmitting h.1), code]
    rfl
  rw [asked, given]
  exact ⟨rfl, airLane_onAirLane_same n _⟩

end

/-! ### What an authentic frame leaves -/

section
variable {n c slot : Nat} {f : AirFrame} {x : Int} {contention : Bool}

/-- The three windows of a lane. -/
def AirLane.windows (a : AirLane) : Window × Window × Window := (a.admissionWindow, a.window, a.otherWindow)

theorem windowOf_marked {t : State} (keys : t.keys = s.keys)
    (windows : (t.airLane n).windows = ((s.airLane n).marked f.generation s.sendGeneration x).windows) :
    t.windowOf n f.generation = (s.windowOf n f.generation).mark x := by
  have sending : t.sendGeneration = s.sendGeneration := by rw [State.sendGeneration, keys, State.sendGeneration]
  unfold AirLane.marked at windows
  simp only [AirLane.windows, Prod.mk.injEq] at windows
  obtain ⟨admission, current, other⟩ := windows
  unfold State.windowOf
  dsimp only
  rw [sending]
  split
  · next zero => rw [admission, if_pos zero]
  · next key =>
    split
    · next now' => rw [current, if_neg key, if_pos now']
    · next old => rw [other, if_neg key, if_neg old]

/-- A frame without elements (R325). -/
theorem takeFrame_empty (owned : Option Nat) (empty : f.elements = []) :
    (s.takeFrame n f x owned contention c).windowOf n f.generation = (s.windowOf n f.generation).mark x ∧
      ((s.takeFrame n f x owned contention c).airLane n).authenticated = (s.airLane n).authenticated + 1 ∧
      (f.generation ≠ 0 → ((s.takeFrame n f x owned contention c).airLane n).lastCounter = f.counter) ∧
      (owned = some n → ((s.takeFrame n f x owned contention c).airLane n).heard = true) := by
  obtain ⟨contended, marked⟩ := frameMarked_airLane (s := s) (n := n) (f := f) (x := x) (contention := contention) (c := c)
  obtain ⟨unacked, heard⟩ := heardSlot_airLane (s := s.frameMarked n f x contention c) n
  have keys : (s.frameMarked n f x contention c).keys = s.keys := frameMarked_within .keys rfl
  have authenticated : ((s.airLane n).marked f.generation s.sendGeneration x).authenticated = (s.airLane n).authenticated := by
    unfold AirLane.marked
    split
    · rfl
    · split <;> rfl
  rw [takeFrame_eq, empty, List.foldl_nil]
  split
  · next own =>
    refine ⟨windowOf_marked keys (by rw [heard, marked]; rfl), ?_, fun key => ?_, fun _ => ?_⟩
    · rw [heard, marked, authenticated]
    · rw [heard, marked, if_neg key]
    · rw [heard]
  · next foreign =>
    refine ⟨windowOf_marked keys (by rw [marked]; rfl), ?_, fun key => ?_, fun own => absurd own foreign⟩
    · rw [marked, authenticated]
    · rw [marked, if_neg key]

variable {e : Element}

/-- A frame with one element leaves what the element leaves, and its slot heard. -/
theorem takeFrame_single (owned : Option Nat) (single : f.elements = [e]) : ∃ heard unacked,
    (s.takeFrame n f x owned contention c).airLane n =
        { ((s.frameMarked n f x contention c).element n f.generation (decide (owned = some n)) e).airLane n with
          heard := heard, unacked := unacked } ∧
      (owned = some n → heard = true) ∧
      (s.takeFrame n f x owned contention c).lanes =
        ((s.frameMarked n f x contention c).element n f.generation (decide (owned = some n)) e).lanes ∧
      (s.takeFrame n f x owned contention c).due =
        ((s.frameMarked n f x contention c).element n f.generation (decide (owned = some n)) e).due := by
  have taken : s.takeFrame n f x owned contention c = _ := takeFrame_eq owned
  rw [taken, single]
  dsimp only [List.foldl]
  split
  · obtain ⟨unacked, heard⟩ :=
      heardSlot_airLane (s := (s.frameMarked n f x contention c).element n f.generation (decide (owned = some n)) e) n
    exact ⟨true, unacked, heard, fun _ => rfl, rfl, rfl⟩
  · next foreign => exact ⟨_, _, rfl, fun own => absurd own foreign, rfl, rfl⟩

/-- Telemetry in the lane's own slot. -/
theorem takeFrame_telemetry (single : f.elements = [e]) (telemetry : e.typ = 1) (plain : e.ack = false)
    (size : e.value.length = 64) (sampled : field e.value 0 2 = s.clock.tick.toNat % 65536) :
    ((s.takeFrame n f x (some n) contention c).lane n).pose = some (telemetryPose e.value).1 ∧
      ((s.takeFrame n f x (some n) contention c).lane n).telemetry = e.value ∧
      ((s.takeFrame n f x (some n) contention c).airLane n).heard = true := by
  obtain ⟨heard, unacked, record, own, lanes, -⟩ := takeFrame_single (s := s) (n := n) (c := c) (x := x) (contention := contention) (some n) single
  have clock : (s.frameMarked n f x contention c).clock = s.clock := frameMarked_within .clock rfl
  obtain ⟨pose, kept⟩ := telemetry_spec (s := s.frameMarked n f x contention c) (n := n) (v := e.value) (by rw [clock]; exact sampled)
  have lane : (s.takeFrame n f x (some n) contention c).lane n = ((s.frameMarked n f x contention c).telemetry n e.value).lane n := by
    unfold State.lane
    rw [lanes, decide_eq_true rfl, element_telemetry telemetry plain size]
  rw [lane, record]
  exact ⟨pose, kept, own rfl⟩

/-- A self-stop report expected next. -/
theorem takeFrame_selfStop (owned : Option Nat) (single : f.elements = [e]) (occupied : (s.lane n).occupied = true) (report : e.typ = 5)
    (asks : e.ack = true) (size : e.value.length = 4) (next : e.msn = (s.airLane n).expected) (held : (s.airLane n).held = []) :
    ((s.takeFrame n f x owned contention c).airLane n).selfStops = (s.airLane n).selfStops + 1 ∧
      ((s.takeFrame n f x owned contention c).airLane n).expected = (e.msn + 1) % 256 ∧
      ((s.takeFrame n f x owned contention c).airLane n).acks = (s.airLane n).acks ++ [(e.msn, 0)] ∧
      (s.takeFrame n f x owned contention c).due =
        s.due ++ [{ lane := n, what := .selfStop (s.fullTick (field e.value 0 2)) (byteAt e.value 2) }] := by
  obtain ⟨heard, unacked, record, -, -, due⟩ := takeFrame_single (s := s) (n := n) (c := c) (x := x) (contention := contention) owned single
  have same := frameMarked_butMarks (s := s) (n := n) (f := f) (x := x) (contention := contention) (c := c)
  have lanes : (s.frameMarked n f x contention c).lanes = s.lanes := frameMarked_within .lanes rfl
  have clock : (s.frameMarked n f x contention c).clock = s.clock := frameMarked_within .clock rfl
  have dueBefore : (s.frameMarked n f x contention c).due = s.due := frameMarked_within .due rfl
  have stops : ((s.frameMarked n f x contention c).airLane n).selfStops = (s.airLane n).selfStops := (congrArg AirLane.selfStops same :)
  have expected : ((s.frameMarked n f x contention c).airLane n).expected = (s.airLane n).expected := (congrArg AirLane.expected same :)
  have acks : ((s.frameMarked n f x contention c).airLane n).acks = (s.airLane n).acks := (congrArg AirLane.acks same :)
  have waits : ((s.frameMarked n f x contention c).airLane n).held = (s.airLane n).held := (congrArg AirLane.held same :)
  have executed : (s.frameMarked n f x contention c).element n f.generation (decide (owned = some n)) e = _ :=
    element_selfStop report asks size (by unfold State.lane; rw [lanes]; exact occupied) (next.trans expected.symm) (waits.trans held)
  obtain ⟨after, reported⟩ := nextMessage_selfStop (s := s.frameMarked n f x contention c) (n := n) (generation := f.generation) report asks size
  rw [executed] at record due
  rw [record, due, after, reported, dueBefore]
  refine ⟨congrArg (· + 1) stops, ?_, congrArg (· ++ _) acks, ?_⟩
  · exact congrArg (fun k => (k + 1) % 256) (expected.trans next.symm)
  · unfold State.fullTick
    rw [clock]

/-- An admission request for a vacant, enabled lane. -/
theorem takeFrame_admission (owned : Option Nat) (single : f.elements = [e]) (zero : f.generation = 0) (request : e.typ = 4)
    (asks : e.ack = true) (size : e.value.length = 12) (ready : s.power.deviceState = 2) (unreserved : (s.lane n).reserved = false)
    (vacant : s.laneIs n .vacant = true) (on : s.admissionOn n = true) (first : ∀ d ∈ s.due, d.lane ≠ n) :
    (s.takeFrame n f x owned contention c).due = s.due ++ [{ lane := n, what := .admission (BitVec.ofNat 64 (field e.value 0 8)) }] ∧
      ((s.takeFrame n f x owned contention c).airLane n).responses = (s.airLane n).responses ++ [(0, s.stageNumber + 1)] := by
  obtain ⟨heard, unacked, record, -, -, due⟩ := takeFrame_single (s := s) (n := n) (c := c) (x := x) (contention := contention) owned single
  have same := frameMarked_butMarks (s := s) (n := n) (f := f) (x := x) (contention := contention) (c := c)
  have lanes : (s.frameMarked n f x contention c).lanes = s.lanes := frameMarked_within .lanes rfl
  have clock : (s.frameMarked n f x contention c).clock = s.clock := frameMarked_within .clock rfl
  have power : (s.frameMarked n f x contention c).power = s.power := frameMarked_within .power rfl
  have settings : (s.frameMarked n f x contention c).settings = s.settings := frameMarked_within .settings rfl
  have dueBefore : (s.frameMarked n f x contention c).due = s.due := frameMarked_within .due rfl
  have responses : ((s.frameMarked n f x contention c).airLane n).responses = (s.airLane n).responses := (congrArg AirLane.responses same :)
  have lane : (s.frameMarked n f x contention c).lane n = s.lane n := by rw [State.lane, lanes, State.lane]
  rw [zero] at record due
  obtain ⟨applied, answered⟩ := element_admission (s := s.frameMarked n f x contention c) (own := decide (owned = some n)) request asks size
    (by rw [power]; exact ready) (by rw [lane]; exact unreserved) (by rw [State.laneIs, lane]; exact vacant)
    (by rw [Units.admissionOn, Units.cfgNat, Units.cfg, settings]; exact on) (by rw [dueBefore]; exact first)
  rw [record, due, applied, answered, dueBefore]
  refine ⟨rfl, ?_⟩
  show _ ++ _ = _
  rw [responses, State.stageNumber, clock, State.stageNumber]

end

end Sys2Proof.Machine

namespace Sys2Proof.Proofs

open Sys2Proof Sys2Proof.Machine

/-- Settles O29: the frame read at its PPDU, then the receiver's steps in their order, each on the state the PPDU left. -/
theorem uplinkFramesJudged : Obligations.UplinkFramesJudged := by
  intro s c slot p psdu running known
  refine ⟨fun idle => ?idle, fun onAir enabled inSlot => ⟨fun bad => ?bad, fun good unread => ?unread,
    fun f good read uplink length dest => ?frame⟩⟩
  case idle => exact (running_next _ running).trans (congrArg _ (uplinkReceive_idle (s := s.begin) idle))
  case bad => exact ⟨_, running_next _ running, uplinkReceive_headerBad (s := s.begin) known onAir enabled inSlot bad⟩
  case unread =>
    obtain ⟨o, k, left, -⟩ := uplinkReceive_decoded (s := s.begin) (psdu := psdu) known onAir enabled inSlot good
    exact ⟨_, (running_next _ running).trans (congrArg _ (left unread)), rfl, rfl, rfl⟩
  case frame =>
    obtain ⟨o, k, -, decoded⟩ := uplinkReceive_decoded (s := s.begin) (psdu := psdu) known onAir enabled inSlot good
    have next : exec (.uplinkFrameReceive c p psdu) s = .next ((s.begin.tuned o k).uplinkFrame c slot p f) :=
      (running_next _ running).trans (congrArg _ (decoded f read))
    have judged (right : s.RightFrame f) : exec (.uplinkFrameReceive c p psdu) s = .next
        ((s.begin.tuned o k).judgeFrame (f.sender % 256) f (s.ownerOf c slot) (s.ownerOf c slot).isNone c) :=
      next.trans (congrArg _ (uplinkFrame_accepted (s := s.begin.tuned o k) uplink length dest right.1 right.2.1 right.2.2))
    have taken (fresh : s.FreshFrame f) (authentic : f.authentic = true) : exec (.uplinkFrameReceive c p psdu) s = .next
        ((s.begin.tuned o k).takeFrame (f.sender % 256) f ((s.windowOf (f.sender % 256) f.generation).extend f.counter)
          (s.ownerOf c slot) (s.ownerOf c slot).isNone c) := by
      obtain ⟨⟨right, pair, lane⟩, accept, above⟩ := fresh
      exact (judged right).trans (congrArg _ (judgeFrame_taken (s := s.begin.tuned o k) pair lane accept above authentic))
    refine ⟨fun broken ours => ⟨_, next, uplinkFrame_complement (s := s.begin.tuned o k) uplink length dest broken ours⟩,
      fun intact unknown => ?unknown,
      fun intact sender other => ⟨_, next, uplinkFrame_generation (s := s.begin.tuned o k) uplink length dest intact sender other⟩,
      fun right above => ⟨_, judged right, judgeFrame_earlierPair (s := s.begin.tuned o k) above⟩,
      fun right pair frame other => ⟨_, judged right, judgeFrame_otherEpoch (s := s.begin.tuned o k) pair frame other⟩,
      fun ready old => ⟨_, judged ready.1, judgeFrame_tooOld (s := s.begin.tuned o k) ready.2.1 ready.2.2 old⟩,
      fun ready again => ⟨_, judged ready.1, judgeFrame_repeated (s := s.begin.tuned o k) ready.2.1 ready.2.2 again⟩,
      fun fresh forged => ?forged, fun fresh authentic empty => ?empty,
      fun e fresh authentic single owner telemetry plain size sampled => ?telemetry,
      fun e fresh authentic single occupied report asks size expected held => ?selfStop,
      fun e fresh authentic single zero request asks size ready unreserved vacant on first => ?admission⟩
    case unknown =>
      have counted := uplinkFrame_unknown (s := s.begin.tuned o k) (c := c) (slot := slot) uplink length dest intact unknown
      exact ⟨_, next.trans (congrArg _ counted), rfl, rfl⟩
    case forged =>
      obtain ⟨⟨right, pair, lane⟩, accept, above⟩ := fresh
      exact ⟨_, judged right, judgeFrame_forged (s := s.begin.tuned o k) pair lane accept above forged⟩
    case empty => exact ⟨_, taken fresh authentic, takeFrame_empty (s := s.begin.tuned o k) _ empty⟩
    case telemetry =>
      have heard := taken fresh authentic
      rw [owner] at heard
      exact ⟨_, heard, takeFrame_telemetry (s := s.begin.tuned o k) single telemetry plain size sampled⟩
    case selfStop =>
      exact ⟨_, taken fresh authentic, takeFrame_selfStop (s := s.begin.tuned o k) _ single occupied report asks size expected held⟩
    case admission =>
      exact ⟨_, taken fresh authentic,
        takeFrame_admission (s := s.begin.tuned o k) _ single zero request asks size ready unreserved vacant on first⟩

end Sys2Proof.Proofs

/-! PROOF. Tick and slice boundaries (R24, R27, R273, R277, R369, R407, R482, R484, R585, R590). -/

namespace Sys2Proof.Machine

variable {s : State}

/-! ### Boundaries that reset the part -/

/-- A plan's result reported, unless it is a batch of settings, and what it changed undone. -/
def State.undone (p : Plan) (result : Nat) (s : State) : State :=
  (match p.what with | .settings _ _ => s | _ => s.report p result).undo p

theorem undone_update (p : Plan) (result : Nat) : (s.undone p result).update = s.update := by
  unfold State.undone
  refine (State.undo_within .update rfl).trans ?_
  split
  · rfl
  · exact State.report_within .update rfl

theorem answerOpt_update (r : Option Req) (a : Answer) : ∃ x, (s.answerOpt r a).update = { s.update with lastAnswer := x } := by
  cases r with
  | none => exact ⟨_, rfl⟩
  | some r => exact answer_update s r a

/-- A plan that fails leaves the update record but for an answer kept. -/
theorem failPlan_update (p : Plan) (result : Nat) : ∃ x, (s.failPlan p result).update = { s.update with lastAnswer := x } := by
  have answered (u : State) (same : u.update = s.update) :
      ∃ x, (if p.batch then u else u.answerOpt p.req (.refused (failCode result) 0)).update = { s.update with lastAnswer := x } := by
    split
    · exact ⟨_, same⟩
    · rw [← same]
      exact answerOpt_update _ _
  refine answered _ ?_
  split
  · exact State.raise_update.trans (undone_update p result)
  · exact State.ite_same (fun u : State => u.update) (undone_update p result) (State.raise_update.trans (undone_update p result))
  · exact undone_update p result

/-- An activation sets the other slot running on trial, by a reset of cause 2 (R484). -/
theorem activationReset_spec : s.activationReset.power.phase = .inReset ∧ s.activationReset.power.cause = 2 ∧
    s.activationReset.update.running = 1 - s.update.running ∧ s.activationReset.update.trial = 1 ∧
    s.activationReset.update.trialSeconds = 0 ∧ s.activationReset.update.failedBoots = 0 := by
  have failed (l : List Plan) (u : State) :
      (l.foldl (fun (t : State) p => match p.what with | .settings _ _ => t | _ => t.failPlan p 2) u).update.running = u.update.running := by
    refine State.foldl_keeps (fun t : State => t.update.running) (fun t p => ?_) _ _
    split
    · rfl
    · obtain ⟨x, same⟩ := failPlan_update (s := t) p 2
      rw [same]
  exact ⟨rfl, rfl, congrArg (1 - ·) (failed s.ledger.plans { s with ledger := { s.ledger with plans := [] } }), rfl, rfl, rfl⟩

/-- A reset ordered resets the part, with cause 2 unless a debug certificate stands behind it (R407, R468). -/
theorem powerBoundary_reset (due : s.power.resetDue = true) : ∃ t, s.powerBoundary = some t ∧ t.power.phase = .inReset ∧
    (s.keys.debugDue = none → t.power.cause = 2) ∧ t.update.running = s.update.running ∧ t.update.trial = s.update.trial := by
  unfold State.powerBoundary
  rw [if_pos due]
  cases certificate : s.keys.debugDue with
  | none => exact ⟨_, rfl, rfl, fun _ => rfl, rfl, rfl⟩
  | some x => exact ⟨_, rfl, rfl, nofun, rfl, rfl⟩

theorem powerBoundary_standby (kept : s.power.resetDue = false) (due : s.power.powerDue = some 3) :
    s.powerBoundary = some s.enterStandby := by
  unfold State.powerBoundary
  rw [if_neg (by simp [kept]), if_pos due]

theorem powerBoundary_none (kept : s.power.resetDue = false) (other : s.power.powerDue ≠ some 3) : s.powerBoundary = none := by
  unfold State.powerBoundary
  rw [if_neg (by simp [kept]), if_neg other]

/-! ### The clock at a tick boundary -/

/-- Where the clock stands in its tick: slice, whether it was sampled, the instant of the last command. -/
def Clock.place (c : Clock) : Nat × Bool × Nat := (c.slice, c.sampled, c.offset)

theorem stepBy_place (delta : Int) : (s.stepBy delta).clock.place = s.clock.place := by
  unfold State.stepBy
  dsimp only
  rw [State.trigger_clock, State.raise_clock]
  rfl

/-- The four occasions of a step at a tick boundary: one declared and confirmed, the first of a provisional tick, the change of the
numbering base at a milestone, one to declare again (R343, R356). -/
def State.stepTaken (s : State) : State :=
  match s.time.step with
  | some d => if s.time.confirmed ∧ s.clock.tick = s.time.declared then s.stepBy d else s
  | none => s

def State.stepFirst (n : Nat) (s : State) : State :=
  if s.clock.provisional ∧ (s.base n).locked then
    let s := s.stepBy (s.base n).offset
    (({ s with clock := { s.clock with provisional := false } } : State)).setDiscipline n
  else s

def State.numberingTaken (n : Nat) (s : State) : State :=
  let want := s.cfgNat 0x2101 1
  if want ≠ n ∧ s.milestonePos = 0 then
    let s : State := { s with time := { s.time with numbering := want } }
    if s.clock.provisional then s
    else s.stepBy (if want = 1 then ptpLead else -ptpLead)
  else s

def State.stepAgain (s : State) : State :=
  if s.time.again ∧ s.milestonePos = 0 ∧ s.notMoving then
    match s.time.measured with
    | some d => (({ s with time := { s.time with measured := none } } : State)).declareStep d
    | none => s
  else s

theorem makeSteps_eq : s.makeSteps = ((s.stepTaken.stepFirst s.time.numbering).numberingTaken s.time.numbering).stepAgain := rfl

theorem stepTaken_place : s.stepTaken.clock.place = s.clock.place := by
  unfold State.stepTaken
  split
  · exact State.ite_same (fun t : State => t.clock.place) (stepBy_place _) rfl
  · rfl

theorem stepFirst_place (n : Nat) : (s.stepFirst n).clock.place = s.clock.place := by
  refine State.ite_same (fun t : State => t.clock.place) ?_ rfl
  have numbered (d : Nat) (u : State) : (u.setDiscipline d).clock = u.clock := State.setDiscipline_within .clock rfl
  exact (congrArg Clock.place (numbered ..)).trans (stepBy_place _)

theorem numberingTaken_place (n : Nat) : (s.numberingTaken n).clock.place = s.clock.place := by
  refine State.ite_same (fun t : State => t.clock.place) ?_ rfl
  exact State.ite_same (fun t : State => t.clock.place) rfl (stepBy_place _)

theorem stepAgain_place : s.stepAgain.clock.place = s.clock.place := by
  refine State.ite_same (fun t : State => t.clock.place) ?_ rfl
  split
  · exact congrArg Clock.place (State.declareStep_within .clock rfl)
  · rfl

theorem makeSteps_place : s.makeSteps.clock.place = s.clock.place := by
  rw [makeSteps_eq, stepAgain_place, numberingTaken_place, stepFirst_place, stepTaken_place]

/-- With no step to make, none is made. -/
theorem makeSteps_quiet (settled : s.clock.provisional = false) (undeclared : s.time.step = none) (once : s.time.again = false)
    (inMilestone : s.milestonePos ≠ 0) : s.makeSteps = s := by
  have taken : s.stepTaken = s := by
    unfold State.stepTaken
    rw [undeclared]
  have first : s.stepFirst s.time.numbering = s := if_neg (by simp [settled])
  have numbered : s.numberingTaken s.time.numbering = s := if_neg (fun h => inMilestone h.2)
  rw [makeSteps_eq, taken, first, numbered]
  exact if_neg (by simp [once])

/-- The slew moves TB3 alone. -/
theorem slew_clock : ∃ tb3, s.slew.clock = { s.clock with tb3 := tb3 } := by
  unfold State.slew
  dsimp only
  split
  · exact ⟨_, rfl⟩
  · exact ⟨_, rfl⟩

theorem followPhase_clock : ∃ tb3, s.followPhase.clock = { s.clock with tb3 := tb3 } := ⟨_, rfl⟩

/-- The ports and bases of a tick boundary, before any step. -/
def State.basesTicked (s : State) : State :=
  let s := (List.range 2).foldl State.ptpTick s
  let tb0 := 4 ≤ (s.reference.sats.filter (fun x => x.state = 0)).length ∧ s.reference.clock.isSome
  let s := ((s.lockBase 0 tb0).lockBase 1 (s.ptpLocked 1)).lockBase 2 (s.ptpLocked 2)
  { s with time := { s.time with since := s.time.since + 1 } }

theorem lockBase_clock (b : Nat) (on : Bool) : (s.lockBase b on).clock = s.clock := State.lockBase_within .clock rfl

theorem lockBase_steps (b : Nat) (on : Bool) : (s.lockBase b on).time.step = s.time.step ∧ (s.lockBase b on).time.again = s.time.again := by
  unfold State.lockBase
  dsimp only
  split
  · split
    · exact ⟨rfl, rfl⟩
    · exact ⟨rfl, rfl⟩
  · exact ⟨rfl, rfl⟩

theorem basesTicked_clock : s.basesTicked.clock = s.clock := by
  show (State.lockBase 2 _ (State.lockBase 1 _ (State.lockBase 0 _ _))).clock = _
  rw [lockBase_clock, lockBase_clock, lockBase_clock]
  rfl

theorem basesTicked_steps : s.basesTicked.time.step = s.time.step ∧ s.basesTicked.time.again = s.time.again := by
  constructor
  · show (State.lockBase 2 _ (State.lockBase 1 _ (State.lockBase 0 _ _))).time.step = _
    rw [(lockBase_steps ..).1, (lockBase_steps ..).1, (lockBase_steps ..).1]
    rfl
  · show (State.lockBase 2 _ (State.lockBase 1 _ (State.lockBase 0 _ _))).time.again = _
    rw [(lockBase_steps ..).2, (lockBase_steps ..).2, (lockBase_steps ..).2]
    rfl

theorem timeTick_eq : s.timeTick = if s.basesTicked.isStandby then s.basesTicked.followPhase.validity
    else (if s.basesTicked.makeSteps.clock.provisional then s.basesTicked.makeSteps
      else s.basesTicked.makeSteps.chooseDiscipline.slew).validity := by
  unfold State.timeTick State.basesTicked
  rfl

theorem validity_clock : s.validity.clock = s.clock := State.validity_within .clock rfl

theorem chooseDiscipline_clock : s.chooseDiscipline.clock = s.clock := State.chooseDiscipline_within .clock rfl

/-- Discipline and validity move TB3 alone. -/
theorem timeTick_clock : ∃ tb3, s.timeTick.clock = { s.clock with tb3 := tb3 } ∨
    s.timeTick.clock = { s.basesTicked.makeSteps.clock with tb3 := tb3 } := by
  rw [timeTick_eq]
  split
  · obtain ⟨tb3, followed⟩ := followPhase_clock (s := s.basesTicked)
    exact ⟨tb3, .inl (by rw [validity_clock, followed, basesTicked_clock])⟩
  · rw [validity_clock]
    split
    · exact ⟨_, .inr rfl⟩
    · obtain ⟨tb3, slewed⟩ := slew_clock (s := s.basesTicked.makeSteps.chooseDiscipline)
      exact ⟨tb3, .inr (by rw [slewed, chooseDiscipline_clock])⟩

theorem timeTick_place : s.timeTick.clock.place = s.clock.place := by
  obtain ⟨tb3, moved | moved⟩ := timeTick_clock (s := s)
  · rw [moved]
    rfl
  · rw [moved]
    exact (makeSteps_place (s := s.basesTicked)).trans (congrArg Clock.place basesTicked_clock)

/-- A tick without a step is numbered on (R24). -/
theorem timeTick_quiet (settled : s.clock.provisional = false) (undeclared : s.time.step = none) (once : s.time.again = false)
    (inMilestone : s.milestonePos ≠ 0) : s.timeTick.clock.tick = s.clock.tick ∧ s.timeTick.clock.source = s.clock.source := by
  have quiet : s.basesTicked.makeSteps = s.basesTicked := by
    refine makeSteps_quiet (by rw [basesTicked_clock]; exact settled) (basesTicked_steps.1.trans undeclared) (basesTicked_steps.2.trans once) ?_
    rw [State.milestonePos, basesTicked_clock]
    exact inMilestone
  obtain ⟨tb3, moved | moved⟩ := timeTick_clock (s := s)
  · rw [moved]
    exact ⟨rfl, rfl⟩
  · rw [moved, quiet, basesTicked_clock]
    exact ⟨rfl, rfl⟩

/-! ### A tick boundary in service -/

/-- The state in which a tick boundary finds its time. -/
def State.tickReady (s : State) : State :=
  let s := s.nextTick.chainTick
  let s := if s.power.deviceState = 0 then s.started.sendRegions else s
  (s.settingsTick false false).counterTick.tripTick.grantTick.portTick

/-- What opens with the tick once its time is settled. -/
def State.tickFollows (e : TickEnv) (s : State) : State :=
  let stage := decide (s.stagePos = 0)
  let milestone := decide (s.milestonePos = 0)
  let s := if stage ∨ milestone then s.settingsTick stage milestone else s
  let s := if milestone then s.milestoneOpens e else s
  let s := if stage then s.stageEnds else s
  s.laneTick.pairOpens.positioningBoundary

theorem tickOpens_eq (e : TickEnv) : s.tickOpens e = s.tickReady.timeTick.tickFollows e := rfl

theorem tickReady_within : Within [.chain, .access, .update, .power, .readiness, .reference, .keys, .settings, .halt, .air, .counters, .trip, .panel,
    .lanes, .pair] s.nextTick s.tickReady := by
  unfold State.tickReady
  refine Within.after ?_ State.portTick_within rfl
  refine Within.after ?_ State.grantTick_within rfl
  refine Within.after ?_ State.tripTick_within rfl
  refine Within.after ?_ State.counterTick_within rfl
  refine Within.after ?_ State.settingsTick_within rfl
  refine Within.ite ?_ (State.chainTick_within.mono rfl)
  refine Within.after ?_ State.sendRegions_within rfl
  exact Within.after (State.chainTick_within.mono rfl) State.started_within rfl

theorem tickFollows_clock (e : TickEnv) : (s.tickFollows e).clock = s.clock := by
  have follows : Within [.settings, .keys, .halt, .air, .access, .counters, .trip, .panel, .lanes, .pair, .reference, .gnss, .update, .power,
      .readiness, .airLanes, .checkpoint, .routes, .ledger] s (s.tickFollows e) := by
    unfold State.tickFollows
    refine Within.after ?_ State.positioningBoundary_within rfl
    refine Within.after ?_ State.pairOpens_within rfl
    refine Within.after ?_ State.laneTick_within rfl
    have settings : Within [.settings, .keys, .halt, .air, .access, .counters, .trip, .panel, .lanes, .pair, .reference, .gnss, .update, .power,
        .readiness, .airLanes, .checkpoint, .routes, .ledger] s (if decide (s.stagePos = 0) = true ∨ decide (s.milestonePos = 0) = true then
          s.settingsTick (decide (s.stagePos = 0)) (decide (s.milestonePos = 0)) else s) :=
      Within.ite (State.settingsTick_within.mono rfl) (Within.refl _ _)
    refine Within.ite (Within.after ?_ State.stageEnds_within rfl) ?_
    · exact Within.ite (settings.after State.milestoneOpens_within rfl) settings
    · exact Within.ite (settings.after State.milestoneOpens_within rfl) settings
  exact follows .clock rfl

/-- The clock that a tick boundary leaves is the one its time settles. -/
theorem runningTick_clock (e : TickEnv) :
    (((s.tickOpens e).applyChanges).tickCloses e).clock = s.tickReady.timeTick.clock := by
  rw [show (State.tickCloses e _).clock = _ from State.tickCloses_within .clock rfl,
    show (State.applyChanges _).clock = _ from State.applyChanges_within .clock rfl, tickOpens_eq, tickFollows_clock]

theorem tickReady_clock : s.tickReady.clock = s.nextTick.clock := tickReady_within .clock rfl

theorem tickReady_time : s.tickReady.time = s.time := tickReady_within .time rfl

/-- The read-only entries show the unit's own values (R369); a snapshot at the boundary moves the counters alone. -/
theorem boundarySnap_shown (u : State) (own : u.shown = u.toUnits) : ∃ c, u.boundarySnap.shown = { u.boundarySnap.toUnits with counters := c } := by
  unfold State.boundarySnap
  split
  · split
    · exact ⟨u.counters, own⟩
    · exact ⟨u.counters, own⟩
  · exact ⟨u.counters, own⟩

/-- What a tick boundary closes before the entries show it. -/
def State.tickPublished (e : TickEnv) (s : State) : State :=
  let s := s.verifyBoundary.confirmStep.powerStep.rolloverSwitch
  let s := if s.milestonePos = 0 then s.milestoneCloses else s
  let s := s.pairCloses.cellTick.sendHandovers
  let s := (s.gnssTick e.sats).gnoezAccount
  let s := if s.stagePos = 0 then s.stageOpens else s
  let s := s.correctionNotice.lanesDue.dutyBelow.openCarriageways.accessTick.readerTick
  s.publishSnap

/-- The read-only entries show the unit's values. -/
def State.showOwn (s : State) : State := { s with shown := s.toUnits }

theorem tickCloses_eq (e : TickEnv) : s.tickCloses e = (s.tickPublished e).showOwn.boundarySnap := rfl

theorem tickCloses_shown (e : TickEnv) : ∃ c, (s.tickCloses e).shown = { (s.tickCloses e).toUnits with counters := c } := by
  rw [tickCloses_eq]
  exact boundarySnap_shown (s.tickPublished e).showOwn rfl

/-! ### The slice boundary -/

/-- A running slice up to the lines of the carriageway radio. -/
def State.sliceSampled (e : SliceEnv) (s : State) : State :=
  let s := s.flushTrace.nextSlice.runDelays
  let s := s.contactSlice e
  let s := ((s.portSample 0 e.currentA).portSample 1 e.currentB).agcSlice e.rms
  let s := (s.feedSlice e.feedA e.feedB).lineSlice
  let s := if e.lampReady then s.lampFrame else s.lampLate
  { s with panel := { s.panel with wake := e.wake } }

def State.sliceReceives (s : State) : State := if s.clock.slice = 6 ∧ s.onAir then s.receiveLines else s

/-- What closes a running slice. -/
def State.sliceClosed (s : State) : State :=
  let s := if s.clock.slice = 8 then s.sendHandovers else s
  (innerQueues.foldl (fun (t : State) q => t.checkInner q) s).dropLate.tripSlice.sliceCounters.multicastSlice

theorem runningSlice_eq (e : SliceEnv) : s.runningSlice e = (s.sliceSampled e).sliceReceives.sliceClosed := rfl

theorem sliceSampled_within (e : SliceEnv) : Within [.disp, .access, .counters, .trip, .panel, .halt, .air, .lanes, .pair, .gnss, .power, .lamps]
    s.flushTrace.nextSlice (s.sliceSampled e) := by
  unfold State.sliceSampled
  refine Within.trans ?_ (within_panel rfl)
  have sampled : Within [.disp, .access, .counters, .trip, .panel, .halt, .air, .lanes, .pair, .gnss, .power, .lamps] s.flushTrace.nextSlice
      (((((((s.flushTrace.nextSlice.runDelays).contactSlice e).portSample 0 e.currentA).portSample 1 e.currentB).agcSlice e.rms).feedSlice
        e.feedA e.feedB).lineSlice) := by
    refine Within.after ?_ State.lineSlice_within rfl
    refine Within.after ?_ State.feedSlice_within rfl
    refine Within.after ?_ State.agcSlice_within rfl
    refine Within.after ?_ State.portSample_within rfl
    refine Within.after ?_ State.portSample_within rfl
    refine Within.after ?_ State.contactSlice_within rfl
    exact State.runDelays_within.mono rfl
  exact Within.ite (sampled.after State.lampFrame_within rfl) (sampled.after State.lampLate_within rfl)

theorem sliceReceives_within : Within [.air] s s.sliceReceives := Within.ite State.receiveLines_within (Within.refl _ _)

theorem sliceClosed_within (other : s.clock.slice ≠ 8) :
    Within [.checkpoint, .ledger, .counters, .disp, .access, .trip, .panel] s s.sliceClosed := by
  unfold State.sliceClosed
  rw [if_neg other]
  refine Within.after ?_ State.multicastSlice_within rfl
  refine Within.after ?_ State.sliceCounters_within rfl
  refine Within.after ?_ State.tripSlice_within rfl
  refine Within.after ?_ State.dropLate_within rfl
  exact Within.foldl (fun _ _ => State.checkInner_within.mono rfl) (Within.refl _ _)

theorem sliceClosed_clock : s.sliceClosed.clock = s.clock := by
  unfold State.sliceClosed
  dsimp only
  rw [show (State.multicastSlice _).clock = _ from State.multicastSlice_within .clock rfl,
    show (State.sliceCounters _).clock = _ from State.sliceCounters_within .clock rfl,
    show (State.tripSlice _).clock = _ from State.tripSlice_within .clock rfl,
    show (State.dropLate _).clock = _ from State.dropLate_within .clock rfl]
  refine (State.foldl_keeps (fun t : State => t.clock) (fun t q => ?_) _ _).trans ?_
  · exact State.checkInner_within .clock rfl
  · exact State.ite_same (fun t : State => t.clock) (State.sendHandovers_within .clock rfl) rfl

/-- The clock after a slice boundary: the slice it numbers (R27). -/
theorem runningSlice_clock (e : SliceEnv) : (s.runningSlice e).clock = s.nextSlice.clock := by
  have flushed : s.flushTrace.clock = s.clock := State.flushTrace_within .clock rfl
  have next : s.flushTrace.nextSlice.clock = s.nextSlice.clock := by
    unfold State.nextSlice State.stamped
    rw [flushed]
  rw [runningSlice_eq, sliceClosed_clock, show (State.sliceReceives _).clock = _ from sliceReceives_within .clock rfl,
    show (State.sliceSampled e s).clock = _ from sliceSampled_within e .clock rfl, next]

/-- From slice 6 a unit on the air receives (R273, R277). -/
theorem runningSlice_receives (e : SliceEnv) (six : (s.runningSlice e).clock.slice = 6) (onAir : (s.runningSlice e).onAir = true) :
    (s.runningSlice e).air.txrx = false ∧ (s.runningSlice e).air.pa = false ∧ (s.runningSlice e).air.lna0 = true ∧
      (s.runningSlice e).air.lna1 = true := by
  rw [runningSlice_eq] at six onAir ⊢
  rw [sliceClosed_clock] at six
  have closed := sliceClosed_within (s := (s.sliceSampled e).sliceReceives) (by rw [six]; decide)
  have before : (s.sliceSampled e).clock.slice = 6 :=
    (congrArg Clock.slice (sliceReceives_within (s := s.sliceSampled e) .clock rfl)).symm.trans six
  have sending : (s.sliceSampled e).onAir = true := by
    rw [onAir_congr (closed .power rfl) (closed .halt rfl) (closed .pair rfl) (closed .keys rfl)] at onAir
    rw [← onAir]
    exact (onAir_congr (sliceReceives_within .power rfl) (sliceReceives_within .halt rfl) (sliceReceives_within .pair rfl)
      (sliceReceives_within .keys rfl)).symm
  have lines : (s.sliceSampled e).sliceReceives = (s.sliceSampled e).receiveLines := if_pos ⟨before, sending⟩
  rw [show (State.sliceClosed _).air = _ from closed .air rfl, lines]
  exact ⟨rfl, rfl, rfl, rfl⟩

/-! ### Boundaries outside a running image -/

theorem nextSlice_slice : s.nextSlice.clock = { s.clock with
    slice := if s.clock.sampled then s.clock.slice + 1 else s.clock.slice, sampled := true
    offset := max s.clock.offset ((if s.clock.sampled then s.clock.slice + 1 else s.clock.slice) * 1000000) } := rfl

theorem within_clock_power {x : Clock} {y : Power} {o : List Output} (supply : Power.sameSupply s.power y)
    (readiness : Power.sameReadiness s.power y) (schedule : s.sameSchedule { s with clock := x, power := y, out := o }) :
    Within [.clock, .power] s { s with clock := x, power := y, out := o } := by
  intro p other
  cases p with
  | clock => exact absurd other nofun
  | power => exact absurd other nofun
  | supply => exact supply
  | readiness => exact readiness
  | schedule => exact schedule
  | silence => exact id
  | custody => exact Keys.sameCustody_refl _
  | tables => exact id
  | _ => rfl

/-- In recovery a slice samples the feeds alone. -/
theorem sliceBoundary_recovery (e : SliceEnv) (recovery : s.power.phase = .recovery) :
    Within [.clock, .power] s (sliceBoundary e s) ∧
      (sliceBoundary e s).clock.slice = (if s.clock.sampled then s.clock.slice + 1 else s.clock.slice) ∧
      (sliceBoundary e s).clock.tick = s.clock.tick ∧ ∀ o ∈ (sliceBoundary e s).out, ∃ p b, o = .pin p b := by
  have sampled : Within [.clock, .access, .counters, .trip, .panel, .power] s (s.nextSlice.feedSlice e.feedA e.feedB) :=
    (State.nextSlice_within.mono rfl).trans (State.feedSlice_within.mono rfl)
  have clock : (s.nextSlice.feedSlice e.feedA e.feedB).clock = s.nextSlice.clock := State.feedSlice_within .clock rfl
  unfold sliceBoundary
  rw [recovery]
  dsimp only
  obtain ⟨tick, source, provisional, -, -⟩ := sampled .schedule rfl
  refine ⟨within_clock_power (sampled .supply rfl) (sampled .readiness rfl) ⟨tick, source, provisional, rfl, rfl⟩, ?_, tick, fun o mem => ?_⟩
  · rw [clock, nextSlice_slice]
  · obtain ⟨-, pin⟩ := List.mem_filter.mp mem
    split at pin
    · exact ⟨_, _, rfl⟩
    · exact absurd pin nofun

/-! ### The commands -/

theorem exec_tickBoundary {e : TickEnv} {t : State} (next : tickBoundary e s.begin = t) : exec (.tickBoundary e) s = .next t :=
  congrArg Host.Outcome.next next

theorem exec_sliceBoundary {e : SliceEnv} {t : State} (next : sliceBoundary e s.begin = t) : exec (.sliceBoundary e) s = .next t :=
  congrArg Host.Outcome.next next

theorem tickBoundary_idle (e : TickEnv) (idle : s.power.phase = .rom ∨ s.power.phase = .recovery) : tickBoundary e s = s.nextTick := by
  unfold tickBoundary
  rcases idle with idle | idle
  · rw [idle]
  · rw [idle]

theorem boundaries_unpowered (e : TickEnv) (f : SliceEnv)
    (unpowered : s.power.phase = .off ∨ s.power.phase = .inReset ∨ s.power.phase = .standby) :
    tickBoundary e s = s ∧ sliceBoundary f s = s := by
  unfold tickBoundary sliceBoundary
  rcases unpowered with phase | phase | phase
  · rw [phase]
    exact ⟨rfl, rfl⟩
  · rw [phase]
    exact ⟨rfl, rfl⟩
  · rw [phase]
    exact ⟨rfl, rfl⟩

theorem sliceBoundary_running (e : SliceEnv) (running : s.power.phase = .running) : sliceBoundary e s = s.runningSlice e := by
  unfold sliceBoundary
  rw [running]

section
variable (e : TickEnv) (running : s.power.phase = .running)
include running

theorem tickBoundary_running : tickBoundary e s = s.runningTick e := by
  unfold tickBoundary
  rw [running]

theorem tickBoundary_activated (activated : s.update.activated = true) : tickBoundary e s = s.activationReset :=
  (tickBoundary_running e running).trans (if_pos activated)

variable (unchanged : s.update.activated = false)
include unchanged

theorem tickBoundary_resets {t : State} (due : s.powerBoundary = some t) : tickBoundary e s = t := by
  rw [tickBoundary_running e running, State.runningTick, if_neg (by simp [unchanged]), due]

variable (kept : s.power.resetDue = false) (other : s.power.powerDue ≠ some 3)
include kept other

theorem tickBoundary_serves : tickBoundary e s = ((s.tickOpens e).applyChanges).tickCloses e := by
  rw [tickBoundary_running e running, State.runningTick, if_neg (by simp [unchanged]), powerBoundary_none kept other]

/-- A tick in service: the image runs on, the clock stands at the tick's begin, the entries show the unit's values (R24, R27, R369). -/
theorem tickBoundary_tick : (tickBoundary e s).power.phase = .running ∧ (tickBoundary e s).clock.place = (0, false, 0) ∧
    (∃ c, (tickBoundary e s).shown = { (tickBoundary e s).toUnits with counters := c }) ∧
    (s.clock.provisional = false → s.time.step = none → s.time.again = false → ((s.clock.source + 20000000) / 20000000 % 50).toNat ≠ 0 →
      (tickBoundary e s).clock.tick = s.clock.tick + 1 ∧ (tickBoundary e s).clock.source = s.clock.source + 20000000) := by
  rw [tickBoundary_serves e running unchanged kept other]
  have opens : Within Part.goingOn s (s.tickOpens e) := State.tickOpens_within.mono rfl
  have goes : Within Part.goingOn s (((s.tickOpens e).applyChanges).tickCloses e) :=
    (opens.after State.applyChanges_within rfl).after State.tickCloses_within rfl
  obtain ⟨phase, -, -⟩ := goes .supply rfl
  refine ⟨phase.trans running, ?_, tickCloses_shown e, fun settled undeclared once inMilestone => ?_⟩
  · rw [runningTick_clock, timeTick_place, tickReady_clock]
    rfl
  · rw [runningTick_clock]
    have ready : s.tickReady.milestonePos ≠ 0 := by rw [State.milestonePos, tickReady_clock]; exact inMilestone
    obtain ⟨tick, source⟩ := timeTick_quiet (s := s.tickReady) (by rw [tickReady_clock]; exact settled) (by rw [tickReady_time]; exact undeclared)
      (by rw [tickReady_time]; exact once) ready
    rw [tick, source, tickReady_clock]
    exact ⟨rfl, rfl⟩

end

end Sys2Proof.Machine

namespace Sys2Proof.Proofs

open Sys2Proof Sys2Proof.Machine

/-- Settles O11: the boundaries by the phase they meet, and in service by what resets the part or lets its tick go on. -/
theorem boundariesRun : Obligations.BoundariesRun := by
  refine ⟨fun s e idle => ?idle, fun s e running activated => ?activation, fun s e running unchanged due => ?reset,
    fun s e running unchanged kept due => ?standby, fun s e running unchanged kept other => ?tick, fun s e running => ?slice,
    fun s e recovery => ?recovery, fun s e f unpowered => ?unpowered⟩
  case idle =>
    exact ⟨_, exec_tickBoundary (tickBoundary_idle (s := s.begin) e idle), (State.begin_within.mono rfl).trans State.nextTick_within, rfl, rfl, rfl,
      rfl⟩
  case activation =>
    exact ⟨_, exec_tickBoundary (tickBoundary_activated (s := s.begin) e running activated), activationReset_spec (s := s.begin)⟩
  case reset =>
    obtain ⟨t, boundary, phase, cause, update⟩ := powerBoundary_reset (s := s.begin) due
    exact ⟨t, exec_tickBoundary (tickBoundary_resets (s := s.begin) e running unchanged boundary), phase, cause, update⟩
  case standby =>
    exact ⟨_, exec_tickBoundary (tickBoundary_resets (s := s.begin) e running unchanged (powerBoundary_standby kept due)), rfl, rfl, rfl,
      List.mem_append_right _ (List.mem_singleton.mpr rfl)⟩
  case tick =>
    obtain ⟨phase, place, shown, quiet⟩ := tickBoundary_tick (s := s.begin) e running unchanged kept other
    obtain ⟨slice, rest⟩ := Prod.mk.inj place
    obtain ⟨sampled, offset⟩ := Prod.mk.inj rest
    exact ⟨_, exec_tickBoundary rfl, phase, slice, sampled, offset, shown, quiet⟩
  case slice =>
    have supply : Power.sameSupply s.begin.power (s.begin.runningSlice e).power := State.runningSlice_within .supply rfl
    exact ⟨_, exec_sliceBoundary (sliceBoundary_running (s := s.begin) e running), runningSlice_clock (s := s.begin) e, supply.1.trans running,
      runningSlice_receives (s := s.begin) e⟩
  case recovery =>
    obtain ⟨within, slice, tick, pins⟩ := sliceBoundary_recovery (s := s.begin) e recovery
    exact ⟨_, exec_sliceBoundary rfl, (State.begin_within.mono rfl).trans within, slice, tick, pins⟩
  case unpowered =>
    obtain ⟨tick, slice⟩ := boundaries_unpowered (s := s.begin) e f unpowered
    exact ⟨⟨_, exec_tickBoundary tick, rfl⟩, _, exec_sliceBoundary slice, rfl⟩

end Sys2Proof.Proofs

/-! PROOF. Plans are profiled, checked and cut off (R33, R146, R160, R166, R168, R173, R184, R209). -/

namespace Sys2Proof.Machine

variable {s : State}

/-! ### Profiles -/

/-- A route that its reason refuses fails with it, whatever its profile (R209). -/
theorem profilePlan_refused {p : Plan} {b : Bytes} (route : p.what = .route b)
    (refused : routeReason (s.limitsFor p.lane (byteAt b 1 = 0)) b ≠ 0) (out : ProfileOut) :
    s.profilePlan p out = some (p.fail 5 (routeReason (s.limitsFor p.lane (byteAt b 1 = 0)) b)) := by
  have work (f : U32) : s.workOf p f = .refused (routeReason (s.limitsFor p.lane (byteAt b 1 = 0)) b) := by
    unfold State.workOf
    rw [route]
    exact if_pos refused
  have failed (f : U32) : s.profileAs p f out = some (p.fail 5 (routeReason (s.limitsFor p.lane (byteAt b 1 = 0)) b)) := by
    unfold State.profileAs
    rw [work]
  unfold State.profilePlan
  dsimp only
  rw [failed]
  exact if_pos nofun

theorem route_onRoute_same (n : Nat) (f : Route → Route) : (s.onRoute n f).route n = f (s.route n) := tget_tmod_same _ _ _ _

/-- The plan settled by its profile, and a refused route counted for its lane (R146, R160). -/
def State.planSettled (id : U32) (p q : Plan) (s : State) : State :=
  let s := (s.onPlan id (fun _ => q)).count 0x40A 1
  if q.result = some 5 then s.onRoute p.lane (fun r => { r with refused := r.refused + 1 }) else s

theorem planSettled_plans (id : U32) (p q : Plan) :
    (s.planSettled id p q).ledger.plans = s.ledger.plans.map (fun x => if x.what.ofLane && x.id = id then q else x) := by
  unfold State.planSettled
  refine State.ite_same (fun t : State => t.ledger.plans) ?_ ?_
  · exact congrArg Ledger.plans State.count_ledger
  · exact congrArg Ledger.plans State.count_ledger

theorem planSettled_refused (id : U32) (p : Plan) {q : Plan} (refused : q.result = some 5) :
    ((s.planSettled id p q).route p.lane).refused = (s.route p.lane).refused + 1 := by
  unfold State.planSettled
  dsimp only
  rw [if_pos refused, route_onRoute_same]
  unfold State.route
  rw [State.count_routes]
  rfl

section
variable {id : U32} {out : ProfileOut} {p q : Plan}

/-- A profile in time settles its plan. -/
theorem planProfiled_settles (found : s.planOf id = some p) (inTime : p.submit + 1 = s.clock.tick) (fresh : p.profiled = false)
    (waiting : p.result = none) (before : s.ledger.profileClosed = false) (profiled : s.profilePlan p out = some q) :
    planProfiled id out s = s.planSettled id p q := by
  unfold planProfiled
  rw [found]
  dsimp only
  rw [if_pos ⟨inTime, by simp [fresh], waiting, by simp [before]⟩, profiled]
  rfl

/-! ### Checks -/

theorem checkStops_none (clear : s.ledger.stopChecks = []) : s.checkStops = s := by
  unfold State.checkStops
  rw [clear]
  show ({ s with ledger := { s.ledger with stopChecks := [] } } : State) = s
  rw [← clear]

/-- A plan whose turn has come, checked (R168). -/
def State.planJudged (id : U32) (p : Plan) (s : State) : State :=
  let s' := s.onPlans (fun x => x.id = id && x.submit = s.clock.tick - 1 && x.result = none && x.what.ofLane = p.what.ofLane) (fun _ => s.checkPlan p)
  (({ s' with ledger := { s'.ledger with checked := s'.ledger.checked + 1 } } : State).tested (s.testsFor p)).count 0x600 (s.testsFor p)

theorem planJudged_ledger (id : U32) (p : Plan) : (s.planJudged id p).ledger.checked = s.ledger.checked + 1 ∧
    (s.planJudged id p).ledger.plans = s.ledger.plans.map (fun x =>
      if x.id = id && x.submit = s.clock.tick - 1 && x.result = none && x.what.ofLane = p.what.ofLane then s.checkPlan p else x) := by
  unfold State.planJudged
  dsimp only
  rw [State.count_ledger]
  exact ⟨rfl, rfl⟩

theorem planChecked_judges (clear : s.ledger.stopChecks = []) (before : s.ledger.ledgerClosed = false)
    (found : s.ledger.plans.find? (fun x => x.id = id && x.submit = s.clock.tick - 1 && x.result = none) = some p)
    (turn : turnOf id (s.clock.tick - 1) p.what.ofLane s.ledger.plans = true) : planChecked id s = s.planJudged id p := by
  unfold planChecked
  dsimp only
  rw [if_neg (by simp [before]), checkStops_none clear, found]
  exact if_pos ⟨turn, by simp [before]⟩

end

/-! ### Cutoffs -/

theorem profileCutoff_ledger : (profileCutoff s).ledger.profileClosed = true ∧
    (profileCutoff s).ledger.plans = s.ledger.plans.map (fun x => if x.submit = s.clock.tick - 1 && x.result = none && !x.profiled then
      { x with profiled := true, result := some 2, detail := 0 } else x) := ⟨rfl, rfl⟩

/-- The ledger cutoff and, on a unit that decides, the check of a step declared: the step's check changes no plan (R166, R357). -/
theorem cutoff_ledger : (cutoff s).ledger = (ledgerCutoff s).ledger ∧ ∀ o ∈ (ledgerCutoff s).out, o ∈ (cutoff s).out := by
  unfold cutoff
  split
  · exact ⟨rfl, fun _ mem => mem⟩
  · exact ⟨State.stepCheck_within .ledger rfl, fun _ mem => State.out_stepCheck mem⟩

end Sys2Proof.Machine

namespace Sys2Proof.Proofs

open Sys2Proof Sys2Proof.Machine

/-- Settles O17: profile and check by the plan they settle, the cutoffs by what they leave of the ledger. -/
theorem plansProfiledCheckedCutOff : Obligations.PlansProfiledCheckedCutOff := by
  intro s running
  refine ⟨fun id out p q found inTime fresh waiting before settled => ?profiled, fun id p clear before found turn => ?checked, ?profile, ?ledger⟩
  case profiled =>
    have profiled : s.begin.profilePlan p out = some q := by
      rcases settled with ⟨b, route, refused, rfl⟩ | profiled
      · exact profilePlan_refused (s := s.begin) route refused out
      · exact profiled
    exact ⟨_, (running_next _ running).trans (congrArg _ (planProfiled_settles (s := s.begin) found inTime fresh waiting before profiled)),
      planSettled_plans (s := s.begin) id p q, planSettled_refused (s := s.begin) id p⟩
  case checked =>
    exact ⟨_, (running_next _ running).trans (congrArg _ (planChecked_judges (s := s.begin) clear before found turn)),
      planJudged_ledger (s := s.begin) id p⟩
  case profile => exact ⟨_, running_next _ running, profileCutoff_ledger (s := s.begin)⟩
  case ledger =>
    obtain ⟨same, outs⟩ := cutoff_ledger (s := s.begin)
    obtain ⟨profiles, ledger, plans, asked⟩ := ledgerCutoff_spec s.begin
    refine ⟨_, running_next _ running, ?_, ?_, ?_, fun unannounced secured decides loud p mem inWindow passed k crossing => ?_⟩
    · rw [same]
      exact profiles
    · rw [same]
      exact ledger
    · rw [same]
      exact plans
    · exact outs _ (asked unannounced secured decides loud p mem inWindow passed k crossing)

end Sys2Proof.Proofs
